-- ==== Sys2Proof/Word.lean ====
section
/-! DEFINITION. The words of the block: a byte, a handle, an audio or RF quantity kept as a number,
and the sparse table every pool of objects is held in. -/

namespace Sys2Proof

/-- One byte of a packet, a reply, an event or a record. -/
abbrev Byte := BitVec 8

/-- A 32-bit object handle: class in [31:24], index in [23:8], generation in [7:0] (R13). -/
abbrev Handle := BitVec 32

/-- The null handle (R14). -/
abbrev nullHandle : Handle := 0#32

/-- A sparse table by number: pairs of key and entry, keys strictly rising. -/
abbrev Tab (α : Type) := List (Nat × α)

end Sys2Proof
end

