-- ==== Sys2Proof/Syntax.lean ====
section
/-! DEFINITION. The commands of the block: one constructor of `Instr` for each row of the opcode table, with the
operands its row and its chapter's parameter table give it. A host command carries the header facts the
interpreter checks; an event of the surroundings carries what the event reports. -/

namespace Sys2Proof

/-- An IPv4 or IPv6 address (R474): IPv4 in the low 32 bits. -/
structure IpAddr where
  v6 : Bool
  a  : Nat
  deriving DecidableEq, Repr

/-- Where a command packet came from (R446, R448): SPI, MB, or UDP on a port from an address and source port;
`self` marks a change the module scheduled of its own accord (R501). -/
inductive Via where
  | spi
  | mb
  | udp (port : Fin 2) (addr : IpAddr) (sport : Nat)
  | self
  deriving DecidableEq, Repr

/-- The header facts of a command packet (R443). `rsv` says that a reserved header flag bit or a reserved
parameter field of the packet is not zero (R16, check 8 of R447). -/
structure Hdr where
  via  : Via
  tag  : Nat
  sess : Nat
  rsv  : Bool
  deriving DecidableEq, Repr

/-- TB_CONFIG parameters (R69). -/
structure TbCfg where
  sources   : Nat
  ptpPort   : Nat
  ptpDomain : Nat
  flags     : Nat
  threshold : Nat
  slew      : Nat
  holdOff   : Nat
  comp      : Nat
  asym      : Int
  deriving DecidableEq, Repr

/-- SYS_EVENT_NOTIFY parameters (R463). -/
structure NotifyCfg where
  mask  : Nat
  dport : Nat
  eth   : Handle
  addr  : Nat
  flags : Nat
  deriving DecidableEq, Repr

/-- One port's ceilings of the LIMITS body (R574). -/
structure PortLimit where
  feed  : Nat
  probe : Int
  flags : Nat
  deriving DecidableEq, Repr

/-- The LIMITS body (R574). -/
structure Limits where
  allowance : Nat
  ports     : List PortLimit
  deriving DecidableEq, Repr

/-- A timebase input (R50). -/
inductive TbInput where
  | refIn | ppsIn | pickIn | ptp (port : Fin 2)
  deriving DecidableEq, Repr

/-- What a PTP message is to the slave-only clock (R50, R51). -/
inductive PtpMsg where
  | announce (best : Bool)
  | sync
  | exchange
  deriving DecidableEq, Repr

/-- What a lock leaves in a synthesiser: the opaque loop codes, the settling time (R92), the sample of the first valid
sample at FCONV and the local temperature in 0.01 °C (R93, R103). -/
structure LockFacts where
  band   : Nat
  amp    : Nat
  cp     : Nat
  lf     : Nat
  settle : Nat
  sample : Nat
  temp   : Int
  deriving DecidableEq, Repr

/-- A feed's current (0.1 mA) and output voltage (mV) at an event (R129). -/
structure FeedMeas where
  ma : Nat
  mv : Nat
  deriving DecidableEq, Repr

/-- A tuner preset (R131). -/
structure Preset where
  c1    : Nat
  c2    : Nat
  l     : Nat
  flags : Nat
  freq  : Nat
  loss  : Nat
  deriving DecidableEq, Repr

/-- PROBE_START parameters (R151); `points` is the field at +6. -/
structure ProbeReq where
  port      : Handle
  level     : Int
  points    : Nat
  flags     : Nat
  target    : Nat
  duration  : Nat
  threshold : Nat
  freqs     : List Nat
  deriving DecidableEq, Repr

/-- One measured return-loss point (R137, R152). -/
structure LossPoint where
  freq  : Nat
  loss  : Nat
  flags : Nat
  phase : Nat
  deriving DecidableEq, Repr

/-- WARP_AGC parameters (R163). -/
structure AgcCfg where
  mode   : Nat
  flags  : Nat
  gMin   : Nat
  gMax   : Nat
  high   : Int
  target : Int
  low    : Int
  attack : Nat
  window : Nat
  deriving DecidableEq, Repr

/-- WARP_TUNE parameters but for the warp and the target pick (R168). -/
structure TuneReq where
  freq      : Nat
  placement : Nat
  profile   : Nat
  origin    : Nat
  step      : Nat
  deriving DecidableEq, Repr

/-- CAL_POLICY parameters (R196). -/
structure CalCfg where
  dT       : Nat
  flags    : Nat
  hold     : Nat
  interval : Nat
  deriving DecidableEq, Repr

/-- What a warp measured in the pick that ends (R164, R174): peak, mean power, clip count, RF_OVER, the sensor reading. -/
structure WarpMeas where
  peak   : Int
  mean   : Int
  clips  : Nat
  rfOver : Bool
  temp   : Int
  deriving DecidableEq, Repr

/-- The trims of a warp (R177, R178). -/
structure Trims where
  iqGain  : Int
  iqPhase : Int
  dcI     : Int
  dcQ     : Int
  cornerI : Nat
  cornerQ : Nat
  bias    : Nat
  deriving DecidableEq, Repr

/-- What a warp's calibration receiver measured in the pick that ends (R182-R190), levels at the converters in 0.1 dBFS, apart from what the source
injects. Of every pick: the energies of the two selvedges. Before injection, over the first 100 µs: the measurement side over its 5 MHz, 2 kHz at the
image frequency and 2 kHz at the tone frequency (`side`, `bin`, `at_`), or on an HF warp 34.0 MHz to 46.0 MHz (`guard`); over the measurement window the
same (`sideW`, `binW`, `atW`, `guardW`). The terminated lane over the span at the start and at the end of the window (`term`, `termW`), its mean in
converter codes (`dcI`, `dcQ`). The mirror region's mean power in the previous frame (`mirror`). The complex image coefficient, as what it asks of
gain and phase (`gain`, `phase`) and as the image rejection in 0.1 dB (`image`); the tone level against the source in 0.01 dB (`tone`). -/
structure CalMeas where
  selvLow  : Int
  selvHigh : Int
  side     : Int
  bin      : Int
  at_      : Int
  guard    : Int
  sideW    : Int
  binW     : Int
  atW      : Int
  guardW   : Int
  term     : Int
  termW    : Int
  dcI      : Int
  dcQ      : Int
  mirror   : Int
  gain     : Int
  phase    : Int
  image    : Nat
  tone     : Int
  deriving DecidableEq, Repr

/-- DENT_CREATE parameters but for the target pick (R225). -/
structure DentReq where
  warp  : Handle
  rate  : Nat
  d     : Nat
  bankA : Nat
  bankB : Nat
  freq  : Nat
  bw    : Nat
  tau   : Nat
  deriving DecidableEq, Repr

/-- DENT_SET parameters but for the dent and the target pick (R226). -/
structure DentChg where
  flags  : Nat
  freq   : Nat
  warp   : Handle
  bw     : Nat
  tau    : Nat
  sample : Nat
  deriving DecidableEq, Repr

/-- DENT_BANK_LOAD parameters but for the dent (R227). -/
structure BankReq where
  bank  : Nat
  kind  : Nat
  n     : Nat
  flags : Nat
  delay : Nat
  taps  : List Int
  deriving DecidableEq, Repr

/-- WEAVE_CREATE parameters but for the target pick (R250); `n` and `m` are the fields at +1 and +6. -/
structure WeaveReq where
  type  : Nat
  n     : Nat
  prio  : Nat
  group : Nat
  flags : Nat
  opt   : Nat
  m     : Nat
  dents : List Handle
  block : List Byte
  deriving DecidableEq, Repr

/-- An accelerator job (R232): class 0 Viterbi, 1 Reed-Solomon, 2 FFT, 3 time deinterleaver, and its size: decoded bits,
codeword length, points or bytes. -/
structure JobReq where
  cls  : Nat
  size : Nat
  deriving DecidableEq, Repr

/-- A task of a stage (R231, R241): its cycles and the KiB of its working set. -/
structure TaskReq where
  cycles : Nat
  set_   : Nat
  deriving DecidableEq, Repr

/-- A reading of a PLL from an instant of the capture pick on (R269, R283), in 1/6144 ms: the phase error in 0.1°, the pilot injection in 0.01 kHz or the amplitude of the carrier,
and the carrier's offset from the dent's frequency in 0.01 Hz. -/
structure PllRead where
  at_   : Nat
  phase : Int
  level : Nat
  freq  : Int
  deriving DecidableEq, Repr

/-- What an FM weave has measured over a second so far (R272, R382); `carrier` in 0.01 Hz, `multi` the multipath figure in 0.1 %. -/
structure FmMeas where
  multi    : Nat
  mpx      : Int
  pilot    : Nat
  pilotFreq : Int
  rds      : Nat
  rdsPhase : Nat
  carrier  : Int
  deriving DecidableEq, Repr

/-- What an AM weave has measured over a second so far (R286, R382). -/
structure AmMeas where
  snr     : Int
  carrier : Int
  posPeak : Nat
  negPeak : Nat
  cut     : Nat
  deriving DecidableEq, Repr

/-- What a DAB weave has measured over a second so far (R316, R382): the sums of |s|² and of |r − s|² over the MSC cells, the frequency offset in 0.01 Hz, and by
subchannel the errors among the bits that the re-encoding compared. -/
structure DabMeas where
  msc  : Nat × Nat
  freq : Int
  bers : List (Nat × Nat × Nat)
  deriving DecidableEq, Repr

/-- What a DRM weave has measured over a second so far (R316, R382): the sums of |s|² and of |r − s|² over the MSC cells and over the FAC cells. -/
structure DrmMeas where
  freq    : Int
  msc     : Nat × Nat
  fac     : Nat × Nat
  delay   : Nat
  doppler : Nat
  deriving DecidableEq, Repr

/-- An audio unit that a digital weave has taken from a subchannel or stream (R297, R305, R307): how many picks before the capture pick, and at what ns, the first CIF or
frame begins that carries a bit of it, how many samples at 48 kHz it makes, whether each decoding unit of it passed, two channels or PS, SBR, codec and source rate by their codes, and
whether audio unit sync was held; `same` says of each decoding unit whether its payload bytes are those of its predecessor (R387). -/
structure AudioUnit where
  sub   : Nat
  back  : Nat
  ns    : Nat
  len   : Nat
  good  : List Bool
  same  : List Bool
  two   : Bool
  sbr   : Bool
  codec : Nat
  rate  : Nat
  sync  : Bool
  deriving DecidableEq, Repr

/-- The values of one FM measurement second (R272, R276, R288); `flags` are FILTERED, OVERLOAD, PROBE_DISTURBED at bits 1 to 3;
`mpx` is the MPX power over the last 60 s, `mpxFull` that its window holds 60 s of samples. -/
structure FmSecond where
  peak     : Nat
  exceed   : Nat
  mpx      : Int
  mpxFull  : Bool
  pilot    : Nat
  pilotFreq : Int
  rds      : Nat
  rdsPhase : Nat
  carrier  : Int
  free     : Nat
  corrected : Nat
  uncorr   : Nat
  flags    : Nat
  share    : List Nat
  deriving DecidableEq, Repr

/-- The values of one AM measurement second (R286, R288). -/
structure AmSecond where
  carrier : Int
  posPeak : Nat
  negPeak : Nat
  cut     : Nat
  flags   : Nat
  share   : List Nat
  deriving DecidableEq, Repr

/-- The values of one DAB measurement second (R316). -/
structure DabSecond where
  mer    : Int
  freq   : Int
  fibs   : Nat
  fibsFailed : Nat
  rsCorr : Nat
  rsFail : Nat
  units  : Nat
  flags  : Nat
  deriving DecidableEq, Repr

/-- The values of one DRM measurement second (R316). -/
structure DrmSecond where
  freq    : Int
  merMsc  : Int
  merFac  : Int
  delay   : Nat
  doppler : Nat
  fac     : Nat
  units   : Nat
  flags   : Nat
  deriving DecidableEq, Repr

/-- A subchannel of the MCI (R303, R318): organisation, and its figures of the last second. -/
structure Subch where
  id     : Nat
  prot   : Nat
  start  : Nat
  size   : Nat
  rate   : Nat
  kind   : Nat
  ber    : Nat
  rsCorr : Nat
  rsFail : Nat
  units  : Nat
  deriving DecidableEq, Repr

/-- One transmitter detected in a TII null (R308, R309). -/
structure TiiHit where
  main    : Nat
  sub     : Nat
  level   : Int
  arrival : Int
  deriving DecidableEq, Repr

/-- A component of a service as the MCI or SDC describes it (R323, R342); `flags` bit 0 primary, bit 2 conditional access. -/
structure CompInfo where
  kind  : Nat
  codec : Nat
  lang  : Nat
  subch : Nat
  scids : Nat
  flags : Nat
  rate  : Nat
  app   : Nat
  deriving DecidableEq, Repr

/-- A service as the MCI or SDC describes it; `flags` bit 3 data service, bit 4 conditional access (R342). -/
structure SvcInfo where
  ident : Nat
  pty   : Nat
  flags : Nat
  comps : List CompInfo
  deriving DecidableEq, Repr

/-- A label or text as published (R330-R332): kind, character set, short-label mask, UTF-8 text, tags (type, start, length). -/
structure LabelRec where
  kind : Nat
  cset : Nat
  mask : Nat
  text : List Byte
  tags : List (Nat × Nat × Nat)
  deriving DecidableEq, Repr

/-- A linkage entry (R329); the age is formed from `at`. -/
structure Link where
  kind  : Nat
  tech  : Nat
  flags : Nat
  ident : Nat
  freq  : Nat
  lsn   : Nat
  heard : Nat
  deriving DecidableEq, Repr

/-- A survey entry (R333). -/
structure SurveyEntry where
  warp   : Handle
  kind   : Nat
  thr    : Nat
  low    : Nat
  high   : Nat
  step   : Nat
  dwell  : Nat
  deriving DecidableEq, Repr

/-- TIME_POLICY parameters (R339). -/
structure TimeCfg where
  mode    : Nat
  sources : Nat
  agree   : Nat
  tai     : Nat
  tol     : Nat
  hold    : Nat
  window  : Nat
  deriving DecidableEq, Repr

/-- A source entry of a follow set as commanded (R371). -/
structure SrcReq where
  comp  : Handle
  warp  : Handle
  ident : Nat
  mask  : Nat
  rank  : Nat
  flags : Nat
  deriving DecidableEq, Repr

/-- FOLLOW_POLICY parameters but for the set (R374). -/
structure FollowCfg where
  mode      : Nat
  flags     : Nat
  fade      : Nat
  thr       : Nat
  k         : Nat
  revert    : Nat
  visit     : Nat
  hop       : Handle
  curPrio   : Nat
  runPrio   : Nat
  lossHold  : Nat
  deriving DecidableEq, Repr

/-- What the correlator finds for a candidate at the end of a pick (R352): the set, the entry, the lag of the peak in samples, ρ in 0.001, and the RMS level of the current source's
window in 0.1 dBFS. -/
structure Estimate where
  set   : Nat
  entry : Nat
  lag   : Int
  rho   : Nat
  rms   : Int
  deriving DecidableEq, Repr

/-- What a completed stage measured, received or decoded of its capture pick. Positions are samples at 48 kHz, or ns, of the capture pick.
FM and AM: for each 250 µs the amplitude and noise power of each branch; the readings of the pilot or carrier PLL; the ratio R of R267 in 0.1 dB; the upper-band SNR; a block read at a
bit count since the flush, with the offset word it fits and the burst that has to be corrected (none: no correction fits); the adjacent carriers of R286; what a group says; the
largest |MPX| of the pick, where a sample entered it; the figures of a second. DAB: a null where one is expected or found (the mode its length belongs to, the carrier's offset in Hz, block energy in the
null and mean symbol energy before it in 0.1 dB, the strongest comb over the unused carriers); the fine frequency; a FIB; the MCI as received so far; an announced
configuration with how many picks after this one, and where, its first CIF begins; codewords; an audio unit; the second. DRM: a symbol whose guard interval confirms a mode;
time reference cells at a frame start, the first of a super frame or not; a FAC with the span of its symbols; the SDC; the second. Of both: labels, segments of a text, tags,
slideshow objects, data and linkage, by subchannel or stream. -/
inductive StageFact where
  | branches (l : List (List (Nat × Nat)))
  | tone (l : List PllRead)
  | adjacent (ratio : Int)
  | upperSnr (snr : Nat)
  | rdsBlock (bits sample off : Nat) (burst : Option Nat) (word : Nat)
  | amAdjacent (sample : Nat) (below above : Int)
  | info (pty : Nat) (tp ta ms : Bool) (di ecc pin : Nat)
  | ps (addr c1 c2 : Nat)
  | rt (ab : Bool) (addr : Nat) (chars : List Nat)
  | rtPlus (tags : List (Nat × Nat × Nat))
  | afCount (n freq : Nat)
  | afPair (f1 f2 : Nat)
  | afEon (l : Link)
  | clock (utc resolution : Nat) (offset : Option Int) (sample : Nat)
  | fmLevel (peak : Option Nat)
  | fmSecond (v : FmMeas)
  | amSecond (v : AmMeas)
  | dabNull (mode ns : Nat) (found : Bool) (offset energy mean comb : Int) (hits : List TiiHit)
  | fineFreq (offset : Int)
  | fib (ok : Bool) (cif index sample eid ecc : Nat) (data : List Byte)
  | mci (sample : Nat) (subch : List Subch) (svcs : List SvcInfo)
  | reconfig (picks ns : Nat) (subch : List Subch) (svcs : List SvcInfo)
  | codewords (sub corrected failed : Nat)
  | unit (u : AudioUnit)
  | dabSecond (v : DabMeas)
  | drmSymbol (mode sample : Nat) (ok : Bool) (offset : Int)
  | drmFrame (ns : Nat) (super : Bool)
  | drmFac (ok : Bool) (occ inter constel sample span : Nat)
  | drmSdc (sample : Nat) (svcs : List SvcInfo)
  | drmSecond (v : DrmMeas)
  | label (ident : Nat) (comp : Option Nat) (kind cset mask : Nat) (raw : List Byte) (sample : Nat)
  | segment (sub kind toggle number last cset : Nat) (raw : List Byte) (sample : Nat)
  | tags (sub : Nat) (l : List (Nat × Nat × Nat)) (sample : Nat)
  | mot (sub id content size : Nat) (header body : List Byte) (sample : Nat)
  | data (sub type : Nat) (bytes : List Byte) (sample : Nat)
  | link (ident : Nat) (l : Link)
  deriving DecidableEq, Repr

/-- The outcome of a stage (R235): what it decoded or decided, in order. -/
structure StageResult where
  facts : List StageFact
  deriving DecidableEq, Repr

/-- A stage that its deadline stops (R243), and the cycles its running tasks had spent by then, by shuttle (R252). -/
structure StageCut where
  stage : Nat
  spent : List (Nat × Nat)
  deriving DecidableEq, Repr

/-- What the lines of a slave frame bring (R397, R406): the output ports whose samples have not been handed over, and the levels each input port
sampled. -/
structure FrameLines where
  missing : List Nat
  bits    : List (Nat × List Bool)
  deriving DecidableEq, Repr

/-- MEAS_THRESHOLD parameters but for the object (R392); `none` disables a side. -/
structure ThrReq where
  code  : Nat
  basis : Nat
  hold  : Nat
  low   : Option Int
  high  : Option Int
  hyst  : Nat
  deriving DecidableEq, Repr

/-- AUDIO_MON_SET parameters but for the component (R392). -/
structure MonCfg where
  flags  : Nat
  units  : Nat
  silThr : Int
  silHold : Nat
  frzHold : Nat
  deriving DecidableEq, Repr

/-- VERIFY_SET parameters but for the target pick (R392). -/
structure VerifyReq where
  index : Nat
  kind  : Nat
  flags : Nat
  group : Nat
  prog  : Handle
  ref   : Handle
  slotL : Nat
  slotR : Nat
  min   : Int
  max   : Int
  match_ : Nat
  mismatch : Nat
  k     : Nat
  m     : Nat
  deriving DecidableEq, Repr

/-- What a dent's channel carried over a measurement second (R380, R381): the mean power of its output over the measurement band, corrected for the response of the
active bank, and the noise in the band, both in squared steps of the output word. -/
structure FieldMeas where
  dent  : Nat
  power : Nat
  noise : Nat
  deriving DecidableEq, Repr

/-- The audio of a component up to an output boundary that is a multiple of 100 (R385-R387): the K-weighted loudness of the last 400 ms and of the last 3 s in 0.01 LK, the largest
true-peak value of the last 100 ms in 0.01 dBTP, and of those 100 ms the mean of the squared samples over the channels and, for each channel, the first, the least and the largest
sample. -/
structure BlockMeas where
  comp   : Nat
  mom    : Int
  short  : Int
  peak   : Int
  square : Nat
  spans  : List (Int × Int × Int)
  deriving DecidableEq, Repr

/-- What the correlator of a verification found at the end of an output pick (R390): the value at the peak in 0.001, its lag, and the mean square of the reference window. -/
structure CheckMeas where
  index  : Nat
  rho    : Nat
  lag    : Int
  square : Nat
  deriving DecidableEq, Repr

/-- TDM_PORT_CONFIG parameters but for the port and the target pick (R414). -/
structure TdmCfg where
  dir   : Nat
  role  : Nat
  rate  : Nat
  n     : Nat
  w     : Nat
  word  : Nat
  o     : Nat
  flags : Nat
  clk   : Nat
  mask  : Nat
  deriving DecidableEq, Repr

/-- TDM_STREAM_CREATE parameters but for the target pick (R415). -/
structure TdmStreamReq where
  port  : Handle
  src   : Handle
  slotA : Nat
  slotB : Nat
  chan  : Nat
  shift : Nat
  deriving DecidableEq, Repr


/-- ETH_PORT_CONFIG parameters but for the port and the target pick (R439); addresses are numbers of their bytes in
network order. -/
structure EthCfg where
  flags  : Nat
  pcp    : Nat
  vlan   : Nat
  mtu    : Nat
  pfx4   : Nat
  pfx6   : Nat
  addr4  : Nat
  gate4  : Nat
  addr6  : Nat
  gate6  : Nat
  dMedia : Nat
  dPtp   : Nat
  dLsc   : Nat
  cport  : Nat
  deriving DecidableEq, Repr

/-- ETH_STREAM_CREATE parameters but for the target pick (R440); `dest` is the 16-byte destination as a number, first byte
most significant. -/
structure EthReq where
  kind    : Nat
  ports   : Nat
  flags   : Nat
  chan    : Nat
  shift   : Nat
  ptype   : Nat
  n       : Nat
  dest    : Nat
  dport   : Nat
  sport   : Nat
  ssrc    : Nat
  seqOff  : Nat
  tsOff   : Nat
  budget  : Nat
  sources : List Handle
  deriving DecidableEq, Repr

/-- A received frame that is not a command packet (R420): PTP, a resolution that completes for an address, an echo request,
or any other frame. -/
inductive EthFrame where
  | ptp
  | resolved (addr : IpAddr)
  | echo
  | other
  deriving DecidableEq, Repr

/-- A peripheral of PB_PERIPH_CREATE (R526). -/
structure Periph where
  addr    : Nat
  flags   : Nat
  stretch : Nat
  deriving DecidableEq, Repr

/-- PB_TRANSFER parameters (R527). -/
structure PbReq where
  periph : Handle
  w      : Nat
  r      : Nat
  flags  : Nat
  data   : List Byte
  deriving DecidableEq, Repr

/-- How a transaction on PB ended (R518): how many of the bytes the module drove the target acknowledged before the first NACK, the bytes read and the check byte after them, and
the time from acceptance in µs. -/
structure PbDone where
  acks  : Nat
  data  : List Byte
  check : Byte
  us    : Nat
  deriving DecidableEq, Repr

/-- A date as DATE_TO_TICKS gives it (R544). -/
structure Date where
  year   : Nat
  month  : Nat
  day    : Nat
  hour   : Nat
  minute : Nat
  second : Nat
  sub    : Nat
  deriving DecidableEq, Repr

/-- PAIR_CONFIG parameters but for the target pick: the body of the PAIR record (R602). -/
structure PairCfg where
  id       : Nat
  partner  : Nat
  position : Nat
  flags    : Nat
  map      : List Nat
  deriving DecidableEq, Repr

/-- An announcement of the pair link (R604). -/
structure Ann where
  kind   : Nat
  obj    : Handle
  effect : Nat
  body   : List Byte
  deriving DecidableEq, Repr

/-- A pair link frame (R603) with what the receiver measures of it: the skew of its boundaries in ns and the link delay in
ns. `valid` lists the weave indices whose bit of the valid map is 1; `pairId` to `label` are what the partners compare (R602, R609) and
`config` the owner's CONFIG items of R611 (kind, index, value), for which the spec states no place in the frame. (log 113: DESIGN CHOICE) -/
structure PlFrame where
  state  : Nat
  pick   : Nat
  serial : Nat
  device : Nat
  pairId : Nat
  position : Nat
  map    : List Nat
  names  : Nat
  label  : Nat
  mode   : Nat
  flags  : Nat
  valid  : List Nat
  anns   : List Ann
  config : List (Nat × Nat × List Byte)
  skew   : Int
  delay  : Nat
  deriving DecidableEq, Repr

/-- What the timebase compares at a boundary while a source is selected (R50, R53): the phase error in ns and the whole seconds,
the frequency offset held, in 10⁻¹², and the control word in force, as an offset from the factory word in 10⁻¹². The phase error is as
measured, before the compensations of R65. -/
structure TbMeas where
  e    : Int
  es   : Int
  freq : Int
  word : Int
  deriving DecidableEq, Repr

/-- What a stream engine reports of one output stream for the pick that ends: the samples of its grid that were not handed over in time, and datagrams
late. -/
structure StreamMeas where
  stream : Nat
  miss   : List Nat
  late   : Nat
  deriving DecidableEq, Repr

/-- What the surroundings and the converters present at a pick boundary: everything the boundary's evaluations take as measured
in the pick that ends; `conv` are the converter samples of each warp, I and Q (Q is not looked at on an HF warp), a sample that is not listed being 0,
`spent` the cycles that the tasks still running on shuttles have spent in the pick, and `tdm` the levels that a master input port sampled on its data pin in each frame
of the pick, of its B + o first periods. -/
structure PickInputs where
  ack     : Bool
  gnt     : Bool
  vmain   : Nat
  temp    : Int
  probeT  : Int
  rails   : Nat
  tb      : Option TbMeas
  warps   : List WarpMeas
  cal     : List (Nat × CalMeas)
  feeds   : List FeedMeas
  conv    : List (List (Int × Int))
  fields  : List FieldMeas
  blocks  : List BlockMeas
  checks  : List CheckMeas
  ests    : List Estimate
  streams : List StreamMeas
  spent   : List (Nat × Nat)
  rates   : List (Nat × Int)
  tdm     : List (Nat × List (List Bool))
  deriving DecidableEq, Repr

/-- The commands of the block, one for each row of the opcode table. `h` is the header of a host command. -/
inductive Instr where
  /-- SYS_IDENT (R2) -/
  | sysIdent (h : Hdr)
  /-- SYS_STATUS (R478) -/
  | sysStatus (h : Hdr)
  /-- SYS_MODE_SET (R479) -/
  | sysModeSet (h : Hdr) (mode target : Nat)
  /-- SYS_DOMAIN_SET (R480) -/
  | sysDomainSet (h : Hdr) (on off target : Nat)
  /-- SYS_RESET (R481) -/
  | sysReset (h : Hdr) (kind confirm : Nat)
  /-- SYS_EVENT_READ (R462) -/
  | sysEventRead (h : Hdr) (ack max : Nat)
  /-- SYS_EVENT_NOTIFY (R463) -/
  | sysEventNotify (h : Hdr) (c : NotifyCfg)
  /-- SYS_PROTO_STATUS (R464) -/
  | sysProtoStatus (h : Hdr)
  /-- SYS_EVENT_COUNT (R482) -/
  | sysEventCount (h : Hdr)
  /-- PB_CONFIG (R525) -/
  | pbConfig (h : Hdr) (flags stretch : Nat)
  /-- PB_PERIPH_CREATE (R526) -/
  | pbPeriphCreate (h : Hdr) (p : Periph)
  /-- PB_PERIPH_RELEASE (R526) -/
  | pbPeriphRelease (h : Hdr) (periph : Handle)
  /-- PB_TRANSFER (R518) -/
  | pbTransfer (h : Hdr) (r : PbReq)
  /-- PB_STATUS (R528) -/
  | pbStatus (h : Hdr)
  /-- SESSION_OPEN (R552) -/
  | sessionOpen (h : Hdr) (role : Nat)
  /-- SESSION_PROVE (R553) -/
  | sessionProve (h : Hdr) (sess : Handle) (proof : List Byte)
  /-- SESSION_CLOSE (R555) -/
  | sessionClose (h : Hdr)
  /-- SESSION_STATUS (R556) -/
  | sessionStatus (h : Hdr)
  /-- ROLEKEY_SET (R551) -/
  | rolekeySet (h : Hdr) (role : Nat) (key : List Byte)
  /-- AUDIT_READ (R560) -/
  | auditRead (h : Hdr) (start max : Nat)
  /-- AUDIT_CLEAR (R560) -/
  | auditClear (h : Hdr) (confirm : Nat)
  /-- TB_CONFIG (R69) -/
  | tbConfig (h : Hdr) (c : TbCfg)
  /-- TB_STATUS (R70) -/
  | tbStatus (h : Hdr)
  /-- TB_PHASE_STEP (R66) -/
  | tbPhaseStep (h : Hdr) (obj : Handle) (target : Nat) (steps : Int)
  /-- TB_SET_SECONDS (R48) -/
  | tbSetSeconds (h : Hdr) (target secs : Nat)
  /-- CLK_CONFIG (R79) -/
  | clkConfig (h : Hdr) (mode amount target : Nat)
  /-- CLK_STATUS (R100) -/
  | clkStatus (h : Hdr)
  /-- PORT_CONFIG (R125) -/
  | portConfig (h : Hdr) (port : Handle) (loop flags target : Nat)
  /-- PORT_STATUS (R128) -/
  | portStatus (h : Hdr) (port : Handle)
  /-- FEED_SET (R126) -/
  | feedSet (h : Hdr) (port : Handle) (flags limit target : Nat)
  /-- FEED_RESET (R127) -/
  | feedReset (h : Hdr) (port : Handle)
  /-- HEDDLE_ROUTE (R110) -/
  | heddleRoute (h : Hdr) (warp port : Handle) (target : Nat)
  /-- WARP_TUNE (R168) -/
  | warpTune (h : Hdr) (warp : Handle) (r : TuneReq) (target : Nat)
  /-- WARP_GAIN (R159) -/
  | warpGain (h : Hdr) (warp : Handle) (gain target : Nat)
  /-- WARP_AGC (R163) -/
  | warpAgc (h : Hdr) (warp : Handle) (c : AgcCfg)
  /-- WARP_STATUS (R175) -/
  | warpStatus (h : Hdr) (warp : Handle)
  /-- SYN_STATUS (R101) -/
  | synStatus (h : Hdr) (index : Nat)
  /-- SYN_DITHER_SET (R89) -/
  | synDitherSet (h : Hdr) (index flags seed : Nat)
  /-- SYN_PROFILE_STORE (R97) -/
  | synProfileStore (h : Hdr) (index num : Nat)
  /-- SYN_PROFILE_READ (R97) -/
  | synProfileRead (h : Hdr) (index num : Nat)
  /-- SYN_PROFILE_CLEAR (R97) -/
  | synProfileClear (h : Hdr) (index num : Nat)
  /-- DENT_CREATE (R225) -/
  | dentCreate (h : Hdr) (r : DentReq) (target : Nat)
  /-- DENT_SET (R226) -/
  | dentSet (h : Hdr) (dent : Handle) (c : DentChg) (target : Nat)
  /-- DENT_BANK_LOAD (R213) -/
  | dentBankLoad (h : Hdr) (dent : Handle) (b : BankReq)
  /-- DENT_BANK_SWAP (R214) -/
  | dentBankSwap (h : Hdr) (dent : Handle) (sample target : Nat)
  /-- DENT_FLUSH (R218) -/
  | dentFlush (h : Hdr) (dent : Handle) (sample target : Nat)
  /-- DENT_RELEASE (R224) -/
  | dentRelease (h : Hdr) (dent : Handle) (sample target : Nat)
  /-- DENT_STATUS (R228) -/
  | dentStatus (h : Hdr) (dent : Handle)
  /-- REED_STATUS (R228) -/
  | reedStatus (h : Hdr)
  /-- DENT_BANK_READ (R224) -/
  | dentBankRead (h : Hdr) (dent : Handle) (bank : Nat)
  /-- WEAVE_CREATE (R250) -/
  | weaveCreate (h : Hdr) (r : WeaveReq) (target : Nat)
  /-- WEAVE_START (R251) -/
  | weaveStart (h : Hdr) (weave : Handle) (target : Nat)
  /-- WEAVE_STOP (R251) -/
  | weaveStop (h : Hdr) (weave : Handle) (target : Nat)
  /-- WEAVE_RELEASE (R251) -/
  | weaveRelease (h : Hdr) (weave : Handle) (target : Nat)
  /-- WEAVE_SET (R251) -/
  | weaveSet (h : Hdr) (weave : Handle) (prio m target : Nat) (block : List Byte)
  /-- WEAVE_STATUS (R252) -/
  | weaveStatus (h : Hdr) (weave : Handle)
  /-- SCHED_STATUS (R253) -/
  | schedStatus (h : Hdr)
  /-- FM_STATUS (R288) -/
  | fmStatus (h : Hdr) (weave : Handle)
  /-- AM_STATUS (R288) -/
  | amStatus (h : Hdr) (weave : Handle)
  /-- FM_AF_READ (R288) -/
  | fmAfRead (h : Hdr) (weave : Handle) (index : Nat)
  /-- DAB_STATUS (R320) -/
  | dabStatus (h : Hdr) (weave : Handle)
  /-- DAB_SUBCH_READ (R318) -/
  | dabSubchRead (h : Hdr) (weave : Handle) (id : Nat)
  /-- DAB_TII_READ (R321) -/
  | dabTiiRead (h : Hdr) (weave : Handle)
  /-- DRM_STATUS (R320) -/
  | drmStatus (h : Hdr) (weave : Handle)
  /-- DIG_DECODE_SET (R319) -/
  | digDecodeSet (h : Hdr) (weave : Handle) (n target : Nat) (comps : List Handle)
  /-- SURVEY_START (R333) -/
  | surveyStart (h : Hdr) (n flags target : Nat) (entries : List SurveyEntry)
  /-- SURVEY_STOP (R336) -/
  | surveyStop (h : Hdr)
  /-- SURVEY_STATUS (R336) -/
  | surveyStatus (h : Hdr)
  /-- SERVICE_LIST (R342) -/
  | serviceList (h : Hdr) (start : Nat)
  /-- SERVICE_READ (R342) -/
  | serviceRead (h : Hdr) (svc : Handle)
  /-- COMPONENT_READ (R342) -/
  | componentRead (h : Hdr) (comp : Handle)
  /-- LABEL_READ (R342) -/
  | labelRead (h : Hdr) (obj : Handle) (kind : Nat)
  /-- LINK_READ (R342) -/
  | linkRead (h : Hdr) (svc : Handle) (start : Nat)
  /-- SERVICE_RELEASE (R324) -/
  | serviceRelease (h : Hdr) (svc : Handle) (target : Nat)
  /-- TIME_POLICY (R339) -/
  | timePolicy (h : Hdr) (c : TimeCfg)
  /-- TIME_STATUS (R341) -/
  | timeStatus (h : Hdr)
  /-- FOLLOW_CREATE (R371) -/
  | followCreate (h : Hdr) (n group flags hold target : Nat) (entries : List SrcReq)
  /-- FOLLOW_SET (R372) -/
  | followSet (h : Hdr) (set : Handle) (n target : Nat) (entries : List SrcReq)
  /-- FOLLOW_COMMIT (R373) -/
  | followCommit (h : Hdr) (set : Handle) (entry sample target fade : Nat)
  /-- FOLLOW_RELEASE (R370) -/
  | followRelease (h : Hdr) (set : Handle) (target : Nat)
  /-- FOLLOW_STATUS (R375) -/
  | followStatus (h : Hdr) (set : Handle)
  /-- FOLLOW_POLICY (R374) -/
  | followPolicy (h : Hdr) (set : Handle) (c : FollowCfg)
  /-- MEAS_READ (R392) -/
  | measRead (h : Hdr) (obj : Handle)
  /-- MEAS_WINDOW (R383) -/
  | measWindow (h : Hdr) (obj : Handle) (w : Nat)
  /-- MEAS_THRESHOLD (R384) -/
  | measThreshold (h : Hdr) (obj : Handle) (t : ThrReq)
  /-- LOUDNESS_READ (R392) -/
  | loudnessRead (h : Hdr) (comp : Handle)
  /-- LOUDNESS_RESET (R386) -/
  | loudnessReset (h : Hdr) (comp : Handle) (target : Nat)
  /-- AUDIO_MON_SET (R387) -/
  | audioMonSet (h : Hdr) (comp : Handle) (c : MonCfg)
  /-- VERIFY_SET (R388) -/
  | verifySet (h : Hdr) (r : VerifyReq) (target : Nat)
  /-- VERIFY_CLEAR (R392) -/
  | verifyClear (h : Hdr) (index target : Nat)
  /-- VERIFY_STATUS (R392) -/
  | verifyStatus (h : Hdr) (index : Nat)
  /-- TDM_PORT_CONFIG (R414) -/
  | tdmPortConfig (h : Hdr) (port : Handle) (c : TdmCfg) (target : Nat)
  /-- TDM_PORT_STATUS (R416) -/
  | tdmPortStatus (h : Hdr) (port : Handle)
  /-- TDM_STREAM_CREATE (R415) -/
  | tdmStreamCreate (h : Hdr) (r : TdmStreamReq) (target : Nat)
  /-- TDM_STREAM_RELEASE (R413) -/
  | tdmStreamRelease (h : Hdr) (stream : Handle) (target : Nat)
  /-- ALIGN_CREATE (R413) -/
  | alignCreate (h : Hdr) (target : Nat)
  /-- ALIGN_ADD (R411) -/
  | alignAdd (h : Hdr) (group stream : Handle) (target : Nat)
  /-- ALIGN_REMOVE (R413) -/
  | alignRemove (h : Hdr) (group stream : Handle) (target : Nat)
  /-- ALIGN_RELEASE (R413) -/
  | alignRelease (h : Hdr) (group : Handle) (target : Nat)
  /-- ALIGN_STATUS (R417) -/
  | alignStatus (h : Hdr) (group : Handle)
  /-- ETH_PORT_CONFIG (R439) -/
  | ethPortConfig (h : Hdr) (port : Handle) (c : EthCfg) (target : Nat)
  /-- ETH_PORT_STATUS (R441) -/
  | ethPortStatus (h : Hdr) (port : Handle)
  /-- ETH_STREAM_CREATE (R440) -/
  | ethStreamCreate (h : Hdr) (r : EthReq) (target : Nat)
  /-- ETH_STREAM_RELEASE (R438) -/
  | ethStreamRelease (h : Hdr) (stream : Handle) (target : Nat)
  /-- ETH_STREAM_STATUS (R441) -/
  | ethStreamStatus (h : Hdr) (stream : Handle)
  /-- RTC_READ (R532) -/
  | rtcRead (h : Hdr)
  /-- RTC_SET (R538) -/
  | rtcSet (h : Hdr) (kind value target : Nat)
  /-- RTC_TRIM (R533) -/
  | rtcTrim (h : Hdr) (trim : Int)
  /-- RTC_ALARM_SET (R541) -/
  | rtcAlarmSet (h : Hdr) (alarm flags value : Nat)
  /-- RTC_STATUS (R547) -/
  | rtcStatus (h : Hdr)
  /-- RTC_WEEKDAY_SET (R540) -/
  | rtcWeekdaySet (h : Hdr) (weekday offset : Nat)
  /-- RTC_CONFIG (R546) -/
  | rtcConfig (h : Hdr) (vsw low : Nat)
  /-- DATE_TO_TICKS (R544) -/
  | dateToTicks (h : Hdr) (d : Date)
  /-- TICKS_TO_DATE (R545) -/
  | ticksToDate (h : Hdr) (count : Nat)
  /-- RECORD_STATUS (R575) -/
  | recordStatus (h : Hdr) (rec : Handle)
  /-- RECORD_READ (R575) -/
  | recordRead (h : Hdr) (rec : Handle) (copy len offset : Nat)
  /-- RECORD_RESOLVE (R570) -/
  | recordResolve (h : Hdr) (rec : Handle) (keep : Nat)
  /-- LIMITS_WRITE (R574) -/
  | limitsWrite (h : Hdr) (l : Limits)
  /-- TRIM_WRITE (R575) -/
  | trimWrite (h : Hdr) (offset total flags : Nat) (data : List Byte)
  /-- FW_STATUS (R582) -/
  | fwStatus (h : Hdr)
  /-- FW_LOAD_BEGIN (R579) -/
  | fwLoadBegin (h : Hdr) (target len : Nat)
  /-- FW_LOAD_DATA (R579) -/
  | fwLoadData (h : Hdr) (offset : Nat) (data : List Byte)
  /-- FW_LOAD_END (R579) -/
  | fwLoadEnd (h : Hdr)
  /-- FW_BOOT (R579) -/
  | fwBoot (h : Hdr) (source flags confirm : Nat)
  /-- FW_KEY_WRITE (R580) -/
  | fwKeyWrite (h : Hdr) (slot flags : Nat) (key : List Byte)
  /-- LIFECYCLE_LOCK (R581) -/
  | lifecycleLock (h : Hdr) (confirm : Nat)
  /-- PAIR_CONFIG (R602) -/
  | pairConfig (h : Hdr) (c : PairCfg) (target : Nat)
  /-- PAIR_STATUS (R619) -/
  | pairStatus (h : Hdr)
  /-- PAIR_HANDOVER (R615) -/
  | pairHandover (h : Hdr) (flags target : Nat)
  /-- DEVICE_ID_SET (R617) -/
  | deviceIdSet (h : Hdr) (id : Nat)
  /-- FARM_STATUS (R620) -/
  | farmStatus (h : Hdr)
  /-- CAL_POLICY (R196) -/
  | calPolicy (h : Hdr) (c : CalCfg)
  /-- CAL_REQUEST (R197) -/
  | calRequest (h : Hdr) (warp : Handle) (flags : Nat)
  /-- CAL_STATUS (R198) -/
  | calStatus (h : Hdr) (warp : Handle)
  /-- CAL_RESULT_READ (R199) -/
  | calResultRead (h : Hdr) (warp : Handle) (gainBand loBand : Nat)
  /-- CAL_SNAPSHOT (R199) -/
  | calSnapshot (h : Hdr)
  /-- TUNER_PRESET_WRITE (R151) -/
  | tunerPresetWrite (h : Hdr) (port : Handle) (num : Nat) (p : Preset)
  /-- TUNER_PRESET_READ (R151) -/
  | tunerPresetRead (h : Hdr) (port : Handle) (num : Nat)
  /-- TUNER_SELECT (R132) -/
  | tunerSelect (h : Hdr) (port : Handle) (num flags target : Nat)
  /-- TUNER_STATUS (R151) -/
  | tunerStatus (h : Hdr) (port : Handle)
  /-- PROBE_START (R145) -/
  | probeStart (h : Hdr) (r : ProbeReq)
  /-- PROBE_STOP (R146) -/
  | probeStop (h : Hdr)
  /-- PROBE_STATUS (R151) -/
  | probeStatus (h : Hdr)
  /-- MISMATCH_MEASURE (R151) -/
  | mismatchMeasure (h : Hdr) (port : Handle) (points threshold target : Nat) (freqs : List Nat)
  /-- MISMATCH_READ (R152) -/
  | mismatchRead (h : Hdr) (port : Handle)
  /-- SPI_WRITE (R450) -/
  | spiWrite (stated : Nat) (bytes : List Byte)
  /-- SPI_READ (R451) -/
  | spiRead (clocked : Nat)
  /-- SPI_STATUS_ONLY (R449) -/
  | spiStatusOnly
  /-- UDP_PACKET_ARRIVAL (R454) -/
  | udpPacketArrival (port : Fin 2) (addr : IpAddr) (sport : Nat) (bytes : List Byte)
  /-- UDP_REPLY_EXPIRY (R454) -/
  | udpReplyExpiry (slot : Fin 16)
  /-- IDENT (R505) -/
  | mbIdent
  /-- STATUS (R506) -/
  | mbStatus
  /-- CMD_PUT (R507) -/
  | mbCmdPut (data : List Byte) (check : Option Byte) (extra : Bool)
  /-- REPLY_GET (R509) -/
  | mbReplyGet (whole stop : Bool)
  /-- ATTN_ACK (R513) -/
  | mbAttnAck (check : Option Byte) (extra : Bool)
  /-- RTC_SNAP (R539) -/
  | mbRtcSnap (ended : Bool)
  /-- RTC_WEEKDAY (R539) -/
  | mbRtcWeekday (ended : Bool)
  /-- MB_UNASSIGNED_CODE (R505) -/
  | mbUnassignedCode (code : Byte)
  /-- MB_SEGMENT_TIMEOUT (R507) -/
  | mbSegmentTimeout
  /-- MB_STUCK_BUS (R515) -/
  | mbStuckBus
  /-- ATTN_ATTEMPT (R514) -/
  | attnAttempt (free sclFell : Bool)
  /-- RESET_DEADLINE (R481) -/
  | resetDeadline
  /-- PICK_BOUNDARY (R39) -/
  | pickBoundary (inputs : PickInputs)
  /-- PTP_MESSAGE (R51) -/
  | ptpMessage (port : Fin 2) (domain : Nat) (m : PtpMsg)
  /-- SOURCE_QUALIFIED (R50) -/
  | sourceQualified (input : TbInput)
  /-- SOURCE_LOST (R50) -/
  | sourceLost (input : TbInput) (word : Int)
  /-- SOURCE_SELECT (R52) -/
  | sourceSelect (code : Nat)
  /-- SOURCE_DISPLACE (R52) -/
  | sourceDisplace (code : Nat)
  /-- FREQ_ACQUIRED (R55) -/
  | freqAcquired (e : Int)
  /-- TIMEBASE_LOCKED (R53) -/
  | timebaseLocked
  /-- PHASE_ERROR_EXCEEDED (R53) -/
  | phaseErrorExceeded (e : Int)
  /-- PTP_SECONDS_PERSIST (R57) -/
  | ptpSecondsPersist (es : Int)
  /-- PHASE_STEP_COMPLETE (R68) -/
  | phaseStepComplete (obj : Option (Fin 8))
  /-- MDLL_UNLOCK (R81) -/
  | mdllUnlock
  /-- MDLL_LOCK (R80) -/
  | mdllLock
  /-- MDLL_RETRY_TIMER (R81) -/
  | mdllRetryTimer
  /-- TCXO_FAIL (R81) -/
  | tcxoFail
  /-- AUDIO_PLL_UNLOCK (R99) -/
  | audioPllUnlock
  /-- AUDIO_PLL_LOCK (R99) -/
  | audioPllLock
  /-- SYNTH_UNLOCK (R91) -/
  | synthUnlock (k : Fin 7) (sample : Nat)
  /-- SYNTH_LOCK (R91) -/
  | synthLock (k : Fin 7) (r : LockFacts)
  /-- BAND_SEARCH_FAILED (R91) -/
  | bandSearchFailed (k : Fin 7)
  /-- SEARCH_REPEAT_TIMER (R91) -/
  | searchRepeatTimer (k : Fin 7)
  /-- PROFILE_LOCK_TIMEOUT (R94) -/
  | profileLockTimeout (k : Fin 7)
  /-- FEED_RAMP_COMPLETE (R116) -/
  | feedRampComplete (p : Fin 4) (m : FeedMeas)
  /-- FEED_OVERCURRENT (R116) -/
  | feedOvercurrent (p : Fin 4) (m : FeedMeas)
  /-- FEED_FOLD_RECOVERED (R116) -/
  | feedFoldRecovered (p : Fin 4) (m : FeedMeas)
  /-- FEED_FOLD_WINDOW_END (R116) -/
  | feedFoldWindowEnd (p : Fin 4) (m : FeedMeas)
  /-- FEED_RETRY_TIMER (R116) -/
  | feedRetryTimer (p : Fin 4) (m : FeedMeas)
  /-- FEED_OVERVOLTAGE (R116) -/
  | feedOvervoltage (p : Fin 4) (m : FeedMeas)
  /-- VFEED_FAULT (R116) -/
  | vfeedFault
  /-- VFEED_RETURN (R116) -/
  | vfeedReturn
  /-- FEED_START_STAGGER (R120) -/
  | feedStartStagger (p : Fin 4) (m : FeedMeas)
  /-- FEED_EPISODE_CLEAR (R116) -/
  | feedEpisodeClear (p : Fin 4)
  /-- FEED_FAULT_CLEAR (R117) -/
  | feedFaultClear (p : Fin 4) (m : FeedMeas)
  /-- FEED_OPEN_DETECT (R118) -/
  | feedOpenDetect (p : Fin 4) (m : FeedMeas)
  /-- FEED_OPEN_CLEAR (R118) -/
  | feedOpenClear (p : Fin 4) (m : FeedMeas)
  /-- PORT_BACKFEED_DETECT (R119) -/
  | portBackfeedDetect (p : Fin 4) (m : FeedMeas)
  /-- PORT_BACKFEED_CLEAR (R119) -/
  | portBackfeedClear (p : Fin 4) (m : FeedMeas)
  /-- COEX_GNT_FALL (R147) -/
  | coexGntFall
  /-- PROBE_GRANT_TIMEOUT (R147) -/
  | probeGrantTimeout
  /-- PROBE_START_TIMEOUT (R145) -/
  | probeStartTimeout
  /-- PROBE_DURATION_END (R146) -/
  | probeDurationEnd
  /-- PROBE_LEVEL_CAL_DONE (R143) -/
  | probeLevelCalDone
  /-- PROBE_LEVEL_LOOP (R143) -/
  | probeLevelLoop (level : Int)
  /-- PROBE_LIMITER (R141) -/
  | probeLimiter
  /-- MISMATCH_COMPLETE (R138) -/
  | mismatchComplete (points : List LossPoint) (low : List Nat)
  /-- TEMP_FAULT_END (R174) -/
  | tempFaultEnd (w : Fin 8)
  /-- OVERLOAD_CLEAR (R165) -/
  | overloadClear (w : Fin 8)
  /-- CAL_INITIAL_TIMEOUT (R192) -/
  | calInitialTimeout (w : Fin 8)
  /-- CAL_NO_GAP_TIMEOUT (R192) -/
  | calNoGapTimeout (w : Fin 8)
  /-- CAL_STALE_TEMP_TIMEOUT (R192) -/
  | calStaleTempTimeout (w : Fin 8)
  /-- CAL_TEMP_FAULT_TIMER (R174) -/
  | calTempFaultTimer (w : Fin 8)
  /-- CAL_SNAPSHOT_TIMER (R195) -/
  | calSnapshotTimer
  /-- DENT_BANK_LOAD_COMPLETE (R213) -/
  | dentBankLoadComplete (dent : Fin 512)
  /-- STAGE_READY (R235) -/
  | stageReady (weave : Fin 512) (cap stage : Nat) (tasks : List TaskReq) (jobs : List JobReq)
  /-- TASK_COMPLETE (R242) -/
  | taskComplete (shuttle : Fin 64) (cycles : Nat)
  /-- ENGINE_JOB_COMPLETE (R233) -/
  | engineJobComplete (cls : Fin 4) (engine : Fin 4)
  /-- STAGE_COMPLETE (R235) -/
  | stageComplete (weave : Fin 512) (cap stage : Nat) (r : StageResult)
  /-- STAGE_DEADLINE (R243) -/
  | stageDeadline (weave : Fin 512) (cap : Nat) (cut : StageCut)
  /-- SOURCE_FAILURE_CLEAR (R350) -/
  | sourceFailureClear (set : Fin 64) (entry : Fin 4)
  /-- RUN_AHEAD_RETRY (R355) -/
  | runAheadRetry (set : Fin 64) (entry : Fin 4)
  /-- HOP_VISIT_END (R358) -/
  | hopVisitEnd (set : Fin 64)
  /-- SURVEY_FIELD_MEASURED (R334) -/
  | surveyFieldMeasured (dent : Fin 512) (power : Nat)
  /-- SURVEY_DWELL_END (R334) -/
  | surveyDwellEnd (weave : Fin 512)
  /-- SURVEY_STARVED (R334) -/
  | surveyStarved
  /-- TDM_FRAME (R406) -/
  | tdmFrame (port : Fin 8) (periods : Nat) (rate : Int) (due : Nat) (lines : FrameLines)
  /-- TDM_CLOCK_LOST (R408) -/
  | tdmClockLost (port : Fin 8)
  /-- TDM_CLOCK_RETURN (R408) -/
  | tdmClockReturn (port : Fin 8)
  /-- TDM_RATE_OK (R408) -/
  | tdmRateOk (port : Fin 8) (rate : Int)
  /-- ETH_LINK_CHANGE (R436) -/
  | ethLinkChange (port : Fin 2) (up : Bool)
  /-- ETH_FRAME_RECEIVE (R420) -/
  | ethFrameReceive (port : Fin 2) (f : EthFrame)
  /-- ARP_REFRESH (R420) -/
  | arpRefresh (failed : List (Nat × IpAddr))
  /-- PB_BUS_FREE (R523) -/
  | pbBusFree
  /-- PB_TRANSFER_DONE (R518) -/
  | pbTransferDone (r : PbDone)
  /-- PB_ARB_LOST (R520) -/
  | pbArbLost
  /-- PB_ARB_LOST_COND (R521) -/
  | pbArbLostCond
  /-- PB_STRETCH_TIMEOUT (R523) -/
  | pbStretchTimeout
  /-- PB_BUS_RELEASED (R523) -/
  | pbBusReleased (sdaLow : Bool)
  /-- PB_SCL_STUCK (R523) -/
  | pbSclStuck
  /-- PB_SDA_STUCK (R523) -/
  | pbSdaStuck
  /-- PB_RECOVERY_DONE (R523) -/
  | pbRecoveryDone (released : Bool)
  /-- PB_SDA_RETRY (R523) -/
  | pbSdaRetry
  /-- PB_TRANSFER_TIMEOUT (R519) -/
  | pbTransferTimeout
  /-- RTC_TICK (R531) -/
  | rtcTick
  /-- RTC_OSC_STOP (R536) -/
  | rtcOscStop
  /-- RTC_OSC_RESTART (R536) -/
  | rtcOscRestart
  /-- RTC_TO_BACKUP (R534) -/
  | rtcToBackup
  /-- RTC_TO_MAIN (R534) -/
  | rtcToMain
  /-- BACKUP_COLLAPSE (R535) -/
  | backupCollapse
  /-- VBACKUP_MEASURE (R537) -/
  | vbackupMeasure (mv : Nat)
  /-- RECORD_WRITE_COMPLETE (R565) -/
  | recordWriteComplete (ok : Bool)
  /-- SESSION_OPEN_EXPIRY (R555) -/
  | sessionOpenExpiry (k : Fin 8)
  /-- SESSION_IDLE_TIMEOUT (R555) -/
  | sessionIdleTimeout (k : Fin 8)
  /-- PROVE_BACKOFF_END (R554) -/
  | proveBackoffEnd
  /-- VMAIN_GOOD (R590) -/
  | vmainGood (addr : Fin 8) (boot : Fin 4)
  /-- FW_VERIFY_COMPLETE (R578) -/
  | fwVerifyComplete
  /-- FIRMWARE_START (R592) -/
  | firmwareStart
  /-- PFAIL (R595) -/
  | pfail
  /-- RESET_N_ASSERT (R596) -/
  | resetNAssert
  /-- RESET_N_RELEASE (R596) -/
  | resetNRelease (addr : Fin 8) (boot : Fin 4)
  /-- WATCHDOG_EXPIRY (R597) -/
  | watchdogExpiry
  /-- RAIL_FAULT (R594) -/
  | railFault (d : Fin 10)
  /-- PL_FRAME_RECEIVE (R604) -/
  | plFrameReceive (f : PlFrame)
  /-- PL_LINK_CHANGE (R603) -/
  | plLinkChange (up : Bool)
  /-- HEARTBEAT_MISS (R603) -/
  | heartbeatMiss
  /-- OWN_HW_RELEASE (R605) -/
  | ownHwRelease
  /-- OWN_RELEASE (R613) -/
  | ownRelease
  /-- FAILOVER_TDM_DRIVE (R613) -/
  | failoverTdmDrive (ns : Nat)
  /-- JOIN_WAIT_END (R608) -/
  | joinWaitEnd (ownHeld : Bool)
  /-- MIRROR_JOIN (R609) -/
  | mirrorJoin
  /-- MIRROR_SYNCED (R612) -/
  | mirrorSynced
  /-- MIRROR_UNSYNCED (R608) -/
  | mirrorUnsynced
  /-- ALIGN_FAULT (R609) -/
  | alignFault
  /-- PHASE_INPUT_EDGE (R65) -/
  | phaseInputEdge (pick : Bool) (width : Nat) (offset : Int)
  /-- D0_POWER_UP (R535) -/
  | d0PowerUp
  /-- PB_BOTH_LINES_HIGH (R523) -/
  | pbBothLinesHigh
  deriving DecidableEq, Repr

end Sys2Proof
end

