-- ==== Sys2Proof/Decode.lean ====
section
/-! DEFINITION. The decoder over the table's bits: the table gives no row any bits, so no word spells a command. Command packets
are read in Machine/Codec.lean. -/

namespace Sys2Proof

/-- The command a word of the table's bits spells: none, since the table gives no bits. (log 3: DESIGN CHOICE) -/
def decodeTableWord (_nbits _w : Nat) : Option Instr := none

end Sys2Proof
end

