-- ==== Sys2Proof/Machine/Operands.lean ====
section
/-! DEFINITION. The fields of packets, replies, events and records: little-endian numbers (R7), handles
(R13), saturated counters (R475), CRC-32C (R445) and padded structures. -/

namespace Sys2Proof.Machine

/-- The low `n` bytes of `v`, least significant first (R7). -/
def leBytes : Nat → Nat → List Byte
  | 0, _ => []
  | n + 1, v => BitVec.ofNat 8 v :: leBytes n (v / 256)

/-- A signed field of `n` bytes, two's complement (R7). -/
def leSigned (n : Nat) (z : Int) : List Byte := leBytes n (z % (256 ^ n : Nat)).toNat

/-- The number a little-endian field holds (R7). -/
def ofLe : List Byte → Nat
  | [] => 0
  | b :: bs => b.toNat + 256 * ofLe bs

/-- Big-endian bytes, in network order (R419, R576). -/
def beBytes (n v : Nat) : List Byte := (leBytes n v).reverse

/-- The number a big-endian field holds. -/
def ofBe (bs : List Byte) : Nat := ofLe bs.reverse

/-- The signed number a little-endian field holds. -/
def ofLeSigned (bs : List Byte) : Int :=
  if 2 * ofLe bs < 256 ^ bs.length then ofLe bs else (ofLe bs : Int) - (256 ^ bs.length : Nat)

/-- A counter field of `n` bytes: it saturates at the largest value the field holds (R475). -/
def leCount (n v : Nat) : List Byte := leBytes n (min v (256 ^ n - 1))

/-- `n` reserved bytes, returned as zero (R17). -/
def zeros (n : Nat) : List Byte := List.replicate n 0#8

/-- One byte. -/
def byte (v : Nat) : List Byte := [BitVec.ofNat 8 v]

/-- A handle field. -/
def handleBytes (h : Handle) : List Byte := leBytes 4 h.toNat

/-- The bytes padded with zero to a multiple of `k`. -/
def padTo (k : Nat) (bs : List Byte) : List Byte := bs ++ zeros ((k - bs.length % k) % k)

/-- One bit of the CRC-32C register, reflected (R445). -/
def crcBit (c : BitVec 32) : BitVec 32 :=
  if c.getLsbD 0 then (c >>> 1) ^^^ 0x82F63B78#32 else c >>> 1

/-- One byte through the CRC-32C register. -/
def crcByte (c : BitVec 32) (b : Byte) : BitVec 32 :=
  crcBit (crcBit (crcBit (crcBit (crcBit (crcBit (crcBit (crcBit (c ^^^ b.setWidth 32))))))))

/-- CRC-32C with the register preset to ones and the result inverted (R445). -/
def crc32c (bs : List Byte) : BitVec 32 := ~~~ (bs.foldl crcByte 0xFFFFFFFF#32)

/-- A structure followed by its CRC (R443, R444, R458). -/
def withCrc (bs : List Byte) : List Byte := bs ++ leBytes 4 (crc32c bs).toNat

/-- The CRC of a record copy: over the header with its CRC field zero, and the body (R563). -/
def copyCrc (type writer format length seq rtc : Nat) (body : List Byte) : Nat :=
  (crc32c (byte type ++ byte writer ++ leBytes 2 format ++ leBytes 4 length ++ leBytes 4 seq ++ zeros 4 ++ leBytes 8 rtc
    ++ body)).toNat

/-- The LIMITS body (R574). -/
def limitsBytes (l : Limits) : List Byte :=
  leBytes 2 l.allowance ++ zeros 2 ++
    l.ports.flatMap fun p => leBytes 2 p.feed ++ leSigned 2 p.probe ++ byte p.flags ++ zeros 3

/-- The handle of an object (R13). -/
def mkHandle (cls idx gen : Nat) : Handle := BitVec.ofNat 32 (cls * 0x1000000 + idx * 0x100 + gen)

/-- The class field of a handle (R13). -/
def hClass (h : Handle) : Nat := h.toNat / 0x1000000

/-- The index field of a handle (R13). -/
def hIndex (h : Handle) : Nat := h.toNat / 0x100 % 0x10000

/-- The generation field of a handle (R13). -/
def hGen (h : Handle) : Nat := h.toNat % 0x100

/-- How many indices a class has; 0 for a code that is not assigned (R24). -/
def classSize : Nat → Nat
  | 0x01 => 4 | 0x02 => 8 | 0x03 => 512 | 0x04 => 512 | 0x05 => 4096 | 0x06 => 16384 | 0x07 => 64
  | 0x08 => 1024 | 0x09 => 8 | 0x0A => 32 | 0x0B => 5 | 0x0C => 8 | 0x0D => 2 | 0x0E => 32 | _ => 0

/-- One step of the SMBus packet error code, CRC-8 with polynomial 0x07 (R511). -/
def pecBit (c : BitVec 8) : BitVec 8 := if c.msb then (c <<< 1) ^^^ 0x07#8 else c <<< 1

/-- The packet error code of the bytes of a transfer (R511). -/
def pec (b : List Byte) : Byte :=
  b.foldl (fun c x => pecBit (pecBit (pecBit (pecBit (pecBit (pecBit (pecBit (pecBit (c ^^^ x))))))))) 0#8

/-- The fixed classes, issued with generation 1 when the module leaves DORMANT (R25). -/
def classFixed (c : Nat) : Bool := c == 1 || c == 2 || c == 9 || c == 0x0B || c == 0x0D

/-- Division that truncates toward zero (R18's conventions). -/
def tdivI (a b : Int) : Int := Int.tdiv a b

/-- An index into a list with the last byte or entry never out of range: `d` beyond the end. -/
def nth {α : Type} (l : List α) (i : Nat) (d : α) : α := (l[i]?).getD d

/-- The entry of a sparse table. -/
def tget {α : Type} : Tab α → Nat → Option α
  | [], _ => none
  | (k, a) :: t, n => if n = k then some a else tget t n

/-- Writes an entry of a sparse table, keeping the keys rising. -/
def tset {α : Type} : Tab α → Nat → α → Tab α
  | [], n, a => [(n, a)]
  | (k, b) :: t, n, a => if n < k then (n, a) :: (k, b) :: t else if n = k then (n, a) :: t else (k, b) :: tset t n a

/-- Removes an entry of a sparse table. -/
def tdel {α : Type} (t : Tab α) (n : Nat) : Tab α := t.filter fun p => p.1 != n

/-- Changes an entry of a sparse table where there is one. -/
def tmod {α : Type} (t : Tab α) (n : Nat) (f : α → α) : Tab α :=
  t.map fun p => if p.1 = n then (p.1, f p.2) else p

/-- Changes one place of a list; a place beyond its end changes nothing. -/
def lmod {α : Type} (l : List α) (i : Nat) (f : α → α) : List α := l.modify i f

end Sys2Proof.Machine
end

