-- ==== Sys2Proof/Machine/Flags.lean ====
section
/-! DEFINITION. Flag bytes and bit fields: a bit of a number, a field of bits, a byte built of flags, and
the test that only the bits a field defines are set (R16). -/

namespace Sys2Proof.Machine

/-- Bit `n` of a flags field. -/
def bit (v n : Nat) : Bool := v.testBit n

/-- The field [lo + w - 1 : lo]. -/
def bits (v lo w : Nat) : Nat := v / 2 ^ lo % 2 ^ w

/-- One flag as a number. -/
def flag (b : Bool) : Nat := if b then 1 else 0

/-- The number whose bits are the flags, bit 0 first. -/
def flagBits : List Bool → Nat
  | [] => 0
  | b :: bs => flag b + 2 * flagBits bs

/-- No bit outside the lowest `w` is set: the reserved bits of a flags field are zero (R16). -/
def only (v w : Nat) : Bool := v < 2 ^ w

/-- `lo ≤ v ≤ hi`. -/
def inR (lo v hi : Nat) : Bool := lo ≤ v && v ≤ hi

/-- `lo ≤ v ≤ hi` for a signed value. -/
def inI (lo v hi : Int) : Bool := lo ≤ v && v ≤ hi

end Sys2Proof.Machine
end

