-- ==== Sys2Proof/Config.lean ====
section
/-! DEFINITION. What a unit has from manufacture and what the spec leaves open: constants with no body, of which nothing can be
proved. -/

namespace Sys2Proof.Config

/-- The serial number of the unit, burned at manufacture (R2). (log 4: DESIGN CHOICE) -/
opaque serial : BitVec 32

/-- The MAC address of each Ethernet port, assigned at manufacture (R419). (log 4: DESIGN CHOICE) -/
opaque mac : Fin 2 → BitVec 48

/-- The maker key fused at manufacture (R573). (log 4: DESIGN CHOICE) -/
opaque makerKey : BitVec 256

/-- The firmware key of slot 0 fused at manufacture (R576). (log 4: DESIGN CHOICE) -/
opaque fwKey : BitVec 512

/-- Free values: what the true random generator gives (R552) and what the spec states no value for, by the number of the
draw. (log 7: DESIGN CHOICE) -/
opaque freeWord : Nat → BitVec 128

/-- Free values of a second, signed kind: a quantity of the plant that no rule states, by the number of the draw. (log 7: DESIGN CHOICE) -/
opaque freeInt : Nat → Int

/-- The taps of the default banks, by rate code, kind (1 linear phase, 2 minimum phase) and tap number: the spec gives what
they achieve (R212) and not their values. (log 72: DESIGN CHOICE) -/
opaque defaultTap : Nat → Nat → Nat → BitVec 18

/-- The side taps of the half-band filters, by half-band stage and pair counted from the outside (0 to 4), in 2⁻²⁴: the spec gives what the filters
achieve (R205) and not their values. (log 72: DESIGN CHOICE) -/
opaque halfTap : Nat → Nat → BitVec 24

/-- The droop of a warp's baseband filters from 41.5 MHz to 45.5 MHz at manufacture, by warp, gain band and LO band, in 0.01 dB: no item of CAL
holds it (R187). (log 144: DEDUCED) -/
opaque factoryDroop : Nat → Nat → Nat → BitVec 16

/-- The nominal analogue delay of a warp in an LO band, in 10 ps, used where no CAL record gives it (R562). (log 71: DESIGN CHOICE) -/
opaque nominalDelay : Nat → Nat → BitVec 16

/-- The code point of a code of the RDS character table of IEC 62106, which the spec names and does not restate (R331). (log 82: DESIGN CHOICE) -/
opaque rdsChar : Nat → BitVec 21

/-- The code point of a code of the EBU Latin based repertoire, which the spec names and does not restate (R331). (log 82: DESIGN CHOICE) -/
opaque ebuChar : Nat → BitVec 21

/-- The samples of an audio source: its handle, the rate code of the grid they lie on (0 32 kHz, 1 48 kHz, 2 96 kHz), the position counted on that grid, and
the channel (0 left, 1 right). What the decoders and the rate converter of R401 make of a signal the spec gives by what they achieve. (log 120: DESIGN CHOICE) -/
opaque audio : Nat → Nat → Nat → Nat → BitVec 32

end Sys2Proof.Config
end

