-- ==== Sys2Proof/Machine/State.lean ====
section
/-! DEFINITION. The state of the block, whole: every register, setting, counter, queue, object and record the
spec gives the module, as plain data, and the state after reset. -/

namespace Sys2Proof.Machine

/-- A fault of the model. No command of this block ends in one. -/
inductive Fault where
  /-- Raised by nothing: the block has no stuck state. Safe. -/
  | none
  deriving DecidableEq, Repr

/-- A refusal of the model. -/
inductive Refusal where
  /-- Raised by `exec` for a command that has no meaning yet, with its mnemonic. Safe: no claim covers it. -/
  | notModelled (mnemonic : String)
  deriving DecidableEq, Repr

/-- The modes (R4). -/
inductive Mode where
  | backup | dormant | loading | ready | survey | watch | probe | mirror
  deriving DecidableEq, Repr

/-- The status codes (R476). -/
inductive Status where
  | ok | busy | deferred | queued | badOpcode | badLength | badCrc | badParam | noRight | noResource | badHandle
  | wrongMode | notReady | badDate | activeBank | conflict | limited | timeout | busError
  deriving DecidableEq, Repr

/-- The reset causes of EV_RESET (R461, R598). -/
inductive ResetCause where
  | powerOn | resetN | command | watchdog | brownOut | fwLoad
  deriving DecidableEq, Repr

/-- The object states (R26); an index that is not listed is FREE. -/
inductive OState where
  | idle | active | suspended | pending
  deriving DecidableEq, Repr

/-- The causes of a suspension (R31). -/
inductive Cause where
  | none | released | domainOff | shed | modeChange | upstream
  deriving DecidableEq, Repr

/-- An issued object (R26, R29): its class, index and generation, its state and the state it resumes, the objects
it takes input from directly (`opt` those a weave declares optional, R28), the cause it is suspended with, whether an
input was released while it was suspended, and how many pending changes on it were replaced (R38).
`due` is the boundary of its creation while it is PENDING; `lost` what it was last without while SUSPENDED, the null
handle for its own domain (R31). (log 130: DEDUCED) -/
structure Obj where
  cls    : Nat
  idx    : Nat
  gen    : Nat
  st     : OState
  prior  : OState
  inputs : List Handle
  opt    : List Handle
  cause  : Cause
  relIn  : Bool
  shed   : Bool
  repl   : Nat
  due    : Nat
  lost   : Handle
  deriving DecidableEq, Repr

/-- The registry of objects: those issued, how many indices of a class have been issued since reset (`fresh`), and
the released indices, the one released longest ago first (R457). -/
structure Registry where
  objs  : List Obj
  fresh : Tab Nat
  freed : List (Nat × Nat × Nat)
  deriving DecidableEq, Repr

/-- A pending change (R37-R41): due at the boundary `due` counted in picks since D2 came on, at a named sample,
on an object, of a kind; `cmd` is the accepted command whose effect it is, with clipped values in place, `role` the role that accepted
it. (log 21: DEDUCED) -/
structure Pend where
  due    : Nat
  sample : Nat
  obj    : Handle
  kind   : Nat
  cmd    : Instr
  role   : Nat
  deriving DecidableEq, Repr

/-- An event queue entry (R458). -/
structure Event where
  seq  : Nat
  code : Nat
  body : List Byte
  deriving DecidableEq, Repr

/-- A reply (R444); `headerOnly`, `empty` and `notTaken` are its flags beside REPEAT and EVENTS, which are formed when it
is sent. -/
structure Rep where
  op         : Nat
  status     : Status
  tag        : Nat
  sess       : Nat
  payload    : List Byte
  headerOnly : Bool
  empty      : Bool
  notTaken   : Bool
  deriving DecidableEq, Repr

/-- A command in progress: what a header-only reply echoes (R451). -/
structure Prog where
  op   : Nat
  tag  : Nat
  sess : Nat
  deriving DecidableEq, Repr

/-- The reply slot of SPI or of MB (R446, R449-R451, R455). `taken` says that a command has been taken since reset. -/
structure Slot where
  prog      : Option Prog
  reply     : Option Rep
  delivered : Bool
  discarded : Bool
  taken     : Bool
  deriving DecidableEq, Repr

/-- A UDP slot in use (R454). `sent` orders the replies by when they were sent, with the boundary count then; none while the command is in progress
or the reply waits for the link. -/
structure UdpSlot where
  port  : Fin 2
  addr  : IpAddr
  sport : Nat
  tag   : Nat
  cmd   : List Byte
  prog  : Option Prog
  reply : Option Rep
  sent  : Option (Nat × Nat)
  deriving DecidableEq, Repr

/-- A packet taken and not yet interpreted (R446). -/
structure Taken where
  via   : Via
  bytes : List Byte
  deriving DecidableEq, Repr

/-- A datagram the module sent on an Ethernet port. (log 120: DESIGN CHOICE) -/
structure Datagram where
  port  : Fin 2
  addr  : IpAddr
  dport : Nat
  bytes : List Byte
  deriving DecidableEq, Repr

/-- The command protocol (R446-R464): the slots, the packets taken and waiting, the event queue with its counters, the
notification setting, the transport counters, and what was last sent on SPI_MISO and on Ethernet. -/
structure Proto where
  spi          : Slot
  mb           : Slot
  udp          : Tab UdpSlot
  sentCount    : Nat
  queue        : List Taken
  events       : List Event
  nextSeq      : Nat
  newestSeq    : Nat
  discardedEv  : Nat
  notify       : NotifyCfg
  spiTaken     : Nat
  spiDiscarded : Nat
  mbTaken      : Nat
  mbDiscarded  : Nat
  udpTaken     : Nat
  udpRefused   : Nat
  repeats      : Nat
  badCrc       : Nat
  miso         : List Byte
  sentUdp      : List Datagram
  deriving DecidableEq, Repr

/-- A session (R552): OPENED or PROVEN (`proven`), its role, its binding (R448), the generation of its handle, its nonce,
when it was opened (order of opening) and the pick in which a packet last named it. -/
structure Sess where
  proven : Bool
  role   : Nat
  via    : Via
  gen    : Nat
  nonce  : Nat
  opened : Nat
  named  : Nat
  deriving DecidableEq, Repr

/-- Sessions and the proof backoff (R552-R556): the consecutive failures, whether the wait after the last one runs, and the boundary count at which
it began, 0 while D2 is off. -/
structure Auth where
  sess     : Tab Sess
  openings : Nat
  failures : Nat
  waiting  : Bool
  failedAt : Nat
  deriving DecidableEq, Repr

/-- An audit entry (R559). -/
structure AuditEntry where
  number : Nat
  obj    : Handle
  rtc    : Nat
  pick   : Nat
  op     : Nat
  status : Nat
  role   : Nat
  via    : Nat
  sess   : Nat
  osf    : Bool
  deriving DecidableEq, Repr

/-- The audit ring (R557-R560). -/
structure Audit where
  entries  : List AuditEntry
  next     : Nat
  overflow : Nat
  deriving DecidableEq, Repr

/-- One copy of a record as stored in MRAM (R563). -/
structure Copy where
  type   : Nat
  writer : Nat
  format : Nat
  length : Nat
  seq    : Nat
  crc    : Nat
  rtc    : Nat
  body   : List Byte
  commit : Nat
  deriving DecidableEq, Repr

/-- The state of a record (R569, R575). -/
inductive RecState where
  | absent | copy0 | copy1 | conflict
  deriving DecidableEq, Repr

/-- A record (R562-R570): its copies, its state, its counters, and the event code recovery owes the firmware (0 none). -/
structure Record where
  c0       : Copy
  c1       : Copy
  st       : RecState
  writes   : Nat
  failed   : Nat
  refusals : Nat
  owed     : Nat
  deriving DecidableEq, Repr

/-- A record write requested (R565): the record, the body, the role, and the command whose reply waits for it; `begun`
once the MRAM controller has started it, into copy `target` (none before); `second` while the one repeat runs. -/
structure WriteJob where
  recIx  : Nat
  body   : List Byte
  writer : Nat
  cmd    : Option Instr
  target : Option Nat
  seq    : Nat
  rtc    : Nat
  second : Bool
  deriving DecidableEq, Repr

/-- MRAM records and their writes (R562-R575): the five records, the writes in the order requested, the CONFIG change
waiting for a pick 0 with the role of its last change, the segments of the factory part received. -/
structure Records where
  recs       : List Record
  jobs       : List WriteJob
  cfgDirty   : Option Nat
  trimSeg    : List Byte
  limits     : Option Limits
  deriving DecidableEq, Repr

/-- A firmware slot, or the DIRECT image (R576-R582). -/
structure FwImage where
  bytes   : List Byte
  result  : Nat
  deriving DecidableEq, Repr

/-- A firmware key slot in fuses (R576). -/
structure FwKey where
  present : Bool
  revoked : Bool
  key     : List Byte
  deriving DecidableEq, Repr

/-- Firmware, its fuses and the load in progress (R576-R582). `running` is 0, 1, 2 or 0xFF; `chosen` is the image
verified and about to start. (log 31: DEDUCED) -/
structure Firmware where
  slot0      : FwImage
  slot1      : FwImage
  direct     : FwImage
  keys       : List FwKey
  makerFuse  : List Byte
  counter    : Nat
  locked     : Bool
  preferred  : Nat
  running    : Nat
  runVersion : Nat
  chosen     : Option Nat
  loadState  : Nat
  loadTarget : Nat
  loadResult : Nat
  loadLen    : Nat
  loadBytes  : List Byte
  deriving DecidableEq, Repr

/-- A reset accepted and not yet begun (R481): its cause, whether it halts, the source FW_BOOT named, and the
transport whose delivery begins it. -/
structure ResetReq where
  cause  : ResetCause
  halt   : Bool
  source : Option Nat
  via    : Via
  deriving DecidableEq, Repr

/-- Modes, domains, supplies and resets (R584-R600). `ord` counts pick boundaries since D2 came on; `faulted` are the
domains R594 holds off; `halt` and `source` are the override of the straps for the reset in progress (R586). (log 7: DESIGN CHOICE) -/
structure Sys where
  mode      : Mode
  domains   : BitVec 10
  faulted   : BitVec 10
  ord       : Nat
  upBase    : Nat
  cause     : ResetCause
  bootCount : Nat
  vmain     : Nat
  temp      : Int
  vmainGood : Bool
  resetN    : Bool
  addr      : Fin 8
  boot      : Fin 4
  pinAddr   : Fin 8
  pinBoot   : Fin 4
  halt      : Bool
  source    : Option Nat
  resetReq  : Option ResetReq
  pfail     : Bool
  missedAck : Nat
  free      : Nat
  deriving DecidableEq, Repr

/-- The factory identity (R1, R2). (log 4: DESIGN CHOICE) -/
structure Ident where
  variant : Nat
  stepping : Nat
  bootRom : Nat
  serial  : Nat
  deviceId : Nat
  deriving DecidableEq, Repr

/-- The timebase states (R53). -/
inductive TbState where
  | freerun | acqFreq | acqPhase | locked | holdover
  deriving DecidableEq, Repr

/-- A step decided under R60: the boundary that begins the step pick, the offset and residual in ns, q and M. -/
structure StepPlan where
  due    : Nat
  offset : Int
  resid  : Int
  q      : Int
  m      : Int
  deriving DecidableEq, Repr

/-- A renumbering by whole seconds decided under R57: made at the first second boundary from the boundary `from_` on; the whole
seconds and the offset it was decided on. -/
structure SecsPlan where
  from_  : Nat
  es     : Int
  offset : Int
  deriving DecidableEq, Repr

/-- A phase trim movement of the pick or of a warp (R66-R68): its index among the trims (0 the pick, 1 + n warp n), whether it runs, the
boundary of its target pick, the position it starts at in converter periods since D2 came on, and its steps. -/
structure TrimMove where
  obj     : Nat
  running : Bool
  due     : Nat
  start   : Nat
  steps   : Int
  deriving DecidableEq, Repr

/-- A run of picks (R45, R60): from the boundary count `ord` on the picks are numbered from `pick` on, and that boundary lies at `grid` on the grid
clock, in 125 µs. -/
structure PickRun where
  ord  : Nat
  pick : Nat
  grid : Nat
  deriving DecidableEq, Repr

/-- The timebase (R45-R72). Times are in ns but for the slew remaining, in 10 ps, and the PICK_IN offset, in ps.
`trims` are the cumulative trims of the pick and of warps 0 to 7, in 2 ps steps. `word` is the control word in
force, as an offset from the factory word in 10⁻¹²; `wordBefore` the one held before acquisition; `words` those of the last 1,000 picks,
newest first (R54). `runs` are the picks of some 2,100 boundaries back by runs of equal length and unbroken numbers, newest first (R60, R63), `pickMs` the millisecond of the last PICK_IN edge counted
from the marker (R65), `ppsLeft` the picks for which PPS_OUT stays high, `pickPulse` the width in ns of the pulse that PICK_OUT carries at the
present boundary (R64). -/
structure Timebase where
  pick        : Nat
  label       : Nat
  state       : TbState
  source      : Nat
  everLocked  : Bool
  qual        : List Bool
  qualAt      : List Nat
  ptpBest     : List Bool
  exchanges   : List Nat
  cfg         : TbCfg
  e           : Int
  es          : Int
  freq        : Int
  word        : Int
  wordBefore  : Int
  words       : List Int
  slewRem     : Int
  holdOrd     : Nat
  holdTemp    : Int
  steps       : Nat
  changes     : Nat
  trims       : List Int
  moves       : List TrimMove
  plan        : Option StepPlan
  secs        : Option SecsPlan
  labelDue    : Option Nat
  ptpDecided  : Bool
  pickInSum   : Int
  pickInCount : Nat
  pickInMean  : Option Int
  pickMs      : Option Nat
  runs        : List PickRun
  ppsLeft     : Nat
  pickPulse   : Nat
  deriving DecidableEq, Repr

/-- The core clock states (R81). -/
inductive ClkState where
  | normal | degraded | returning | fault
  deriving DecidableEq, Repr

/-- The clock tree (R74-R83, R98-R102). `shedOrder` lists the weaves shed under R82, the first shed first; `shedDue` says that the next
boundary is the first since the switch to the ring, `audioHold` that a loss of the audio PLL's lock has been reported and its end has not;
`held` is a spread setting that waits for NORMAL. -/
structure Clocks where
  state     : ClkState
  mdll      : Bool
  audio     : Bool
  mode      : Nat
  amount    : Nat
  ringKHz   : Nat
  retries   : Nat
  degrades  : Nat
  shedOrder : List Nat
  shedDue   : Bool
  audioHold : Bool
  held      : Option (Nat × Nat)
  deriving DecidableEq, Repr

/-- A hop profile (R93); `used` orders profiles by their last use (R358). -/
structure Profile where
  freq    : Nat
  code    : Nat
  n       : Nat
  f       : Nat
  band    : Nat
  amp     : Nat
  cp      : Nat
  lf      : Nat
  seed    : Nat
  valid   : Bool
  dither  : Bool
  temp    : Int
  pick    : Nat
  used    : Nat
  deriving DecidableEq, Repr

/-- The synthesiser states (R101). -/
inductive SynState where
  | off | searching | settling | locked | unlocked
  deriving DecidableEq, Repr

/-- A synthesiser (R84-R103). `freq` is the requested output frequency in Hz; `failReported` says that
EV_SYNTH_UNLOCK SEARCH_FAILED has been queued since lock was last held or since the retune began; `lossMark` that an EV_SYNTH_UNLOCK has been
queued and its EV_SYNTH_RELOCK not, `first` the pick and converter sample its body names; `clocks` the modulator clocks since the LFSR was loaded (R87). -/
structure Synth where
  state    : SynState
  freq     : Nat
  code     : Nat
  n        : Nat
  f        : Nat
  band     : Nat
  amp      : Nat
  cp       : Nat
  lf       : Nat
  profile  : Nat
  dither   : Bool
  seed     : Nat
  pendDith : Option (Bool × Nat)
  unlocks  : Nat
  searches : Nat
  settle   : Nat
  failRep  : Bool
  lossMark : Bool
  first    : Nat × Nat
  clocks   : Nat
  profiles : Tab Profile
  deriving DecidableEq, Repr

/-- The feed states (R116). -/
inductive FeedState where
  | off | starting | on | foldback | retryWait | latched | hold
  deriving DecidableEq, Repr

/-- A port's DC feed (R114-R129): the flags byte and the limit in force (in 25 mA), its state and measured voltage (mV) and current
(0.1 mA), its episodes; `queued` while it waits its turn to start (R120); `vfeed` while HOLD is for VFEED; `since` is the boundary count
at which it entered its state. -/
structure Feed where
  state    : FeedState
  flags    : Nat
  limit    : Nat
  mv       : Nat
  ma       : Nat
  episodes : Nat
  total    : Nat
  queued   : Bool
  vfeed    : Bool
  since    : Nat
  deriving DecidableEq, Repr

/-- An aerial port (R104-R129). `faults` are (fault code, source, cause) triples raised; each port is 0 to 3. -/
structure Port where
  loop    : Nat
  shared  : Bool
  feed    : Feed
  faults  : List (Nat × Nat × Nat)
  deriving DecidableEq, Repr

/-- A return-loss measurement completed (R152). -/
structure LossResult where
  mode   : Nat
  cls    : Nat
  preset : Nat
  pick   : Nat
  points : List LossPoint
  deriving DecidableEq, Repr

/-- A port's tuner (R130-R134, R152): presets 1 to 31 written, the preset in force, the boundary and the pick of the
last change, the operations of the elements C1, C2 and L, whether EV_TUNER_WEAR has been
queued, and the last completed measurement. `priority` and `request` are those of a pending change on a SHARED port. -/
structure Tuner where
  presets  : Tab Preset
  inForce  : Nat
  lastOrd  : Option Nat
  lastPick : Nat
  ops      : List Nat
  wear     : Bool
  request  : Bool
  priority : Bool
  waiting  : Bool
  result   : Option LossResult
  deriving DecidableEq, Repr

/-- A local temperature sensor under R174: the valid readings among the last 16, the previous reading since switch-on, the
value reported (none before the first), TEMP_FAULT and its run of valid readings. -/
structure Sensor where
  readings : List (Option Int)
  prev     : Option Int
  last     : Int
  value    : Option Int
  fault    : Bool
  run      : Nat
  deriving DecidableEq, Repr

/-- The probe states (R151). -/
inductive ProbeState where
  | idle | waiting | radiating | held
  deriving DecidableEq, Repr

/-- The probe transmitter, its session and the passive measurement (R136-R153). `levelDue` says that a level
calibration is due, `calTemp` the temperature of the last one; `lowCount` the consecutive boundaries with COEX_GNT low;
`limited` that the hardware limiter has cut the drive; `lostNow` the points at which the grant was lost, `openNow` those at which SYN6 was not locked
from the start of the detectors' window (R137). -/
structure Probe where
  state    : ProbeState
  req      : ProbeReq
  level    : Int
  measured : Int
  due      : Nat
  start    : Nat
  startOrd : Nat
  point    : Nat
  losses   : Nat
  lowCount : Nat
  lostNow  : List Nat
  openNow  : List Nat
  stopAt   : Option Nat
  calibrating : Bool
  levelCal : Bool
  calTemp  : Int
  limited  : Bool
  gnt      : Bool
  measPort : Option Nat
  measDue  : Nat
  measFreqs : List Nat
  measThr  : Nat
  measActive : Bool
  measPreset : Nat
  measOwed : Option Nat
  coexReq  : Bool
  coexPrio : Bool
  temp     : Sensor
  deriving DecidableEq, Repr

/-- A result entry of the calibration table (R194). `dc` is the fine DC loop's estimate that belongs to the trims, in 2⁻³² converter codes (R166). (log 145: DEDUCED) -/
structure CalEntry where
  warp    : Nat
  gBand   : Nat
  loBand  : Nat
  valid   : Bool
  factory : Bool
  snap    : Bool
  limit   : Bool
  trims   : Trims
  temp    : Int
  pick    : Nat
  image   : Nat
  lo      : Nat
  runs    : Nat
  dc      : Int × Int
  deriving DecidableEq, Repr

/-- The step that a warp's present pick is to hold (R182-R188): the gap (codes of R198), the kind (0 IQ, 1 CORNER, 2 BIAS), the tone injected, as Δf in Hz
(0 none), and its level at the converters in 0.1 dBFS, whether the lower selvedge is the measurement side, the weave whose null symbol serves, and
the measurement window in ns of the pick. -/
structure CalPlan where
  gap   : Nat
  kind  : Nat
  tone  : Int
  level : Int
  low   : Bool
  weave : Nat
  from_ : Nat
  stop  : Nat
  deriving DecidableEq, Repr

/-- The calibration states (R192). -/
inductive CalState where
  | initial | current | due | stale | degraded
  deriving DecidableEq, Repr

/-- A warp's calibration (R177-R198). The seven trims are numbered in the order of `Trims`: for each, `tol` says that it met its tolerance in its
latest measurement of the run, `lim` that it stands at the end of its range with its residual beyond, `aims` the step size and the sign of the last
residual of its successive approximation (R190). `limit` is TRIM_LIMIT. `pend` are the updates waiting for their boundaries, `wantInitial` while the
warp waits for its first boundary with the synthesiser locked (R181), `marking` that INITIAL marks the present pick, `trig` a trigger seen since the
last evaluation (R179), `pair` the (gain band, LO band) whose trims are loaded, `tuned` the LO last tuned to since the domain came on. `plan` is the step of
the present pick, `term` for how many ns from its start the input is terminated, `shed` the blanking of the pick (codes of R198, 0 none) with `spoil` a
blanking that is no shed (R184), `steady` that the synthesiser has been locked throughout, `ran` the boundary count of the last step of each kind,
`corner` the tone level and the image found at 41.5 MHz, `selv` the energies of the selvedges in the previous pick, `nullStep` a null step waiting for its weave's confirmation, with
what the weave said (R189), `backoff` the first boundary count at which selvedge and guard steps run again, `since` the boundary count at
which the state was entered, `tried` that of the last step attempted. -/
structure WarpCal where
  state    : CalState
  full     : Bool
  limit    : Bool
  lim      : List Bool
  changed  : Bool
  lastGap  : Nat
  aborts   : Nat
  tStale   : Int
  image    : Nat
  steps    : Nat
  abortsAll : Nat
  lastRun  : Nat
  pend     : List (Nat × List Int)
  backoff  : Nat
  trims    : Trims
  capTemp  : Option Int
  tol      : List Bool
  aims     : List (Nat × Int)
  reqDue   : Option (Nat × Bool)
  wantInitial : Bool
  trig     : Bool
  marking  : Bool
  pair     : Nat × Nat
  tuned    : Option Nat
  plan     : Option CalPlan
  term     : Nat
  shed     : Nat
  spoil    : Bool
  steady   : Bool
  ran      : Tab Nat
  corner   : Option (Int × Int)
  selv     : Int × Int
  since    : Nat
  tried    : Nat
  nullStep : Option (Nat × CalPlan × CalMeas × Option Bool)
  deriving DecidableEq, Repr

/-- A warp (R154-R176): the LO placed by WARP_TUNE in Hz and the request it came from, the gain in force, the AGC
setting, the boundary of the last change that counts for the AGC window, the AGC's first decision owed, the peaks of the
picks since then, the measurements of the last complete pick and the overload bookkeeping.  `marks` are the intervals of converter samples of the present pick that R202 zeroes, from a sample
to before another; `lossAt` the first of them while the warp's synthesiser is not locked (R91, R95). `ovlOpen` that an onset of overload has been reported
and not its end; `owed` that a retune was held while the warp was SUSPENDED with its domain on (R40). `dc` is the estimate of the fine DC loop, in 2⁻³² lane
words, `comp` the exponent of the compensation it was formed under (R155), `reload` that it is to be loaded at the present boundary (R166), `news` what changed at sample 0 of the
present pick: 1 the gain, 2 the LO (R432). The route is the warp's
input in the registry. -/
structure Warp where
  lo       : Option Nat
  req      : TuneReq
  gain     : Nat
  agc      : AgcCfg
  agcFirst : Bool
  lastChg  : Nat
  peaks    : List Int
  meas     : WarpMeas
  overload : Bool
  clean    : Nat
  firstOn  : Bool
  ovlPicks : Nat
  sensor   : Sensor
  cal      : WarpCal
  marks    : List (Nat × Nat)
  lossAt   : Option Nat
  ovlOpen  : Bool
  owed     : Bool
  dc       : Int × Int
  comp     : Int
  reload   : Bool
  news     : Nat
  deriving DecidableEq, Repr

/-- Calibration as a whole (R194-R196): the result table, where it lies (beam or D1), the policy, the boundary of the
last snapshot, and the items of the factory part (kind, index, value) taken when the module left DORMANT. (log 69: DESIGN CHOICE) -/
structure Calib where
  table   : List CalEntry
  inBeam  : Bool
  cfg     : CalCfg
  lastSnap : Nat
  dirty   : Bool
  skipped : Nat
  factory : List (Nat × Nat × List Byte)
  deriving DecidableEq, Repr

/-- A FIR bank (R211, R213): its taps, whether it is symmetric, a default, and its group delay in 1/256 FIR input samples. -/
structure Bank where
  taps  : List Int
  n     : Nat
  sym   : Bool
  dflt  : Nat
  delay : Nat
  deriving DecidableEq, Repr

/-- The settings of a dent from a sample of the present pick on (R206-R219): lane, NCO word, fractional delay, the active bank, the fill length a sync
reset there has, whether there is one, whether the phase or the delay breaks there, and whether the dent runs at all. -/
structure DentSeg where
  at_   : Nat
  warp  : Nat
  nco   : Int
  tau   : Nat
  bank  : Bank
  fill  : Nat
  reset : Bool
  disc  : Bool
  live  : Bool
  deriving DecidableEq, Repr

/-- The memories of a dent's chain (R218): the integrators and the combs of the CIC, the last inputs of each half-band stage, the delay line of the
FIR and the FIR outputs the Farrow stage reads, newest first. An entry that is not there is 0. -/
structure ChainMem where
  ints  : List (Int × Int)
  combs : List (Int × Int)
  half  : List (List (Int × Int))
  line  : List (Int × Int)
  outs  : List (Int × Int)
  deriving DecidableEq, Repr

/-- A dent (R201-R229): its chain, lane, setting, NCO word and banks; its settings by the samples of the present pick, the memories of the chain, the
fill samples still to come, and the bookkeeping of TAIL (samples still to carry it, whether a run of INVALID samples lasts and
holds a sample zeroed since its last reset); the flag bytes and the samples of the last two complete picks in its ring, its counters, a bank
load in progress (bank, contents, boundary) and a deferred swap (R367). -/
structure Dent where
  rate     : Nat
  k        : Nat
  hb       : Nat
  d        : Nat
  warp     : Nat
  freq     : Nat
  bw       : Nat
  tau      : Nat
  nco      : Int
  active   : Nat
  bankA    : Bank
  bankB    : Bank
  segs     : List DentSeg
  mem      : ChainMem
  fillLeft : Nat
  tailLeft : Nat
  inRun    : Bool
  runZero  : Bool
  ring     : List Byte
  ringPrev : List Byte
  words    : List (Int × Int)
  wordsPrev : List (Int × Int)
  invalid  : Nat
  satur    : Nat
  loading  : Option (Nat × Bank × Nat)
  defer    : Option Instr
  deriving DecidableEq, Repr

/-- The reed as a whole (R207, R228): the phase offset O and the saturated samples since D7 came on. -/
structure Reed where
  offset : Int
  satur  : Nat
  deriving DecidableEq, Repr

/-- The declared figures of a weave (R241). -/
structure Cost where
  cycles  : Nat
  task    : Nat
  viterbi : Nat
  rs      : Nat
  fft     : Nat
  tdi     : Nat
  beam    : Nat
  dram    : Nat
  deriving DecidableEq, Repr

/-- A weave (R237-R254): type, priority, group, flags, type block, depth, declared figures, dents, shed cause, and its miss
bookkeeping. `admitted` orders weaves by admission; `missing` says a stage deadline was missed in the present pick. `since` is the pick at which it last
became ACTIVE, `sinceOrd` that boundary; `readmit` that a WEAVE_START has been accepted while it was shed (R238); `rsNow` counts the Reed–Solomon codewords
submitted in the present pick (R295). `pad` are the output samples that its dents' delays fill (R258, R299), `own` the samples of the present pick, by dent, at which the
weave itself has moved a fractional delay (R258). Of the input, in 1/6144 ms: `gaps` are for each dent the spans with samples INVALID or DISCONTINUITY (R298), `ovl` and `pd` the
capture picks with samples OVERLOAD or SATURATED, and PROBE_DISTURBED; `avail` says of the last capture picks, by boundary count, which dents had weight in each quarter (R274). -/
structure Weave where
  type     : Nat
  prio     : Nat
  group    : Nat
  notify   : Bool
  start    : Bool
  block    : List Byte
  depth    : Nat
  cost     : Cost
  dents    : List Handle
  optMask  : Nat
  shedCause : Nat
  missRun  : Nat
  missed   : Nat
  sinceMiss : Option Nat
  exempt   : Nat
  missing  : Bool
  lastMiss : Bool
  used     : Nat
  usedNow  : Nat
  peaks    : List Nat
  since    : Nat
  sinceOrd : Nat
  readmit  : Bool
  rsNow    : Nat
  admitted : Nat
  pad      : Nat
  own      : List (Nat × Nat)
  gaps     : List (List (Nat × Nat))
  ovl      : List (Nat × Nat)
  pd       : List (Nat × Nat)
  avail    : List (Nat × List Nat)
  deriving DecidableEq, Repr

/-- A task waiting or running (R231, R242): its weave, capture pick by boundary count, stage, declared cycles, and the KiB of its working set, which
lies in the local memory of the shuttle that runs it. -/
structure Task where
  weave : Nat
  cap   : Nat
  stage : Nat
  cycles : Nat
  set_  : Nat
  deriving DecidableEq, Repr

/-- An accelerator job waiting or running (R233); `dead` once its stage was stopped. -/
structure Job where
  weave : Nat
  cap   : Nat
  stage : Nat
  cls   : Nat
  cycles : Nat
  order : Nat
  dead  : Bool
  deriving DecidableEq, Repr

/-- A stage in progress (R235): tasks and jobs outstanding, and the shuttles that have taken a task of it (R231). -/
structure Stage where
  weave : Nat
  cap   : Nat
  stage : Nat
  tasks : Nat
  jobs  : Nat
  refused : Bool
  ran   : List Nat
  deriving DecidableEq, Repr

/-- The shuttle cluster and its scheduler (R230-R254): the task running on each shuttle, ready tasks, the job running on each
engine (by class and engine) and queued jobs, stages in progress, the captures MISSED, the last stage of each capture that is over (R235), and the
Reed–Solomon codewords that wait for the picks of the output buffer (R295). -/
structure Cluster where
  shuttles : Tab Task
  ready    : List Task
  engines  : Tab Job
  jobs     : List Job
  stages   : List Stage
  dead     : List (Nat × Nat)
  prog     : List (Nat × Nat × Nat)
  late     : List (Nat × Nat × List JobReq)
  jobCount : Nat
  refusal  : Nat
  missedAll : Nat
  admitted : Nat
  deriving DecidableEq, Repr

/-- An AF list (R280): its key in kHz (0 for method A), the count announced, the entries with how often each has arrived
and whether it is a regional variant, and the list published with its pick. `seen` orders keys by last reception. -/
structure AfList where
  key     : Nat
  count   : Nat
  entries : List (Nat × Nat × Bool)
  pubd    : List (Nat × Bool)
  pubPick : Nat
  seen    : Nat
  deriving DecidableEq, Repr

/-- The pilot or carrier PLL (R269, R283): whether it is locked, for how long, in 1/6144 ms, its phase error has been small, large, and its tone weak, and the
reading in force. -/
structure Pll where
  locked : Bool
  good   : Nat
  wide   : Nat
  weak   : Nat
  last   : PllRead
  deriving DecidableEq, Repr

/-- A block of an RDS group (R276): its class (0 error-free, 1 corrected, 2 uncorrectable), the offset word it carried (0 A, 1 B, 2 C, 3 C′, 4 D, 5 E) and its
information word. -/
structure RdsBlk where
  cls  : Nat
  off  : Nat
  word : Nat
  deriving DecidableEq, Repr

/-- The block decoder (R276, R277): the RDS setting it works under; error-free blocks that may become block sync, oldest first, each with its bit count and its position in
1/6144 ms; the bit count and the place in the group (0 to 3) of the last block; whether each of the last 50 was uncorrectable; the group in progress; and
the last whole group with the position of its last bit. -/
structure RdsDec where
  mode   : Nat
  chain  : List (Nat × Nat × RdsBlk)
  bits   : Nat
  place  : Nat
  recent : List Bool
  group  : List RdsBlk
  whole  : List RdsBlk
  wholeAt : Nat
  deriving DecidableEq, Repr

/-- What an FM or AM second gathers from its capture picks (R272-R276, R288): the largest peak deviation, the exceedances, the blocks by class, and how
often each branch had the largest weight; from how many of them a measurement came, the upper-band SNR readings with their count, and the measurement as it last stood (R377, R382). -/
structure AnaAcc where
  peak   : Nat
  exceed : Nat
  free   : Nat
  corrected : Nat
  uncorr : Nat
  wins   : List Nat
  picks  : Nat
  snrSum : Nat
  snrs   : Nat
  fm     : Option FmMeas
  am     : Option AmMeas
  deriving DecidableEq, Repr

/-- What an analogue weave holds (R258-R289): pilot, RDS and carrier decisions, PI acceptance, label assembly, AF lists, the
last status byte and the last second. Positions are in 1/6144 ms of the aerial timeline. `blend` is b in 2⁻³²; `held` and `out` say for how long the pilot has been there and
away (R269); `side` is the sideband of SYNC_AUTO (0 both, 1 lower, 2 upper) and `other` since when the other side has been 6 dB weaker (R284); `amps` the
carrier amplitudes of the last 1,000 capture picks (R283). `runs` are the missing runs of the combined input (R264), `muteTo` the end of the mute after the flush (R263), `told`
how far MUTE_ON and MUTE_OFF have been decided. `marks` are the changes of what the status byte and the second tell (0 RDS sync, 1 stereo, 2 blend below 1, 3 pilot, 4 carrier,
5 a narrow filter), `olds` type blocks each with the boundary count it was in force before (R260). `acc` is what each second has gathered, by the boundary count of its pick 0, `mpxGood` for how long samples
have entered the MPX power (R273), `sel` the branch of SELECT and `ratios` the a²/σ² of each branch over the last 10 ms (R274).
`piLog` are the PI values heard in the last 1,000 picks with when each was last; `piSwap`, `badRun` and
`fadeOut` that in the present pick a PI was replaced, a run of more than 50 ms came, or a long run faded the audio out. -/
structure Analogue where
  pilot    : Bool
  blend    : Nat
  filter   : Nat
  snr      : Nat
  rds      : Bool
  carrier  : Bool
  status   : Nat
  pll      : Pll
  held     : Nat
  out      : Nat
  side     : Nat
  other    : Option Nat
  adj      : Int × Int
  amps     : List Nat
  runs     : List (Nat × Nat)
  muteTo   : Nat
  told     : Nat
  marks    : List (Nat × Nat × Bool)
  olds     : List (Nat × List Byte)
  dec      : RdsDec
  acc      : Tab AnaAcc
  mpxGood  : Nat
  sel      : Nat
  ratios   : List (List Nat)
  pi       : Nat
  piOk     : Bool
  piCand   : Nat
  piCount  : Nat
  piSeen   : List (Nat × Nat)
  pty      : Nat
  tp       : Bool
  ta       : Bool
  ms       : Bool
  di       : Nat
  ecc      : Nat
  pin      : Nat
  psLast   : Tab (Nat × Nat)
  psAcc    : Tab (Nat × Nat)
  ps       : List Nat
  rtFlag   : Option Bool
  rtLast   : Tab (List Nat)
  rtAcc    : Tab (List Nat)
  rt       : List Nat
  rtPlus   : List (Nat × Nat × Nat)
  afA      : Option AfList
  afB      : List AfList
  afSeen   : Nat
  afTuned  : Option Nat
  fm       : FmSecond
  piLog    : List (Nat × Nat)
  piSwap   : Bool
  badRun   : Bool
  fadeOut  : Bool
  am       : AmSecond
  deriving DecidableEq, Repr

/-- A transmitter TII has detected (R308): whether it is listed, and level and arrival of its detections in the last 10 TII nulls, newest first. -/
structure TiiTx where
  main   : Nat
  sub    : Nat
  listed : Bool
  hist   : List (Option (Int × Int))
  deriving DecidableEq, Repr

/-- A stretch of a component's output (R297, R306, R307): its first sample and length on the 48 kHz output timeline, what the status bytes of the picks it fills say of it, and
how many of its samples are muted or lie in a fade, from its start or, `tail`, from its end. -/
structure AudioSeg where
  at_   : Nat
  len   : Nat
  conc  : Bool
  muted : Nat
  tail  : Nat
  two   : Bool
  sbr   : Bool
  sync  : Bool
  ovl   : Bool
  pd    : Bool
  missed : Bool
  deriving DecidableEq, Repr

/-- A decoder slot (R293, R319, R320): `fails` counts consecutive failed units, `bad` that a second or later one failed in the present
pick, `faded` that EV_DIGITAL_STATE told of a mute that lasts; `from_` and `until_` are the boundary counts from which, and before which, a unit's T0 lies for it to be
decoded. `audio` are the output samples formed, `next`
where the unit after the last begins, `lastT0`, `lag`, `len` and `aus` the last unit's T0, how many picks after it the unit was whole, its samples and its decoding units. `units` are the decoding units not yet counted (R377, R387): where each begins at the output, whether it
passed, and whether its payload is that of its predecessor. -/
structure DecSlot where
  comp   : Handle
  status : Nat
  codec  : Nat
  rate   : Nat
  fails  : Nat
  bad    : Bool
  faded  : Bool
  from_  : Nat
  until_ : Option Nat
  audio  : List AudioSeg
  next   : Option Nat
  lastT0 : Nat
  lag    : Nat
  len    : Nat
  aus    : Nat
  units  : List (Nat × Bool × Bool)
  deriving DecidableEq, Repr

/-- What a digital second gathers (R316): FIBs or FACs, those failed, and by subchannel or stream the Reed–Solomon codewords corrected and failed and the
decoding units failed; from how many capture picks a measurement came, and the measurement as it last stood (R377). -/
structure DigAcc where
  total  : Nat
  failed : Nat
  subs   : Tab (Nat × Nat × Nat)
  picks  : Nat
  dab    : Option DabMeas
  drm    : Option DrmMeas
  deriving DecidableEq, Repr

/-- A label or a text being received (R330): of which subchannel, service or component, its kind, its last reception or the segments of one toggle state with the number of the
last, and the tags that go with it. -/
structure TextRecv where
  key    : Nat × Option Nat
  kind   : Nat
  cset   : Nat
  mask   : Nat
  toggle : Nat
  last   : Nat
  parts  : Tab (List Byte)
  done   : Bool
  deriving DecidableEq, Repr

/-- What a digital weave holds (R290-R322): the sync state (0 SEARCH up to LOCKED), mode, MCI, slots, TII, FAC facts and the
last second; `nullAt` the boundary count of the capture pick of the last null symbol and its start in ns of it, `nullPrev` the one before. `since` is the boundary count at which the
sync state was entered, `heard` that of the last FIB that passed, `nullRun` the nulls in succession found (SEARCH) or missing (LOCKED), with `firstGone` the first of those missing or the first
frame whose FAC failed, `fine` whether the frequency lies within ±10 Hz, `lostFrom` the capture pick from which everything is erased, `interAt` that of the last change of the interleaving, `superAt` the start of the
last DRM transmission super frame. `news` is a configuration changed without an announcement with how often it has been repeated (R326), `conf` the services of the configuration in force or announced, the latter from the T0 `confFrom` on, `ending` slots whose
component has left the assignment and is still heard (R319), `texts` labels and texts being received. -/
structure Digital where
  sync    : Nat
  mode    : Nat
  facRun  : Nat
  since   : Nat
  heard   : Nat
  nullRun : Nat
  firstGone : Nat
  fine    : Bool
  lostFrom : Nat
  interAt : Option Nat
  nullPrev : Option (Nat × Nat)
  superAt : Option (Nat × Nat)
  news    : Option (Nat × List Subch × List SvcInfo)
  conf    : List SvcInfo
  confFrom : Nat
  ending  : List DecSlot
  texts   : List TextRecv
  acc     : Tab DigAcc
  mci     : Bool
  reconf  : Bool
  eid     : Nat
  subch   : List Subch
  services : Nat
  cif     : Nat
  losses  : Nat
  slots   : List DecSlot
  mismatch : Bool
  sdc     : Bool
  occ     : Nat
  constel : Nat
  inter   : Nat
  framePick : Nat
  frameNs : Nat
  nullAt  : Option (Nat × Nat)
  tii     : List TiiTx
  tiiPick : Nat
  tiiNs   : Nat
  dab     : DabSecond
  drm     : DrmSecond
  deriving DecidableEq, Repr

/-- A service (R323-R331, R342): technology 1 AM, 2 FM, 3 DAB, 4 DRM, 5 DAB_ENSEMBLE; `raster` is the raster of R335, `occ` the DRM
occupancy last signalled. -/
structure Service where
  tech    : Nat
  ident   : Nat
  ecc     : Nat
  eid     : Nat
  identified : Bool
  tp      : Bool
  ta      : Bool
  data    : Bool
  ca      : Bool
  survey  : Bool
  adopted : Bool
  rbds    : Bool
  pty     : Nat
  weave   : Option Nat
  freq    : Nat
  raster  : Nat
  field   : Nat
  occ     : Nat
  links   : List Link
  labels  : List LabelRec
  first   : Nat
  last    : Nat
  lastOrd : Nat
  deriving DecidableEq, Repr

/-- A component (R323, R342); `recs` are the side-data records formed in the present pick (R332). -/
structure Component where
  svc     : Nat
  info    : CompInfo
  labels  : List LabelRec
  discarded : Nat
  recs    : List (List Byte)
  deriving DecidableEq, Repr

/-- A change of the services of a weave that waits for a boundary (R326). -/
structure SvcChange where
  due   : Nat
  weave : Nat
  subch : List Subch
  svcs  : List SvcInfo
  ident : Option (Nat × Nat)
  deriving DecidableEq, Repr

/-- A channel of a survey that has its dent (R334): frequency in Hz, its state (1 dent created, 2 candidate, 3 weave, 4 identified,
5 being released), its dent and weave, and the boundary count from which the one that works on it stands. -/
structure SurveyChan where
  freq  : Nat
  st    : Nat
  dent  : Nat
  weave : Nat
  since : Nat
  deriving DecidableEq, Repr

/-- The survey (R333-R336): flags and entries, the entry and position it is at, the boundary at which the position begins or none once it has, the
next channel of the position without a dent, the boundary count at which a dent of the entry was last created or the position began, the channels in progress, the counts of the entry and those of the entries before it, the start
pick and the weaves kept. -/
structure Survey where
  running : Bool
  flags   : Nat
  entries : List SurveyEntry
  entry   : Nat
  pos     : Nat
  posDue  : Option Nat
  next    : Nat
  made    : Nat
  chans   : List SurveyChan
  scanned : Nat
  cands   : Nat
  found   : Nat
  totScan : Nat
  totCand : Nat
  totFound : Nat
  start   : Nat
  kept    : List Nat
  deriving DecidableEq, Repr

/-- An estimate held by the time policy (R340). -/
structure TimeEst where
  ident  : Nat
  source : Nat
  e      : Int
  ord    : Nat
  deriving DecidableEq, Repr

/-- The time policy (R339-R341): `setDue` the setting decided, with its boundary, C in ms, source and members. -/
structure TimePol where
  cfg     : TimeCfg
  held    : List TimeEst
  cand    : Option Int
  members : Nat
  source  : Nat
  lastSet : Nat
  count   : Nat
  setDue  : Option (Nat × Int × Nat × Nat)
  deriving DecidableEq, Repr

/-- The states of a source of a follow set (R354, R375). -/
inductive SrcState where
  | current | absent | waiting | acquiring | verified | primed
  deriving DecidableEq, Repr

/-- A source of a follow set (R344-R355): its entry as commanded, its state, delay, the lags of its latest agreeing estimates
(newest first), the latest ρ in 0.001, the run of agreeing estimates, the pick of the latest estimate, whether it is failed, the last failure code, since when and the
boundary count of the pick in which a condition was last decided, since when it is PRIMED, the dent and weave the module owns for it, and whether
it is placed on the hop warp; when a run-ahead creation was last refused (R355), the boundary count from which it is a source, the output picks of the last 3 s that carry
CONCEALED, MUTED or MISSED (R352), and the spans of the last 9 s, in positions at 48 kHz, for which its component produced no samples (R364). -/
structure Src where
  req     : SrcReq
  st      : SrcState
  d       : Int
  lags    : List Int
  rho     : Nat
  agree   : Nat
  lastEst : Nat
  failed  : Bool
  code    : Nat
  failOrd : Nat
  condOrd : Nat
  primedOrd : Nat
  dent    : Option Nat
  weave   : Option Nat
  onHop   : Bool
  tried   : Nat
  from_   : Nat
  dirty   : List Nat
  silent  : List (Nat × Nat)
  deriving DecidableEq, Repr

/-- A stretch of a follow set's output from a position on (R348, R360, R361): the current source with its hold, and in a fade the candidate with its buffer delay, c, F and u
where the fade is undone. -/
structure Leg where
  from_ : Nat
  old   : Handle
  oldH  : Int
  new   : Handle
  newH  : Int
  c     : Nat
  len   : Nat
  undo  : Option Nat
  deriving DecidableEq, Repr

/-- A fade of a follow set (R360, R361): the entry, its commit point (position at 48 kHz, sample, pick), its length in samples, the candidate's delay at
the commit point, the boundary count of u with the failure code where an undo has been decided, and the position of u once the undo runs. -/
structure Fade where
  entry   : Nat
  at_     : Nat
  sample  : Nat
  pick    : Nat
  len     : Nat
  d       : Int
  undo    : Option (Nat × Nat)
  undoing : Option Nat
  deriving DecidableEq, Repr

/-- A follow set (R344-R376): its sources in entry order, H, group, NOTIFY, policy, the fade in progress, c of the last completed fade, the counters,
when a pending commit was accepted, whether rotation on the hop warp is stopped, the boundary at which the next visit begins, the entry being
visited since a boundary, the number of entries an accepted FOLLOW_SET has charged for (R372), and the stretches of its output, newest first. -/
structure Follow where
  srcs    : List Src
  hold    : Nat
  group   : Nat
  notify  : Bool
  cfg     : FollowCfg
  fade    : Option Fade
  lastFade : Nat × Nat
  replaced : Nat
  switches : Nat
  undos   : Nat
  aborts  : Nat
  commitAt : Nat
  stopped : Bool
  visitEnd : Option Nat
  visiting : Option Nat
  visitAt : Nat
  charged : Nat
  legs    : List Leg
  deriving DecidableEq, Repr

/-- One second of one quantity as the window keeps it (R383): its value and counts, and whether it is included. -/
structure MeasSec where
  value : Option Int
  incl  : Bool
  num   : Nat
  den   : Nat
  deriving DecidableEq, Repr

/-- A quantity of an object: its last second with its flags, and the window, newest first (R382, R383). -/
structure Quantity where
  code  : Nat
  flags : Nat
  last  : Option Int
  secs  : List MeasSec
  deriving DecidableEq, Repr

/-- The measurement of an object (R377-R383): its window W, pick 0 of its last complete second and its quantities; of a dent also how many picks of the present second
have yielded a measurement, and whether a sample of it carried OVERLOAD or SATURATED, or PROBE_DISTURBED (R378). -/
structure Meas where
  w      : Nat
  second : Nat
  qs     : List Quantity
  picks  : Nat
  ovl    : Bool
  pd     : Bool
  deriving DecidableEq, Repr

/-- A threshold (R384): `live` once it has taken effect, `side` tells a raise on the high side, `run` the consecutive evaluated
seconds towards a change. -/
structure Threshold where
  index  : Nat
  obj    : Handle
  req    : ThrReq
  live   : Bool
  raised : Bool
  side   : Bool
  run    : Nat
  deriving DecidableEq, Repr

/-- The loudness metering and audio alarms of a component (R385-R387): `start` is the pick of the integration start, none before the first
ACTIVE boundary; `silAt`, `clrAt` and `frzAt` are the picks at which the runs of low, of high and of frozen blocks began; `level` is
the last block level, none where every sample was 0. `anchor` are the first samples of the channels in the frozen interval, `rptRun` and `rptAt` the decoding units with one payload
and the pick of the first, `hist` how often each block loudness has entered the integration, `bad` the output picks (by boundary count, the last 6,000) whose status byte carried CONCEALED,
MUTED or MISSED, `shortSec` and `peakSec` the last short-term loudness and the largest true peak of the present second. -/
structure Loud where
  mom     : Option Int
  short   : Option Int
  integ   : Int
  maxMom  : Option Int
  maxShort : Option Int
  peak    : Option Int
  maxPeak : Option Int
  gated   : Nat
  excl    : Nat
  start   : Option Nat
  mon     : MonCfg
  silence : Bool
  frozen  : Bool
  rep     : Bool
  silRun  : Nat
  silClr  : Nat
  frzRun  : Nat
  silAt   : Nat
  clrAt   : Nat
  frzAt   : Nat
  anchor  : List Int
  level   : Option Int
  rptRun  : Nat
  rptAt   : Nat
  hist    : List (Int × Nat)
  bad     : List (Nat × Nat)
  shortSec : Option Int
  peakSec : Option Int
  deriving DecidableEq, Repr

/-- A verification (R388-R391): `live` once it has taken effect;
`st` is 0 UNKNOWN, 1 MATCH, 2 MISMATCH; `lags` are the lags of the consecutive checks at or above the match threshold, newest first, in
MATCH those outside the delay, and `inRun` those that renew it; `low` counts the consecutive checks below the mismatch threshold,
`unformed` those not formed; `dropAt` is the boundary count of the last pick in which a frame of the reference was absent or discarded (R390). -/
structure Verif where
  req    : VerifyReq
  group  : Nat
  live   : Bool
  st     : Nat
  lags   : List Int
  inRun  : List Int
  low    : Nat
  unformed : Nat
  delay  : Int
  rho    : Nat
  lag    : Int
  formed : Nat
  notFormed : Nat
  last   : Nat
  lastFormed : Bool
  startOrd : Nat
  dropAt : Option Nat
  deriving DecidableEq, Repr

/-- The states of a TDM port (R408, R409, R416). -/
inductive TdmState where
  | off | running | syncing | clockLost | rateFault | pllHold
  deriving DecidableEq, Repr

/-- A frame of an input port as the ring holds it (R397, R410): its flag byte, and the words of the enabled slots, compacted. -/
structure InFrame where
  flag  : Byte
  words : List (BitVec 32)
  deriving DecidableEq, Repr

/-- A TDM port (R394-R418). `good` counts consecutive frames of exactly B periods while SYNCING, `glitchOrd` the boundary
count of the last glitch; `pos` counts the grid positions of the present pick that have come, `may` that the port has not slipped in the present frame (R406). Of an input
port, `fifo` are the frames received and not yet read, `dropNext` that the next one carries DROPPED, `lastIn` the words of the last frame read, `frames` the positions of the
present pick, newest first, and `ring` those of the 15 picks before it (R410). Of an output port, `sent` are the words last sent by slot, `out` the levels of the last frame,
none where the pin is not driven, and `carry` those that fall into the next (R397). `driving` says that the pair lets the port drive its pins. -/
structure TdmPort where
  cfg      : TdmCfg
  st       : TdmState
  fill     : Nat
  rate     : Option Int
  dropped  : Nat
  repeated : Nat
  underruns : Nat
  overruns : Nat
  glitches : Nat
  held     : Nat
  good     : Nat
  glitchOrd : Option Nat
  pos      : Nat
  may      : Bool
  fifo     : List InFrame
  dropNext : Bool
  lastIn   : List (BitVec 32)
  frames   : List InFrame
  ring     : List (List InFrame)
  sent     : List (Nat × Nat)
  out      : List (Option Bool)
  carry    : List (Option Bool)
  driving  : Bool
  deriving DecidableEq, Repr

/-- An alignment group (R411, R412): members in order of joining with their drops, repeats, holds and underruns. `pace` is 0
none, 1 GRID, 2 PORT. -/
structure Align where
  pace    : Nat
  port    : Nat
  members : List (Handle × Nat × Nat × Nat × Nat)
  drops   : Nat
  repeats : Nat
  holds   : Nat
  deriving DecidableEq, Repr


/-- An Ethernet port (R419, R439, R441): its settings, link (0 down, 1 10 Gbit/s, 2 1 Gbit/s) and counters. `resume` is the
boundary from which sending resumes after the link came up (R436). -/
structure EthPort where
  cfg     : EthCfg
  link    : Nat
  resume  : Nat
  sent    : Nat
  discLink : Nat
  discUnres : Nat
  late    : Nat
  ignored : Nat
  deriving DecidableEq, Repr

/-- What the link and IP headers of a datagram hold (R419, R420, R423, R427): the VLAN ID and PCP of its tag, IPv6 or IPv4, DF, the DSCP, the addresses and the UDP ports. -/
structure NetHead where
  tag   : Option (Nat × Nat)
  v6    : Bool
  df    : Bool
  dscp  : Nat
  src   : Nat
  dst   : Nat
  sport : Nat
  dport : Nat
  deriving DecidableEq, Repr

/-- An Ethernet output stream (R421-R442): its request, unresolved destinations by port, counters, the queue of R431 (records
in order), the LSC sequence by port, whether the next packet is the first of the stream, in how many picks from now it is the
first after a renumbering (0 none), the boundaries of the last underrun and the last dropped record, the q of the pick before,
the 48 kHz positions of the present pick at which it repeats, its last sample by channel (R426), for each port the headers and the UDP payloads of the datagrams of the last pick (R423, R427, R428), and the last pick
payload (R423, R429-R432);
`ready` is the payload of I/Q formed in the pick before, and `fed` that its source was ACTIVE then. -/
structure EthStream where
  req      : EthReq
  unres    : List Bool
  under    : Nat
  holds    : Nat
  dropped  : Nat
  queue    : List (List Byte)
  dropNext : Bool
  sent     : Nat
  seqs     : List Nat
  first    : Bool
  marker   : Nat
  lastUnder : Option Nat
  lastDrop : Option Nat
  prevQ    : Int
  heldAt   : List Nat
  last     : List Int
  out      : List (Nat × NetHead × List (List Byte))
  pay      : List Byte
  ready    : List Byte
  fed      : Bool
  deriving DecidableEq, Repr

/-- An output stream: a TDM stream (R402), with the samples of a dent that leave in the present pick and those that left in the one before (R401), or an Ethernet stream
(R421). -/
inductive StreamKind where
  | tdm (r : TdmStreamReq) (buf bufPrev : List (Int × Int))
  | eth (e : EthStream)
  deriving DecidableEq, Repr

/-- An output stream with its alignment group. -/
structure Stream where
  kind  : StreamKind
  group : Option Nat
  deriving DecidableEq, Repr

/-- The management bus (R503-R515): the partial packet and the index its next segment must have, whether segments are
ignored until FIRST, the REPLY_GET cursor, the error bits, attention, the
pulses sent, the bytes last offered to the host, the frozen RTC shadow, PEC_REQUIRED and MB_RTC in force, and the
counters. -/
structure Mb where
  partialPkt : Option (List Byte)
  expect   : Nat
  skipping : Bool
  cursor   : Nat
  segErr   : Bool
  pecErr   : Bool
  attn     : Bool
  pulses   : Nat
  out      : List Byte
  shadow   : Option (Nat × Bool × Nat)
  pecReq   : Bool
  rtcOpen  : Bool
  timeouts : Nat
  pecFails : Nat
  deriving DecidableEq, Repr

/-- The PB controller states (R523, R528). -/
inductive PbState where
  | off | idle | waitFree | busy | reset | recovering | sdaStuck | sclStuck
  deriving DecidableEq, Repr

/-- A PB transfer held (R519): its command and its attempts repeated. `late` says that 250 ms have passed while an attempt
ran. -/
structure PbXfer where
  hdr     : Hdr
  req     : PbReq
  retries : Nat
  late    : Bool
  deriving DecidableEq, Repr

/-- What stands on PB, in order (R518): a START, a STOP, a byte the module drives, or one it reads, with its acknowledge bit. -/
inductive PbItem where
  | start | stop
  | sent (b : Byte) (ack : Bool)
  | got (b : Byte) (ack : Bool)
  deriving DecidableEq, Repr

/-- The peripheral bus (R516-R530). The head of `queue` is the transfer running or next to run; `wire` is the last completed transaction as it stood on the bus, `backoff` the
random delay in µs last drawn (R520), and `stuckRep` says that PB_SDA_STUCK has been queued in the present episode. -/
structure Pb where
  enable  : Bool
  fast    : Bool
  stretch : Nat
  state   : PbState
  queue   : List PbXfer
  resetLow : Bool
  stuckRep : Bool
  done    : Nat
  arb     : Nat
  arbCond : Nat
  nacks   : Nat
  stretches : Nat
  sclStucks : Nat
  sdaStucks : Nat
  recovered : Nat
  wire    : List PbItem
  backoff : Nat
  deriving DecidableEq, Repr

/-- The states of an RTC alarm (R541). -/
inductive AlarmState where
  | disarmed | armed | fired
  deriving DecidableEq, Repr

/-- An RTC alarm (R541, R542): `down` says that it fired since the firmware last ran. -/
structure Alarm where
  value   : Nat
  st      : AlarmState
  skipped : Bool
  down    : Bool
  deriving DecidableEq, Repr

/-- The real-time clock (R531-R548): the state held in D0, the crystal cycle within the trim period, the trim of the present
block, the supply, and what the firmware keeps of the cell: the last measurement, BACKUP_LOW, the threshold and whether the
previous measurement was low. `latched` is the count in force at the last pick boundary, `latch` the counts latched at the last 4,000 boundaries, newest first;
`powered` that D0 has a supply. `ticks` counts the ticks whatever the count is set to, and `marks` are, newest first, the place on the grid and `ticks` at each 1,000th boundary
of the last 1,000 s through which the timebase has been LOCKED (R547). -/
structure Rtc where
  count    : BitVec 56
  osf      : Bool
  d0Reset  : Bool
  trim     : Int
  trimRun  : Int
  cycle    : Nat
  running  : Bool
  vsw      : Nat
  weekday  : Nat
  dayOff   : Nat
  alarms   : List Alarm
  episodes : Nat
  lastDur  : Nat
  lastRet  : Nat
  onBackup : Bool
  epStart  : Nat
  epDown   : Bool
  lowThr   : Nat
  vbackup  : Nat
  low      : Bool
  lowPrev  : Bool
  latched  : BitVec 56
  latch    : List (BitVec 56)
  powered  : Bool
  ticks    : Nat
  marks    : List (Nat × Nat)
  deriving DecidableEq, Repr

/-- The pair states (R608, R619). -/
inductive PairState where
  | unpaired | joining | solo | isolated | primary | syncing | synced
  deriving DecidableEq, Repr

/-- What the last frame of the partner said (R603). -/
structure Partner where
  state  : Nat
  serial : Nat
  device : Nat
  mode   : Nat
  flags  : Nat
  pick   : Nat
  agree  : Bool
  label  : Nat
  deriving DecidableEq, Repr

/-- The redundant pair (R601-R621). `cfg` is the PAIR record in force; `drive` says that the module holds OWN low, `ownLow`
that it last saw the line low; `held` are the announcements received and not yet applied, `out` those waiting to be sent,
`outBytes` the bytes of commands among those of the present pick; `own` is the frame of the present pick; `fastTake` the ns from OWN
seen released to the first TDM frame; `ownerMode` and `ownerDoms` the mode and domains the owner last announced; `applying` is set while
an announcement is applied, to the handle it issues or the null handle; `snapOut` is what is still to be sent of a snapshot, `snapPos` its
offset, `snapEnd` the boundary its last segment names; `ready` that the join conditions of R609 have held, `mirrorAt` the boundary at
which MIRROR is entered, `mismatch` that a disagreement of the partners has been reported, `built` that the objects of a snapshot have been
built; `joinRun` counts the consecutive frames that met R609, `skewRun` those with the skew beyond ±10 µs, and `pickDiff` says that the last one
named another pick than the module's own (R609). -/
structure Pair where
  cfg      : PairCfg
  st       : PairState
  owner    : Bool
  drive    : Bool
  ownLow   : Bool
  link     : Bool
  partner  : Option Partner
  missRun  : Nat
  misses   : Nat
  skew     : Option Int
  delay    : Nat
  mapDiff  : Nat
  failovers : Nat
  diverged : Nat
  fault    : Bool
  handover : Option Nat
  snapshot : Bool
  snapBuf  : List Byte
  rebuild  : Option Nat
  held     : List Ann
  out      : List Ann
  outBytes : Nat
  equalRun : Nat
  diffRun  : Nat
  join     : Option Nat
  takeDue  : Option Nat
  takeIso  : Bool
  fastTake : Nat
  own      : List Byte
  ownerMode : Nat
  ownerDoms : Nat
  applying : Option Handle
  snapOut  : List Byte
  snapPos  : Nat
  snapEnd  : Option Nat
  ready    : Bool
  mirrorAt : Option Nat
  mismatch : Bool
  built    : Bool
  joinRun  : Nat
  skewRun  : Nat
  pickDiff : Bool
  deriving DecidableEq, Repr

/-- The state of the block: everything the spec gives it, and the queue of commands that wait. (log 1: DESIGN CHOICE) -/
structure State where
  pending : List Instr
  ident   : Ident
  sys     : Sys
  proto   : Proto
  auth    : Auth
  audit   : Audit
  recs    : Records
  fw      : Firmware
  reg     : Registry
  sched   : List Pend
  tb      : Timebase
  clk     : Clocks
  syn     : List Synth
  ports   : List Port
  tuners  : List Tuner
  probe   : Probe
  warps   : List Warp
  calib   : Calib
  dents   : Tab Dent
  reed    : Reed
  weaves  : Tab Weave
  cluster : Cluster
  ana     : Tab Analogue
  dig     : Tab Digital
  svcs    : Tab Service
  comps   : Tab Component
  svcChg  : List SvcChange
  invFull : Bool
  survey  : Survey
  time    : TimePol
  follows : Tab Follow
  meas    : List (Handle × Meas)
  thrs    : List Threshold
  louds   : Tab Loud
  verifs  : Tab Verif
  tdm     : List TdmPort
  streams : Tab Stream
  aligns  : Tab Align
  eth     : List EthPort
  mb      : Mb
  pb      : Pb
  periphs : Tab Periph
  rtc     : Rtc
  pair    : Pair
  deriving DecidableEq, Repr

/-- An empty reply slot. -/
def Slot.empty : Slot := ⟨none, none, false, false, false⟩

/-- Every timebase setting at its reset value (R69). -/
def tbCfgReset : TbCfg := ⟨3, 0, 0, 3, 10000, 100, 10, 0, 0⟩

/-- The timebase while D2 has not come on (R46, R47, R53). (log 5: DESIGN CHOICE) -/
def Timebase.reset : Timebase :=
  { pick := 0, label := 0, state := .freerun, source := 0, everLocked := false
    qual := List.replicate 5 false, qualAt := List.replicate 5 0, ptpBest := [false, false], exchanges := [0, 0]
    cfg := tbCfgReset, e := 0, es := 0, freq := 0, word := 0, wordBefore := 0, words := [], slewRem := 0, holdOrd := 0
    holdTemp := 0, steps := 0, changes := 0, trims := List.replicate 9 0, moves := [], plan := none, labelDue := none
    ptpDecided := false, pickInSum := 0, pickInCount := 0, pickInMean := none, secs := none
    pickMs := none, runs := [⟨1, 0, 0⟩], ppsLeft := 0, pickPulse := 0 }

/-- The clock tree while D2 has not come on (R81): NORMAL, spread off. (log 5: DESIGN CHOICE, 45: DEDUCED, 139: DESIGN CHOICE) -/
def Clocks.reset : Clocks :=
  { state := .normal, mdll := true, audio := true, mode := 0, amount := 0, ringKHz := 0, retries := 0, degrades := 0
    shedOrder := [], shedDue := false, audioHold := false, held := none }

/-- A synthesiser that is OFF with its default seed, dither enabled (R88). (log 5: DESIGN CHOICE) -/
def Synth.off (seed : Nat) : Synth :=
  { state := .off, freq := 0, code := 0, n := 0, f := 0, band := 0, amp := 0, cp := 0, lf := 0, profile := 0xFF
    dither := true, seed := seed, pendDith := none, unlocks := 0, searches := 0, settle := 0, failRep := false
    lossMark := false, first := (0, 0), clocks := 0, profiles := [] }

/-- The default seeds of SYN0 to SYN6 (R88). -/
def seeds : List Nat := [0x5A3C71, 0x2E94B3, 0x710D5E, 0x0BE627, 0x467A19, 0x63C08D, 0x3851F2]

/-- A port with every setting at its reset value (R125, R126). (log 5: DESIGN CHOICE, 59: DEDUCED) -/
def Port.reset : Port :=
  { loop := 0, shared := false
    feed := { state := .off, flags := 0x0C, limit := 1, mv := 0, ma := 0, episodes := 0, total := 0, queued := false
              vfeed := false, since := 0 }
    faults := [] }

/-- A tuner with no preset written, preset 0 in force (R131). (log 5: DESIGN CHOICE) -/
def Tuner.reset : Tuner :=
  { presets := [], inForce := 0, lastOrd := none, lastPick := 0, ops := List.replicate 3 0, wear := false
    request := false, priority := false, waiting := false, result := none }

/-- An idle probe (R151). (log 5: DESIGN CHOICE) -/
def Probe.reset : Probe :=
  { state := .idle, req := ⟨nullHandle, 0, 0, 0, 0, 0, 0, []⟩, level := 0, measured := 0, due := 0, start := 0
    startOrd := 0, point := 0, losses := 0, lowCount := 0, lostNow := [], openNow := [], stopAt := none, calibrating := false
    levelCal := false, calTemp := 0, limited := false, gnt := false, measPort := none, measDue := 0, measFreqs := []
    measThr := 0, measActive := false, measPreset := 0, measOwed := none, coexReq := false, coexPrio := false
    temp := ⟨[], none, 0, none, false, 0⟩ }

/-- Trims at mid-scale (R181). -/
def Trims.mid : Trims := ⟨0, 0, 0, 0, 32, 32, 16⟩

/-- The calibration of a warp that has none (R181, R192). (log 5: DESIGN CHOICE) -/
def WarpCal.reset : WarpCal :=
  { state := .initial, full := false, limit := false, lim := [], changed := false, lastGap := 0, aborts := 0
    tStale := 0, image := 0, steps := 0, abortsAll := 0, lastRun := 0, pend := [], backoff := 0, trims := Trims.mid
    capTemp := none, tol := [], aims := [], reqDue := none, wantInitial := false
    trig := false, marking := false, pair := (0, 0), tuned := none, plan := none, term := 0, shed := 0, spoil := false
    steady := false, ran := [], corner := none, selv := (0, 0), since := 0, tried := 0, nullStep := none }

/-- A warp routed to no port, with no LO set and G = 0 in MANUAL (R110, R163); `gMax` is 60 or 40. (log 5: DESIGN CHOICE) -/
def Warp.reset (gMax : Nat) : Warp :=
  { lo := none, req := ⟨0, 0, 0xFF, 0, 0⟩, gain := 0, agc := ⟨0, 0, 0, gMax, -60, -100, -200, 6, 200⟩, agcFirst := false
    lastChg := 0, peaks := [], meas := ⟨0, 0, 0, false, 0⟩, overload := false, clean := 0, firstOn := false, ovlPicks := 0
    sensor := ⟨[], none, 0, none, false, 0⟩, cal := WarpCal.reset, marks := [], lossAt := none, ovlOpen := false, owed := false
    dc := (0, 0), comp := 0, reload := false, news := 0 }

/-- A chain whose memories are clear (R218). -/
def ChainMem.clear : ChainMem := ⟨[], [], [], [], []⟩

/-- Calibration with an empty table and the reset policy (R194, R196). (log 5: DESIGN CHOICE) -/
def Calib.reset : Calib :=
  { table := [], inBeam := false, cfg := ⟨30, 0x0F, 0, 600⟩, lastSnap := 0, dirty := false, skipped := 0, factory := [] }

/-- The scheduler with nothing in it (R230-R254). (log 5: DESIGN CHOICE) -/
def Cluster.reset : Cluster :=
  { shuttles := [], ready := [], engines := [], jobs := [], stages := [], dead := [], prog := [], late := [], jobCount := 0, refusal := 0
    missedAll := 0, admitted := 0 }

/-- No survey (R336). (log 5: DESIGN CHOICE) -/
def Survey.reset : Survey :=
  { running := false, flags := 0, entries := [], entry := 0, pos := 0, posDue := none, next := 0, made := 0, chans := [], scanned := 0, cands := 0
    found := 0, totScan := 0, totCand := 0, totFound := 0, start := 0, kept := [] }

/-- The time policy at its reset values (R339). (log 5: DESIGN CHOICE) -/
def TimePol.reset : TimePol :=
  { cfg := ⟨0, 0x0F, 2, 37, 1000, 2000, 10⟩, held := [], cand := none, members := 0, source := 0, lastSet := 0, count := 0
    setDue := none }

/-- A TDM port that is OFF (R414). (log 5: DESIGN CHOICE) -/
def TdmPort.reset : TdmPort :=
  { cfg := ⟨0, 0, 0, 0, 0, 0, 0, 0, 0, 0⟩, st := .off, fill := 0, rate := none, dropped := 0, repeated := 0, underruns := 0
    overruns := 0, glitches := 0, held := 0, good := 0, glitchOrd := none, pos := 0, may := true, fifo := [], dropNext := false, lastIn := []
    frames := [], ring := [], sent := [], out := [], carry := [], driving := true }

/-- An Ethernet port at the reset values of R439. (log 5: DESIGN CHOICE) -/
def EthPort.reset : EthPort :=
  { cfg := ⟨0, 0, 0, 1500, 0, 0, 0, 0, 0, 0, 34, 46, 0, 49440⟩, link := 0, resume := 0, sent := 0, discLink := 0
    discUnres := 0, late := 0, ignored := 0 }

/-- The management bus after a reset (R506). (log 5: DESIGN CHOICE) -/
def Mb.reset : Mb :=
  { partialPkt := none, expect := 0, skipping := false, cursor := 0, segErr := false, pecErr := false, attn := false
    pulses := 0, out := [], shadow := none, pecReq := false, rtcOpen := false, timeouts := 0, pecFails := 0 }

/-- The peripheral bus after a reset (R525). (log 5: DESIGN CHOICE) -/
def Pb.reset : Pb :=
  { wire := [], backoff := 0, enable := false, fast := false, stretch := 10, state := .off, queue := [], resetLow := false, stuckRep := false, done := 0
    arb := 0, arbCond := 0, nacks := 0, stretches := 0, sclStucks := 0, sdaStucks := 0, recovered := 0 }

/-- D0 at its power-up (R535). (log 5: DESIGN CHOICE) -/
def Rtc.powerUp : Rtc :=
  { count := 0, osf := true, d0Reset := true, trim := 0, trimRun := 0, cycle := 0, running := true, vsw := 960, weekday := 0
    dayOff := 0, alarms := [⟨0, .disarmed, false, false⟩, ⟨0, .disarmed, false, false⟩], episodes := 0, lastDur := 0
    lastRet := 0, onBackup := false, epStart := 0, epDown := false, lowThr := 2200, vbackup := 0, low := false
    lowPrev := false, latched := 0, latch := [], powered := true, ticks := 0, marks := [] }

/-- The PAIR record as manufactured: ENABLE clear and every other field zero (R562). (log 6: DESIGN CHOICE) -/
def pairCfgReset : PairCfg := ⟨0, 0, 0, 0, [0, 0, 0, 0]⟩

/-- An unpaired module: OWNER reads 1 and OWN is not driven (R605). (log 5: DESIGN CHOICE) -/
def Pair.reset : Pair :=
  { cfg := pairCfgReset, st := .unpaired, owner := true, drive := false, ownLow := false, link := false, partner := none
    missRun := 0, misses := 0, skew := none, delay := 0, mapDiff := 0, failovers := 0, diverged := 0, fault := false
    handover := none, snapshot := false, snapBuf := [], rebuild := none, held := [], out := [], outBytes := 0, equalRun := 0
    diffRun := 0, join := none, takeDue := none, takeIso := false, fastTake := 0
    own := [], ownerMode := 0, ownerDoms := 0, applying := none, snapOut := [], snapPos := 0, snapEnd := none
    ready := false, mirrorAt := none, mismatch := false, built := false, joinRun := 0, skewRun := 0, pickDiff := false }

/-- The event queue, the slots and the counters after a reset (R458, R464, R465). (log 5: DESIGN CHOICE) -/
def Proto.reset : Proto :=
  { spi := Slot.empty, mb := Slot.empty, udp := [], sentCount := 0, queue := [], events := [], nextSeq := 1, newestSeq := 0
    discardedEv := 0, notify := ⟨3, 0, nullHandle, 0, 0⟩, spiTaken := 0, spiDiscarded := 0, mbTaken := 0, mbDiscarded := 0
    udpTaken := 0, udpRefused := 0, repeats := 0, badCrc := 0, miso := [], sentUdp := [] }

/-- The LIMITS record as manufactured: every value at its hardware ceiling (R121, R562). (log 6: DESIGN CHOICE) -/
def limitsReset : Limits := ⟨1000, List.replicate 4 ⟨350, -80, 0⟩⟩

/-- A record copy made whole: header, body and commit word (R563). -/
def mkCopy (type writer seq rtc : Nat) (body : List Byte) : Copy :=
  let crc := copyCrc type writer 1 body.length seq rtc body
  { type := type, writer := writer, format := 1, length := body.length, seq := seq, crc := crc, rtc := rtc, body := body
    commit := crc ^^^ 0xA55A7440 }

/-- A record as manufactured, both copies alike, copy 0 in force (R562, R569). -/
def Record.made (type : Nat) (body : List Byte) : Record :=
  { c0 := mkCopy type 3 1 0 body, c1 := mkCopy type 3 1 0 body, st := .copy0, writes := 0, failed := 0, refusals := 0
    owed := 0 }

/-- The ROLEKEYS body as manufactured: the maker key present, the others absent (R562, R573). (log 6: DESIGN CHOICE) -/
def roleKeysMade : List Byte := zeros 72 ++ byte 1 ++ zeros 3 ++ leBytes 32 Config.makerKey.toNat

/-- The five records as manufactured (R562). (log 6: DESIGN CHOICE) -/
def Records.made : Records :=
  { recs := [Record.made 0 (zeros 4), Record.made 1 (zeros 4), Record.made 2 (zeros 16), Record.made 3 roleKeysMade
             , Record.made 4 (limitsBytes limitsReset)]
    jobs := [], cfgDirty := none, trimSeg := [], limits := some limitsReset }

/-- Firmware slots empty, the first key slot as fused at manufacture (R576). (log 6: DESIGN CHOICE) -/
def Firmware.made : Firmware :=
  { slot0 := ⟨[], 0⟩, slot1 := ⟨[], 0⟩, direct := ⟨[], 0⟩
    keys := [⟨true, false, leBytes 64 Config.fwKey.toNat⟩, ⟨false, false, []⟩, ⟨false, false, []⟩, ⟨false, false, []⟩]
    makerFuse := leBytes 32 Config.makerKey.toNat, counter := 0, locked := false, preferred := 0, running := 0xFF
    runVersion := 0, chosen := none, loadState := 0, loadTarget := 0, loadResult := 0, loadLen := 0, loadBytes := [] }

/-- Mode DORMANT after the first application of VMAIN, D0 and D1 on, straps ADDR 0 and BOOT_SRC HOST (R585-R590, R598). (log 4: DESIGN CHOICE, 5: DESIGN CHOICE) -/
def Sys.reset : Sys :=
  { mode := .dormant, domains := 3#10, faulted := 0, ord := 0, upBase := 0, cause := .powerOn, bootCount := 1, vmain := 0
    temp := 0, vmainGood := true, resetN := true, addr := 0, boot := 1, pinAddr := 0, pinBoot := 1, halt := false
    source := none, resetReq := none, pfail := false, missedAck := 0, free := 0 }

/-- The block right after its first reset: VMAIN has become good, the boot ROM has recovered the records and serves SPI and MB in
DORMANT (R590). (log 1: DESIGN CHOICE, 4: DESIGN CHOICE, 6: DESIGN CHOICE) -/
def State.reset : State :=
  { pending := [], ident := ⟨0x01, 0xB1, 0x0100, Config.serial.toNat, 0⟩, sys := Sys.reset, proto := Proto.reset
    auth := ⟨[], 0, 0, false, 0⟩, audit := ⟨[], 1, 0⟩, recs := Records.made, fw := Firmware.made, reg := ⟨[], [], []⟩, sched := []
    tb := Timebase.reset, clk := Clocks.reset, syn := seeds.map Synth.off, ports := List.replicate 4 Port.reset
    tuners := List.replicate 4 Tuner.reset, probe := Probe.reset
    warps := List.replicate 6 (Warp.reset 60) ++ List.replicate 2 (Warp.reset 40), calib := Calib.reset, dents := []
    reed := ⟨0, 0⟩, weaves := [], cluster := Cluster.reset, ana := [], dig := [], svcs := [], comps := [], svcChg := []
    invFull := false, survey := Survey.reset, time := TimePol.reset, follows := [], meas := [], thrs := [], louds := [], verifs := []
    tdm := List.replicate 8 TdmPort.reset, streams := [], aligns := [], eth := List.replicate 2 EthPort.reset, mb := Mb.reset
    pb := Pb.reset, periphs := [], rtc := Rtc.powerUp, pair := Pair.reset }

end Sys2Proof.Machine
end

