-- ==== Sys2Proof/Machine/Chain.lean ====
section
/-! DEFINITION. The arithmetic of the lanes and of the dent chain (R155, R166, R171, R205-R208, R211, R217): compensation, the fine DC loop,
the mixer, the CIC, the half-bands, the FIR, the Farrow stage and the output scale. -/

namespace Sys2Proof.Machine

/-! Compensation (R155, R171). -/

/-- `y` less one half is at most `x` times 10 to the power of `k` / 2,000. -/
def expLe (k : Int) (x y : Nat) : Bool :=
  (2 * y - 1) ^ 2000 * 10 ^ (-k).toNat ≤ (2 * x) ^ 2000 * 10 ^ k.toNat

/-- A magnitude times 10 to the power of `k` / 2,000, rounded to the nearest integer. -/
def expNat (k : Int) (x : Nat) : Nat :=
  if x = 0 ∨ k = 0 then x
  else (List.range (x.log2 + k.toNat / 600 + 3)).foldr (fun b y => if expLe k x (y + 2 ^ b) then y + 2 ^ b else y) 0

/-- A value times the factor of an exponent in 0.01 dB, rounded to the nearest integer. -/
def expInt (k x : Int) : Int := if x < 0 then -(expNat k x.natAbs) else expNat k x.natAbs

/-- A pair of values, each times the factor of an exponent in 0.01 dB. -/
def expPair (k : Int) (x : Int × Int) : Int × Int := (expInt k x.1, expInt k x.2)

/-- A value held to the range of a signed field of `w` bits. -/
def clampBits (w : Nat) (x : Int) : Int := max (-(2 ^ (w - 1) : Int)) (min x (2 ^ (w - 1) - 1))

/-- `a` / `b` to the nearest integer, halves upward, for a positive `b`. -/
def roundDiv (a b : Int) : Int := (2 * a + b) / (2 * b)

/-! The fine DC loop (R166). -/

/-- The converter samples of its time constant of 100 ms. -/
def dcTau : Int := 9830400

/-- The estimate of the mean after one more lane word, in 2⁻³² lane words. (log 145: DEDUCED) -/
def dcNext (e x : Int) : Int := e + roundDiv (x * 2 ^ 32 - e) dcTau

/-- One sample of a lane (R155, R166, R202): compensated, less the estimate of the loop, which then takes it in; a zeroed word is 0 and leaves the loop
where it stands. The words so far, last first, and the estimate. (log 145: DEDUCED) -/
def laneStep (k : Int) (real : Bool) (zero : List (Nat × Nat)) (a : List (Int × Int) × (Int × Int)) (x : (Int × Int) × Nat) :
    List (Int × Int) × (Int × Int) :=
  if zero.any fun z => z.1 ≤ x.2 && x.2 < z.2 then ((0, 0) :: a.1, a.2)
  else
    let i := clampBits 26 (expInt k x.1.1)
    let q := if real then 0 else clampBits 26 (expInt k x.1.2)
    let out := (clampBits 26 (i - roundDiv a.2.1 (2 ^ 32)), if real then 0 else clampBits 26 (q - roundDiv a.2.2 (2 ^ 32)))
    (out :: a.1, (dcNext a.2.1 i, dcNext a.2.2 q))

/-- The lane words of a warp over a pick of `n` converter samples, and the estimate of the fine DC loop at its end (R201). No words stand for zeros. (log 145: DEDUCED) -/
def laneWords (k : Int) (real : Bool) (zero : List (Nat × Nat)) (conv : List (Int × Int)) (n : Nat) (dc : Int × Int) :
    List (Int × Int) × (Int × Int) :=
  if conv.isEmpty && dc == (0, 0) then ([], dc)
  else
    let l := (conv ++ List.replicate n (0, 0)).take n
    let r := (l.zipIdx).foldl (laneStep k real zero) ([], dc)
    (r.1.reverse, r.2)

/-! The mixer (R206, R207). -/

/-- 2π × 2⁴⁸ to the nearest. -/
def twoPi : Int := 1768559438007110

/-- The angle of a phase of 32 bits in radians, in 2⁻⁸⁰, from −π to π. -/
def angle (phase : Nat) : Int := (if 2 * phase < 2 ^ 32 then (phase : Int) else phase - 2 ^ 32) * twoPi

/-- The power series of cosine (`odd` 0) or sine (`odd` 1) from its first term, in 2⁻⁸⁰. -/
def series (x first : Int) (odd : Nat) : Int :=
  ((List.range 18).foldl (fun (a : Int × Int) n =>
    (-(a.1 * (x * x / 2 ^ 80)) / 2 ^ 80 / ((2 * n + odd + 1) * (2 * n + odd + 2)), a.2 + a.1)) (first, 0)).2

/-- Cosine and sine of a phase, in 2⁻³⁰ (R206). (log 146: DESIGN CHOICE) -/
def cosSin (phase : Nat) : Int × Int :=
  let x := angle phase
  (roundDiv (series x (2 ^ 80) 0) (2 ^ 50), roundDiv (series x x 1) (2 ^ 50))

/-- The NCO phase at a converter count (R207). -/
def ncoPhase (w c : Int) : Nat := (w * c % 2 ^ 32).toNat

/-- A lane word times exp(−j2πφ/2³²), in 2⁻³⁰ (R206). -/
def mix (x : Int × Int) (phase : Nat) : Int × Int :=
  let (c, s) := cosSin phase
  (x.1 * c + x.2 * s, x.2 * c - x.1 * s)

/-! The decimators (R205). -/

/-- The five integrators take in a value. -/
def integrate (m : List (Int × Int)) (v : Int × Int) : List (Int × Int) :=
  ((List.range 5).foldl (fun (a : List (Int × Int) × (Int × Int)) i => let y := nth m i (0, 0) + a.2; (a.1 ++ [y], y)) ([], v)).1

/-- The five combs, with a differential delay of 1: what they hold, and what comes out. -/
def comb (m : List (Int × Int)) (v : Int × Int) : List (Int × Int) × (Int × Int) :=
  (List.range 5).foldl (fun (a : List (Int × Int) × (Int × Int)) i => (a.1 ++ [a.2], a.2 - nth m i (0, 0))) ([], v)

/-- The tap `t` of 23 of a half-band stage, in 2⁻²⁴ (R205): one half in the middle, 0 at even distances from it, symmetric, and 1 in sum. (log 72: DESIGN CHOICE) -/
def halfCoef (stage t : Nat) : Int :=
  let j := if t ≤ 11 then 11 - t else t - 11
  let side := fun (p : Nat) => (Config.halfTap stage p).toInt
  if j = 0 then 2 ^ 23 else if j % 2 = 0 then 0 else if j = 1 then 2 ^ 22 - ((List.range 5).map side).sum else side ((11 - j) / 2)

/-- The sum of values weighted by coefficients. -/
def dot (c : List Int) (l : List (Int × Int)) : Int × Int := ((c.zip l).map fun p => (p.1 * p.2.1, p.1 * p.2.2)).sum

/-- The half-band stages at converter sample `i` of a pick, from the one the value reaches on (R205): each takes a value in and gives one out at every
second. What they hold, and what comes out of the last. -/
def halves (k h i : Nat) (m : List (List (Int × Int))) (v : Int × Int) : List (List (Int × Int)) × Option (Int × Int) :=
  (List.range h).foldl (fun (a : List (List (Int × Int)) × Option (Int × Int)) s =>
    let old := nth m s []
    match a.2 with
    | some x =>
      let l := (x :: old).take 23
      (a.1 ++ [l], if i % (k * 2 ^ (s + 1)) = 0 then some (dot ((List.range 23).map (halfCoef s)) l) else none)
    | none => (a.1 ++ [old], none)) ([], some v)

/-- The chain takes in the mixed lane word of converter sample `i` of a pick (R205, R211). -/
def chainIn (k h i : Nat) (v : Int × Int) (m : ChainMem) : ChainMem :=
  let m := { m with ints := integrate m.ints v }
  if i % k = 0 then
    let (c, y) := comb m.combs (nth m.ints 4 (0, 0))
    let (l, z) := halves k h i m.half y
    { m with combs := c, half := l, line := match z with | some x => (x :: m.line).take 255 | none => m.line }
  else m

/-! FIR, Farrow stage and output (R208, R211, R217). -/

/-- The weights of the Farrow stage for a fraction of u/256, in 2⁻¹⁶ (R217). (log 146: DESIGN CHOICE) -/
def farrow (u : Int) : List Int :=
  let w := fun (a d : Int) => roundDiv (a * 2 ^ 16) (d * 2 ^ 24)
  [w (-u * (u - 256) * (u - 512)) 6, w ((u + 256) * (u - 256) * (u - 512)) 2, w (-(u + 256) * u * (u - 512)) 2, w ((u + 256) * u * (u - 256)) 6]

/-- The FIR works on the delay line and its output is kept (R211). -/
def chainFir (taps : List Int) (m : ChainMem) : ChainMem := { m with outs := (dot taps m.line :: m.outs).take 68 }

/-- The output of the Farrow stage for a delay of τ in 1/256 output samples (R217). -/
def chainFarrow (tau : Nat) (m : ChainMem) : Int × Int := dot (farrow ((tau % 256 : Nat) : Int)) (m.outs.drop (tau / 256))

/-- A value at the output scale (R208): 64 for the gains of mixer, CIC, half-bands, FIR and Farrow stage taken out, 128 on an HF lane. -/
def outScale (k h : Nat) (hf : Bool) (v : Int) : Int :=
  roundDiv (v * (if hf then 128 else 64)) (2 ^ 30 * k ^ 5 * 2 ^ (24 * h) * 2 ^ 17 * 2 ^ 16 : Nat)

/-- An output sample, and whether it was saturated (R208). -/
def outSample (k h : Nat) (hf : Bool) (v : Int × Int) : (Int × Int) × Bool :=
  let a := (outScale k h hf v.1, outScale k h hf v.2)
  let b := (clampBits 32 a.1, clampBits 32 a.2)
  (b, a != b)

end Sys2Proof.Machine
end

