-- ==== Sys2Proof/Machine/Codec.lean ====
section
/-! DEFINITION. The command packet's parameters as they are laid out (R443 and the parameter tables of every chapter): the structures
that packets and CONFIG items share, the opcode table with its rights and mode keys (chapter "Command reference"), and reading and
writing the parameters of every command. -/

namespace Sys2Proof.Machine

/-- The unsigned field of `n` bytes at `i`. -/
def fu (b : List Byte) (i n : Nat) : Nat := ofLe ((b.drop i).take n)

/-- The signed field of `n` bytes at `i`. -/
def fs (b : List Byte) (i n : Nat) : Int := ofLeSigned ((b.drop i).take n)

/-- The field of `n` bytes at `i` in network order. -/
def fn (b : List Byte) (i n : Nat) : Nat := ofBe ((b.drop i).take n)

/-- The handle at `i`. -/
def fh (b : List Byte) (i : Nat) : Handle := BitVec.ofNat 32 (fu b i 4)

/-- The reserved bytes at `i` are zero (R16). -/
def fz (b : List Byte) (i n : Nat) : Bool := fu b i n == 0

/-- The `n` entries of `k` bytes from `i`, each read by `f` at its offset. -/
def fl {α : Type} (f : Nat → α) (i k n : Nat) : List α := (List.range n).map fun j => f (i + k * j)

/-- A low side of MEAS_THRESHOLD; 0x8000_0000 disables it (R392). -/
def lowSide (v : Int) : Option Int := if v = -2147483648 then none else some v

/-- A high side of MEAS_THRESHOLD; 0x7FFF_FFFF disables it (R392). -/
def highSide (v : Int) : Option Int := if v = 2147483647 then none else some v

/-- A header whose parameters' reserved fields are zero or not (R16). -/
def hdrAlso (h : Hdr) (zero : Bool) : Hdr := { h with rsv := h.rsv || !zero }

/-! Structures. -/

/-- TB_CONFIG (R69). -/
def readTb (b : List Byte) (i : Nat) : TbCfg :=
  { sources := fu b i 1, ptpPort := fu b (i + 1) 1, ptpDomain := fu b (i + 2) 1, flags := fu b (i + 3) 1, threshold := fu b (i + 4) 4
    , slew := fu b (i + 8) 2, holdOff := fu b (i + 10) 2, comp := fu b (i + 12) 4, asym := fs b (i + 16) 4 }

/-- TB_CONFIG (R69), written. -/
def tbBytes (x : TbCfg) : List Byte :=
  byte x.sources ++ byte x.ptpPort ++ byte x.ptpDomain ++ byte x.flags ++ leBytes 4 x.threshold ++ leBytes 2 x.slew
    ++ leBytes 2 x.holdOff ++ leBytes 4 x.comp ++ leSigned 4 x.asym

/-- A tuner preset (R131). -/
def readPreset (b : List Byte) (i : Nat) : Preset :=
  { c1 := fu b i 1, c2 := fu b (i + 1) 1, l := fu b (i + 2) 1, flags := fu b (i + 3) 1, freq := fu b (i + 4) 4, loss := fu b (i + 8) 2 }

/-- A tuner preset (R131), written. -/
def presetBytes (x : Preset) : List Byte :=
  byte x.c1 ++ byte x.c2 ++ byte x.l ++ byte x.flags ++ leBytes 4 x.freq ++ leBytes 2 x.loss ++ zeros 2

/-- WARP_TUNE from its frequency on (R168). -/
def readTune (b : List Byte) (i : Nat) : TuneReq :=
  { freq := fu b i 4, placement := fu b (i + 4) 1, profile := fu b (i + 5) 1, origin := fu b (i + 8) 4, step := fu b (i + 12) 4 }

/-- WARP_TUNE from its frequency on (R168), written. -/
def tuneBytes (x : TuneReq) : List Byte :=
  leBytes 4 x.freq ++ byte x.placement ++ byte x.profile ++ zeros 2 ++ leBytes 4 x.origin ++ leBytes 4 x.step ++ zeros 4

/-- WARP_AGC from its mode on (R163). -/
def readAgc (b : List Byte) (i : Nat) : AgcCfg :=
  { mode := fu b i 1, flags := fu b (i + 1) 1, gMin := fu b (i + 2) 1, gMax := fu b (i + 3) 1, high := fs b (i + 4) 2
    , target := fs b (i + 6) 2, low := fs b (i + 8) 2, attack := fu b (i + 10) 1, window := fu b (i + 12) 2 }

/-- WARP_AGC from its mode on (R163), written. -/
def agcBytes (x : AgcCfg) : List Byte :=
  byte x.mode ++ byte x.flags ++ byte x.gMin ++ byte x.gMax ++ leSigned 2 x.high ++ leSigned 2 x.target ++ leSigned 2 x.low
    ++ byte x.attack ++ zeros 1 ++ leBytes 2 x.window ++ zeros 2

/-- CAL_POLICY (R196). -/
def readCal (b : List Byte) (i : Nat) : CalCfg :=
  { dT := fu b i 2, flags := fu b (i + 2) 1, hold := fu b (i + 3) 1, interval := fu b (i + 4) 2 }

/-- CAL_POLICY (R196), written. -/
def calBytes (x : CalCfg) : List Byte :=
  leBytes 2 x.dT ++ byte x.flags ++ byte x.hold ++ leBytes 2 x.interval ++ zeros 2

/-- TIME_POLICY (R339). -/
def readTime (b : List Byte) (i : Nat) : TimeCfg :=
  { mode := fu b i 1, sources := fu b (i + 1) 1, agree := fu b (i + 2) 1, tai := fu b (i + 3) 1, tol := fu b (i + 4) 2
    , hold := fu b (i + 6) 2, window := fu b (i + 8) 1 }

/-- TIME_POLICY (R339), written. -/
def timeBytes (x : TimeCfg) : List Byte :=
  byte x.mode ++ byte x.sources ++ byte x.agree ++ byte x.tai ++ leBytes 2 x.tol ++ leBytes 2 x.hold ++ byte x.window ++ zeros 7

/-- ETH_PORT_CONFIG from its flags on (R439). -/
def readEth (b : List Byte) (i : Nat) : EthCfg :=
  { flags := fu b i 1, pcp := fu b (i + 1) 1, vlan := fu b (i + 2) 2, mtu := fu b (i + 4) 2, pfx4 := fu b (i + 6) 1
    , pfx6 := fu b (i + 7) 1, addr4 := fn b (i + 8) 4, gate4 := fn b (i + 12) 4, addr6 := fn b (i + 16) 16, gate6 := fn b (i + 32) 16
    , dMedia := fu b (i + 48) 1, dPtp := fu b (i + 49) 1, dLsc := fu b (i + 50) 1, cport := fu b (i + 52) 2 }

/-- ETH_PORT_CONFIG from its flags on (R439), written. -/
def ethBytes (x : EthCfg) : List Byte :=
  byte x.flags ++ byte x.pcp ++ leBytes 2 x.vlan ++ leBytes 2 x.mtu ++ byte x.pfx4 ++ byte x.pfx6 ++ beBytes 4 x.addr4
    ++ beBytes 4 x.gate4 ++ beBytes 16 x.addr6 ++ beBytes 16 x.gate6 ++ byte x.dMedia ++ byte x.dPtp ++ byte x.dLsc ++ zeros 1
    ++ leBytes 2 x.cport ++ zeros 6

/-- TDM_PORT_CONFIG from its direction on (R414). -/
def readTdm (b : List Byte) (i : Nat) : TdmCfg :=
  { dir := fu b i 1, role := fu b (i + 1) 1, rate := fu b (i + 2) 1, n := fu b (i + 3) 1, w := fu b (i + 4) 1, word := fu b (i + 5) 1
    , o := fu b (i + 6) 1, flags := fu b (i + 7) 1, clk := fu b (i + 8) 1, mask := fu b (i + 12) 4 }

/-- TDM_PORT_CONFIG from its direction on (R414), written. -/
def tdmCfgBytes (x : TdmCfg) : List Byte :=
  byte x.dir ++ byte x.role ++ byte x.rate ++ byte x.n ++ byte x.w ++ byte x.word ++ byte x.o ++ byte x.flags ++ byte x.clk ++ zeros 3
    ++ leBytes 4 x.mask ++ zeros 4

/-- SYS_EVENT_NOTIFY (R463). -/
def readNotify (b : List Byte) (i : Nat) : NotifyCfg :=
  { mask := fu b i 1, dport := fu b (i + 2) 2, eth := fh b (i + 4), addr := fn b (i + 8) 16, flags := fu b (i + 24) 1 }

/-- SYS_EVENT_NOTIFY (R463), written. -/
def notifyBytes (x : NotifyCfg) : List Byte :=
  byte x.mask ++ zeros 1 ++ leBytes 2 x.dport ++ handleBytes x.eth ++ beBytes 16 x.addr ++ byte x.flags ++ zeros 7

/-- A port of the LIMITS body (R574). -/
def readLimit (b : List Byte) (i : Nat) : PortLimit :=
  { feed := fu b i 2, probe := fs b (i + 2) 2, flags := fu b (i + 4) 1 }

/-- A port of the LIMITS body (R574), written. -/
def limitBytes (x : PortLimit) : List Byte :=
  leBytes 2 x.feed ++ leSigned 2 x.probe ++ byte x.flags ++ zeros 3

/-- A survey entry (R333). -/
def readSurvey (b : List Byte) (i : Nat) : SurveyEntry :=
  { warp := fh b i, kind := fu b (i + 4) 1, thr := fu b (i + 6) 2, low := fu b (i + 8) 4, high := fu b (i + 12) 4
    , step := fu b (i + 16) 4, dwell := fu b (i + 20) 2 }

/-- A survey entry (R333), written. -/
def surveyBytes (x : SurveyEntry) : List Byte :=
  handleBytes x.warp ++ byte x.kind ++ zeros 1 ++ leBytes 2 x.thr ++ leBytes 4 x.low ++ leBytes 4 x.high ++ leBytes 4 x.step
    ++ leBytes 2 x.dwell ++ zeros 2

/-- A source entry (R371). -/
def readSrc (b : List Byte) (i : Nat) : SrcReq :=
  { comp := fh b i, warp := fh b (i + 4), ident := fu b (i + 8) 4, mask := fu b (i + 12) 4, rank := fu b (i + 16) 1
    , flags := fu b (i + 17) 1 }

/-- A source entry (R371), written. -/
def srcReqBytes (x : SrcReq) : List Byte :=
  handleBytes x.comp ++ handleBytes x.warp ++ leBytes 4 x.ident ++ leBytes 4 x.mask ++ byte x.rank ++ byte x.flags ++ zeros 2

/-- The LIMITS body (R574). -/
def readLimits (b : List Byte) (i : Nat) : Limits := { allowance := fu b i 2, ports := fl (fun j => readLimit b j) (i + 4) 8 4 }

/-- The body of the PAIR record (R602). -/
def readPair (b : List Byte) (i : Nat) : PairCfg :=
  { id := fu b i 4, partner := fu b (i + 4) 4, position := fu b (i + 8) 1, flags := fu b (i + 9) 1, map := fl (fun j => fu b j 1) (i + 12) 1 4 }

/-- The body of the PAIR record, written. -/
def pairBytes (c : PairCfg) : List Byte :=
  leBytes 4 c.id ++ leBytes 4 c.partner ++ byte c.position ++ byte c.flags ++ zeros 2 ++ c.map.flatMap byte

/-! The opcode table. -/

/-- The rights of the opcode tables (R468); `keys` is that of ROLEKEY_SET. -/
inductive Right where
  | anonymous | session | operator | installer | maker | keys
  deriving DecidableEq, Repr

/-- The mode keys (R469); `wp` is that of PROBE_START, which fails with S_CONFLICT in PROBE (R144, R499). -/
inductive Key where
  | all | fw | ctl | run | sw | s | w | pr | wp
  deriving DecidableEq, Repr

/-- System opcodes. -/
def opRow01 (op : Nat) : Option (Right × Key) :=
  match op with
  | 0x0101 => some (.anonymous, .all)
  | 0x0102 => some (.operator, .all)
  | 0x0103 | 0x0123 => some (.operator, .ctl)
  | 0x0104 | 0x0120 | 0x0121 | 0x0122 => some (.installer, .ctl)
  | 0x0105 => some (.installer, .all)
  | 0x0110 | 0x0111 | 0x0112 | 0x0124 => some (.operator, .fw)
  | 0x0113 => some (.anonymous, .fw)
  | _ => none

/-- Session opcodes. -/
def opRow02 (op : Nat) : Option (Right × Key) :=
  match op with
  | 0x0201 | 0x0202 => some (.anonymous, .all)
  | 0x0203 => some (.session, .all)
  | 0x0204 => some (.operator, .all)
  | 0x0210 => some (.keys, .all)
  | 0x0220 => some (.installer, .all)
  | 0x0221 => some (.maker, .all)
  | _ => none

/-- Timebase and clock opcodes. -/
def opRow03 (op : Nat) : Option (Right × Key) :=
  match op with
  | 0x0301 | 0x0303 | 0x0304 | 0x0310 => some (.installer, .ctl)
  | 0x0302 | 0x0311 => some (.operator, .fw)
  | _ => none

/-- Aerial port opcodes. -/
def opRow04 (op : Nat) : Option (Right × Key) :=
  match op with
  | 0x0401 | 0x0410 | 0x0411 => some (.installer, .ctl)
  | 0x0402 => some (.operator, .fw)
  | 0x0420 => some (.operator, .ctl)
  | _ => none

/-- Warp and synthesiser opcodes. -/
def opRow05 (op : Nat) : Option (Right × Key) :=
  match op with
  | 0x0501 | 0x0502 | 0x0503 | 0x0522 | 0x0524 => some (.operator, .ctl)
  | 0x0504 | 0x0520 | 0x0523 => some (.operator, .fw)
  | 0x0521 => some (.installer, .ctl)
  | _ => none

/-- Reed opcodes. -/
def opRow06 (op : Nat) : Option (Right × Key) :=
  match op with
  | 0x0601 | 0x0602 | 0x0603 | 0x0604 | 0x0605 | 0x0606 => some (.operator, .run)
  | 0x0607 | 0x0608 | 0x0609 => some (.operator, .fw)
  | _ => none

/-- Weave opcodes. -/
def opRow07 (op : Nat) : Option (Right × Key) :=
  match op with
  | 0x0701 | 0x0702 | 0x0703 | 0x0704 | 0x0705 | 0x0740 => some (.operator, .run)
  | 0x0706 | 0x0707 | 0x0710 | 0x0711 | 0x0712 | 0x0720 | 0x0721 | 0x0722 | 0x0730 => some (.operator, .fw)
  | _ => none

/-- Inventory and time opcodes. -/
def opRow08 (op : Nat) : Option (Right × Key) :=
  match op with
  | 0x0801 => some (.operator, .s)
  | 0x0802 | 0x0803 | 0x0810 | 0x0811 | 0x0812 | 0x0813 | 0x0814 | 0x0821 => some (.operator, .fw)
  | 0x0815 => some (.operator, .run)
  | 0x0820 => some (.installer, .ctl)
  | _ => none

/-- Follow opcodes. -/
def opRow09 (op : Nat) : Option (Right × Key) :=
  match op with
  | 0x0901 | 0x0902 | 0x0903 | 0x0904 | 0x0906 => some (.operator, .run)
  | 0x0905 => some (.operator, .fw)
  | _ => none

/-- Measurement opcodes. -/
def opRow0A (op : Nat) : Option (Right × Key) :=
  match op with
  | 0x0A01 | 0x0A10 | 0x0A22 => some (.operator, .fw)
  | 0x0A02 | 0x0A03 | 0x0A11 | 0x0A12 | 0x0A20 | 0x0A21 => some (.operator, .run)
  | _ => none

/-- TDM opcodes. -/
def opRow0B (op : Nat) : Option (Right × Key) :=
  match op with
  | 0x0B01 => some (.operator, .ctl)
  | 0x0B02 | 0x0B24 => some (.operator, .fw)
  | 0x0B10 | 0x0B11 | 0x0B20 | 0x0B21 | 0x0B22 | 0x0B23 => some (.operator, .run)
  | _ => none

/-- Ethernet opcodes. -/
def opRow0C (op : Nat) : Option (Right × Key) :=
  match op with
  | 0x0C01 => some (.installer, .ctl)
  | 0x0C02 | 0x0C12 => some (.operator, .fw)
  | 0x0C10 | 0x0C11 => some (.operator, .run)
  | _ => none

/-- RTC opcodes. -/
def opRow0D (op : Nat) : Option (Right × Key) :=
  match op with
  | 0x0D01 | 0x0D05 | 0x0D10 | 0x0D11 => some (.operator, .all)
  | 0x0D02 | 0x0D03 | 0x0D06 | 0x0D07 => some (.installer, .fw)
  | 0x0D04 => some (.operator, .fw)
  | _ => none

/-- Record and firmware opcodes. -/
def opRow0E (op : Nat) : Option (Right × Key) :=
  match op with
  | 0x0E01 | 0x0E10 => some (.operator, .all)
  | 0x0E02 | 0x0E03 | 0x0E11 | 0x0E12 | 0x0E13 | 0x0E14 => some (.installer, .all)
  | 0x0E04 | 0x0E05 | 0x0E15 | 0x0E16 => some (.maker, .all)
  | _ => none

/-- Pair opcodes. -/
def opRow0F (op : Nat) : Option (Right × Key) :=
  match op with
  | 0x0F01 | 0x0F10 => some (.installer, .ctl)
  | 0x0F02 | 0x0F03 | 0x0F11 => some (.operator, .fw)
  | _ => none

/-- Calibration opcodes. -/
def opRow10 (op : Nat) : Option (Right × Key) :=
  match op with
  | 0x1001 | 0x1005 => some (.installer, .ctl)
  | 0x1002 => some (.operator, .ctl)
  | 0x1003 | 0x1004 => some (.operator, .fw)
  | _ => none

/-- Tuner and probe opcodes. -/
def opRow11 (op : Nat) : Option (Right × Key) :=
  match op with
  | 0x1101 => some (.installer, .ctl)
  | 0x1102 | 0x1104 | 0x1112 | 0x1121 => some (.operator, .all)
  | 0x1103 => some (.installer, .sw)
  | 0x1110 => some (.installer, .wp)
  | 0x1111 => some (.installer, .pr)
  | 0x1120 => some (.operator, .sw)
  | _ => none

/-- The right and the mode key of every assigned opcode (chapter "Command reference"). (log 19: DEDUCED) -/
def opRow (op : Nat) : Option (Right × Key) :=
  match op / 256 with
  | 0x01 => opRow01 op
  | 0x02 => opRow02 op
  | 0x03 => opRow03 op
  | 0x04 => opRow04 op
  | 0x05 => opRow05 op
  | 0x06 => opRow06 op
  | 0x07 => opRow07 op
  | 0x08 => opRow08 op
  | 0x09 => opRow09 op
  | 0x0A => opRow0A op
  | 0x0B => opRow0B op
  | 0x0C => opRow0C op
  | 0x0D => opRow0D op
  | 0x0E => opRow0E op
  | 0x0F => opRow0F op
  | 0x10 => opRow10 op
  | 0x11 => opRow11 op
  | _ => none

/-! Reading. -/

/-- System commands: none where the parameter length is not one the command allows (check 7 of R447). -/
def decode01 (h : Hdr) (op : Nat) (b : List Byte) : Option Instr :=
  match op with
  | 0x0101 => if b.length = 0 then
    some (.sysIdent h) else none
  | 0x0102 => if b.length = 0 then
    some (.sysStatus h) else none
  | 0x0103 => if b.length = 16 then
    some (.sysModeSet (hdrAlso h (fz b 1 7)) (fu b 0 1) (fu b 8 8)) else none
  | 0x0104 => if b.length = 16 then
    some (.sysDomainSet (hdrAlso h (fz b 4 4)) (fu b 0 2) (fu b 2 2) (fu b 8 8)) else none
  | 0x0105 => if b.length = 8 then
    some (.sysReset (hdrAlso h (fz b 1 3)) (fu b 0 1) (fu b 4 4)) else none
  | 0x0110 => if b.length = 8 then
    some (.sysEventRead (hdrAlso h (fz b 5 3)) (fu b 0 4) (fu b 4 1)) else none
  | 0x0111 => if b.length = 32 then
    some (.sysEventNotify (hdrAlso h (fz b 1 1 && fz b 25 7)) (readNotify b 0)) else none
  | 0x0112 => if b.length = 0 then
    some (.sysProtoStatus h) else none
  | 0x0113 => if b.length = 0 then
    some (.sysEventCount h) else none
  | 0x0120 => if b.length = 8 then
    some (.pbConfig (hdrAlso h (fz b 1 1 && fz b 4 4)) (fu b 0 1) (fu b 2 2)) else none
  | 0x0121 => if b.length = 8 then
    some (.pbPeriphCreate (hdrAlso h (fz b 4 4)) { addr := fu b 0 1, flags := fu b 1 1, stretch := fu b 2 2 }) else none
  | 0x0122 => if b.length = 8 then
    some (.pbPeriphRelease (hdrAlso h (fz b 4 4)) (fh b 0)) else none
  | 0x0123 => if b.length = 8 + fu b 4 1 then
    some (.pbTransfer (hdrAlso h (fz b 7 1)) { periph := fh b 0, w := fu b 4 1, r := fu b 5 1, flags := fu b 6 1, data := b.drop 8 }) else none
  | 0x0124 => if b.length = 0 then
    some (.pbStatus h) else none
  | _ => none

/-- Session commands: none where the parameter length is not one the command allows (check 7 of R447). -/
def decode02 (h : Hdr) (op : Nat) (b : List Byte) : Option Instr :=
  match op with
  | 0x0201 => if b.length = 4 then
    some (.sessionOpen (hdrAlso h (fz b 1 3)) (fu b 0 1)) else none
  | 0x0202 => if b.length = 36 then
    some (.sessionProve h (fh b 0) ((b.drop 4).take 32)) else none
  | 0x0203 => if b.length = 0 then
    some (.sessionClose h) else none
  | 0x0204 => if b.length = 0 then
    some (.sessionStatus h) else none
  | 0x0210 => if b.length = 36 then
    some (.rolekeySet (hdrAlso h (fz b 1 3)) (fu b 0 1) ((b.drop 4).take 32)) else none
  | 0x0220 => if b.length = 8 then
    some (.auditRead (hdrAlso h (fz b 5 3)) (fu b 0 4) (fu b 4 1)) else none
  | 0x0221 => if b.length = 8 then
    some (.auditClear (hdrAlso h (fz b 4 4)) (fu b 0 4)) else none
  | _ => none

/-- Timebase and clock commands: none where the parameter length is not one the command allows (check 7 of R447). -/
def decode03 (h : Hdr) (op : Nat) (b : List Byte) : Option Instr :=
  match op with
  | 0x0301 => if b.length = 20 then
    some (.tbConfig h (readTb b 0)) else none
  | 0x0302 => if b.length = 0 then
    some (.tbStatus h) else none
  | 0x0303 => if b.length = 16 then
    some (.tbPhaseStep (hdrAlso h (fz b 14 2)) (fh b 0) (fu b 4 8) (fs b 12 2)) else none
  | 0x0304 => if b.length = 16 then
    some (.tbSetSeconds h (fu b 0 8) (fu b 8 8)) else none
  | 0x0310 => if b.length = 12 then
    some (.clkConfig (hdrAlso h (fz b 2 2)) (fu b 0 1) (fu b 1 1) (fu b 4 8)) else none
  | 0x0311 => if b.length = 0 then
    some (.clkStatus h) else none
  | _ => none

/-- Aerial port commands: none where the parameter length is not one the command allows (check 7 of R447). -/
def decode04 (h : Hdr) (op : Nat) (b : List Byte) : Option Instr :=
  match op with
  | 0x0401 => if b.length = 16 then
    some (.portConfig (hdrAlso h (fz b 6 2)) (fh b 0) (fu b 4 1) (fu b 5 1) (fu b 8 8)) else none
  | 0x0402 => if b.length = 4 then
    some (.portStatus h (fh b 0)) else none
  | 0x0410 => if b.length = 16 then
    some (.feedSet (hdrAlso h (fz b 6 2)) (fh b 0) (fu b 4 1) (fu b 5 1) (fu b 8 8)) else none
  | 0x0411 => if b.length = 4 then
    some (.feedReset h (fh b 0)) else none
  | 0x0420 => if b.length = 16 then
    some (.heddleRoute h (fh b 0) (fh b 4) (fu b 8 8)) else none
  | _ => none

/-- Warp and synthesiser commands: none where the parameter length is not one the command allows (check 7 of R447). -/
def decode05 (h : Hdr) (op : Nat) (b : List Byte) : Option Instr :=
  match op with
  | 0x0501 => if b.length = 32 then
    some (.warpTune (hdrAlso h (fz b 10 2 && fz b 20 4)) (fh b 0) (readTune b 4) (fu b 24 8)) else none
  | 0x0502 => if b.length = 16 then
    some (.warpGain (hdrAlso h (fz b 5 3)) (fh b 0) (fu b 4 1) (fu b 8 8)) else none
  | 0x0503 => if b.length = 20 then
    some (.warpAgc (hdrAlso h (fz b 15 1 && fz b 18 2)) (fh b 0) (readAgc b 4)) else none
  | 0x0504 => if b.length = 4 then
    some (.warpStatus h (fh b 0)) else none
  | 0x0520 => if b.length = 4 then
    some (.synStatus (hdrAlso h (fz b 1 3)) (fu b 0 1)) else none
  | 0x0521 => if b.length = 8 then
    some (.synDitherSet (hdrAlso h (fz b 2 2)) (fu b 0 1) (fu b 1 1) (fu b 4 4)) else none
  | 0x0522 => if b.length = 4 then
    some (.synProfileStore (hdrAlso h (fz b 2 2)) (fu b 0 1) (fu b 1 1)) else none
  | 0x0523 => if b.length = 4 then
    some (.synProfileRead (hdrAlso h (fz b 2 2)) (fu b 0 1) (fu b 1 1)) else none
  | 0x0524 => if b.length = 4 then
    some (.synProfileClear (hdrAlso h (fz b 2 2)) (fu b 0 1) (fu b 1 1)) else none
  | _ => none

/-- Reed commands: none where the parameter length is not one the command allows (check 7 of R447). -/
def decode06 (h : Hdr) (op : Nat) (b : List Byte) : Option Instr :=
  match op with
  | 0x0601 => if b.length = 32 then
    some (.dentCreate (hdrAlso h (fz b 22 2))
      { warp := fh b 0, rate := fu b 4 1, d := fu b 5 1, bankA := fu b 6 1, bankB := fu b 7 1, freq := fu b 8 8, bw := fu b 16 4, tau := fu b 20 2 }
      (fu b 24 8)) else none
  | 0x0602 => if b.length = 40 then
    some (.dentSet (hdrAlso h (fz b 5 3 && fz b 28 4)) (fh b 0)
      { flags := fu b 4 1, freq := fu b 8 8, warp := fh b 16, bw := fu b 20 4, tau := fu b 24 2, sample := fu b 26 2 } (fu b 32 8)) else none
  | 0x0603 => if b.length = (if fu b 5 1 = 0 then 16 + 4 * fu b 6 1 else 16) then
    some (.dentBankLoad (hdrAlso h (fz b 12 4)) (fh b 0)
      { bank := fu b 4 1, kind := fu b 5 1, n := fu b 6 1, flags := fu b 7 1, delay := fu b 8 4, taps := if fu b 5 1 = 0 then fl (fun j => fs b j 4) 16 4 (fu b 6 1) else [] }) else none
  | 0x0604 => if b.length = 16 then
    some (.dentBankSwap (hdrAlso h (fz b 6 2)) (fh b 0) (fu b 4 2) (fu b 8 8)) else none
  | 0x0605 => if b.length = 16 then
    some (.dentFlush (hdrAlso h (fz b 6 2)) (fh b 0) (fu b 4 2) (fu b 8 8)) else none
  | 0x0606 => if b.length = 16 then
    some (.dentRelease (hdrAlso h (fz b 6 2)) (fh b 0) (fu b 4 2) (fu b 8 8)) else none
  | 0x0607 => if b.length = 4 then
    some (.dentStatus h (fh b 0)) else none
  | 0x0608 => if b.length = 0 then
    some (.reedStatus h) else none
  | 0x0609 => if b.length = 8 then
    some (.dentBankRead (hdrAlso h (fz b 5 3)) (fh b 0) (fu b 4 1)) else none
  | _ => none

/-- Weave commands: none where the parameter length is not one the command allows (check 7 of R447). -/
def decode07 (h : Hdr) (op : Nat) (b : List Byte) : Option Instr :=
  match op with
  | 0x0701 => if b.length = 16 + 4 * fu b 1 1 + fu b 6 2 then
    some (.weaveCreate h
      { type := fu b 0 1, n := fu b 1 1, prio := fu b 2 1, group := fu b 3 1, flags := fu b 4 1, opt := fu b 5 1, m := fu b 6 2, dents := fl (fun j => fh b j) 16 4 (fu b 1 1), block := b.drop (16 + 4 * fu b 1 1) }
      (fu b 8 8)) else none
  | 0x0702 => if b.length = 16 then
    some (.weaveStart (hdrAlso h (fz b 4 4)) (fh b 0) (fu b 8 8)) else none
  | 0x0703 => if b.length = 16 then
    some (.weaveStop (hdrAlso h (fz b 4 4)) (fh b 0) (fu b 8 8)) else none
  | 0x0704 => if b.length = 16 then
    some (.weaveRelease (hdrAlso h (fz b 4 4)) (fh b 0) (fu b 8 8)) else none
  | 0x0705 => if b.length = 16 + fu b 6 2 then
    some (.weaveSet (hdrAlso h (fz b 5 1)) (fh b 0) (fu b 4 1) (fu b 6 2) (fu b 8 8) (b.drop 16)) else none
  | 0x0706 => if b.length = 4 then
    some (.weaveStatus h (fh b 0)) else none
  | 0x0707 => if b.length = 0 then
    some (.schedStatus h) else none
  | 0x0710 => if b.length = 4 then
    some (.fmStatus h (fh b 0)) else none
  | 0x0711 => if b.length = 4 then
    some (.amStatus h (fh b 0)) else none
  | 0x0712 => if b.length = 8 then
    some (.fmAfRead (hdrAlso h (fz b 5 3)) (fh b 0) (fu b 4 1)) else none
  | 0x0720 => if b.length = 4 then
    some (.dabStatus h (fh b 0)) else none
  | 0x0721 => if b.length = 8 then
    some (.dabSubchRead (hdrAlso h (fz b 5 3)) (fh b 0) (fu b 4 1)) else none
  | 0x0722 => if b.length = 4 then
    some (.dabTiiRead h (fh b 0)) else none
  | 0x0730 => if b.length = 4 then
    some (.drmStatus h (fh b 0)) else none
  | 0x0740 => if b.length = 16 + 4 * fu b 4 1 then
    some (.digDecodeSet (hdrAlso h (fz b 5 3)) (fh b 0) (fu b 4 1) (fu b 8 8) (fl (fun j => fh b j) 16 4 (fu b 4 1))) else none
  | _ => none

/-- Inventory and time commands: none where the parameter length is not one the command allows (check 7 of R447). -/
def decode08 (h : Hdr) (op : Nat) (b : List Byte) : Option Instr :=
  match op with
  | 0x0801 => if b.length = 16 + 24 * fu b 0 1 then
    some (.surveyStart (hdrAlso h (fz b 2 6 && (List.range (fu b 0 1)).all (fun j => fz b (16 + 24 * j + 5) 1 && fz b (16 + 24 * j + 22) 2)))
      (fu b 0 1) (fu b 1 1) (fu b 8 8) (fl (fun j => readSurvey b j) 16 24 (fu b 0 1))) else none
  | 0x0802 => if b.length = 0 then
    some (.surveyStop h) else none
  | 0x0803 => if b.length = 0 then
    some (.surveyStatus h) else none
  | 0x0810 => if b.length = 4 then
    some (.serviceList (hdrAlso h (fz b 2 2)) (fu b 0 2)) else none
  | 0x0811 => if b.length = 4 then
    some (.serviceRead h (fh b 0)) else none
  | 0x0812 => if b.length = 4 then
    some (.componentRead h (fh b 0)) else none
  | 0x0813 => if b.length = 8 then
    some (.labelRead (hdrAlso h (fz b 5 3)) (fh b 0) (fu b 4 1)) else none
  | 0x0814 => if b.length = 8 then
    some (.linkRead (hdrAlso h (fz b 6 2)) (fh b 0) (fu b 4 2)) else none
  | 0x0815 => if b.length = 16 then
    some (.serviceRelease (hdrAlso h (fz b 4 4)) (fh b 0) (fu b 8 8)) else none
  | 0x0820 => if b.length = 16 then
    some (.timePolicy (hdrAlso h (fz b 9 7)) (readTime b 0)) else none
  | 0x0821 => if b.length = 0 then
    some (.timeStatus h) else none
  | _ => none

/-- Follow commands: none where the parameter length is not one the command allows (check 7 of R447). -/
def decode09 (h : Hdr) (op : Nat) (b : List Byte) : Option Instr :=
  match op with
  | 0x0901 => if b.length = 16 + 20 * fu b 0 1 then
    some (.followCreate (hdrAlso h (fz b 3 1 && (List.range (fu b 0 1)).all (fun j => fz b (16 + 20 * j + 18) 2))) (fu b 0 1) (fu b 1 1)
      (fu b 2 1) (fu b 4 4) (fu b 8 8) (fl (fun j => readSrc b j) 16 20 (fu b 0 1))) else none
  | 0x0902 => if b.length = 16 + 20 * fu b 4 1 then
    some (.followSet (hdrAlso h (fz b 5 3 && (List.range (fu b 4 1)).all (fun j => fz b (16 + 20 * j + 18) 2))) (fh b 0) (fu b 4 1)
      (fu b 8 8) (fl (fun j => readSrc b j) 16 20 (fu b 4 1))) else none
  | 0x0903 => if b.length = 20 then
    some (.followCommit (hdrAlso h (fz b 5 1 && fz b 18 2)) (fh b 0) (fu b 4 1) (fu b 6 2) (fu b 8 8) (fu b 16 2)) else none
  | 0x0904 => if b.length = 16 then
    some (.followRelease (hdrAlso h (fz b 4 4)) (fh b 0) (fu b 8 8)) else none
  | 0x0905 => if b.length = 4 then
    some (.followStatus h (fh b 0)) else none
  | 0x0906 => if b.length = 24 then
    some (.followPolicy (hdrAlso h (fz b 11 1)) (fh b 0)
      { mode := fu b 4 1, flags := fu b 5 1, fade := fu b 6 2, thr := fu b 8 2, k := fu b 10 1, revert := fu b 12 2, visit := fu b 14 2, hop := fh b 16, curPrio := fu b 20 1, runPrio := fu b 21 1, lossHold := fu b 22 2 }) else none
  | _ => none

/-- Measurement commands: none where the parameter length is not one the command allows (check 7 of R447). -/
def decode0A (h : Hdr) (op : Nat) (b : List Byte) : Option Instr :=
  match op with
  | 0x0A01 => if b.length = 4 then
    some (.measRead h (fh b 0)) else none
  | 0x0A02 => if b.length = 8 then
    some (.measWindow (hdrAlso h (fz b 6 2)) (fh b 0) (fu b 4 2)) else none
  | 0x0A03 => if b.length = 20 then
    some (.measThreshold h (fh b 0)
      { code := fu b 4 1, basis := fu b 5 1, hold := fu b 6 2, low := lowSide (fs b 8 4), high := highSide (fs b 12 4), hyst := fu b 16 4 }) else none
  | 0x0A10 => if b.length = 4 then
    some (.loudnessRead h (fh b 0)) else none
  | 0x0A11 => if b.length = 16 then
    some (.loudnessReset (hdrAlso h (fz b 4 4)) (fh b 0) (fu b 8 8)) else none
  | 0x0A12 => if b.length = 16 then
    some (.audioMonSet (hdrAlso h (fz b 12 4)) (fh b 0)
      { flags := fu b 4 1, units := fu b 5 1, silThr := fs b 6 2, silHold := fu b 8 2, frzHold := fu b 10 2 }) else none
  | 0x0A20 => if b.length = 40 then
    some (.verifySet (hdrAlso h (fz b 14 2 && fz b 30 2))
      { index := fu b 0 1, kind := fu b 1 1, flags := fu b 2 1, group := fu b 3 1, prog := fh b 4, ref := fh b 8, slotL := fu b 12 1, slotR := fu b 13 1, min := fs b 16 4, max := fs b 20 4, match_ := fu b 24 2, mismatch := fu b 26 2, k := fu b 28 1, m := fu b 29 1 }
      (fu b 32 8)) else none
  | 0x0A21 => if b.length = 16 then
    some (.verifyClear (hdrAlso h (fz b 1 7)) (fu b 0 1) (fu b 8 8)) else none
  | 0x0A22 => if b.length = 4 then
    some (.verifyStatus (hdrAlso h (fz b 1 3)) (fu b 0 1)) else none
  | _ => none

/-- TDM commands: none where the parameter length is not one the command allows (check 7 of R447). -/
def decode0B (h : Hdr) (op : Nat) (b : List Byte) : Option Instr :=
  match op with
  | 0x0B01 => if b.length = 32 then
    some (.tdmPortConfig (hdrAlso h (fz b 13 3 && fz b 20 4)) (fh b 0) (readTdm b 4) (fu b 24 8)) else none
  | 0x0B02 => if b.length = 4 then
    some (.tdmPortStatus h (fh b 0)) else none
  | 0x0B10 => if b.length = 24 then
    some (.tdmStreamCreate (hdrAlso h (fz b 12 4))
      { port := fh b 0, src := fh b 4, slotA := fu b 8 1, slotB := fu b 9 1, chan := fu b 10 1, shift := fu b 11 1 } (fu b 16 8)) else none
  | 0x0B11 => if b.length = 16 then
    some (.tdmStreamRelease (hdrAlso h (fz b 4 4)) (fh b 0) (fu b 8 8)) else none
  | 0x0B20 => if b.length = 16 then
    some (.alignCreate (hdrAlso h (fz b 0 8)) (fu b 8 8)) else none
  | 0x0B21 => if b.length = 16 then
    some (.alignAdd h (fh b 0) (fh b 4) (fu b 8 8)) else none
  | 0x0B22 => if b.length = 16 then
    some (.alignRemove h (fh b 0) (fh b 4) (fu b 8 8)) else none
  | 0x0B23 => if b.length = 16 then
    some (.alignRelease (hdrAlso h (fz b 4 4)) (fh b 0) (fu b 8 8)) else none
  | 0x0B24 => if b.length = 4 then
    some (.alignStatus h (fh b 0)) else none
  | _ => none

/-- Ethernet commands: none where the parameter length is not one the command allows (check 7 of R447). -/
def decode0C (h : Hdr) (op : Nat) (b : List Byte) : Option Instr :=
  match op with
  | 0x0C01 => if b.length = 72 then
    some (.ethPortConfig (hdrAlso h (fz b 55 1 && fz b 58 6)) (fh b 0) (readEth b 4) (fu b 64 8)) else none
  | 0x0C02 => if b.length = 4 then
    some (.ethPortStatus h (fh b 0)) else none
  | 0x0C10 => if b.length = 56 + 4 * fu b 6 2 then
    some (.ethStreamCreate (hdrAlso h (fz b 42 2 && fz b 52 4))
      { kind := fu b 0 1, ports := fu b 1 1, flags := fu b 2 1, chan := fu b 3 1, shift := fu b 4 1, ptype := fu b 5 1, n := fu b 6 2, dest := fn b 16 16, dport := fu b 32 2, sport := fu b 34 2, ssrc := fu b 36 4, seqOff := fu b 40 2, tsOff := fu b 44 4, budget := fu b 48 4, sources := fl (fun j => fh b j) 56 4 (fu b 6 2) }
      (fu b 8 8)) else none
  | 0x0C11 => if b.length = 16 then
    some (.ethStreamRelease (hdrAlso h (fz b 4 4)) (fh b 0) (fu b 8 8)) else none
  | 0x0C12 => if b.length = 4 then
    some (.ethStreamStatus h (fh b 0)) else none
  | _ => none

/-- RTC commands: none where the parameter length is not one the command allows (check 7 of R447). -/
def decode0D (h : Hdr) (op : Nat) (b : List Byte) : Option Instr :=
  match op with
  | 0x0D01 => if b.length = 0 then
    some (.rtcRead h) else none
  | 0x0D02 => if b.length = 24 then
    some (.rtcSet (hdrAlso h (fz b 1 7)) (fu b 0 1) (fu b 8 8) (fu b 16 8)) else none
  | 0x0D03 => if b.length = 8 then
    some (.rtcTrim (hdrAlso h (fz b 1 7)) (fs b 0 1)) else none
  | 0x0D04 => if b.length = 16 then
    some (.rtcAlarmSet (hdrAlso h (fz b 2 6)) (fu b 0 1) (fu b 1 1) (fu b 8 8)) else none
  | 0x0D05 => if b.length = 0 then
    some (.rtcStatus h) else none
  | 0x0D06 => if b.length = 8 then
    some (.rtcWeekdaySet (hdrAlso h (fz b 1 3)) (fu b 0 1) (fu b 4 4)) else none
  | 0x0D07 => if b.length = 8 then
    some (.rtcConfig (hdrAlso h (fz b 4 4)) (fu b 0 2) (fu b 2 2)) else none
  | 0x0D10 => if b.length = 12 then
    some (.dateToTicks (hdrAlso h (fz b 7 1 && fz b 10 2))
      { year := fu b 0 2, month := fu b 2 1, day := fu b 3 1, hour := fu b 4 1, minute := fu b 5 1, second := fu b 6 1, sub := fu b 8 2 }) else none
  | 0x0D11 => if b.length = 8 then
    some (.ticksToDate h (fu b 0 8)) else none
  | _ => none

/-- Record and firmware commands: none where the parameter length is not one the command allows (check 7 of R447). -/
def decode0E (h : Hdr) (op : Nat) (b : List Byte) : Option Instr :=
  match op with
  | 0x0E01 => if b.length = 4 then
    some (.recordStatus h (fh b 0)) else none
  | 0x0E02 => if b.length = 12 then
    some (.recordRead (hdrAlso h (fz b 5 1)) (fh b 0) (fu b 4 1) (fu b 6 2) (fu b 8 4)) else none
  | 0x0E03 => if b.length = 8 then
    some (.recordResolve (hdrAlso h (fz b 5 3)) (fh b 0) (fu b 4 1)) else none
  | 0x0E04 => if b.length = 36 then
    some (.limitsWrite (hdrAlso h (fz b 2 2 && fz b 9 3 && fz b 17 3 && fz b 25 3 && fz b 33 3))
      { allowance := fu b 0 2, ports := fl (fun j => readLimit b j) 4 8 4 }) else none
  | 0x0E05 => if 12 ≤ b.length then
    some (.trimWrite (hdrAlso h (fz b 9 3)) (fu b 0 4) (fu b 4 4) (fu b 8 1) (b.drop 12)) else none
  | 0x0E10 => if b.length = 0 then
    some (.fwStatus h) else none
  | 0x0E11 => if b.length = 8 then
    some (.fwLoadBegin (hdrAlso h (fz b 1 3)) (fu b 0 1) (fu b 4 4)) else none
  | 0x0E12 => if 4 ≤ b.length then
    some (.fwLoadData h (fu b 0 4) (b.drop 4)) else none
  | 0x0E13 => if b.length = 0 then
    some (.fwLoadEnd h) else none
  | 0x0E14 => if b.length = 8 then
    some (.fwBoot (hdrAlso h (fz b 2 2)) (fu b 0 1) (fu b 1 1) (fu b 4 4)) else none
  | 0x0E15 => if b.length = 68 then
    some (.fwKeyWrite (hdrAlso h (fz b 2 2)) (fu b 0 1) (fu b 1 1) ((b.drop 4).take 64)) else none
  | 0x0E16 => if b.length = 8 then
    some (.lifecycleLock (hdrAlso h (fz b 4 4)) (fu b 0 4)) else none
  | _ => none

/-- Pair commands: none where the parameter length is not one the command allows (check 7 of R447). -/
def decode0F (h : Hdr) (op : Nat) (b : List Byte) : Option Instr :=
  match op with
  | 0x0F01 => if b.length = 24 then
    some (.pairConfig (hdrAlso h (fz b 10 2))
      { id := fu b 0 4, partner := fu b 4 4, position := fu b 8 1, flags := fu b 9 1, map := fl (fun j => fu b j 1) 12 1 4 } (fu b 16 8)) else none
  | 0x0F02 => if b.length = 0 then
    some (.pairStatus h) else none
  | 0x0F03 => if b.length = 16 then
    some (.pairHandover (hdrAlso h (fz b 1 7)) (fu b 0 1) (fu b 8 8)) else none
  | 0x0F10 => if b.length = 8 then
    some (.deviceIdSet (hdrAlso h (fz b 2 6)) (fu b 0 2)) else none
  | 0x0F11 => if b.length = 0 then
    some (.farmStatus h) else none
  | _ => none

/-- Calibration commands: none where the parameter length is not one the command allows (check 7 of R447). -/
def decode10 (h : Hdr) (op : Nat) (b : List Byte) : Option Instr :=
  match op with
  | 0x1001 => if b.length = 8 then
    some (.calPolicy (hdrAlso h (fz b 6 2)) (readCal b 0)) else none
  | 0x1002 => if b.length = 8 then
    some (.calRequest (hdrAlso h (fz b 5 3)) (fh b 0) (fu b 4 1)) else none
  | 0x1003 => if b.length = 4 then
    some (.calStatus h (fh b 0)) else none
  | 0x1004 => if b.length = 8 then
    some (.calResultRead (hdrAlso h (fz b 6 2)) (fh b 0) (fu b 4 1) (fu b 5 1)) else none
  | 0x1005 => if b.length = 0 then
    some (.calSnapshot h) else none
  | _ => none

/-- Tuner and probe commands: none where the parameter length is not one the command allows (check 7 of R447). -/
def decode11 (h : Hdr) (op : Nat) (b : List Byte) : Option Instr :=
  match op with
  | 0x1101 => if b.length = 20 then
    some (.tunerPresetWrite (hdrAlso h (fz b 5 3 && fz b 18 2)) (fh b 0) (fu b 4 1) (readPreset b 8)) else none
  | 0x1102 => if b.length = 8 then
    some (.tunerPresetRead (hdrAlso h (fz b 5 3)) (fh b 0) (fu b 4 1)) else none
  | 0x1103 => if b.length = 16 then
    some (.tunerSelect (hdrAlso h (fz b 6 2)) (fh b 0) (fu b 4 1) (fu b 5 1) (fu b 8 8)) else none
  | 0x1104 => if b.length = 4 then
    some (.tunerStatus h (fh b 0)) else none
  | 0x1110 => if b.length = 24 + 4 * fu b 6 1 then
    some (.probeStart (hdrAlso h (fz b 22 2))
      { port := fh b 0, level := fs b 4 2, points := fu b 6 1, flags := fu b 7 1, target := fu b 8 8, duration := fu b 16 4, threshold := fu b 20 2, freqs := fl (fun j => fu b j 4) 24 4 (fu b 6 1) }) else none
  | 0x1111 => if b.length = 0 then
    some (.probeStop h) else none
  | 0x1112 => if b.length = 0 then
    some (.probeStatus h) else none
  | 0x1120 => if b.length = 16 + 4 * fu b 4 1 then
    some (.mismatchMeasure (hdrAlso h (fz b 5 1)) (fh b 0) (fu b 4 1) (fu b 6 2) (fu b 8 8) (fl (fun j => fu b j 4) 16 4 (fu b 4 1))) else none
  | 0x1121 => if b.length = 4 then
    some (.mismatchRead h (fh b 0)) else none
  | _ => none

/-- A command read from its opcode and parameters. `h` is its header, to which the reserved fields add. (log 3: DESIGN CHOICE) -/
def decodeCmd (h : Hdr) (op : Nat) (b : List Byte) : Option Instr :=
  match op / 256 with
  | 0x01 => decode01 h op b
  | 0x02 => decode02 h op b
  | 0x03 => decode03 h op b
  | 0x04 => decode04 h op b
  | 0x05 => decode05 h op b
  | 0x06 => decode06 h op b
  | 0x07 => decode07 h op b
  | 0x08 => decode08 h op b
  | 0x09 => decode09 h op b
  | 0x0A => decode0A h op b
  | 0x0B => decode0B h op b
  | 0x0C => decode0C h op b
  | 0x0D => decode0D h op b
  | 0x0E => decode0E h op b
  | 0x0F => decode0F h op b
  | 0x10 => decode10 h op b
  | 0x11 => decode11 h op b
  | _ => none

/-! Writing. -/

/-- The parameters of a host command; none has any for an event. -/
def paramsOf : Instr → List Byte
  | .sysIdent _ => []
  | .sysStatus _ => []
  | .sysModeSet _ mode target => byte mode ++ zeros 7 ++ leBytes 8 target
  | .sysDomainSet _ on off target => leBytes 2 on ++ leBytes 2 off ++ zeros 4 ++ leBytes 8 target
  | .sysReset _ kind confirm => byte kind ++ zeros 3 ++ leBytes 4 confirm
  | .sysEventRead _ ack max => leBytes 4 ack ++ byte max ++ zeros 3
  | .sysEventNotify _ c => notifyBytes c
  | .sysProtoStatus _ => []
  | .sysEventCount _ => []
  | .pbConfig _ flags stretch => byte flags ++ zeros 1 ++ leBytes 2 stretch ++ zeros 4
  | .pbPeriphCreate _ p => byte p.addr ++ byte p.flags ++ leBytes 2 p.stretch ++ zeros 4
  | .pbPeriphRelease _ periph => handleBytes periph ++ zeros 4
  | .pbTransfer _ r => handleBytes r.periph ++ byte r.w ++ byte r.r ++ byte r.flags ++ zeros 1 ++ r.data
  | .pbStatus _ => []
  | .sessionOpen _ role => byte role ++ zeros 3
  | .sessionProve _ sess proof => handleBytes sess ++ proof
  | .sessionClose _ => []
  | .sessionStatus _ => []
  | .rolekeySet _ role key => byte role ++ zeros 3 ++ key
  | .auditRead _ start max => leBytes 4 start ++ byte max ++ zeros 3
  | .auditClear _ confirm => leBytes 4 confirm ++ zeros 4
  | .tbConfig _ c => tbBytes c
  | .tbStatus _ => []
  | .tbPhaseStep _ obj target steps => handleBytes obj ++ leBytes 8 target ++ leSigned 2 steps ++ zeros 2
  | .tbSetSeconds _ target secs => leBytes 8 target ++ leBytes 8 secs
  | .clkConfig _ mode amount target => byte mode ++ byte amount ++ zeros 2 ++ leBytes 8 target
  | .clkStatus _ => []
  | .portConfig _ port loop flags target => handleBytes port ++ byte loop ++ byte flags ++ zeros 2 ++ leBytes 8 target
  | .portStatus _ port => handleBytes port
  | .feedSet _ port flags limit target => handleBytes port ++ byte flags ++ byte limit ++ zeros 2 ++ leBytes 8 target
  | .feedReset _ port => handleBytes port
  | .heddleRoute _ warp port target => handleBytes warp ++ handleBytes port ++ leBytes 8 target
  | .warpTune _ warp r target => handleBytes warp ++ tuneBytes r ++ leBytes 8 target
  | .warpGain _ warp gain target => handleBytes warp ++ byte gain ++ zeros 3 ++ leBytes 8 target
  | .warpAgc _ warp c => handleBytes warp ++ agcBytes c
  | .warpStatus _ warp => handleBytes warp
  | .synStatus _ index => byte index ++ zeros 3
  | .synDitherSet _ index flags seed => byte index ++ byte flags ++ zeros 2 ++ leBytes 4 seed
  | .synProfileStore _ index num => byte index ++ byte num ++ zeros 2
  | .synProfileRead _ index num => byte index ++ byte num ++ zeros 2
  | .synProfileClear _ index num => byte index ++ byte num ++ zeros 2
  | .dentCreate _ r target => 
    handleBytes r.warp ++ byte r.rate ++ byte r.d ++ byte r.bankA ++ byte r.bankB ++ leBytes 8 r.freq ++ leBytes 4 r.bw
      ++ leBytes 2 r.tau ++ zeros 2 ++ leBytes 8 target
  | .dentSet _ dent c target => 
    handleBytes dent ++ byte c.flags ++ zeros 3 ++ leBytes 8 c.freq ++ handleBytes c.warp ++ leBytes 4 c.bw ++ leBytes 2 c.tau
      ++ leBytes 2 c.sample ++ zeros 4 ++ leBytes 8 target
  | .dentBankLoad _ dent b => handleBytes dent ++ byte b.bank ++ byte b.kind ++ byte b.n ++ byte b.flags ++ leBytes 4 b.delay ++ zeros 4
      ++ b.taps.flatMap (leSigned 4)
  | .dentBankSwap _ dent sample target => handleBytes dent ++ leBytes 2 sample ++ zeros 2 ++ leBytes 8 target
  | .dentFlush _ dent sample target => handleBytes dent ++ leBytes 2 sample ++ zeros 2 ++ leBytes 8 target
  | .dentRelease _ dent sample target => handleBytes dent ++ leBytes 2 sample ++ zeros 2 ++ leBytes 8 target
  | .dentStatus _ dent => handleBytes dent
  | .reedStatus _ => []
  | .dentBankRead _ dent bank => handleBytes dent ++ byte bank ++ zeros 3
  | .weaveCreate _ r target => 
    byte r.type ++ byte r.n ++ byte r.prio ++ byte r.group ++ byte r.flags ++ byte r.opt ++ leBytes 2 r.m ++ leBytes 8 target
      ++ r.dents.flatMap handleBytes ++ r.block
  | .weaveStart _ weave target => handleBytes weave ++ zeros 4 ++ leBytes 8 target
  | .weaveStop _ weave target => handleBytes weave ++ zeros 4 ++ leBytes 8 target
  | .weaveRelease _ weave target => handleBytes weave ++ zeros 4 ++ leBytes 8 target
  | .weaveSet _ weave prio m target block => handleBytes weave ++ byte prio ++ zeros 1 ++ leBytes 2 m ++ leBytes 8 target ++ block
  | .weaveStatus _ weave => handleBytes weave
  | .schedStatus _ => []
  | .fmStatus _ weave => handleBytes weave
  | .amStatus _ weave => handleBytes weave
  | .fmAfRead _ weave index => handleBytes weave ++ byte index ++ zeros 3
  | .dabStatus _ weave => handleBytes weave
  | .dabSubchRead _ weave id => handleBytes weave ++ byte id ++ zeros 3
  | .dabTiiRead _ weave => handleBytes weave
  | .drmStatus _ weave => handleBytes weave
  | .digDecodeSet _ weave n target comps => handleBytes weave ++ byte n ++ zeros 3 ++ leBytes 8 target ++ comps.flatMap handleBytes
  | .surveyStart _ n flags target entries => byte n ++ byte flags ++ zeros 6 ++ leBytes 8 target ++ entries.flatMap surveyBytes
  | .surveyStop _ => []
  | .surveyStatus _ => []
  | .serviceList _ start => leBytes 2 start ++ zeros 2
  | .serviceRead _ svc => handleBytes svc
  | .componentRead _ comp => handleBytes comp
  | .labelRead _ obj kind => handleBytes obj ++ byte kind ++ zeros 3
  | .linkRead _ svc start => handleBytes svc ++ leBytes 2 start ++ zeros 2
  | .serviceRelease _ svc target => handleBytes svc ++ zeros 4 ++ leBytes 8 target
  | .timePolicy _ c => timeBytes c
  | .timeStatus _ => []
  | .followCreate _ n group flags hold target entries => 
    byte n ++ byte group ++ byte flags ++ zeros 1 ++ leBytes 4 hold ++ leBytes 8 target ++ entries.flatMap srcReqBytes
  | .followSet _ set n target entries => handleBytes set ++ byte n ++ zeros 3 ++ leBytes 8 target ++ entries.flatMap srcReqBytes
  | .followCommit _ set entry sample target fade => 
    handleBytes set ++ byte entry ++ zeros 1 ++ leBytes 2 sample ++ leBytes 8 target ++ leBytes 2 fade ++ zeros 2
  | .followRelease _ set target => handleBytes set ++ zeros 4 ++ leBytes 8 target
  | .followStatus _ set => handleBytes set
  | .followPolicy _ set c => 
    handleBytes set ++ byte c.mode ++ byte c.flags ++ leBytes 2 c.fade ++ leBytes 2 c.thr ++ byte c.k ++ zeros 1
      ++ leBytes 2 c.revert ++ leBytes 2 c.visit ++ handleBytes c.hop ++ byte c.curPrio ++ byte c.runPrio
      ++ leBytes 2 c.lossHold
  | .measRead _ obj => handleBytes obj
  | .measWindow _ obj w => handleBytes obj ++ leBytes 2 w ++ zeros 2
  | .measThreshold _ obj t => 
    handleBytes obj ++ byte t.code ++ byte t.basis ++ leBytes 2 t.hold ++ leSigned 4 (t.low.getD (-2147483648))
      ++ leSigned 4 (t.high.getD 2147483647) ++ leBytes 4 t.hyst
  | .loudnessRead _ comp => handleBytes comp
  | .loudnessReset _ comp target => handleBytes comp ++ zeros 4 ++ leBytes 8 target
  | .audioMonSet _ comp c => 
    handleBytes comp ++ byte c.flags ++ byte c.units ++ leSigned 2 c.silThr ++ leBytes 2 c.silHold ++ leBytes 2 c.frzHold
      ++ zeros 4
  | .verifySet _ r target => 
    byte r.index ++ byte r.kind ++ byte r.flags ++ byte r.group ++ handleBytes r.prog ++ handleBytes r.ref ++ byte r.slotL
      ++ byte r.slotR ++ zeros 2 ++ leSigned 4 r.min ++ leSigned 4 r.max ++ leBytes 2 r.match_ ++ leBytes 2 r.mismatch
      ++ byte r.k ++ byte r.m ++ zeros 2 ++ leBytes 8 target
  | .verifyClear _ index target => byte index ++ zeros 7 ++ leBytes 8 target
  | .verifyStatus _ index => byte index ++ zeros 3
  | .tdmPortConfig _ port c target => handleBytes port ++ tdmCfgBytes c ++ leBytes 8 target
  | .tdmPortStatus _ port => handleBytes port
  | .tdmStreamCreate _ r target => 
    handleBytes r.port ++ handleBytes r.src ++ byte r.slotA ++ byte r.slotB ++ byte r.chan ++ byte r.shift ++ zeros 4
      ++ leBytes 8 target
  | .tdmStreamRelease _ stream target => handleBytes stream ++ zeros 4 ++ leBytes 8 target
  | .alignCreate _ target => zeros 8 ++ leBytes 8 target
  | .alignAdd _ group stream target => handleBytes group ++ handleBytes stream ++ leBytes 8 target
  | .alignRemove _ group stream target => handleBytes group ++ handleBytes stream ++ leBytes 8 target
  | .alignRelease _ group target => handleBytes group ++ zeros 4 ++ leBytes 8 target
  | .alignStatus _ group => handleBytes group
  | .ethPortConfig _ port c target => handleBytes port ++ ethBytes c ++ leBytes 8 target
  | .ethPortStatus _ port => handleBytes port
  | .ethStreamCreate _ r target => 
    byte r.kind ++ byte r.ports ++ byte r.flags ++ byte r.chan ++ byte r.shift ++ byte r.ptype ++ leBytes 2 r.n
      ++ leBytes 8 target ++ beBytes 16 r.dest ++ leBytes 2 r.dport ++ leBytes 2 r.sport ++ leBytes 4 r.ssrc
      ++ leBytes 2 r.seqOff ++ zeros 2 ++ leBytes 4 r.tsOff ++ leBytes 4 r.budget ++ zeros 4 ++ r.sources.flatMap handleBytes
  | .ethStreamRelease _ stream target => handleBytes stream ++ zeros 4 ++ leBytes 8 target
  | .ethStreamStatus _ stream => handleBytes stream
  | .rtcRead _ => []
  | .rtcSet _ kind value target => byte kind ++ zeros 7 ++ leBytes 8 value ++ leBytes 8 target
  | .rtcTrim _ trim => leSigned 1 trim ++ zeros 7
  | .rtcAlarmSet _ alarm flags value => byte alarm ++ byte flags ++ zeros 6 ++ leBytes 8 value
  | .rtcStatus _ => []
  | .rtcWeekdaySet _ weekday offset => byte weekday ++ zeros 3 ++ leBytes 4 offset
  | .rtcConfig _ vsw low => leBytes 2 vsw ++ leBytes 2 low ++ zeros 4
  | .dateToTicks _ d => 
    leBytes 2 d.year ++ byte d.month ++ byte d.day ++ byte d.hour ++ byte d.minute ++ byte d.second ++ zeros 1 ++ leBytes 2 d.sub
      ++ zeros 2
  | .ticksToDate _ count => leBytes 8 count
  | .recordStatus _ rec => handleBytes rec
  | .recordRead _ rec copy len offset => handleBytes rec ++ byte copy ++ zeros 1 ++ leBytes 2 len ++ leBytes 4 offset
  | .recordResolve _ rec keep => handleBytes rec ++ byte keep ++ zeros 3
  | .limitsWrite _ l => leBytes 2 l.allowance ++ zeros 2 ++ l.ports.flatMap limitBytes
  | .trimWrite _ offset total flags data => leBytes 4 offset ++ leBytes 4 total ++ byte flags ++ zeros 3 ++ data
  | .fwStatus _ => []
  | .fwLoadBegin _ target len => byte target ++ zeros 3 ++ leBytes 4 len
  | .fwLoadData _ offset data => leBytes 4 offset ++ data
  | .fwLoadEnd _ => []
  | .fwBoot _ source flags confirm => byte source ++ byte flags ++ zeros 2 ++ leBytes 4 confirm
  | .fwKeyWrite _ slot flags key => byte slot ++ byte flags ++ zeros 2 ++ key
  | .lifecycleLock _ confirm => leBytes 4 confirm ++ zeros 4
  | .pairConfig _ c target => 
    leBytes 4 c.id ++ leBytes 4 c.partner ++ byte c.position ++ byte c.flags ++ zeros 2 ++ c.map.flatMap (fun x => byte x)
      ++ leBytes 8 target
  | .pairStatus _ => []
  | .pairHandover _ flags target => byte flags ++ zeros 7 ++ leBytes 8 target
  | .deviceIdSet _ id => leBytes 2 id ++ zeros 6
  | .farmStatus _ => []
  | .calPolicy _ c => calBytes c
  | .calRequest _ warp flags => handleBytes warp ++ byte flags ++ zeros 3
  | .calStatus _ warp => handleBytes warp
  | .calResultRead _ warp gainBand loBand => handleBytes warp ++ byte gainBand ++ byte loBand ++ zeros 2
  | .calSnapshot _ => []
  | .tunerPresetWrite _ port num p => handleBytes port ++ byte num ++ zeros 3 ++ presetBytes p
  | .tunerPresetRead _ port num => handleBytes port ++ byte num ++ zeros 3
  | .tunerSelect _ port num flags target => handleBytes port ++ byte num ++ byte flags ++ zeros 2 ++ leBytes 8 target
  | .tunerStatus _ port => handleBytes port
  | .probeStart _ r => 
    handleBytes r.port ++ leSigned 2 r.level ++ byte r.points ++ byte r.flags ++ leBytes 8 r.target ++ leBytes 4 r.duration
      ++ leBytes 2 r.threshold ++ zeros 2 ++ r.freqs.flatMap (leBytes 4)
  | .probeStop _ => []
  | .probeStatus _ => []
  | .mismatchMeasure _ port points threshold target freqs => 
    handleBytes port ++ byte points ++ zeros 1 ++ leBytes 2 threshold ++ leBytes 8 target ++ freqs.flatMap (leBytes 4)
  | .mismatchRead _ port => handleBytes port
  | _ => []

/-- The opcode of a host command; 0 for an event. -/
def opOf : Instr → Nat
  | .sysIdent _ => 0x0101
  | .sysStatus _ => 0x0102
  | .sysModeSet _ _ _ => 0x0103
  | .sysDomainSet _ _ _ _ => 0x0104
  | .sysReset _ _ _ => 0x0105
  | .sysEventRead _ _ _ => 0x0110
  | .sysEventNotify _ _ => 0x0111
  | .sysProtoStatus _ => 0x0112
  | .sysEventCount _ => 0x0113
  | .pbConfig _ _ _ => 0x0120
  | .pbPeriphCreate _ _ => 0x0121
  | .pbPeriphRelease _ _ => 0x0122
  | .pbTransfer _ _ => 0x0123
  | .pbStatus _ => 0x0124
  | .sessionOpen _ _ => 0x0201
  | .sessionProve _ _ _ => 0x0202
  | .sessionClose _ => 0x0203
  | .sessionStatus _ => 0x0204
  | .rolekeySet _ _ _ => 0x0210
  | .auditRead _ _ _ => 0x0220
  | .auditClear _ _ => 0x0221
  | .tbConfig _ _ => 0x0301
  | .tbStatus _ => 0x0302
  | .tbPhaseStep _ _ _ _ => 0x0303
  | .tbSetSeconds _ _ _ => 0x0304
  | .clkConfig _ _ _ _ => 0x0310
  | .clkStatus _ => 0x0311
  | .portConfig _ _ _ _ _ => 0x0401
  | .portStatus _ _ => 0x0402
  | .feedSet _ _ _ _ _ => 0x0410
  | .feedReset _ _ => 0x0411
  | .heddleRoute _ _ _ _ => 0x0420
  | .warpTune _ _ _ _ => 0x0501
  | .warpGain _ _ _ _ => 0x0502
  | .warpAgc _ _ _ => 0x0503
  | .warpStatus _ _ => 0x0504
  | .synStatus _ _ => 0x0520
  | .synDitherSet _ _ _ _ => 0x0521
  | .synProfileStore _ _ _ => 0x0522
  | .synProfileRead _ _ _ => 0x0523
  | .synProfileClear _ _ _ => 0x0524
  | .dentCreate _ _ _ => 0x0601
  | .dentSet _ _ _ _ => 0x0602
  | .dentBankLoad _ _ _ => 0x0603
  | .dentBankSwap _ _ _ _ => 0x0604
  | .dentFlush _ _ _ _ => 0x0605
  | .dentRelease _ _ _ _ => 0x0606
  | .dentStatus _ _ => 0x0607
  | .reedStatus _ => 0x0608
  | .dentBankRead _ _ _ => 0x0609
  | .weaveCreate _ _ _ => 0x0701
  | .weaveStart _ _ _ => 0x0702
  | .weaveStop _ _ _ => 0x0703
  | .weaveRelease _ _ _ => 0x0704
  | .weaveSet _ _ _ _ _ _ => 0x0705
  | .weaveStatus _ _ => 0x0706
  | .schedStatus _ => 0x0707
  | .fmStatus _ _ => 0x0710
  | .amStatus _ _ => 0x0711
  | .fmAfRead _ _ _ => 0x0712
  | .dabStatus _ _ => 0x0720
  | .dabSubchRead _ _ _ => 0x0721
  | .dabTiiRead _ _ => 0x0722
  | .drmStatus _ _ => 0x0730
  | .digDecodeSet _ _ _ _ _ => 0x0740
  | .surveyStart _ _ _ _ _ => 0x0801
  | .surveyStop _ => 0x0802
  | .surveyStatus _ => 0x0803
  | .serviceList _ _ => 0x0810
  | .serviceRead _ _ => 0x0811
  | .componentRead _ _ => 0x0812
  | .labelRead _ _ _ => 0x0813
  | .linkRead _ _ _ => 0x0814
  | .serviceRelease _ _ _ => 0x0815
  | .timePolicy _ _ => 0x0820
  | .timeStatus _ => 0x0821
  | .followCreate _ _ _ _ _ _ _ => 0x0901
  | .followSet _ _ _ _ _ => 0x0902
  | .followCommit _ _ _ _ _ _ => 0x0903
  | .followRelease _ _ _ => 0x0904
  | .followStatus _ _ => 0x0905
  | .followPolicy _ _ _ => 0x0906
  | .measRead _ _ => 0x0A01
  | .measWindow _ _ _ => 0x0A02
  | .measThreshold _ _ _ => 0x0A03
  | .loudnessRead _ _ => 0x0A10
  | .loudnessReset _ _ _ => 0x0A11
  | .audioMonSet _ _ _ => 0x0A12
  | .verifySet _ _ _ => 0x0A20
  | .verifyClear _ _ _ => 0x0A21
  | .verifyStatus _ _ => 0x0A22
  | .tdmPortConfig _ _ _ _ => 0x0B01
  | .tdmPortStatus _ _ => 0x0B02
  | .tdmStreamCreate _ _ _ => 0x0B10
  | .tdmStreamRelease _ _ _ => 0x0B11
  | .alignCreate _ _ => 0x0B20
  | .alignAdd _ _ _ _ => 0x0B21
  | .alignRemove _ _ _ _ => 0x0B22
  | .alignRelease _ _ _ => 0x0B23
  | .alignStatus _ _ => 0x0B24
  | .ethPortConfig _ _ _ _ => 0x0C01
  | .ethPortStatus _ _ => 0x0C02
  | .ethStreamCreate _ _ _ => 0x0C10
  | .ethStreamRelease _ _ _ => 0x0C11
  | .ethStreamStatus _ _ => 0x0C12
  | .rtcRead _ => 0x0D01
  | .rtcSet _ _ _ _ => 0x0D02
  | .rtcTrim _ _ => 0x0D03
  | .rtcAlarmSet _ _ _ _ => 0x0D04
  | .rtcStatus _ => 0x0D05
  | .rtcWeekdaySet _ _ _ => 0x0D06
  | .rtcConfig _ _ _ => 0x0D07
  | .dateToTicks _ _ => 0x0D10
  | .ticksToDate _ _ => 0x0D11
  | .recordStatus _ _ => 0x0E01
  | .recordRead _ _ _ _ _ => 0x0E02
  | .recordResolve _ _ _ => 0x0E03
  | .limitsWrite _ _ => 0x0E04
  | .trimWrite _ _ _ _ _ => 0x0E05
  | .fwStatus _ => 0x0E10
  | .fwLoadBegin _ _ _ => 0x0E11
  | .fwLoadData _ _ _ => 0x0E12
  | .fwLoadEnd _ => 0x0E13
  | .fwBoot _ _ _ _ => 0x0E14
  | .fwKeyWrite _ _ _ _ => 0x0E15
  | .lifecycleLock _ _ => 0x0E16
  | .pairConfig _ _ _ => 0x0F01
  | .pairStatus _ => 0x0F02
  | .pairHandover _ _ _ => 0x0F03
  | .deviceIdSet _ _ => 0x0F10
  | .farmStatus _ => 0x0F11
  | .calPolicy _ _ => 0x1001
  | .calRequest _ _ _ => 0x1002
  | .calStatus _ _ => 0x1003
  | .calResultRead _ _ _ _ => 0x1004
  | .calSnapshot _ => 0x1005
  | .tunerPresetWrite _ _ _ _ => 0x1101
  | .tunerPresetRead _ _ _ => 0x1102
  | .tunerSelect _ _ _ _ _ => 0x1103
  | .tunerStatus _ _ => 0x1104
  | .probeStart _ _ => 0x1110
  | .probeStop _ => 0x1111
  | .probeStatus _ => 0x1112
  | .mismatchMeasure _ _ _ _ _ _ => 0x1120
  | .mismatchRead _ _ => 0x1121
  | _ => 0

/-- The header of a host command. -/
def hdrOf : Instr → Option Hdr
  | .sysIdent h => some h
  | .sysStatus h => some h
  | .sysModeSet h _ _ => some h
  | .sysDomainSet h _ _ _ => some h
  | .sysReset h _ _ => some h
  | .sysEventRead h _ _ => some h
  | .sysEventNotify h _ => some h
  | .sysProtoStatus h => some h
  | .sysEventCount h => some h
  | .pbConfig h _ _ => some h
  | .pbPeriphCreate h _ => some h
  | .pbPeriphRelease h _ => some h
  | .pbTransfer h _ => some h
  | .pbStatus h => some h
  | .sessionOpen h _ => some h
  | .sessionProve h _ _ => some h
  | .sessionClose h => some h
  | .sessionStatus h => some h
  | .rolekeySet h _ _ => some h
  | .auditRead h _ _ => some h
  | .auditClear h _ => some h
  | .tbConfig h _ => some h
  | .tbStatus h => some h
  | .tbPhaseStep h _ _ _ => some h
  | .tbSetSeconds h _ _ => some h
  | .clkConfig h _ _ _ => some h
  | .clkStatus h => some h
  | .portConfig h _ _ _ _ => some h
  | .portStatus h _ => some h
  | .feedSet h _ _ _ _ => some h
  | .feedReset h _ => some h
  | .heddleRoute h _ _ _ => some h
  | .warpTune h _ _ _ => some h
  | .warpGain h _ _ _ => some h
  | .warpAgc h _ _ => some h
  | .warpStatus h _ => some h
  | .synStatus h _ => some h
  | .synDitherSet h _ _ _ => some h
  | .synProfileStore h _ _ => some h
  | .synProfileRead h _ _ => some h
  | .synProfileClear h _ _ => some h
  | .dentCreate h _ _ => some h
  | .dentSet h _ _ _ => some h
  | .dentBankLoad h _ _ => some h
  | .dentBankSwap h _ _ _ => some h
  | .dentFlush h _ _ _ => some h
  | .dentRelease h _ _ _ => some h
  | .dentStatus h _ => some h
  | .reedStatus h => some h
  | .dentBankRead h _ _ => some h
  | .weaveCreate h _ _ => some h
  | .weaveStart h _ _ => some h
  | .weaveStop h _ _ => some h
  | .weaveRelease h _ _ => some h
  | .weaveSet h _ _ _ _ _ => some h
  | .weaveStatus h _ => some h
  | .schedStatus h => some h
  | .fmStatus h _ => some h
  | .amStatus h _ => some h
  | .fmAfRead h _ _ => some h
  | .dabStatus h _ => some h
  | .dabSubchRead h _ _ => some h
  | .dabTiiRead h _ => some h
  | .drmStatus h _ => some h
  | .digDecodeSet h _ _ _ _ => some h
  | .surveyStart h _ _ _ _ => some h
  | .surveyStop h => some h
  | .surveyStatus h => some h
  | .serviceList h _ => some h
  | .serviceRead h _ => some h
  | .componentRead h _ => some h
  | .labelRead h _ _ => some h
  | .linkRead h _ _ => some h
  | .serviceRelease h _ _ => some h
  | .timePolicy h _ => some h
  | .timeStatus h => some h
  | .followCreate h _ _ _ _ _ _ => some h
  | .followSet h _ _ _ _ => some h
  | .followCommit h _ _ _ _ _ => some h
  | .followRelease h _ _ => some h
  | .followStatus h _ => some h
  | .followPolicy h _ _ => some h
  | .measRead h _ => some h
  | .measWindow h _ _ => some h
  | .measThreshold h _ _ => some h
  | .loudnessRead h _ => some h
  | .loudnessReset h _ _ => some h
  | .audioMonSet h _ _ => some h
  | .verifySet h _ _ => some h
  | .verifyClear h _ _ => some h
  | .verifyStatus h _ => some h
  | .tdmPortConfig h _ _ _ => some h
  | .tdmPortStatus h _ => some h
  | .tdmStreamCreate h _ _ => some h
  | .tdmStreamRelease h _ _ => some h
  | .alignCreate h _ => some h
  | .alignAdd h _ _ _ => some h
  | .alignRemove h _ _ _ => some h
  | .alignRelease h _ _ => some h
  | .alignStatus h _ => some h
  | .ethPortConfig h _ _ _ => some h
  | .ethPortStatus h _ => some h
  | .ethStreamCreate h _ _ => some h
  | .ethStreamRelease h _ _ => some h
  | .ethStreamStatus h _ => some h
  | .rtcRead h => some h
  | .rtcSet h _ _ _ => some h
  | .rtcTrim h _ => some h
  | .rtcAlarmSet h _ _ _ => some h
  | .rtcStatus h => some h
  | .rtcWeekdaySet h _ _ => some h
  | .rtcConfig h _ _ => some h
  | .dateToTicks h _ => some h
  | .ticksToDate h _ => some h
  | .recordStatus h _ => some h
  | .recordRead h _ _ _ _ => some h
  | .recordResolve h _ _ => some h
  | .limitsWrite h _ => some h
  | .trimWrite h _ _ _ _ => some h
  | .fwStatus h => some h
  | .fwLoadBegin h _ _ => some h
  | .fwLoadData h _ _ => some h
  | .fwLoadEnd h => some h
  | .fwBoot h _ _ _ => some h
  | .fwKeyWrite h _ _ _ => some h
  | .lifecycleLock h _ => some h
  | .pairConfig h _ _ => some h
  | .pairStatus h => some h
  | .pairHandover h _ _ => some h
  | .deviceIdSet h _ => some h
  | .farmStatus h => some h
  | .calPolicy h _ => some h
  | .calRequest h _ _ => some h
  | .calStatus h _ => some h
  | .calResultRead h _ _ _ => some h
  | .calSnapshot h => some h
  | .tunerPresetWrite h _ _ _ => some h
  | .tunerPresetRead h _ _ => some h
  | .tunerSelect h _ _ _ _ => some h
  | .tunerStatus h _ => some h
  | .probeStart h _ => some h
  | .probeStop h => some h
  | .probeStatus h => some h
  | .mismatchMeasure h _ _ _ _ _ => some h
  | .mismatchRead h _ => some h
  | _ => none

/-- The target pick of a command that carries one (R37). -/
def targetOf : Instr → Option Nat
  | .sysModeSet _ _ target => some target
  | .sysDomainSet _ _ _ target => some target
  | .tbPhaseStep _ _ target _ => some target
  | .tbSetSeconds _ target _ => some target
  | .clkConfig _ _ _ target => some target
  | .portConfig _ _ _ _ target => some target
  | .feedSet _ _ _ _ target => some target
  | .heddleRoute _ _ _ target => some target
  | .warpTune _ _ _ target => some target
  | .warpGain _ _ _ target => some target
  | .dentCreate _ _ target => some target
  | .dentSet _ _ _ target => some target
  | .dentBankSwap _ _ _ target => some target
  | .dentFlush _ _ _ target => some target
  | .dentRelease _ _ _ target => some target
  | .weaveCreate _ _ target => some target
  | .weaveStart _ _ target => some target
  | .weaveStop _ _ target => some target
  | .weaveRelease _ _ target => some target
  | .weaveSet _ _ _ _ target _ => some target
  | .digDecodeSet _ _ _ target _ => some target
  | .surveyStart _ _ _ target _ => some target
  | .serviceRelease _ _ target => some target
  | .followCreate _ _ _ _ _ target _ => some target
  | .followSet _ _ _ target _ => some target
  | .followCommit _ _ _ _ target _ => some target
  | .followRelease _ _ target => some target
  | .loudnessReset _ _ target => some target
  | .verifySet _ _ target => some target
  | .verifyClear _ _ target => some target
  | .tdmPortConfig _ _ _ target => some target
  | .tdmStreamCreate _ _ target => some target
  | .tdmStreamRelease _ _ target => some target
  | .alignCreate _ target => some target
  | .alignAdd _ _ _ target => some target
  | .alignRemove _ _ _ target => some target
  | .alignRelease _ _ target => some target
  | .ethPortConfig _ _ _ target => some target
  | .ethStreamCreate _ _ target => some target
  | .ethStreamRelease _ _ target => some target
  | .rtcSet _ _ _ target => some target
  | .pairConfig _ _ target => some target
  | .pairHandover _ _ target => some target
  | .tunerSelect _ _ _ _ target => some target
  | .probeStart _ r => some r.target
  | .mismatchMeasure _ _ _ _ target _ => some target
  | _ => none

/-- A command with another target pick. -/
def withTarget (t : Nat) : Instr → Instr
  | .sysModeSet h mode _ => .sysModeSet h mode t
  | .sysDomainSet h on off _ => .sysDomainSet h on off t
  | .tbPhaseStep h obj _ steps => .tbPhaseStep h obj t steps
  | .tbSetSeconds h _ secs => .tbSetSeconds h t secs
  | .clkConfig h mode amount _ => .clkConfig h mode amount t
  | .portConfig h port loop flags _ => .portConfig h port loop flags t
  | .feedSet h port flags limit _ => .feedSet h port flags limit t
  | .heddleRoute h warp port _ => .heddleRoute h warp port t
  | .warpTune h warp r _ => .warpTune h warp r t
  | .warpGain h warp gain _ => .warpGain h warp gain t
  | .dentCreate h r _ => .dentCreate h r t
  | .dentSet h dent c _ => .dentSet h dent c t
  | .dentBankSwap h dent sample _ => .dentBankSwap h dent sample t
  | .dentFlush h dent sample _ => .dentFlush h dent sample t
  | .dentRelease h dent sample _ => .dentRelease h dent sample t
  | .weaveCreate h r _ => .weaveCreate h r t
  | .weaveStart h weave _ => .weaveStart h weave t
  | .weaveStop h weave _ => .weaveStop h weave t
  | .weaveRelease h weave _ => .weaveRelease h weave t
  | .weaveSet h weave prio m _ block => .weaveSet h weave prio m t block
  | .digDecodeSet h weave n _ comps => .digDecodeSet h weave n t comps
  | .surveyStart h n flags _ entries => .surveyStart h n flags t entries
  | .serviceRelease h svc _ => .serviceRelease h svc t
  | .followCreate h n group flags hold _ entries => .followCreate h n group flags hold t entries
  | .followSet h set n _ entries => .followSet h set n t entries
  | .followCommit h set entry sample _ fade => .followCommit h set entry sample t fade
  | .followRelease h set _ => .followRelease h set t
  | .loudnessReset h comp _ => .loudnessReset h comp t
  | .verifySet h r _ => .verifySet h r t
  | .verifyClear h index _ => .verifyClear h index t
  | .tdmPortConfig h port c _ => .tdmPortConfig h port c t
  | .tdmStreamCreate h r _ => .tdmStreamCreate h r t
  | .tdmStreamRelease h stream _ => .tdmStreamRelease h stream t
  | .alignCreate h _ => .alignCreate h t
  | .alignAdd h group stream _ => .alignAdd h group stream t
  | .alignRemove h group stream _ => .alignRemove h group stream t
  | .alignRelease h group _ => .alignRelease h group t
  | .ethPortConfig h port c _ => .ethPortConfig h port c t
  | .ethStreamCreate h r _ => .ethStreamCreate h r t
  | .ethStreamRelease h stream _ => .ethStreamRelease h stream t
  | .rtcSet h kind value _ => .rtcSet h kind value t
  | .pairConfig h c _ => .pairConfig h c t
  | .pairHandover h flags _ => .pairHandover h flags t
  | .tunerSelect h port num flags _ => .tunerSelect h port num flags t
  | .probeStart h r => .probeStart h { r with target := t }
  | .mismatchMeasure h port points threshold _ freqs => .mismatchMeasure h port points threshold t freqs
  | c => c

end Sys2Proof.Machine
end

