-- ==== Sys2Proof/Machine/Ops.lean ====
section
/-! DEFINITION. The named operations over the state: time, events and their queue (R458-R461), datagrams and replies
(R444-R456), rights and the order of checks (R447, R468, R469), the audit log (R557-R560), handles and objects (R13-R15,
R457, R644), and scheduled changes (R37-R38). -/

namespace Sys2Proof.Machine

/-- The code of a mode (R4). -/
def Mode.code : Mode → Nat
  | .backup => 0 | .dormant => 1 | .loading => 2 | .ready => 3 | .survey => 4 | .watch => 5 | .probe => 6 | .mirror => 7

/-- The code of a status (R476). -/
def Status.code : Status → Nat
  | .ok => 0 | .busy => 1 | .deferred => 2 | .queued => 3 | .badOpcode => 0x8001 | .badLength => 0x8002
  | .badCrc => 0x8003 | .badParam => 0x8004 | .noRight => 0x8005 | .noResource => 0x8006 | .badHandle => 0x8007
  | .wrongMode => 0x8008 | .notReady => 0x8009 | .badDate => 0x800A | .activeBank => 0x800B | .conflict => 0x800C
  | .limited => 0x800D | .timeout => 0x800E | .busError => 0x800F

/-- Whether a reply with this status carries its payload: below 0x8000, or S_LIMITED (R447, R471). -/
def Status.good (c : Status) : Bool := c.code < 0x8000 || c == .limited

/-- The code of a reset cause (R461). -/
def ResetCause.code : ResetCause → Nat
  | .powerOn => 1 | .resetN => 2 | .command => 3 | .watchdog => 4 | .brownOut => 5 | .fwLoad => 6

/-- Firmware runs: a mode from READY on (R4, R590). -/
def Mode.runs : Mode → Bool
  | .backup => false | .dormant => false | .loading => false | _ => true

/-- Firmware runs. (log 12: DEDUCED) -/
def running (s : State) : Bool := s.sys.mode.runs

/-- A domain is on. -/
def domOn (s : State) (d : Nat) : Bool := s.sys.domains.getLsbD d

/-- The present PICK#; 0 while D2 is off (R475, R478). -/
def now (s : State) : Nat := if domOn s 2 then s.tb.pick else 0

/-- The PICK# of the boundary `ord`, on the present numbering. -/
def pickAt (s : State) (ord : Nat) : Nat := s.tb.pick + ord - s.sys.ord

/-- A draw of a free value: what the spec leaves open, or the true random generator (R552). (log 7: DESIGN CHOICE) -/
def draw (s : State) : BitVec 128 := Config.freeWord s.sys.free

/-- The state after a draw. (log 7: DESIGN CHOICE) -/
def drawn (s : State) : State := { s with sys := { s.sys with free := s.sys.free + 1 } }

/-! Datagrams. -/

/-- The settings of an Ethernet port. -/
def ethPort (s : State) (p : Nat) : EthPort := nth s.eth p EthPort.reset

/-- A port is enabled and its link is up (R419, R436). -/
def ethUp (s : State) (p : Nat) : Bool := (ethPort s p).link != 0

/-- Sends a datagram on a port whose link is up; otherwise nothing leaves (R419). (log 13: DESIGN CHOICE, 17: DESIGN CHOICE) -/
def sendUdp (p : Fin 2) (a : IpAddr) (dport : Nat) (bs : List Byte) (s : State) : State :=
  if ethUp s p then
    { s with proto := { s.proto with sentUdp := s.proto.sentUdp ++ [⟨p, a, dport, bs⟩] }
             eth := lmod s.eth p fun e => { e with sent := e.sent + 1 } }
  else s

/-! Events. -/

/-- The sequence number after `n` (R459). -/
def seqNext (n : Nat) : Nat := if n = 0xFFFFFFFF then 1 else n + 1

/-- `a` lies at or before `b` by serial-number arithmetic (R459). -/
def seqLe (a b : Nat) : Bool := (b + 2 ^ 32 - a % 2 ^ 32) % 2 ^ 32 < 2 ^ 31

/-- The event packet of an entry (R458). -/
def eventBytes (e : Event) : List Byte :=
  withCrc (byte 1 ++ byte 2 ++ leBytes 2 e.code ++ leBytes 2 e.body.length ++ zeros 2 ++ leBytes 4 e.seq ++ e.body)

/-- The destination address of UDP event copies (R463, R474). -/
def notifyAddr (c : NotifyCfg) : IpAddr :=
  if bit c.flags 0 then ⟨true, c.addr⟩ else ⟨false, c.addr / 2 ^ 96⟩

/-- Queues an entry: its sequence number, the UDP copy of R463, the attention of R513. (log 17: DESIGN CHOICE) -/
def pushEvent (code : Nat) (body : List Byte) (s : State) : State :=
  let e : Event := ⟨s.proto.nextSeq, code, body⟩
  let s := { s with
    proto := { s.proto with events := s.proto.events ++ [e], nextSeq := seqNext s.proto.nextSeq, newestSeq := s.proto.nextSeq }
    mb := if bit s.proto.notify.mask 1 then { s.mb with attn := true } else s.mb }
  let c := s.proto.notify
  if bit c.mask 2 then sendUdp (if hIndex c.eth = 1 then 1 else 0) (notifyAddr c) c.dport (eventBytes e) s else s

/-- The body of EV_QUEUE_OVERFLOW (R460). -/
def overflowBody (n first last : Nat) : List Byte := leCount 4 n ++ zeros 4 ++ leBytes 8 first ++ leBytes 8 last

/-- The last entry counts one more discard (R460). -/
def countDiscard (s : State) : State :=
  { s with proto := { s.proto with
      discardedEv := s.proto.discardedEv + 1
      events := lmod s.proto.events (s.proto.events.length - 1) fun e =>
        { e with body := overflowBody (ofLe (e.body.take 4) + 1) (ofLe ((e.body.drop 8).take 8)) (now s) } } }

/-- An event is to be queued (R460). The queue exists while firmware runs (R458). (log 12: DEDUCED) -/
def ev (code : Nat) (body : List Byte) (s : State) : State :=
  if !running s then s
  else
    let k := s.proto.events.length
    if k ≥ 1023 && (s.proto.events.getLast?.map (·.code) == some 0x0102) then countDiscard s
    else if k = 1023 then
      pushEvent 0x0102 (overflowBody 1 (now s) (now s))
        { s with proto := { s.proto with discardedEv := s.proto.discardedEv + 1 } }
    else pushEvent code body s

/-- Queues events one after another. -/
def evs (l : List (Nat × List Byte)) (s : State) : State := l.foldl (fun s e => ev e.1 e.2 s) s

/-! Replies. -/

/-- The bytes of a reply as it is sent (R444); EVENTS reflects the queue at that moment (R456). -/
def replyBytes (r : Rep) (again : Bool) (s : State) : List Byte :=
  withCrc (byte 1 ++ byte (flagBits [true, false, again, !s.proto.events.isEmpty, r.headerOnly, r.empty, r.notTaken])
    ++ leBytes 2 r.op ++ leBytes 2 r.status.code ++ byte r.tag ++ byte r.sess ++ leBytes 2 r.payload.length ++ zeros 2
    ++ r.payload)

/-- The header-only S_BUSY reply to a command in progress, or EMPTY (R451). -/
def busyReply : Option Prog → Rep
  | some p => ⟨p.op, .busy, p.tag, p.sess, [], true, false, false⟩
  | none => ⟨0, .busy, 0, 0, [], true, true, false⟩

/-- The key of a UDP slot (R454). -/
def udpKey (u : UdpSlot) (p : Fin 2) (a : IpAddr) (sport tag : Nat) : Bool :=
  u.port == p && u.addr == a && u.sport == sport && u.tag == tag

/-- The slot with a key. -/
def udpFind (s : State) (p : Fin 2) (a : IpAddr) (sport tag : Nat) : Option Nat :=
  (s.proto.udp.find? fun x => udpKey x.2 p a sport tag).map (·.1)

/-- A slot that holds no command, or else the one whose reply was sent longest ago; 16 where neither exists (R454). -/
def udpFree (s : State) : Nat :=
  match (List.range 16).find? fun k => (tget s.proto.udp k).isNone with
  | some k => k
  | none =>
    (s.proto.udp.foldl (fun (b : Option (Nat × Nat)) x =>
      match x.2.sent.map (·.1), b with
      | some n, some (k, m) => if n < m then some (x.1, n) else some (k, m)
      | some n, none => some (x.1, n)
      | none, b => b) none).elim 16 (·.1)

/-- Sends the reply held in a UDP slot, once; a link that is down leaves it waiting (R454, R466). -/
def udpSend (k : Nat) (s : State) : State :=
  match tget s.proto.udp k with
  | some u =>
    match u.reply, u.sent with
    | some r, none =>
      if ethUp s u.port then
        let s := sendUdp u.port u.addr u.sport (replyBytes r false s) s
        { s with proto := { s.proto with udp := tset s.proto.udp k { u with sent := some (s.proto.sentCount, s.sys.ord) }
                                         sentCount := s.proto.sentCount + 1 } }
      else s
    | _, _ => s
  | none => s

/-- A reply becomes ready in the slot of the transport its command came by (R446, R451, R454, R509, R513). -/
def giveReply (h : Hdr) (r : Rep) (s : State) : State :=
  match h.via with
  | .self => s
  | .spi => { s with proto := { s.proto with spi := { s.proto.spi with prog := none, reply := some r, delivered := false
                                                                       taken := true } } }
  | .mb => { s with proto := { s.proto with mb := { s.proto.mb with prog := none, reply := some r, delivered := false
                                                                    taken := true } }
                    mb := { s.mb with cursor := 0, attn := true } }
  | .udp p a sp =>
    let k := (udpFind s p a sp h.tag).getD (udpFree s)
    if k < 16 then
      let c := (tget s.proto.udp k).elim [] fun u => if udpKey u p a sp h.tag then u.cmd else []
      udpSend k { s with proto := { s.proto with udp := tset s.proto.udp k ⟨p, a, sp, h.tag, c, none, some r, none⟩ } }
    else s

/-- The largest reply payload on a transport (R444, R453). -/
def payloadLimit (s : State) : Via → Nat
  | .udp p a _ => min 4096 ((ethPort s p).cfg.mtu - (if a.v6 then 40 else 20) - 8 - 16)
  | _ => 4096

/-! The audit log. -/

/-- The transport code of SESSION_STATUS and of audit entries (R556). (log 11: DEDUCED) -/
def viaCode : Via → Nat
  | .self => 0 | .spi => 1 | .mb => 2 | .udp p _ _ => 3 + p.val

/-- Writes an audit entry; a full ring overwrites the oldest (R559, R560). (log 11: DEDUCED) -/
def auditPut (obj : Handle) (op status role via sess : Nat) (s : State) : State :=
  let e : AuditEntry := ⟨s.audit.next, obj, s.rtc.count.toNat, now s, op, status, role, via, sess, s.rtc.osf⟩
  let full := s.audit.entries.length ≥ 8192
  { s with audit := { entries := (if full then s.audit.entries.drop 1 else s.audit.entries) ++ [e], next := s.audit.next + 1
                      overflow := s.audit.overflow + flag full } }

/-! Rights, modes and the order of checks. -/

/-- A role holds a right (R468). (log 10: DEDUCED) -/
def Right.heldBy : Right → Nat → Bool
  | .anonymous, _ => true
  | .session, _ => true
  | .operator, r => r == 1 || r == 2
  | .installer, r => r == 2
  | .maker, r => r == 3
  | .keys, r => r == 2 || r == 3

/-- The status with which a mode refuses an opcode of a key; none where the mode permits it (R469). (log 19: DEDUCED) -/
def Key.refuses : Key → Mode → Option Status
  | .all, .backup => some .wrongMode
  | .all, _ => none
  | .fw, m => if m.runs then none else some .wrongMode
  | .ctl, m => if m.runs && m != .mirror then none else some .wrongMode
  | .run, m => if m == .survey || m == .watch || m == .probe then none else some .wrongMode
  | .sw, m => if m == .survey || m == .watch then none else some .wrongMode
  | .s, m => if m == .survey then none else some .wrongMode
  | .w, m => if m == .watch then none else some .wrongMode
  | .pr, m => if m == .probe then none else some .wrongMode
  | .wp, m => if m == .watch then none else if m == .probe then some .conflict else some .wrongMode

/-- The session a packet names, where it is open and bound to the packet's transport (R448). -/
def sessOf (s : State) (h : Hdr) : Option Sess :=
  match tget s.auth.sess h.sess with
  | some x => if x.via = h.via then some x else none
  | none => none

/-- Check 5 (R447, R448, R468): an OPENED session holds only anonymous rights (R552). (log 10: DEDUCED) -/
def rightOk (r : Right) (h : Hdr) (s : State) : Bool :=
  if h.sess = 0xFF then r == .anonymous
  else match sessOf s h with
    | some x => r == .anonymous || (x.proven && r.heldBy x.role)
    | none => false

/-- The role of the session a packet names, 0 where it names none; 0x0F for the module itself and for a command announced by the
partner (R558, R611). (log 11: DEDUCED) -/
def roleOf (s : State) (h : Hdr) : Nat :=
  if h.via = .self then 0x0F
  else match sessOf s h with
  | some x => if x.proven then x.role else 0
  | none => 0

/-- A packet that passes check 5 restarts the idle time of the session it names (R555). (log 9: DEDUCED) -/
def sessNamed (h : Hdr) (s : State) : State :=
  match sessOf s h with
  | some x => { s with auth := { s.auth with sess := tset s.auth.sess h.sess { x with named := s.sys.ord } } }
  | none => s

/-- What a command's own checks and effect answer: a refusal with no effect, an acceptance with its status, payload and state, a
refusal that has an effect all the same (R553), or an outcome that comes later (R519, R566). -/
inductive Ans where
  | fail (c : Status)
  | done (c : Status) (payload : List Byte) (s : State)
  | bad (c : Status) (s : State)
  | hold (s : State)

/-- Whether a command is audited (R557). -/
def audited (op : Nat) (r : Right) (c : Status) : Bool :=
  r == .installer || r == .maker || r == .keys || op == 0x0202 || c == .noRight

/-- The outcome of a command is known: its audit entry, then its reply (R446, R557). -/
def answer (op : Nat) (r : Right) (h : Hdr) (obj : Handle) (c : Status) (payload : List Byte) (s : State) : State :=
  let s := if audited op r c then auditPut obj op c.code (roleOf s h) (viaCode h.via) h.sess s else s
  giveReply h ⟨op, c, h.tag, h.sess, if c.good then payload else [], false, false, false⟩ s

/-- A command whose outcome comes later is in progress in its slot (R446, R450, R454). -/
def inProgress (op : Nat) (h : Hdr) (s : State) : State :=
  let g : Prog := ⟨op, h.tag, h.sess⟩
  match h.via with
  | .self => s
  | .spi => { s with proto := { s.proto with spi := { s.proto.spi with prog := some g, reply := none, delivered := false, taken := true } } }
  | .mb => { s with proto := { s.proto with mb := { s.proto.mb with prog := some g, reply := none, delivered := false, taken := true } } }
  | .udp p a sp =>
    let k := (udpFind s p a sp h.tag).getD (udpFree s)
    if k < 16 then
      let c := (tget s.proto.udp k).elim [] fun u => if udpKey u p a sp h.tag then u.cmd else []
      { s with proto := { s.proto with udp := tset s.proto.udp k ⟨p, a, sp, h.tag, c, some g, none, none⟩ } }
    else s

/-! Announcements of the pair link. -/

/-- The primary of a pair whose link is up (R604, R608). (log 24: DEDUCED, 25: DEDUCED) -/
def announces (s : State) : Bool := s.pair.st == .primary && s.pair.link

/-- The module follows its owner (R612): in MIRROR, and from the rebuild of R610 on while it waits to enter MIRROR. (log 24: DEDUCED) -/
def mirroring (s : State) : Bool := s.sys.mode == .mirror || s.pair.built

/-- The owner announces (R604). (log 24: DEDUCED) -/
def announce (kind : Nat) (obj : Handle) (effect : Nat) (body : List Byte) (s : State) : State :=
  if announces s then { s with pair := { s.pair with out := s.pair.out ++ [⟨kind, obj, effect, body⟩] } } else s

/-- A command that only reads: it has no effect to announce (R604). PAIR_CONFIG and PAIR_HANDOVER have announcement kinds of their own. (log 25: DEDUCED) -/
def readsOnly (op : Nat) : Bool :=
  match op with
  | 0x0101 | 0x0102 | 0x0112 | 0x0113 | 0x0124 | 0x0204 | 0x0220 | 0x0302 | 0x0311 | 0x0402 | 0x0504 | 0x0520 | 0x0523 => true
  | 0x0607 | 0x0608 | 0x0609 | 0x0706 | 0x0707 | 0x0710 | 0x0711 | 0x0712 | 0x0720 | 0x0721 | 0x0722 | 0x0730 => true
  | 0x0803 | 0x0810 | 0x0811 | 0x0812 | 0x0813 | 0x0814 | 0x0821 | 0x0905 | 0x0A01 | 0x0A10 | 0x0A22 | 0x0B02 | 0x0B24 => true
  | 0x0C02 | 0x0C12 | 0x0D01 | 0x0D05 | 0x0D10 | 0x0D11 | 0x0E01 | 0x0E02 | 0x0E10 | 0x0F01 | 0x0F02 | 0x0F03 | 0x0F11 | 0x1003 | 0x1004 => true
  | 0x1102 | 0x1104 | 0x1112 | 0x1121 => true
  | _ => false

/-- A command that creates an object: its reply begins with the new handle. -/
def creates (op : Nat) : Bool :=
  op == 0x0121 || op == 0x0601 || op == 0x0701 || op == 0x0901 || op == 0x0B10 || op == 0x0B20 || op == 0x0C10

/-- The pick an accepted command takes effect at: its target resolved, or the present one (R37). -/
def effectOf (i : Instr) (s : State) : Nat :=
  match targetOf i with
  | some 0 => pickAt s (s.sys.ord + 2)
  | some t => t
  | none => now s

/-- The body of a COMMAND announcement (R604): its target pick is resolved. (log 25: DEDUCED) -/
def commandBody (i : Instr) (effect : Nat) : List Byte :=
  let b := paramsOf (withTarget effect i)
  leBytes 2 (opOf i) ++ byte ((hdrOf i).elim 0 (·.tag)) ++ byte ((hdrOf i).elim 0xFF (·.sess)) ++ leBytes 2 b.length ++ zeros 2 ++ b

/-- The owner announces a command it has accepted, and counts its bytes (R604). (log 24: DEDUCED) -/
def announceCmd (i : Instr) (obj : Handle) (payload : List Byte) (s : State) : State :=
  if announces s && !readsOnly (opOf i) then
    let body := commandBody i (effectOf i s)
    let o := if creates (opOf i) then BitVec.ofNat 32 (ofLe (payload.take 4)) else obj
    announce 1 o (effectOf i s) body { s with pair := { s.pair with outBytes := s.pair.outBytes + 16 + body.length } }
  else s

/-- A command ends with its answer. -/
def close (i : Instr) (op : Nat) (r : Right) (h : Hdr) (obj : Handle) (s : State) : Ans → State
  | .fail c => answer op r h obj c [] s
  | .done c p t =>
    if p.length > payloadLimit s h.via then answer op r h obj .badLength [] s else answer op r h obj c p (announceCmd i obj p t)
  | .bad c t => answer op r h obj c [] t
  | .hold t => inProgress op h (announceCmd i obj [] t)

/-- The effect of a command that the owner of the pair has accepted, on its secondary (R604, R612): no checks of rights or modes, and no
reply. -/
def mirrored (body : State → Ans) (s : State) : State :=
  match body s with
  | .done _ _ t => t
  | .bad _ t => t
  | .hold t => t
  | .fail _ => s

/-- The interpreter takes up a command (R447): check 5, check 6, the reserved fields of check 8, then the command's own checks and
effect. In BACKUP nothing is served (R465). A command announced by the owner of the pair was checked there (R604). (log 9: DEDUCED) -/
def serve (i : Instr) (op : Nat) (r : Right) (k : Key) (h : Hdr) (obj : Handle) (body : State → Ans) (s : State) :
    Host.Outcome State Fault Refusal :=
  if s.sys.mode = .backup then .next s
  else if s.pair.applying.isSome ∧ h.via = .self then .next (mirrored body s)
  else if !rightOk r h s then .next (answer op r h obj .noRight [] s)
  else
    let t := sessNamed h s
    match k.refuses s.sys.mode with
    | some c => .next (answer op r h obj c [] t)
    | none => if h.rsv then .next (answer op r h obj .badParam [] t) else .next (close i op r h obj t (body t))

/-- The checks of a command as a chain: the first that fails decides (R447). -/
abbrev Chk := Except Status

/-- A check. -/
def need (b : Bool) (c : Status) : Chk Unit := if b then .ok () else .error c

/-- The answer of a chain of checks that ends in an acceptance. -/
def chk (x : Chk (Status × List Byte × State)) : Ans :=
  match x with
  | .ok (c, p, s) => .done c p s
  | .error c => .fail c

/-- The value of an option, or a failed check. -/
def get! {α : Type} (c : Status) : Option α → Chk α
  | some a => .ok a
  | none => .error c

/-! Objects. -/

/-- The handle of an issued object. -/
def Obj.handle (o : Obj) : Handle := mkHandle o.cls o.idx o.gen

/-- The object with a class and index. -/
def objAt (s : State) (c i : Nat) : Option Obj := s.reg.objs.find? fun o => o.cls == c && o.idx == i

/-- The object a handle names (R14): issued, and of the same generation. -/
def objOf (s : State) (h : Handle) : Option Obj :=
  match objAt s (hClass h) (hIndex h) with
  | some o => if o.gen == hGen h then some o else none
  | none => none

/-- Check 9 for a field of class `c`; where no firmware runs the boot ROM accepts fixed objects with generation 1 (R470). -/
def handleOk (s : State) (h : Handle) (c : Nat) : Chk Unit :=
  if hClass h != c then .error .badHandle
  else if running s then need (objOf s h).isSome .badHandle
  else need (classFixed c && hIndex h < classSize c && hGen h == 1) .badHandle

/-- The object of a field that passed check 9. -/
def objIs (s : State) (h : Handle) (c : Nat) : Chk Obj :=
  if hClass h != c then .error .badHandle else get! .badHandle (objOf s h)

/-- An object for a status command: a PENDING one is not ready (R644). -/
def objNow (s : State) (h : Handle) (c : Nat) : Chk Obj :=
  match objIs s h c with
  | .ok o => if o.st = .pending then .error .notReady else .ok o
  | .error e => .error e

/-- The object state code of status replies; a PENDING object is never reported (R26). -/
def OState.code : OState → Nat
  | .idle => 1 | .active => 2 | .suspended => 3 | .pending => 0

/-- The state code of an object. -/
def stCode (s : State) (h : Handle) : Nat :=
  match objOf s h with
  | some o => o.st.code
  | none => 0

/-- Changes an issued object. -/
def omod (h : Handle) (f : Obj → Obj) (s : State) : State :=
  { s with reg := { s.reg with objs := s.reg.objs.map fun o => if o.handle = h then f o else o } }

/-- Puts an object where its class and index stand in the order of handles. -/
def oinsert : List Obj → Obj → List Obj
  | [], o => [o]
  | x :: l, o => if o.cls * 65536 + o.idx < x.cls * 65536 + x.idx then o :: x :: l else x :: oinsert l o

/-- The index to issue next: the FREE one released longest ago, one never issued counting as released at reset (R457). -/
def nextIndex (s : State) (c : Nat) : Option (Nat × Nat) :=
  let n := (tget s.reg.fresh c).getD 0
  if n < classSize c then some (n, 1)
  else match s.reg.freed.find? fun x => x.1 == c with
    | some (_, i, g) => some (i, if g = 255 then 1 else g + 1)
    | none => none

/-- Issues a given handle, as an announcement of the owner names it (R612). -/
def issueAs (h : Handle) (st : OState) (inputs opt : List Handle) (due : Nat) (s : State) : State :=
  let o : Obj := ⟨hClass h, hIndex h, hGen h, st, .idle, inputs, opt, .none, false, false, 0, due, nullHandle⟩
  let objs := s.reg.objs.filter fun x => !(x.cls == hClass h && x.idx == hIndex h)
  { s with reg := { objs := oinsert objs o
                    fresh := tset s.reg.fresh (hClass h) (max ((tget s.reg.fresh (hClass h)).getD 0) (hIndex h + 1))
                    freed := s.reg.freed.filter fun x => !(x.1 == hClass h && x.2.1 == hIndex h) } }

/-- The handle an announcement being applied issues in a class, where it names one (R612). (log 24: DEDUCED) -/
def announced (s : State) (c : Nat) : Option Handle := s.pair.applying.bind fun h => if hClass h = c then some h else none

/-- Issues an object of a class (R13, R457); in MIRROR with the handle announced (R612). -/
def issue (c : Nat) (st : OState) (inputs opt : List Handle) (due : Nat) (s : State) : Option (Handle × State) :=
  match announced s c with
  | some h => some (h, issueAs h st inputs opt due s)
  | none =>
    match nextIndex s c with
    | none => none
    | some (i, g) =>
      let o : Obj := ⟨c, i, g, st, .idle, inputs, opt, .none, false, false, 0, due, nullHandle⟩
      let n := (tget s.reg.fresh c).getD 0
      let r := if n < classSize c then { s.reg with fresh := tset s.reg.fresh c (n + 1) }
               else { s.reg with freed := s.reg.freed.eraseP fun x => x.1 == c }
      some (o.handle, { s with reg := { r with objs := oinsert s.reg.objs o } })

/-- Returns an object to FREE (R26). -/
def unissue (h : Handle) (s : State) : State :=
  if (objOf s h).isSome then
    { s with reg := { s.reg with objs := s.reg.objs.filter (fun o => o.handle ≠ h)
                                 freed := s.reg.freed ++ [(hClass h, hIndex h, hGen h)] } }
  else s

/-- The objects issued of a class. -/
def objsOf (s : State) (c : Nat) : List Obj := s.reg.objs.filter fun o => o.cls == c

/-- The domain that hosts an object (R23). -/
def hostDomain (c i : Nat) : Nat :=
  match c with
  | 1 => 6
  | 2 => if i < 3 then 3 else if i < 6 then 4 else 5
  | 3 => 7
  | 4 => 8 | 5 => 8 | 6 => 8 | 7 => 8
  | 8 => 9 | 9 => 9 | 0x0A => 9 | 0x0D => 9
  | _ => 1

/-- An object is available as an input: issued, neither PENDING, SUSPENDED nor shed (R29). -/
def available (s : State) (h : Handle) : Bool :=
  match objOf s h with
  | some o => o.st != .suspended && o.st != .pending && !o.shed
  | none => false

/-! Scheduled changes. -/

/-- The boundary a target pick names (R37); none where it is refused. The target of an announced command that has passed counts as the
next boundary (R604). -/
def dueOf (s : State) (target : Nat) : Option Nat :=
  if s.pair.applying.isSome then some (max (s.sys.ord + 1) (s.sys.ord + target - s.tb.pick))
  else if target = 0 then some (s.sys.ord + 2)
  else if s.tb.pick + 2 ≤ target ∧ target ≤ s.tb.pick + 60000 then some (s.sys.ord + (target - s.tb.pick))
  else none

/-- The position reply (R473). -/
def posReply (s : State) (due sample : Nat) : List Byte := leBytes 8 (pickAt s due) ++ leBytes 2 sample

/-- The pending change of a kind on an object. (log 21: DEDUCED) -/
def pendOf (s : State) (obj : Handle) (kind : Nat) : Option Pend := s.sched.find? fun p => p.obj = obj && p.kind == kind

/-- A pending change with the role that accepted it. -/
def stamped (p : Pend) (s : State) : Pend := { p with role := (hdrOf p.cmd).elim 0x0F (roleOf s) }

/-- Schedules a change; a later one of the same kind on the same object replaces it, and the replacement is counted (R38). -/
def sched (p : Pend) (s : State) : State :=
  let s := if (pendOf s p.obj p.kind).isSome then omod p.obj (fun o => { o with repl := o.repl + 1 }) s else s
  { s with sched := (s.sched.filter fun q => !(q.obj = p.obj && q.kind == p.kind)) ++ [stamped p s] }

/-- Schedules a change that replaces one of its kind without being counted: a kind whose replacements no status reports. (log 21: DEDUCED) -/
def schedQ (p : Pend) (s : State) : State :=
  { s with sched := (s.sched.filter fun q => !(q.obj = p.obj && q.kind == p.kind)) ++ [stamped p s] }

/-- Schedules a change beside any other of its kind. -/
def schedAlso (p : Pend) (s : State) : State := { s with sched := s.sched ++ [stamped p s] }

/-- Cancels the pending change of a kind on an object. (log 21: DEDUCED) -/
def unsched (obj : Handle) (kind : Nat) (s : State) : State :=
  { s with sched := s.sched.filter fun q => !(q.obj = obj && q.kind == kind) }

/-- A change on an object that is still PENDING must not precede its creation; `strict` for a release (R644). -/
def pendingOk (o : Obj) (due : Nat) (strict : Bool) : Chk Unit :=
  need (o.st != .pending || (if strict then o.due < due else o.due ≤ due)) .conflict

/-- A counter of EV_CHANGE_DROPPED's cause: the body of the event (R501). -/
def droppedBody (obj : Handle) (op : Nat) (h : Hdr) (pick : Nat) : List Byte :=
  handleBytes obj ++ leBytes 2 op ++ byte h.tag ++ byte h.sess ++ leBytes 8 pick

/-- The header of a change the module schedules of its own accord; `src` is the source code of R501. (log 11: DEDUCED) -/
def selfHdr (src : Nat) : Hdr := ⟨.self, src, 0xFE, false⟩

/-- A setting held in CONFIG changed (R566): its writer is the role of the last change. (log 26: DEDUCED) -/
def cfgTouch (role : Nat) (s : State) : State := { s with recs := { s.recs with cfgDirty := some role } }

/-- The record at an index. -/
def recAt (s : State) (i : Nat) : Record := nth s.recs.recs i (Record.made i [])

/-- A record is in CONFLICT (R569). -/
def inConflict (s : State) (i : Nat) : Bool := (recAt s i).st == .conflict

/-- While a record is in CONFLICT every command that would write it is refused (R567). -/
def cfgOk (s : State) : Chk Unit := need (!inConflict s 0) .conflict

/-- The refusals of a record are counted (R567). -/
def refuseRec (i : Nat) (s : State) : State :=
  { s with recs := { s.recs with recs := lmod s.recs.recs i fun r => { r with refusals := r.refusals + 1 } } }

/-- The answer of a command whose setting is held in a record: a refusal because the record is in CONFLICT is counted
(R567). -/
def chkRec (i : Nat) (s : State) (x : Chk (Status × List Byte × State)) : Ans :=
  match x with
  | .ok (c, p, t) => .done c p t
  | .error c => if c = .conflict ∧ inConflict s i = true then .bad c (refuseRec i s) else .fail c

/-- A warp. -/
def warpAt (s : State) (i : Nat) : Warp := nth s.warps i (Warp.reset 60)

/-- Changes a warp. -/
def wmod (i : Nat) (f : Warp → Warp) (s : State) : State := { s with warps := lmod s.warps i f }

/-- A synthesiser. -/
def synAt (s : State) (i : Nat) : Synth := nth s.syn i (Synth.off 1)

/-- Changes a synthesiser. -/
def synMod (i : Nat) (f : Synth → Synth) (s : State) : State := { s with syn := lmod s.syn i f }

/-- An aerial port. -/
def portAt (s : State) (i : Nat) : Port := nth s.ports i Port.reset

/-- Changes an aerial port. -/
def pmod (i : Nat) (f : Port → Port) (s : State) : State := { s with ports := lmod s.ports i f }

/-- A warp is the hop warp of a follow set (R358). -/
def isHop (s : State) (w : Nat) : Bool := s.follows.any fun f => f.2.cfg.hop == mkHandle 2 w 1

/-- A dent is one that a follow set has created and owns (R356). -/
def ownedDent (s : State) (i : Nat) : Bool := s.follows.any fun f => f.2.srcs.any fun c => c.dent == some i

/-- A weave is one that a follow set has created and owns (R356). -/
def ownedWeave (s : State) (i : Nat) : Bool := s.follows.any fun f => f.2.srcs.any fun c => c.weave == some i

/-- The single answer of a command that has been accepted. -/
def okay (p : List Byte) (s : State) : Chk (Status × List Byte × State) := .ok (.ok, p, s)

/-- Insertion by a key, keeping the order of equal keys. -/
def insertBy {α : Type} (k : α → Nat) (a : α) : List α → List α
  | [] => [a]
  | b :: l => if k a < k b then a :: b :: l else b :: insertBy k a l

/-- A list sorted by a key, equal keys in their first order. -/
def sortBy {α : Type} (k : α → Nat) (l : List α) : List α := l.foldl (fun acc a => insertBy k a acc) []

/-! The step pick (R60-R63). -/

/-- The announced STEP of a module in MIRROR, or of one that has taken over (R613), whose step pick is the pick that ends (R604, R612): k, q, M. -/
def announcedStep (s : State) : Option (Int × Int × Int) :=
  if s.sys.mode = .mirror ∨ s.pair.st = .solo then
    (s.pair.held.find? fun a => a.kind == 7 && a.effect ≤ s.tb.pick).map fun a => (fs a.body 0 4, fs a.body 4 1, fs a.body 8 8)
  else none

/-- A step made at the end of the present pick: k, the offset it was decided on, the residual, q and M (R60); `own` where the module decided it,
and not the owner that announced it (R612). -/
structure StepMade where
  k      : Int
  offset : Int
  resid  : Int
  q      : Int
  m      : Int
  own    : Bool

/-- The step made at the end of the present pick (R60, R612). -/
def stepNow (s : State) : Option StepMade :=
  match announcedStep s with
  | some (k, q, m) => some ⟨k, s.tb.e, s.tb.e - k * 125000, q, m, false⟩
  | none => match s.tb.plan with
    | some p => if p.due = s.sys.ord then some ⟨8 * p.m + p.q, p.offset, p.resid, p.q, p.m, true⟩ else none
    | none => none

/-- A renumbering announced by the owner for which it made no step (R48, R57, R604): k, q and with them the residual are 0. (log 47: DEDUCED) -/
def StepMade.bare (x : StepMade) : Bool := !x.own && x.k == 0 && x.q == 0 && x.m != 0

/-- The q of the present pick: that of its step where it is a step pick, and 0 otherwise (R60, R61). -/
def stepQ (s : State) : Int := (stepNow s).elim 0 (·.q)

/-- The q of the pick that begins at a boundary, where its step has been decided by now (R60, R61); 0 otherwise. -/
def stepQAt (s : State) (due : Nat) : Int :=
  if s.sys.mode = .mirror ∨ s.pair.st = .solo then
    ((s.pair.held.find? fun a => a.kind == 7 && a.effect == pickAt s due).map fun a => fs a.body 4 1).getD
      ((s.tb.plan.map fun p => if p.due = due then p.q else 0).getD 0)
  else (s.tb.plan.map fun p => if p.due = due then p.q else 0).getD 0

/-- The run that a boundary count lies in. -/
def Timebase.run (t : Timebase) (o : Nat) : PickRun := (t.runs.find? fun r => r.ord ≤ o).getD ⟨o, 0, 0⟩

/-- The instant of a boundary that has passed, in 125 µs of the grid clock (R60, R235). -/
def Timebase.grid (t : Timebase) (o : Nat) : Nat := (t.run o).grid + 8 * (o - (t.run o).ord)

/-- The instant of a boundary, in 125 µs of the grid clock; of one to come, with the present pick as long as R61 makes it and the later ones 1 ms. -/
def gridOf (s : State) (o : Nat) : Nat :=
  let n := s.sys.ord
  if o ≤ n then s.tb.grid o else s.tb.grid n + (8 - stepQ s).toNat + 8 * (o - n - 1)

/-- The number of the pick that begins at a boundary count (R45). -/
def pickOf (s : State) (o : Nat) : Nat := (s.tb.run o).pick + (o - (s.tb.run o).ord)

/-- The instant of a boundary, and `k` more, in 1/6144 ms. -/
def tickOf (s : State) (o k : Nat) : Nat := 768 * gridOf s o + k

/-- The position on the 48 kHz timeline of a sample of the pick of a boundary count. -/
def audioPos (s : State) (o j : Nat) : Nat := 6 * gridOf s o + j

/-- The pick, by boundary count, and the sample of a position on the 48 kHz timeline that lies before the boundary `top`, among runs newest first. -/
def placeIn (top : Nat) (l : List PickRun) (x : Nat) : Nat × Nat :=
  match l with
  | r :: l =>
    if 6 * r.grid ≤ x then
      let o := min (r.ord + (x - 6 * r.grid) / 48) (top - 1)
      (o, x - (6 * r.grid + 48 * (o - r.ord)))
    else placeIn r.ord l x
  | [] => (0, x)

/-- The pick, by boundary count, and the sample of a position on the 48 kHz timeline. -/
def placeOf (s : State) (x : Nat) : Nat × Nat :=
  let n := s.sys.ord + 1
  let e := 6 * gridOf s n
  if e ≤ x then (n + (x - e) / 48, (x - e) % 48) else placeIn n s.tb.runs x

/-- Where the sample `j` captured in the pick of boundary count `n` leaves a weave of depth `d`, by boundary count and 48 kHz index: its time from aerial
to output is L, so that the index is that of R43 where no step pick lies between, and is shifted by the excess of one that does (R43, R63). (log 50: DEDUCED) -/
def outputAt (s : State) (n d j : Nat) : Nat × Nat := placeOf s (audioPos s n j + 48 * (d + 1))

/-- The pick, by boundary count, and the sample at 48 kHz of an instant in 1/6144 ms. -/
def tickAt (s : State) (x : Nat) : Nat × Nat := placeOf s (x / 128)

/-- The pick, by boundary count, and the ns in it of an instant in ns of the grid clock. -/
def nsAt (s : State) (x : Nat) : Nat × Nat :=
  let o := (placeOf s (x * 48 / 1000000)).1
  (o, x - 125000 * gridOf s o)

end Sys2Proof.Machine
end

