-- ==== Sys2Proof/Machine/Synth.lean ====
section
/-! DEFINITION. The RF synthesisers (R84-R97, R101, R103): frequency words, retunes by profile and by band search, loss of lock, hop
profiles, and their commands and events. -/

namespace Sys2Proof.Machine

/-- The converter clock in Hz (FCONV). -/
def fconv : Nat := 98304000

/-- The handle of a fixed object: generation 1 (R25). -/
def fixedHandle (c i : Nat) : Handle := mkHandle c i 1

/-- The divider code of an output frequency: the largest for which 2^c × f ≤ 6.8 GHz (R85). -/
def divCode (f : Nat) : Nat :=
  if 128 * f ≤ 6800000000 then 7 else if 64 * f ≤ 6800000000 then 6 else if 32 * f ≤ 6800000000 then 5
  else if 16 * f ≤ 6800000000 then 4 else if 8 * f ≤ 6800000000 then 3 else 2

/-- N × 2²⁸ + F for an output frequency, F rounded half upward (R85). -/
def synX (f : Nat) : Nat := (2 * (2 ^ divCode f * f) * 2 ^ 28 + fconv) / (2 * fconv)

/-- An output frequency the synthesiser can be set to (R85). -/
def synRange (f : Nat) : Bool := inR 30000000 f 1700000000

/-! The modulator (R87). -/

/-- The sigma-delta modulator: the LFSR, the three accumulators of 29 bits (28 of the fraction and the dither bit below them), and the carries
of the second and third that the noise shaping still needs. -/
structure Mash where
  lfsr : Nat
  a1   : Nat
  a2   : Nat
  a3   : Nat
  c2   : Nat
  c3   : Nat
  c3b  : Nat
  out  : Int
  deriving DecidableEq, Repr

/-- The LFSR with the feedback polynomial x²³ + x¹⁸ + 1 one clock on (R87). (log 138: DEDUCED) -/
def lfsrNext (r : Nat) : Nat := r * 2 % 2 ^ 23 + (flag (bit r 22) + flag (bit r 17)) % 2

/-- The modulator as the load of the LFSR leaves it (R87). (log 138: DEDUCED) -/
def Mash.load (seed : Nat) : Mash := ⟨seed, 0, 0, 0, 0, 0, 0, 0⟩

/-- One modulator clock of the third-order MASH for the fraction `f` (R87): each accumulator takes the sum of the one before, and the carries
are combined as c₁ + (1 − z⁻¹) c₂ + (1 − z⁻¹)² c₃. (log 138: DEDUCED) -/
def Mash.step (f : Nat) (dither : Bool) (m : Mash) : Mash :=
  let x := 2 * f + flag (dither && bit m.lfsr 22)
  let s1 := m.a1 + x
  let s2 := m.a2 + s1 % 2 ^ 29
  let s3 := m.a3 + s2 % 2 ^ 29
  let c2 := s2 / 2 ^ 29
  let c3 := s3 / 2 ^ 29
  { lfsr := if dither then lfsrNext m.lfsr else m.lfsr, a1 := s1 % 2 ^ 29, a2 := s2 % 2 ^ 29, a3 := s3 % 2 ^ 29, c2 := c2, c3 := c3, c3b := m.c3
    out := (s1 / 2 ^ 29 : Nat) + ((c2 : Int) - m.c2) + ((c3 : Int) - 2 * m.c3 + m.c3b) }

/-- The modulator is bypassed: dither disabled and F = 0, the loop runs integer-N (R87). -/
def Synth.integerN (y : Synth) : Bool := !y.dither && y.f == 0

/-- The modulator of a synthesiser in the modulator clock it has reached (R87). -/
def Synth.mash (y : Synth) : Mash := (Mash.step y.f y.dither)^[y.clocks] (Mash.load y.seed)

/-- The divisor of the loop in the present modulator clock (R85, R87). -/
def Synth.divisor (y : Synth) : Int := if y.integerN then y.n else y.n + y.mash.out

/-- The modulators run on over the pick that ends (R87), one clock of 98.304 MHz for each converter clock of a pick that lasts 1 ms − q × 125 µs. (log 138: DEDUCED) -/
def synthsEnd (s : State) : State :=
  let n := (12288 * (8 - stepQ s)).toNat
  { s with syn := s.syn.map fun y => if y.state = .off then y else { y with clocks := y.clocks + n } }

/-- The achieved frequency in µHz, to the nearest (R86). (log 55: DEDUCED) -/
def achieved (c n f : Nat) : Nat :=
  if n = 0 then 0 else (2 * (fconv * 1000000 * (n * 2 ^ 28 + f)) + 2 ^ (28 + c)) / (2 * 2 ^ (28 + c))

/-- Converter samples that a settle limit in µs zeroes from sample 0: ⌈t × FCONV⌉ (R202). -/
def zeroed (us : Nat) : Nat := (us * fconv + 999999) / 1000000

/-- Zeroes an interval of a warp's lane words in the present pick (R202). -/
def markWarp (w a b : Nat) (s : State) : State :=
  if w < 8 ∧ a < b then wmod w (fun x => { x with marks := x.marks ++ [(a, b)] }) s else s

/-- Zeroes the start of the present pick for a settle limit in µs (R111, R202). -/
def blank (w us : Nat) (s : State) : State := markWarp w 0 (zeroed us) s

/-- A profile meets the conditions of R94 for a request: VALID and of its frequency, of the seed and dither that will apply, and
captured within 15 °C of the present temperature. -/
def profileFits (s : State) (k f : Nat) (seed : Nat) (dither : Bool) (p : Profile) : Bool :=
  let x := if k < 6 then (warpAt s k).sensor else s.probe.temp
  p.valid && p.freq == f && p.seed == seed && p.dither == dither && !x.fault &&
    match x.value with
    | some t => inI (-1500) (p.temp - t) 1500
    | none => false

/-- The dither setting that the next retune applies (R89). -/
def nextDither (y : Synth) : Bool × Nat := y.pendDith.getD (y.dither, y.seed)

/-- The profile a retune to `f` uses: the one named where it fits, the lowest-numbered that fits where the module chooses, else
0xFF for a band search (R94); for SYN6 with the probe's sensor (R137). -/
def pickProfile (s : State) (k f req : Nat) : Nat :=
  let y := synAt s k
  let (d, seed) := nextDither y
  if req < 64 then
    match tget y.profiles req with
    | some p => if profileFits s k f seed d p then req else 0xFF
    | none => 0xFF
  else match y.profiles.find? fun x => profileFits s k f seed d x.2 with
    | some x => x.1
    | none => 0xFF

/-- The warp a synthesiser drives (R103). (log 56: DESIGN CHOICE) -/
def synWarp (k : Nat) : Handle := if k < 6 then fixedHandle 2 k else nullHandle

/-- The profile that the owner has announced for a synthesiser's retune at the present boundary (R604, R612): in MIRROR only. -/
def announcedProfile (s : State) (k : Nat) : Option Nat :=
  if mirroring s = true then
    (s.pair.held.find? fun a => a.kind == 8 && a.effect == s.tb.pick && fu a.body 0 1 == k).map fun a => fu a.body 1 1
  else none

/-- The profile a retune uses: in MIRROR the announced one where the module's own copy fits, else a band search (R94, R612). -/
def retuneProfile (s : State) (k f req : Nat) : Nat :=
  match announcedProfile s k with
  | some p => if p < 64 then pickProfile s k f p else 0xFF
  | none => pickProfile s k f req

/-- A RETUNE announcement (R604). (log 24: DEDUCED) -/
def announceTune (k p effect : Nat) (s : State) : State := announce 8 (synWarp k) effect (byte k ++ byte p ++ zeros 2) s

/-- A retune at the present boundary (R94-R96): a pending dither setting applies, the words are set, the dents of the warp are
marked for the settle limit and then until lock. The LFSR is loaded with the seed (R87), the estimate of the fine DC loop is to be loaded (R166), and
the blanking is a shed (R184). (log 58: DEDUCED) -/
def retune (k f req : Nat) (s : State) : State :=
  let p := retuneProfile s k f req
  let s := announceTune k p s.tb.pick s
  let y := synAt s k
  let (d, seed) := nextDither y
  let x := synX f
  let y1 : Synth := { y with freq := f, code := divCode f, n := x / 2 ^ 28, f := x % 2 ^ 28, profile := p, dither := d
                             seed := seed, pendDith := none, failRep := false, first := (s.tb.pick, 0), clocks := 0 }
  let y2 : Synth := match tget y.profiles p with
    | some q => if p < 64 then { y1 with profiles := tset y.profiles p { q with used := s.sys.ord }, state := .settling, band := q.band, amp := q.amp, cp := q.cp, lf := q.lf }
                else { y1 with state := .searching, searches := y.searches + 1 }
    | none => { y1 with state := .searching, searches := y.searches + 1 }
  let s := synMod k (fun _ => y2) s
  if k < 6 then
    blank k (if p < 64 then 40 else 350) (wmod k (fun w => { w with lossAt := some 0, reload := true, news := w.news ||| 2, cal := { w.cal with shed := 3, steady := false } }) s)
  else s

/-- A synthesiser's frequency is set while its domain is off: it is held, and taken up at switch-on (R169). (log 58: DEDUCED) -/
def holdFreq (k f : Nat) (s : State) : State :=
  let x := synX f
  synMod k (fun y => { y with freq := f, code := divCode f, n := x / 2 ^ 28, f := x % 2 ^ 28 }) s

/-- A synthesiser is stopped with its domain (R593). -/
def synOff (k : Nat) (s : State) : State :=
  synMod k (fun y => { y with state := .off, lossMark := false, failRep := false })
    (if k < 6 then wmod k (fun w => { w with lossAt := none }) s else s)

/-- A synthesiser is locked. -/
def locked (s : State) (k : Nat) : Bool := (synAt s k).state == .locked

/-- The body of EV_SYNTH_UNLOCK and EV_SYNTH_RELOCK (R103). -/
def synBody (k cause pick sample : Nat) : List Byte :=
  byte k ++ byte cause ++ zeros 2 ++ handleBytes (synWarp k) ++ leBytes 8 pick ++ leBytes 4 sample

/-- A hop profile as it is laid out (R93). -/
def profileBytes (p : Profile) : List Byte :=
  leBytes 4 p.freq ++ byte p.code ++ byte p.n ++ zeros 2 ++ leBytes 4 p.f ++ byte p.band ++ byte p.amp ++ byte p.cp ++ byte p.lf
    ++ leBytes 4 p.seed ++ byte (flagBits [p.valid, p.dither]) ++ zeros 1 ++ leSigned 2 p.temp ++ leBytes 8 p.pick

/-- A profile never stored: every field zero and not VALID. (log 57: DEDUCED) -/
def noProfile : Profile := ⟨0, 0, 0, 0, 0, 0, 0, 0, 0, false, false, 0, 0, 0⟩

/-- The code of a synthesiser state (R101). -/
def SynState.code : SynState → Nat
  | .off => 0 | .searching => 1 | .settling => 2 | .locked => 3 | .unlocked => 4

/-- The SYN_STATUS reply (R101). -/
def synStatusBytes (s : State) (k : Nat) : List Byte :=
  let y := synAt s k
  byte k ++ byte y.state.code ++ byte y.code ++ byte y.n ++ leBytes 4 y.f ++ leBytes 8 (achieved y.code y.n y.f) ++ byte y.band
    ++ byte y.profile ++ byte (flagBits [y.dither, y.pendDith.isSome]) ++ zeros 1 ++ leBytes 4 y.seed ++ leCount 2 y.unlocks
    ++ leCount 2 y.searches ++ leCount 4 y.settle

/-- SYN_STATUS (R101). -/
def execSynStatus (h : Hdr) (index : Nat) (s : State) : Host.Outcome State Fault Refusal :=
  serve (.synStatus h index) 0x0520 .operator .fw h nullHandle (fun s => chk do
    need (index < 7) .badParam
    okay (synStatusBytes s index) s) s

/-- SYN_DITHER_SET (R89): held as pending until the next retune. -/
def execSynDitherSet (h : Hdr) (index flags seed : Nat) (s : State) : Host.Outcome State Fault Refusal :=
  serve (.synDitherSet h index flags seed) 0x0521 .installer .ctl h nullHandle (fun s => chk do
    need (index < 7 && only flags 1 && only seed 23 && seed != 0) .badParam
    okay [] (synMod index (fun y => { y with pendDith := some (bit flags 0, seed) }) s)) s

/-- The present locked settings as a profile (R97). The capture temperature of SYN6 is the probe's sensor. -/
def capture (s : State) (k : Nat) : Profile :=
  let y := synAt s k
  ⟨y.freq, y.code, y.n, y.f, y.band, y.amp, y.cp, y.lf, y.seed, true, y.dither,
    if k < 6 then ((warpAt s k).sensor.value).getD (-32768) else s.probe.temp.value.getD (-32768), s.tb.pick, s.sys.ord⟩

/-- SYN_PROFILE_STORE (R97). -/
def execSynProfileStore (h : Hdr) (index num : Nat) (s : State) : Host.Outcome State Fault Refusal :=
  serve (.synProfileStore h index num) 0x0522 .operator .ctl h nullHandle (fun s => chk do
    need (index < 7 && num < 64) .badParam
    need (!(num ≥ 48 && isHop s index)) .conflict
    need (locked s index) .notReady
    let p := capture s index
    okay (profileBytes p) { synMod index (fun y => { y with profiles := tset y.profiles num p }) s with
                            calib := { s.calib with dirty := true } }) s

/-- SYN_PROFILE_READ (R97). (log 57: DEDUCED) -/
def execSynProfileRead (h : Hdr) (index num : Nat) (s : State) : Host.Outcome State Fault Refusal :=
  serve (.synProfileRead h index num) 0x0523 .operator .fw h nullHandle (fun s => chk do
    need (index < 7 && num < 64) .badParam
    need (!(num ≥ 48 && isHop s index)) .conflict
    okay (profileBytes ((tget (synAt s index).profiles num).getD noProfile)) s) s

/-- SYN_PROFILE_CLEAR (R97). -/
def execSynProfileClear (h : Hdr) (index num : Nat) (s : State) : Host.Outcome State Fault Refusal :=
  serve (.synProfileClear h index num) 0x0524 .operator .ctl h nullHandle (fun s => chk do
    need (index < 7 && num < 64) .badParam
    need (!(num ≥ 48 && isHop s index)) .conflict
    okay [] { synMod index (fun y => { y with profiles := tmod y.profiles num fun p => { p with valid := false } }) s with
              calib := { s.calib with dirty := true } }) s

/-- The measurement point whose pick the present one is (R137): that of the session that radiates or is held, else that of the passive
measurement. (log 142: DESIGN CHOICE) -/
def pointNow (s : State) : Option Nat :=
  let p := s.probe
  if p.state = .radiating ∨ p.state = .held then if s.sys.ord = p.startOrd + p.point then some p.point else none
  else if p.measActive && p.measDue ≤ s.sys.ord && s.sys.ord < p.measDue + p.measFreqs.length then some (s.sys.ord - p.measDue) else none

/-- SYN6 was not locked from the start of the detectors' window of the present point, or radiation was gated off in it for want of lock (R137). (log 142: DESIGN CHOICE) -/
def pointOpen (s : State) : State :=
  match pointNow s with
  | some k => { s with probe := { s.probe with openNow := s.probe.openNow ++ [k] } }
  | none => s

/-- The first converter sample of the last 500 µs of a pick, over which the detectors integrate (R137). -/
def windowStart : Nat := 49152

/-- A synthesiser goes out of lock outside a retune (R91): its warp is marked from the first sample after the decision, and a full
band search restarts at the same frequency. (log 56: DESIGN CHOICE) -/
def execSynthUnlock (k : Fin 7) (sample : Nat) (s : State) : Host.Outcome State Fault Refusal :=
  if (synAt s k).state = .locked ∧ sample < 98304 then
    let s := synMod k (fun y => { y with state := .searching, unlocks := y.unlocks + 1, searches := y.searches + 1
                                         lossMark := true, first := (s.tb.pick, sample) }) s
    let s := if k.val < 6 then wmod k (fun w => { w with lossAt := some sample, cal := { w.cal with steady := false } }) s
      else if windowStart ≤ sample ∧ s.probe.measActive = false then pointOpen s else s
    .next (ev 0x0520 (synBody k 1 s.tb.pick sample) s)
  else .next s

/-- The hop warp's synthesiser has locked by a band search after a retune: its settings go to the least recently used of profiles 48 to 63
(R358). -/
def hopStore (k : Nat) (s : State) : State :=
  let key := fun (n : Nat) => (tget (synAt s k).profiles n).elim 0 fun p => p.used + 1
  let n := (List.range 16).foldl (fun b i => if key (48 + i) < key b then 48 + i else b) 48
  { synMod k (fun y => { y with profiles := tset y.profiles n (capture s k) }) s with calib := { s.calib with dirty := true } }

/-- The output gate of the probe (R90, R96, R142): open only while SYN6 is locked, COEX_GNT is high and the session is radiating. -/
def probeGate (s : State) : Bool := locked s 6 && s.probe.gnt && s.probe.state == .radiating

/-- A level calibration of the probe is due (R143): none since D6 came on, or the temperature has moved by more than 5 °C. -/
def probeCalDue (s : State) : Bool :=
  !s.probe.levelCal || s.probe.temp.value.any fun t => !inI (-500) (t - s.probe.calTemp) 500

/-- SYN6 is locked for a probe start that waits (R145): a level calibration begins if one is due. -/
def probeLocked (s : State) : State :=
  if s.probe.state = .waiting ∧ locked s 6 = true ∧ probeCalDue s = true then { s with probe := { s.probe with calibrating := true } } else s

/-- The first sample of a warp's dents that is valid when its synthesiser has locked before the sample `j` (R91, R95). -/
def firstValid (w : Warp) (j : Nat) : Nat := (w.marks.filter fun m => m.1 ≤ j && j < m.2).foldl (fun n m => max n m.2) j

/-- A synthesiser is locked after a search or a retune (R91, R92): a retune by profile keeps the settings the profile restored; the marking of
R91 and R95 ends with the first sample after lock, and the end of what an EV_SYNTH_UNLOCK reported is reported. -/
def execSynthLock (k : Fin 7) (r : LockFacts) (s : State) : Host.Outcome State Fault Refusal :=
  let y := synAt s k
  if y.state = .searching ∨ y.state = .settling then
    let found := y.state == .searching
    let s := synMod k (fun y => { y with state := .locked, band := if found then r.band else y.band, amp := if found then r.amp else y.amp
                                         cp := if found then r.cp else y.cp, lf := if found then r.lf else y.lf
                                         settle := r.settle, lossMark := false, failRep := false }) s
    let s := if k = 6 then (if windowStart < r.sample then pointOpen (probeLocked s) else probeLocked s) else s
    let s := if k.val < 6 then
        let a := (warpAt s k).lossAt
        markWarp k (a.getD 0) (if a.isSome then r.sample else 0) (wmod k (fun w => { w with lossAt := none }) s)
      else s
    if y.lossMark then .next (ev 0x0521 (synBody k 0 s.tb.pick (firstValid (warpAt s k) r.sample)) s)
    else if y.state = .searching ∧ k.val < 6 ∧ isHop s k = true then .next (hopStore k s)
    else .next s
  else .next s

/-- A band search ends without lock (R91): the marking stays, and the first failure since lock was last held or since the retune began
is reported. -/
def execBandSearchFailed (k : Fin 7) (s : State) : Host.Outcome State Fault Refusal :=
  let y := synAt s k
  if y.state = .searching then
    let s := synMod k (fun y => { y with state := .unlocked, lossMark := true, failRep := true }) s
    .next (if y.failRep then s else ev 0x0520 (synBody k 2 y.first.1 y.first.2) s)
  else .next s

/-- A failed band search is repeated (R91). -/
def execSearchRepeatTimer (k : Fin 7) (s : State) : Host.Outcome State Fault Refusal :=
  if (synAt s k).state = .unlocked then
    .next (synMod k (fun y => { y with state := .searching, searches := y.searches + 1 }) s)
  else .next s

/-- A retune by profile has not locked in 40 µs (R94): it continues with a band search from the same start, and the profile is no
longer VALID. -/
def execProfileLockTimeout (k : Fin 7) (s : State) : Host.Outcome State Fault Refusal :=
  let y := synAt s k
  if y.state = .settling then
    let s := synMod k (fun y => { y with state := .searching, searches := y.searches + 1, profile := 0xFF
                                         profiles := tmod y.profiles y.profile fun p => { p with valid := false } }) s
    .next (if k.val < 6 then blank k 350 s else s)
  else .next s

end Sys2Proof.Machine
end

