-- ==== Sys2Proof/Machine/WeaveType.lean ====
section
/-! DEFINITION. What a weave's type and type block fix (R255-R257, R266, R282, R290-R296): the checks of the block, the dents accepted,
the declared figures, the depth and the decoder slots. -/

namespace Sys2Proof.Machine

/-- Byte `i` of a type block. -/
def tb8 (b : List Byte) (i : Nat) : Nat := (nth b i 0#8).toNat

/-- The 16-bit field at byte `i` of a type block. -/
def tb16 (b : List Byte) (i : Nat) : Nat := tb8 b i + 256 * tb8 b (i + 1)

/-- Bytes `i` to `j - 1` of a type block are reserved and zero (R16). -/
def tbZero (b : List Byte) (i j : Nat) : Bool := ((b.take j).drop i).all (· == 0#8)

/-- The FM type block (R266). -/
def fmBlockOk (b : List Byte) : Bool :=
  b.length == 16 && tb8 b 0 ≤ 2 && tb8 b 1 ≤ 2 && tb8 b 2 ≤ 2 && tb8 b 3 ≤ 2 && tb8 b 4 ≤ 1 && only (tb8 b 5) 2 &&
  (tb16 b 6 == 0 || inR 40 (tb16 b 6) 144) && inR 100 (tb16 b 8) 600 && tb16 b 10 ≤ 590 && tb16 b 10 < tb16 b 8 &&
  inR 100 (tb16 b 12) 1500 && tbZero b 14 16

/-- The AM type block (R282). -/
def amBlockOk (b : List Byte) : Bool :=
  b.length == 8 && tb8 b 0 ≤ 1 && tb8 b 1 ≤ 4 && inR 15 (tb8 b 2) 90 && tb8 b 3 ≤ 1 && only (tb8 b 4) 1 && tbZero b 5 8

/-- The DAB type block (R291). -/
def dabBlockOk (b : List Byte) : Bool :=
  b.length == 8 && tb8 b 0 ≤ 4 && tb8 b 1 ≤ 16 && only (tb8 b 2) 3 && tbZero b 3 8

/-- The DRM type block (R292). -/
def drmBlockOk (b : List Byte) : Bool :=
  b.length == 8 && tb8 b 0 ≤ 1 && tb8 b 1 ≤ 4 && tb8 b 2 ≤ 1 && only (tb8 b 3) 2 &&
  (if tb8 b 0 = 0 then tb8 b 4 ≤ 4 else tb8 b 4 == 0) && tbZero b 5 8

/-- A type block is valid for its type (R250, R255, R290). -/
def blockOk (type : Nat) (b : List Byte) : Bool :=
  match type with
  | 1 => amBlockOk b | 2 => fmBlockOk b | 3 => dabBlockOk b | 4 => drmBlockOk b | _ => false

/-- The dent rates a type accepts (R255, R290). -/
def rateOk (type rate : Nat) (b : List Byte) : Bool :=
  match type with
  | 1 => rate == 0
  | 2 => rate == 4
  | 3 => rate == 7
  | 4 => if tb8 b 0 = 0 then rate ≤ 1 else rate == 3 || rate == 7
  | _ => false

/-- The pipeline depth D (R257, R296). -/
def depthOf (type : Nat) (b : List Byte) : Nat :=
  match type with
  | 1 => 6
  | 2 => 4
  | 3 => 511
  | _ => if tb8 b 0 = 0 then (if tb8 b 2 = 0 then 2039 else 439) else if tb8 b 2 = 0 then 739 else 239

/-- The declared figures (R256, R294) of a weave with `n` dents. -/
def costOf (type n : Nat) (b : List Byte) : Cost :=
  let more := n - 1
  let sl := tb8 b 1
  match type with
  | 1 => ⟨28000 + 6000 * more, 14000, 0, 0, 0, 0, 8 + 2 * more, 32⟩
  | 2 =>
    let mpx := bit (tb8 b 5) 1
    ⟨(if tb8 b 2 = 0 then 86000 else 95000) + (if mpx then 4000 else 0) + 26000 * more, 38000, 0, 0, 0, 0
      , 32 + (if mpx then 48 else 0) + 8 * more, 64⟩
  | 3 => ⟨300000 + 60000 * sl, 120000, 40000, 24000, 6000, 6000, 192 + 16 * sl, 2048 + 256 * sl⟩
  | _ =>
    let e := tb8 b 0 = 1
    ⟨(if e then 330000 else 270000) + 90000 * sl, 150000, if e then 20000 else 8000, if bit (tb8 b 3) 1 then 3000 else 0, 2000, 2000
      , 64 + 16 * sl, 1024 + 256 * sl⟩

/-- The decoder slots S (R291, R292). -/
def slotsOf (type : Nat) (b : List Byte) : Nat := if type = 3 ∨ type = 4 then tb8 b 1 else 0

/-- The NOTIFY flag of the type block (R266, R282, R291, R292). -/
def blockNotify (type : Nat) (b : List Byte) : Bool :=
  match type with
  | 1 => bit (tb8 b 4) 0
  | 2 => bit (tb8 b 5) 0
  | 3 => bit (tb8 b 2) 0
  | _ => bit (tb8 b 3) 0

/-- A field of a D of one byte (R296). -/
def depthByte (d : Nat) : Nat := if d > 254 then 0xFF else d

/-- The block as a default of the manual gives it, for weaves the module creates (R334, R355): FM, AM, DAB, DRM30, mode E, with `n`
decoder slots. -/
def defaultBlock (kind n : Nat) : List Byte :=
  match kind with
  | 1 => byte 0 ++ byte 1 ++ byte 1 ++ byte 1 ++ byte 0 ++ byte 0 ++ leBytes 2 0 ++ leBytes 2 400 ++ leBytes 2 200 ++ leBytes 2 750
      ++ zeros 2
  | 2 => byte 0 ++ byte 0 ++ byte 45 ++ zeros 5
  | 3 => byte 0 ++ byte n ++ zeros 6
  | 4 => byte 0 ++ byte n ++ zeros 6
  | _ => byte 1 ++ byte n ++ zeros 6

end Sys2Proof.Machine
end

