-- ==== Sys2Proof/Machine/Pools.lean ====
section
/-! DEFINITION. What is charged and the limits it is charged against: the core budget (R76-R78), the declared figures of weaves,
follow sets and verifications (R238-R241, R346, R389), the dents' rings (R210) and the admission checks (R239, R240). -/

namespace Sys2Proof.Machine

/-- No charge. -/
def Cost.zero : Cost := ⟨0, 0, 0, 0, 0, 0, 0, 0⟩

/-- Two charges together. -/
def Cost.add (a b : Cost) : Cost :=
  ⟨a.cycles + b.cycles, max a.task b.task, a.viterbi + b.viterbi, a.rs + b.rs, a.fft + b.fft, a.tdi + b.tdi, a.beam + b.beam
    , a.dram + b.dram⟩

/-- The larger of two charges, figure by figure. -/
def Cost.sup (a b : Cost) : Cost :=
  ⟨max a.cycles b.cycles, max a.task b.task, max a.viterbi b.viterbi, max a.rs b.rs, max a.fft b.fft, max a.tdi b.tdi
    , max a.beam b.beam, max a.dram b.dram⟩

/-- The core budget of a spread setting: 76,800,000 times the mean frequency factor, DOWN losing half its amount (R77, R78). -/
def fullBudget (mode amount : Nat) : Nat := if mode = 1 then 76800000 * (4000 - amount) / 4000 else 76800000

/-- The core budget in force (R78, R81). (log 137: DESIGN CHOICE) -/
def coreBudget (s : State) : Nat :=
  match s.clk.state with
  | .normal => fullBudget s.clk.mode s.clk.amount
  | _ => 38400000

/-- The admission limit of a spread setting (R78). -/
def fullLimit (mode amount : Nat) : Nat := fullBudget mode amount * 85 / 100

/-- The admission limit in force (R78, R81). (log 137: DESIGN CHOICE) -/
def admLimit (s : State) : Nat := coreBudget s * 85 / 100

/-- The spread setting that is pending or held until NORMAL, or else the one in force (R79). -/
def nextSpread (s : State) : Nat × Nat :=
  match s.clk.held with
  | some x => x
  | none => match s.sched.find? fun p => match p.cmd with | .clkConfig _ _ _ _ => true | _ => false with
    | some p => match p.cmd with
      | .clkConfig _ m a _ => (m, a)
      | _ => (s.clk.mode, s.clk.amount)
    | none => (s.clk.mode, s.clk.amount)

/-- The limit admissions are checked against: the lower of that in force and that a pending setting will give (R79). -/
def admNow (s : State) : Nat :=
  match s.clk.state with
  | .normal => min (admLimit s) (fullLimit (nextSpread s).1 (nextSpread s).2)
  | _ => admLimit s

/-- The limit of an engine class: 42.5 % of its capacity, at the full clock's mean frequency (R234). -/
def engineLimit (s : State) (n : Nat) : Nat :=
  let cap := if s.clk.mode = 1 then n * 1200000 * (4000 - s.clk.amount) / 4000 else n * 1200000
  cap * 425 / 1000

/-- The beam pool in KiB: 24 MiB less 1 MiB of fixed areas and the calibration table of 148 entries of 32 bytes (R230). -/
def beamPool : Nat := 24 * 1024 - 1024 - 5

/-- The DRAM pool in KiB (R230). (log 76: DEDUCED) -/
def dramPool : Nat := 960 * 1024

/-- Samples per pick of a rate code (R203). -/
def rateS (r : Nat) : Nat := nth [24, 48, 96, 192, 384, 768, 1536, 2048] r 0

/-- The ring of a dent in KiB (R210). -/
def ringKiB (r : Nat) : Nat := (18 * rateS r + 1023) / 1024

/-- The charge of a follow set with `n` entries (R346). -/
def followCost (n : Nat) : Cost := ⟨12000 + 18000 * (n - 1), 18000, 0, 0, 8000 * (n - 1), 0, 16, 3072 * n⟩

/-- The charge of a verification (R389). -/
def verifCost : Cost := ⟨15000, 15000, 0, 0, 3000, 0, 8, 640⟩

/-- The handle of an issued weave. -/
def handleOf (s : State) (c i : Nat) : Handle := ((objAt s c i).map Obj.handle).getD nullHandle

/-- A weave is shed (R245). -/
def isShed (s : State) (i : Nat) : Bool := (objAt s 4 i).any (·.shed)

/-- The figures of the configuration an accepted WEAVE_SET will give a weave. -/
def weaveNext (s : State) (i : Nat) (w : Weave) : Option Cost :=
  (s.sched.find? fun p => p.kind == 50 && p.obj == handleOf s 4 i).bind fun p => match p.cmd with
    | .weaveSet _ _ _ _ _ b => if b.isEmpty then none else some (costOf w.type w.dents.length b)
    | _ => none

/-- A WEAVE_START of a weave is pending. -/
def startPend (s : State) (i : Nat) : Bool := s.sched.any fun p => match p.cmd with
  | .weaveStart _ h _ => h = handleOf s 4 i
  | _ => false

/-- What a weave that is not shed is charged: with a change of configuration pending, the larger of both (R238). -/
def weaveNeed (s : State) (i : Nat) (w : Weave) : Cost :=
  match weaveNext s i w with
  | some c => w.cost.sup c
  | none => w.cost

/-- The charge of a weave: none while shed, unless its readmission by a WEAVE_START has been accepted since (R238). -/
def weaveCharge (s : State) (i : Nat) (w : Weave) : Cost :=
  if isShed s i && !(w.readmit && startPend s i) then Cost.zero else weaveNeed s i w

/-- Every charge with its group: weaves, follow sets, verifications (R238, R346, R389). (log 76: DEDUCED, 133: DEDUCED) -/
def charges (s : State) : List (Nat × Cost) :=
  s.weaves.map (fun x => (x.2.group, weaveCharge s x.1 x.2)) ++
  s.follows.map (fun x => (x.2.group, followCost (max x.2.srcs.length x.2.charged))) ++
  s.verifs.map (fun x => (x.2.group, verifCost))

/-- The sum of charges. -/
def sumCost (l : List (Nat × Cost)) : Cost := l.foldl (fun c x => c.add x.2) Cost.zero

/-- The summed declared cost charged (R253). -/
def loadOf (s : State) : Nat := (sumCost (charges s)).cycles

/-- The cost charged to a group. -/
def groupLoad (l : List (Nat × Cost)) (g : Nat) : Nat := (sumCost (l.filter fun x => x.1 == g)).cycles

/-- The beam in KiB that dents' rings take. -/
def ringsKiB (s : State) : Nat := s.dents.foldl (fun n x => n + ringKiB x.2.rate) 0

/-- The beam pool's free KiB (R253). (log 69: DESIGN CHOICE) -/
def beamFree (s : State) : Nat := beamPool - (ringsKiB s + (sumCost (charges s)).beam)

/-- The DRAM pool's free KiB (R253). (log 76: DEDUCED) -/
def dramFree (s : State) : Nat := dramPool - (sumCost (charges s)).dram

/-- A command of the owner is being followed in MIRROR: what it admits and where it places are the owner's decisions (R248). -/
def following (s : State) : Bool := s.pair.applying.isSome && s.sys.mode == .mirror

/-- The group limit that admissions are checked against (R79, R239). -/
def groupLimit (s : State) : Nat := admNow s / 8

/-- The group a charge goes to: the one named, or the lowest-charged that passes check 2 (R240). -/
def placeGroup (s : State) (l : List (Nat × Cost)) (g : Nat) (c : Cost) : Option Nat :=
  let fits := fun k => following s || groupLoad l k + c.cycles ≤ groupLimit s
  if g < 8 then (if fits g then some g else none)
  else ((List.range 8).filter fits).foldl (fun b k => match b with
    | none => some k
    | some m => if groupLoad l k < groupLoad l m then some k else some m) none

/-- The admission checks 2 to 8 on a charge beside the charges `l`: the group, or the code of the check that fails (R239). What the owner has admitted is not
checked again (R248). -/
def roomFor (s : State) (l : List (Nat × Cost)) (g : Nat) (c : Cost) : Except Nat Nat :=
  let t := sumCost l
  match placeGroup s l g c with
  | none => .error 2
  | some k =>
    if following s then .ok k
    else if t.viterbi + c.viterbi > engineLimit s 4 then .error 3
    else if t.rs + c.rs > engineLimit s 2 then .error 4
    else if t.fft + c.fft > engineLimit s 4 then .error 5
    else if t.tdi + c.tdi > engineLimit s 1 then .error 6
    else if ringsKiB s + t.beam + c.beam > beamPool then .error 7
    else if t.dram + c.dram > dramPool then .error 8
    else .ok k

/-- The last refusal of the admission checks is reported (R239). -/
def refuseAdm (k : Nat) (s : State) : State := { s with cluster := { s.cluster with refusal := k } }

end Sys2Proof.Machine
end

