-- ==== Sys2Proof/Machine/Reed.lean ====
section
/-! DEFINITION. The reed (R201-R229): the dent chain, NCO words, group delay and fill, cost and admission, sync resets and sample
flags, and the reed commands. -/

namespace Sys2Proof.Machine

/-! The chain. -/

/-- The decimation M of a rate code (R203). -/
def rateM (r : Nat) : Nat := nth [4096, 2048, 1024, 512, 256, 128, 64, 48] r 1

/-- The half-band stages of a rate code (R203). -/
def rateH (r : Nat) : Nat := nth [4, 4, 4, 4, 3, 2, 2, 2] r 0

/-- The default tap count of a rate code (R203). -/
def rateN (r : Nat) : Nat := nth [255, 255, 127, 127, 127, 95, 63, 63] r 0

/-- The base cost of a rate code in RU (R221). -/
def rateBase (r : Nat) : Nat := nth [16, 16, 16, 16, 18, 20, 24, 28] r 0

/-- The CIC decimation K for a FIR decimation d (R204). -/
def chainK (r d : Nat) : Nat := rateM r / (2 ^ rateH r * d)

/-- P₁ + … + P_h in FCONV periods (R215). -/
def sumP (k h : Nat) : Nat := k * (2 ^ h - 1)

/-- An empty bank. -/
def Bank.none : Bank := ⟨[], 0, false, 0, 0⟩

/-- A default bank of a rate: 1 linear phase, 2 minimum phase (R212). (log 72: DESIGN CHOICE) -/
def Bank.ofDefault (r kind : Nat) : Bank :=
  let n := rateN r
  let g := if kind = 1 then (n - 1) * 128
    else if n = 63 then 1792 else if n = 95 then 2688 else if n = 127 then 3584 else 6912
  ⟨(List.range n).map fun t => (Config.defaultTap r kind t).toInt, n, kind == 1, kind, g⟩

/-- A bank as DENT_CREATE names it: 0 empty, 1 or 2 a default. -/
def bankOf (r kind : Nat) : Bank := if kind = 0 then Bank.none else Bank.ofDefault r kind

/-- The active bank of a dent. -/
def Dent.bank (x : Dent) : Bank := if x.active = 0 then x.bankA else x.bankB

/-- The inactive bank of a dent. -/
def Dent.other (x : Dent) : Bank := if x.active = 0 then x.bankB else x.bankA

/-- The larger tap count of the banks. -/
def Dent.taps (x : Dent) : Nat := max x.bankA.n x.bankB.n

/-- The chain delay G in half FCONV periods with a bank of delay `g` in 1/256 FIR input samples (R215), to the nearest. (log 73: DEDUCED) -/
def chainDelay (k h d g : Nat) : Nat :=
  5 * (k - 1) + 22 * sumP k h + (2 * g * (k * 2 ^ h) + 128) / 256 + 2 * (k * 2 ^ h * d)

/-- The chain delay of a dent with its active bank. (log 73: DEDUCED) -/
def Dent.delay (x : Dent) : Nat := chainDelay x.k x.hb x.d x.bank.delay

/-- The fill length (R219): N is taken as 1 when both banks are empty. (log 73: DEDUCED) -/
def fillOf (k h d n tau : Nat) : Nat :=
  let m := k * 2 ^ h * d
  (5 * (k - 1) + 22 * sumP k h + (max n 1 - 1) * (k * 2 ^ h) + m - 1) / m + (tau + 255) / 256 + 3

/-- The fill length of a dent. -/
def Dent.fill (x : Dent) : Nat := fillOf x.k x.hb x.d x.taps x.tau

/-- The cost of a dent in RU (R221). -/
def dentCost (r n : Nat) : Nat := rateBase r + (n * rateS r + 4095) / 4096

/-- The sum of the charges: every dent that is not FREE (R222). -/
def reedLoad (s : State) : Nat := s.dents.foldl (fun a x => a + dentCost x.2.rate x.2.taps) 0

/-! The lane. -/

/-- The LO band of a warp: its divider code, 0 on an HF warp or with no LO set (R156, R171). (log 68: DEDUCED) -/
def loBand (s : State) (w : Nat) : Nat := if w < 6 ∧ (warpAt s w).lo.isSome then (synAt s w).code else 0

/-- The pending retune of a warp. -/
def tunePend (s : State) (w : Nat) : Option Pend := pendOf s (fixedHandle 2 w) 30

/-- The placed LO of a WARP_TUNE (R168): EXACT, or the half-step point of RASTER, rounded to whole Hz half upward. -/
def placedLo (r : TuneReq) : Nat :=
  if r.placement = 0 then r.freq
  else ((2 * ((r.origin : Int) + ((r.freq : Int) - r.origin) / r.step * r.step) + r.step + 1) / 2).toNat

/-- The LO of a pending retune. -/
def pendLo (p : Pend) : Option Nat :=
  match p.cmd with
  | .warpTune _ _ r _ => some (placedLo r)
  | _ => none

/-- The placed LO in force on a warp at a boundary to come. -/
def loAt (s : State) (w due : Nat) : Option Nat :=
  match tunePend s w with
  | some p => if p.due ≤ due then pendLo p else (warpAt s w).lo
  | none => (warpAt s w).lo

/-- The rules of R167 on a dent for one placed LO; frequencies in µHz. -/
def laneFits (lo freq bw : Nat) : Bool :=
  let df := (freq : Int) - (lo : Int) * 1000000
  df.natAbs > 25000000000 && 2 * df.natAbs + bw * 1000000 ≤ 2 * 40960000000000

/-- The rules of R172 on an HF lane. -/
def hfFits (freq bw : Nat) : Bool :=
  2 * 9000000000 + bw * 1000000 ≤ 2 * freq && 2 * freq + bw * 1000000 ≤ 2 * 32000000000000

/-- The checks of R167 and R172 for a dent on a warp: the LO in force and that of a pending retune. -/
def laneOk (s : State) (w freq bw : Nat) : Chk Unit :=
  if w ≥ 6 then need (hfFits freq bw) .conflict
  else match (warpAt s w).lo, (tunePend s w).bind pendLo with
    | none, none => .error .notReady
    | some a, none => need (laneFits a freq bw) .conflict
    | none, some _ => .error .notReady
    | some a, some b => need (laneFits a freq bw && laneFits b freq bw) .conflict

/-- The NCO word for a frequency in µHz on a warp with a placed LO: from the achieved LO, halves rounded upward (R206, R172). -/
def ncoWord (w : Nat) (lo : Option Nat) (freq : Nat) : Int :=
  let c := if w ≥ 6 then 0 else 28 + (lo.elim 0 divCode)
  let df : Int := (freq : Int) * 2 ^ c - (if w ≥ 6 then 0 else (fconv : Int) * 1000000 * (lo.elim 0 synX))
  (2 * (df * 2 ^ 32) + (fconv : Int) * 1000000 * 2 ^ c) / (2 * ((fconv : Int) * 1000000 * 2 ^ c))

/-- The analogue delay t_a of a warp in an LO band, in 10 ps: from the factory part of CAL, or nominal (R215, R562). The item of a
warp holds one value for each LO band, 2 to 7 in order. (log 71: DESIGN CHOICE) -/
def analogueDelay (s : State) (w band : Nat) : Nat :=
  match s.calib.factory.find? fun x => x.1 == 0x23 && x.2.1 == w with
  | some x => ofLe ((x.2.2.drop (2 * (if w < 6 then band - 2 else 0))).take 2)
  | none => (Config.nominalDelay w band).toNat

/-! Dents as objects. -/

/-- The dent of an index. -/
def dentAt (s : State) (i : Nat) : Option Dent := tget s.dents i

/-- Changes a dent. -/
def dmod (i : Nat) (f : Dent → Dent) (s : State) : State := { s with dents := tmod s.dents i f }

/-- The weave a dent feeds (R19): its index and entry. -/
def weaveOf (s : State) (h : Handle) : Option (Nat × Weave) := s.weaves.find? fun x => x.2.dents.contains h

/-- A handle that a pending release names (R224). -/
def releasing (s : State) (h : Handle) : Bool := (pendOf s h 10).isSome

/-- The present settings of a dent as those from a sample of the pick on. -/
def Dent.seg (x : Dent) (sample : Nat) (reset disc live : Bool) : DentSeg :=
  ⟨sample, x.warp, x.nco, x.tau, x.bank, x.fill, reset, disc, live⟩

/-- The settings of a dent have changed at a sample of the present pick: with a sync reset (R218), with a discontinuity (R207, R217). -/
def Dent.mark (x : Dent) (sample : Nat) (reset disc : Bool) : Dent :=
  match x.segs.getLast? with
  | some g =>
    if g.at_ < sample then { x with segs := x.segs ++ [x.seg sample reset disc g.live] }
    else { x with segs := x.segs.dropLast ++ [x.seg g.at_ (g.reset || reset) (g.disc || disc) g.live] }
  | none => { x with segs := [x.seg sample reset disc true] }

/-- A sync reset at a sample of the present pick (R218). -/
def Dent.sync (x : Dent) (sample : Nat) : Dent := x.mark sample true false

/-- A dent begins or resumes at a sample of the present pick, with a sync reset (R218): it has not run before it in the pick. -/
def Dent.begin_ (x : Dent) (sample : Nat) : Dent :=
  { x with segs := (if sample = 0 then [] else [x.seg 0 false false false]) ++ [x.seg sample true false true] }

/-- Samples of a rate in a pick of a step of q (R61). -/
def stepS (r : Nat) (q : Int) : Nat := ((rateS r : Int) * (8 - q) / 8).toNat

/-- A sample lies in the pick that begins at a boundary (R61, R62, R223). -/
def sampleIn (s : State) (rate due sample : Nat) : Bool := sample < stepS rate (stepQAt s due)

/-- The entries of a follow set's active fade: the old and the new source (R367). -/
def fadeComps (f : Follow) : List Handle :=
  match f.fade with
  | some e => ((f.srcs.head?.map (·.req.comp)).toList) ++ ((f.srcs[e.entry]?).map (·.req.comp)).toList
  | none => []

/-- The weave that carries a component. (log 74: DEDUCED) -/
def compWeave (s : State) (h : Handle) : Option Nat :=
  match tget s.comps (hIndex h) with
  | some c => match tget s.svcs c.svc with
    | some v => v.weave
    | none => none
  | none => none

/-- A dent feeds an active fade (R367). -/
def fading (s : State) (h : Handle) : Bool :=
  match weaveOf s h with
  | some w => s.follows.any fun f => (fadeComps f.2).any fun c => compWeave s c = some w.1
  | none => false

/-! Flags. -/

/-- The bookkeeping of a dent's flags as it runs through the samples of a pick. -/
structure FlagRun where
  fillLeft : Nat
  tailLeft : Nat
  inRun    : Bool
  runZero  : Bool
  flags    : List Byte
  invalid  : Nat

/-- What the flags of a dent take from the lane it reads over a pick: the zeroed intervals of converter samples (R202), and the OVERLOAD and
PROBE_DISTURBED of the pick. -/
structure LaneFlags where
  zero : List (Nat × Nat)
  ov   : Bool
  pd   : Bool

/-- The settings in force at a sample. -/
def segAt (x : Dent) (j : Nat) : DentSeg := ((x.segs.filter fun g => g.at_ ≤ j).getLast?).getD (x.seg 0 false false true)

/-- One sample's flag byte (R209, R218-R220), from the settings in force at it; `sat` lists the saturated samples. -/
def flagStep (x : Dent) (lane : Nat → LaneFlags) (sat : List Bool) (a : FlagRun) (j : Nat) : FlagRun :=
  let g := segAt x j
  let w := lane g.warp
  let r := g.reset && g.at_ == j
  let fl := if r then g.fill else a.fillLeft
  let at_ := x.k * 2 ^ x.hb * x.d * j
  let z := w.zero.any fun i => i.1 ≤ at_ && at_ < i.2
  let inv := z || fl > 0 || g.bank.n = 0 || !g.live
  let rz := (if r then false else a.runZero) || z
  let tl := if r || inv then 0 else if a.inRun && a.runZero then g.fill else a.tailLeft
  { fillLeft := fl - 1, tailLeft := tl - 1, inRun := inv, runZero := inv && rz
    flags := a.flags ++ [BitVec.ofNat 8 (flagBits [inv, fl > 0, w.ov, w.pd, tl > 0, nth sat j false, g.disc && g.at_ == j])]
    invalid := a.invalid + flag inv }

/-! Samples. -/

/-- The converter samples of one output sample (R208): the first, its own instant, with the settings in force at it, after which the output is
formed, then those up to the next. `c0` is the converter count at the start of the pick (R207). -/
def sampleStep (x : Dent) (lane : Nat → List (Int × Int)) (c0 : Int) (a : List ((Int × Int) × Bool) × ChainMem) (j : Nat) :
    List ((Int × Int) × Bool) × ChainMem :=
  let g := segAt x j
  let m := x.k * 2 ^ x.hb * x.d
  let take := fun (b : ChainMem) (i : Nat) => chainIn x.k x.hb i (mix (nth (lane g.warp) i (0, 0)) (ncoPhase g.nco (c0 + i))) b
  let b := if g.reset && g.at_ == j then ChainMem.clear else a.2
  let b := chainFir g.bank.taps (take b (m * j))
  let y := outSample x.k x.hb (decide (6 ≤ g.warp)) (chainFarrow g.tau b)
  (a.1 ++ [if g.live then y else ((0, 0), false)], (List.range (m - 1)).foldl (fun b i => take b (m * j + i + 1)) b)

/-- The samples of a dent over a pick that has `n` of them, with which were saturated, and the memories it leaves (R201-R218). A chain that is clear and
reads no words gives zeros. -/
def dentSamples (x : Dent) (n : Nat) (lane : Nat → List (Int × Int)) (c0 : Int) : List ((Int × Int) × Bool) × ChainMem :=
  if x.mem = ChainMem.clear ∧ (x.segs.all fun g => (lane g.warp).isEmpty) = true then (List.replicate n ((0, 0), false), x.mem)
  else (List.range n).foldl (sampleStep x lane c0) ([], x.mem)

/-- A dent over the pick that ends, with `n` samples in it: its samples and their flags go into its ring (R209, R210). -/
def dentPick (x : Dent) (n : Nat) (lane : Nat → List (Int × Int)) (marks : Nat → LaneFlags) (c0 : Int) : Dent :=
  let (l, mem) := dentSamples x n lane c0
  let sat := l.map (·.2)
  let a := (List.range n).foldl (flagStep x marks sat) ⟨x.fillLeft, x.tailLeft, x.inRun, x.runZero, [], 0⟩
  { x with segs := [x.seg 0 false false true], mem := mem, fillLeft := a.fillLeft, tailLeft := a.tailLeft, inRun := a.inRun, runZero := a.runZero
           ring := a.flags, ringPrev := x.ring, words := l.map (·.1), wordsPrev := x.words
           invalid := x.invalid + a.invalid, satur := x.satur + (sat.filter id).length }

/-! Commands. -/

/-- The d of DENT_CREATE: 0 and 2 standard, 1 or 4 at any rate, 3 at rate code 7 (R204, R225). -/
def dOk (r d : Nat) : Bool := d == 0 || d == 1 || d == 2 || d == 4 || (d == 3 && r == 7)

/-- A frequency field of a dent in µHz (R225). -/
def freqOk (f : Nat) : Bool := inR 9000000000 f 1700000000000000

/-- The checks of DENT_CREATE that need no state (R225). -/
def dentReqOk (r : DentReq) : Bool :=
  r.rate < 8 && dOk r.rate r.d && r.bankA ≤ 2 && r.bankB ≤ 2 &&
  (if r.d = 0 ∨ r.d = 2 then r.bankA != 0 else r.bankA == 0 && r.bankB == 0) &&
  freqOk r.freq && inR 1000 r.bw (rateS r.rate * 1000) && r.tau ≤ 16384

/-- The dent a DENT_CREATE makes, its NCO word from the LO in force at its boundary. -/
def dentOf (s : State) (r : DentReq) (due : Nat) : Dent :=
  let d := if r.d = 0 then 2 else r.d
  let w := hIndex r.warp
  { rate := r.rate, k := chainK r.rate d, hb := rateH r.rate, d := d, warp := w, freq := r.freq, bw := r.bw, tau := r.tau
    nco := ncoWord w (loAt s w due) r.freq, active := 0, bankA := bankOf r.rate r.bankA, bankB := bankOf r.rate r.bankB
    segs := [], mem := ChainMem.clear, fillLeft := 0, tailLeft := 0, inRun := false, runZero := false, ring := [], ringPrev := []
    words := [], wordsPrev := [], invalid := 0, satur := 0, loading := none, defer := none }

/-- Creates a dent on behalf of the host or of the module: the checks from check 9 on and the charge at acceptance (R222, R225). -/
def dentCreate (h : Hdr) (r : DentReq) (target due : Nat) (s : State) : Chk (Handle × Dent × State) := do
  let _ ← objIs s r.warp 2
  laneOk s (hIndex r.warp) r.freq r.bw
  let x := dentOf s r due
  need (reedLoad s + dentCost x.rate x.taps ≤ 16384 && ringKiB x.rate ≤ beamFree s) .noResource
  let (hd, t) ← get! .noResource (issue 3 .pending [r.warp] [] due s)
  pure (hd, x, sched ⟨due, 0, hd, 20, .dentCreate h r target, 0⟩ { t with dents := tset t.dents (hIndex hd) x })

/-- DENT_CREATE (R225). -/
def execDentCreate (h : Hdr) (r : DentReq) (target : Nat) (s : State) : Host.Outcome State Fault Refusal :=
  serve (.dentCreate h r target) 0x0601 .operator .run h r.warp (fun s => chk do
    need (dentReqOk r) .badParam
    let due ← get! .badParam (dueOf s target)
    discard (objIs s r.warp 2)
    need (!isHop s (hIndex r.warp)) .conflict
    let (hd, x, t) ← dentCreate h r target due s
    okay (handleBytes hd ++ posReply s due 0 ++ leBytes 2 (dentCost x.rate x.taps) ++ leSigned 4 x.nco ++ leBytes 4 x.delay
      ++ leBytes 2 x.fill) t) s

/-- The setting of a dent that a DENT_SET makes: lane, frequency, bandwidth. -/
def dentChg (x : Dent) (c : DentChg) : Nat × Nat × Nat :=
  (if bit c.flags 1 then hIndex c.warp else x.warp, if bit c.flags 0 then c.freq else x.freq, if bit c.flags 2 then c.bw else x.bw)

/-- Whether a retune resets the dent: a move to another lane, or by more than F/4 (R218). -/
def resets (x : Dent) (c : DentChg) : Bool :=
  (bit c.flags 1 && hIndex c.warp != x.warp) ||
  (bit c.flags 0 && 4 * ((c.freq : Int) - x.freq).natAbs > rateS x.rate * 1000000000)

/-- The ranges of DENT_SET that no dent bears on: check 8 judges them before check 9 looks at the handle (R226, R447). (log 127: DEDUCED) -/
def dentChgForm (c : DentChg) : Bool :=
  only c.flags 4 && c.flags != 0 && (!bit c.flags 0 || freqOk c.freq) && (!bit c.flags 2 || inR 1000 c.bw 2048000) &&
  (!bit c.flags 3 || c.tau ≤ 16384)

/-- The ranges of DENT_SET that hang on the dent's own rate: the bandwidth and the sample (R223, R226). (log 127: DEDUCED) -/
def dentChgOk (s : State) (x : Dent) (due : Nat) (c : DentChg) : Bool :=
  (!bit c.flags 2 || c.bw ≤ rateS x.rate * 1000) && sampleIn s x.rate due c.sample

/-- DENT_SET (R226): a retune and a fractional-delay change are held apart (R223). -/
def execDentSet (h : Hdr) (dent : Handle) (c : DentChg) (target : Nat) (s : State) : Host.Outcome State Fault Refusal :=
  serve (.dentSet h dent c target) 0x0602 .operator .run h dent (fun s => chk do
    need (dentChgForm c) .badParam
    let due ← get! .badParam (dueOf s target)
    let (o, x) ← (match objIs s dent 3, dentAt s (hIndex dent) with
      | .ok o, some x => .ok (o, x)
      | .error e, _ => .error e
      | _, none => .error .badHandle)
    need (dentChgOk s x due c) .badParam
    if bit c.flags 1 then discard (objIs s c.warp 2)
    need (!releasing s dent && !ownedDent s (hIndex dent)) .conflict
    pendingOk o due false
    let (w, f, b) := dentChg x c
    if c.flags % 8 != 0 then laneOk s w f b
    need (!(bit c.flags 3 && c.tau != x.tau && (weaveOf s dent).isSome)) .conflict
    let s1 := if c.flags % 8 != 0 then
        sched ⟨due, c.sample, dent, 40, .dentSet h dent { c with flags := c.flags % 8 } target, 0⟩ s else s
    let s2 := if bit c.flags 3 then sched ⟨due, c.sample, dent, 43, .dentSet h dent { c with flags := 8 } target, 0⟩ s1 else s1
    okay (posReply s due c.sample ++ zeros 2 ++ leSigned 4 (ncoWord w (loAt s w due) f) ++ byte (flag (resets x c)) ++ zeros 3)
      s2) s

/-- The form of a DENT_BANK_LOAD's bank that no dent bears on (R213): check 8 judges it before the handle (R447). (log 127: DEDUCED) -/
def bankForm (b : BankReq) : Bool :=
  if b.kind = 0 then
    inR 1 b.n 255 && b.taps.length == b.n && only b.flags 1 && b.taps.all (inI (-131072) · 131071) &&
      (if bit b.flags 0 then b.delay == 0 && b.taps == b.taps.reverse else b.delay ≤ 65280)
  else b.kind ≤ 2 && b.n == 0 && b.flags == 0 && b.delay == 0

/-- The bank a DENT_BANK_LOAD writes (R213); none where it is refused for its contents. -/
def loadBank (x : Dent) (b : BankReq) : Option Bank :=
  if !bankForm b then none
  else if b.kind = 0 then some ⟨b.taps, b.n, bit b.flags 0, 0, if bit b.flags 0 then (b.n - 1) * 128 else b.delay⟩
  else if x.d == 2 then some (Bank.ofDefault x.rate b.kind)
  else none

/-- The dent-delay allowance of a weave, in ns (R257, R296): FM 300 µs, AM 3,100 µs, DAB 100 µs, DRM30 4,000 µs, mode E 300 µs. -/
def allowanceNs (type : Nat) (block : List Byte) : Nat :=
  if type = 1 then 3100000 else if type = 2 then 300000 else if type = 3 then 100000
  else if (block.head?.map (·.toNat)) == some 0 then 4000000 else 300000

/-- A disclosed delay within an allowance: G in half FCONV periods plus t_a in 10 ps (R215). -/
def withinNs (delay ta ns : Nat) : Bool := delay * 500000000 * 200 + ta * fconv * 2 ≤ ns * fconv * 200

/-- DENT_BANK_LOAD (R213, R227): complete by the start of pick p + 2. -/
def execDentBankLoad (h : Hdr) (dent : Handle) (b : BankReq) (s : State) : Host.Outcome State Fault Refusal :=
  serve (.dentBankLoad h dent b) 0x0603 .operator .run h dent (fun s => chk do
    need (b.bank < 2 && bankForm b) .badParam
    let o ← objIs s dent 3
    let x ← get! .badHandle (dentAt s (hIndex dent))
    let k ← get! .badParam (loadBank x b)
    need (!releasing s dent && !ownedDent s (hIndex dent) && o.st != .pending) .conflict
    need (b.bank != x.active) .activeBank
    need ((pendOf s dent 42).isNone && x.defer.isNone) .conflict
    (match weaveOf s dent with
      | some w => need (withinNs (chainDelay x.k x.hb x.d k.delay) (analogueDelay s x.warp (loBand s x.warp))
          (allowanceNs w.2.type w.2.block)) .conflict
      | none => .ok ())
    let y : Dent := if b.bank = 0 then { x with bankA := k } else { x with bankB := k }
    need (reedLoad s + dentCost x.rate y.taps ≤ 16384 + dentCost x.rate x.taps) .noResource
    let grow := y.fill - x.fill
    let z := { y with loading := some (b.bank, k, s.sys.ord + 2), fillLeft := if x.fillLeft > 0 then x.fillLeft + grow else 0
                          , segs := y.segs.map fun g => { g with fill := if g.reset then g.fill + grow else y.fill } }
    okay (leBytes 2 (dentCost x.rate y.taps) ++ zeros 2 ++ leBytes 4 k.delay) (dmod (hIndex dent) (fun _ => z) s)) s

/-- A swap is deferred while its dent feeds an active fade; one that replaces another is counted, in the dent and in the follow sets (R367). -/
def deferSwap (dent : Handle) (c : Instr) (s : State) : State :=
  let n := flag ((dentAt s (hIndex dent)).any (·.defer.isSome))
  let s := omod dent (fun o => { o with repl := o.repl + n }) s
  let s := { s with follows := s.follows.map fun f =>
    if n = 1 ∧ (fadeComps f.2).any (fun cc => compWeave s cc = (weaveOf s dent).map (·.1)) = true then
      (f.1, { f.2 with replaced := f.2.replaced + 1 }) else f }
  dmod (hIndex dent) (fun x => { x with defer := some c }) s

/-- DENT_BANK_SWAP (R214): deferred while the dent feeds an active fade (R367). (log 127: DEDUCED) -/
def execDentBankSwap (h : Hdr) (dent : Handle) (sample target : Nat) (s : State) : Host.Outcome State Fault Refusal :=
  serve (.dentBankSwap h dent sample target) 0x0604 .operator .run h dent (fun s => chk do
    let due ← get! .badParam (dueOf s target)
    let o ← objIs s dent 3
    let x ← get! .badHandle (dentAt s (hIndex dent))
    need (sampleIn s x.rate due sample) .badParam
    need (!releasing s dent && !ownedDent s (hIndex dent)) .conflict
    pendingOk o due false
    need (x.other.n != 0) .notReady
    let c := Instr.dentBankSwap h dent sample target
    if fading s dent then .ok (.deferred, posReply s due sample, unsched dent 42 (deferSwap dent c s))
    else
      let n := flag (pendOf s dent 44).isSome
      let s := omod dent (fun o => { o with repl := o.repl + n }) (unsched dent 44 s)
      okay (posReply s due sample) (sched ⟨due, sample, dent, 42, c, 0⟩ s)) s

/-- DENT_FLUSH (R218). (log 127: DEDUCED) -/
def execDentFlush (h : Hdr) (dent : Handle) (sample target : Nat) (s : State) : Host.Outcome State Fault Refusal :=
  serve (.dentFlush h dent sample target) 0x0605 .operator .run h dent (fun s => chk do
    let due ← get! .badParam (dueOf s target)
    let o ← objIs s dent 3
    let x ← get! .badHandle (dentAt s (hIndex dent))
    need (sampleIn s x.rate due sample) .badParam
    need (!releasing s dent && !ownedDent s (hIndex dent)) .conflict
    pendingOk o due false
    okay (posReply s due sample) (sched ⟨due, sample, dent, 41, .dentFlush h dent sample target, 0⟩ s)) s

/-- DENT_RELEASE (R224): at the boundary of its target pick. -/
def execDentRelease (h : Hdr) (dent : Handle) (sample target : Nat) (s : State) : Host.Outcome State Fault Refusal :=
  serve (.dentRelease h dent sample target) 0x0606 .operator .run h dent (fun s => chk do
    need (sample == 0) .badParam
    let due ← get! .badParam (dueOf s target)
    let o ← objIs s dent 3
    need (!releasing s dent && !ownedDent s (hIndex dent)) .conflict
    pendingOk o due true
    okay (posReply s due 0) (sched ⟨due, 0, dent, 10, .dentRelease h dent sample target, 0⟩ s)) s

/-- The DENT_STATUS reply (R228). -/
def dentStatusBytes (s : State) (o : Obj) (x : Dent) : List Byte :=
  let h := o.handle
  handleBytes h ++ byte o.st.code ++ byte x.rate ++ byte x.active
    ++ byte (flagBits [(pendOf s h 42).isSome, x.defer.isSome, (pendOf s h 40).isSome, (pendOf s h 43).isSome, (pendOf s h 41).isSome
        , o.st == .active && (x.fillLeft > 0 || x.segs.any (·.reset)), x.bankA.n > 0, x.bankB.n > 0])
    ++ handleBytes (fixedHandle 2 x.warp) ++ handleBytes ((weaveOf s h).elim nullHandle fun w => handleOf s 4 w.1)
    ++ leBytes 8 x.freq ++ leSigned 4 x.nco ++ leBytes 2 (dentCost x.rate x.taps) ++ byte x.bankA.n ++ byte x.bankB.n
    ++ leBytes 4 x.delay ++ leBytes 2 x.tau ++ leBytes 2 x.k ++ byte x.d ++ byte x.hb ++ leCount 2 o.repl
    ++ leBytes 2 (analogueDelay s x.warp (loBand s x.warp)) ++ zeros 2 ++ leCount 4 x.invalid ++ leCount 4 x.satur ++ leBytes 8 (now s)

/-- DENT_STATUS (R224, R228). (log 124: DESIGN CHOICE) -/
def execDentStatus (h : Hdr) (dent : Handle) (s : State) : Host.Outcome State Fault Refusal :=
  serve (.dentStatus h dent) 0x0607 .operator .fw h dent (fun s => chk do
    let o ← objNow s dent 3
    let x ← get! .badHandle (dentAt s (hIndex dent))
    need (!releasing s dent) .conflict
    okay (dentStatusBytes s o x) s) s

/-- The REED_STATUS reply (R228). -/
def reedStatusBytes (s : State) : List Byte :=
  leBytes 2 (objsOf s 3).length ++ zeros 2 ++ leBytes 4 (reedLoad s) ++ leBytes 4 16384 ++ leCount 4 s.reed.satur
    ++ leSigned 8 s.reed.offset ++ leBytes 8 (now s)

/-- REED_STATUS (R228). -/
def execReedStatus (h : Hdr) (s : State) : Host.Outcome State Fault Refusal :=
  serve (.reedStatus h) 0x0608 .operator .fw h nullHandle (fun s => chk (okay (reedStatusBytes s) s)) s

/-- The DENT_BANK_READ reply (R224). -/
def bankBytes (b : Bank) : List Byte :=
  byte b.n ++ byte (flagBits [b.sym, b.dflt != 0]) ++ zeros 2 ++ leBytes 4 b.delay ++ b.taps.flatMap (leSigned 4)

/-- DENT_BANK_READ (R224). -/
def execDentBankRead (h : Hdr) (dent : Handle) (bank : Nat) (s : State) : Host.Outcome State Fault Refusal :=
  serve (.dentBankRead h dent bank) 0x0609 .operator .fw h dent (fun s => chk do
    need (bank < 2) .badParam
    let _ ← objNow s dent 3
    let x ← get! .badHandle (dentAt s (hIndex dent))
    need (!releasing s dent) .conflict
    okay (bankBytes (if bank = 0 then x.bankA else x.bankB)) s) s

/-- A bank load is complete (R213): by the start of pick p + 2. The bank was charged and is disclosed from acceptance. -/
def execDentBankLoadComplete (dent : Fin 512) (s : State) : Host.Outcome State Fault Refusal :=
  .next (dmod dent (fun x => { x with loading := none }) s)

/-! What the due changes of dents do. -/

/-- A dent is created at its boundary (R225): ACTIVE with a sync reset at sample 0, its word from the LO then in force. -/
def applyDentCreate (h : Handle) (s : State) : State :=
  omod h (fun o => { o with st := .active })
    (dmod (hIndex h) (fun x => { x with nco := ncoWord x.warp (warpAt s x.warp).lo x.freq }.begin_ 0) s)

/-- A retune of a dent takes effect (R206, R207, R218). -/
def applyDentSet (h : Handle) (c : DentChg) (s : State) : State :=
  match dentAt s (hIndex h) with
  | some x =>
    let (w, f, b) := dentChg x c
    let n := ncoWord w (warpAt s w).lo f
    let y : Dent := { x with warp := w, freq := f, bw := b, nco := n, tau := if bit c.flags 3 then c.tau else x.tau }
    let y := y.mark c.sample (resets x c) (n != x.nco || bit c.flags 3)
    omod h (fun o => { o with inputs := [fixedHandle 2 w], relIn := if bit c.flags 1 then false else o.relIn })
      (dmod (hIndex h) (fun _ => y) s)
  | none => s

/-- The body of EV_DENT_BANK (R229). -/
def bankEvent (h : Handle) (x : Dent) (cause pick sample : Nat) : List Byte :=
  handleBytes h ++ byte x.active ++ byte cause ++ zeros 2 ++ leBytes 8 pick ++ leBytes 2 sample ++ zeros 2 ++ leBytes 4 x.delay

/-- The banks swap at a sample (R214): replacing an empty bank is a sync reset. (log 74: DEDUCED) -/
def applySwap (h : Handle) (sample cause : Nat) (s : State) : State :=
  match dentAt s (hIndex h) with
  | some x =>
    let y : Dent := { x with active := 1 - x.active, defer := none }
    let y := y.mark sample (x.bank.n == 0) false
    ev 0x0601 (bankEvent h y cause s.tb.pick sample) (dmod (hIndex h) (fun _ => y) s)
  | none => s

end Sys2Proof.Machine
end

