-- ==== Sys2Proof/Machine/Suspend.lean ====
section
/-! DEFINITION. Suspension and resumption (R28-R33): one pass in the order of the data hierarchy over every object, made
wherever an object has become unavailable or available. -/

namespace Sys2Proof.Machine

/-- The code of a suspension cause (R31). -/
def Cause.code : Cause → Nat
  | .none => 0 | .released => 1 | .domainOff => 2 | .shed => 3 | .modeChange => 4 | .upstream => 5

/-- The body of EV_OBJECT_SUSPENDED and EV_OBJECT_RESUMED (R31); the latter names what the object was last without. (log 130: DEDUCED) -/
def suspBody (obj by_ : Handle) (cause : Cause) (domain pick : Nat) : List Byte :=
  handleBytes obj ++ handleBytes by_ ++ byte cause.code ++ byte domain ++ zeros 2 ++ leBytes 8 pick

/-- The pass of R30 as it goes down the hierarchy: the objects passed, last first, the events of objects hosted in a domain that is
off and those of the others, last first, the events of resumption likewise, of objects whose own domain was off and of the others, and the objects
that resume. -/
structure Sweep where
  done : List Obj
  host : List (List Byte)
  rest : List (List Byte)
  wokeHost : List (List Byte)
  woke : List (List Byte)
  up   : List Handle

/-- An input is available to the objects below it (R29). -/
def Sweep.has (a : Sweep) (h : Handle) : Bool :=
  a.done.any fun o => o.handle == h && o.st != .suspended && o.st != .pending && !o.shed

/-- The lowest of the handles that names a suspended object, or the null handle (R30). -/
def Sweep.lowest (a : Sweep) (l : List Handle) : Handle :=
  ((l.filter fun h => a.done.any fun o => o.handle == h && o.st == .suspended).foldl
    (fun (b : Option Handle) h => match b with
      | some x => if h.toNat < x.toNat then some h else some x
      | none => some h) none).getD nullHandle

/-- The domain that hosts an object is on; without a core clock from the TCXO no warp runs (R29, R81). (log 77: DEDUCED) -/
def hosted (s : State) (o : Obj) : Bool :=
  domOn s (hostDomain o.cls o.idx) && !(o.cls == 2 && s.clk.state == .fault)

/-- The inputs an object cannot do without (R28): every one it takes, but for those declared optional. (log 77: DEDUCED) -/
def Obj.needs (o : Obj) : List Handle := o.inputs.filter fun h => !o.opt.contains h

/-- The inputs serve an object (R28, R33): all it needs, or for a follow set any source. -/
def Sweep.fed (a : Sweep) (o : Obj) : Bool :=
  if o.cls = 7 then o.inputs.any a.has else o.needs.all a.has

/-- One object passes (R29, R30): `rel` are the objects released at this boundary, `mode` the domains a mode change has switched off. (log 77: DEDUCED, 130: DEDUCED) -/
def sweepStep (s : State) (rel : List Handle) (mode : BitVec 10) (a : Sweep) (o : Obj) : Sweep :=
  let n := hostDomain o.cls o.idx
  let dom := if mode.getLsbD n then Cause.modeChange else Cause.domainOff
  let cut := if o.cls = 7 then [] else o.inputs.filter fun h => rel.contains h && (o.st == .suspended || !o.opt.contains h)
  let evt := fun (by_ : Handle) (c : Cause) (d : Nat) => suspBody o.handle by_ c d s.tb.pick
  let fall := fun (by_ : Handle) (c : Cause) (r : Bool) =>
    { a with done := { o with st := .suspended, prior := o.st, cause := c, relIn := r, lost := by_ } :: a.done
             rest := evt by_ c 0xFF :: a.rest }
  match o.st with
  | .pending => { a with done := o :: a.done }
  | .suspended =>
    if !cut.isEmpty && !o.relIn then
      { a with done := { o with cause := .released, relIn := true, lost := cut.headD nullHandle } :: a.done
               rest := evt (cut.headD nullHandle) .released 0xFF :: a.rest }
    else if hosted s o && a.fed o && !o.relIn && !o.shed then
      let b := suspBody o.handle o.lost .none 0xFF s.tb.pick
      let own := o.lost = nullHandle
      { a with done := { o with st := o.prior, cause := .none } :: a.done, up := o.handle :: a.up
               wokeHost := if own then b :: a.wokeHost else a.wokeHost, woke := if own then a.woke else b :: a.woke }
    else
      let lost := if !hosted s o then nullHandle else if a.fed o then o.lost else a.lowest (if o.cls = 7 then o.inputs else o.needs)
      { a with done := { o with lost := lost } :: a.done }
  | _ =>
    if !hosted s o then
      { a with done := { o with st := .suspended, prior := o.st, cause := dom, lost := nullHandle } :: a.done
               host := evt nullHandle dom (if dom = .domainOff then n else 0xFF) :: a.host }
    else if !cut.isEmpty then fall (cut.headD nullHandle) .released true
    else if a.fed o then { a with done := o :: a.done }
    else
      match o.needs.find? fun h => a.done.any fun x => x.handle == h && x.shed with
      | some h => if o.cls = 7 then fall (a.lowest o.inputs) .upstream false else fall h .shed false
      | none => fall (a.lowest o.inputs) .upstream false

/-- The pass over all objects: the events of R30, and the objects that resume, in order. -/
def sweep (rel : List Handle) (mode : BitVec 10) (s : State) : List Handle × State :=
  let a := s.reg.objs.foldl (sweepStep s rel mode) ⟨[], [], [], [], [], []⟩
  let t := { s with reg := { s.reg with objs := a.done.reverse } }
  (a.up.reverse, evs ((a.host.reverse ++ a.rest.reverse).map (fun b => (0x0104, b))
    ++ (a.wokeHost.reverse ++ a.woke.reverse).map fun b => (0x0105, b)) t)

end Sys2Proof.Machine
end

