-- ==== Sys2Proof/Machine/Calib.lean ====
section
/-! DEFINITION. Background calibration (R177-R200): the result table, the trims of the pair in force, triggers, steps, updates, the
calibration state machine and its commands and timers. -/

namespace Sys2Proof.Machine

/-- The gain band of a warp at a gain (R156, R171). -/
def gainBand (w g : Nat) : Nat :=
  if w < 6 then (if g < 15 then 0 else if g < 30 then 1 else if g < 45 then 2 else 3) else if g < 20 then 0 else 1

/-- The gain band in force on a warp. -/
def gBandOf (s : State) (w : Nat) : Nat := gainBand w (warpAt s w).gain

/-- A band pair exists for a warp (R194). (log 68: DEDUCED) -/
def bandsOk (w gb lb : Nat) : Bool := if w < 6 then gb < 4 && inR 2 lb 7 else gb < 2 && lb == 0

/-- The entry of a pair for which the table holds nothing: trims at mid-scale, not VALID (R181). (log 78: DESIGN CHOICE) -/
def CalEntry.none (w gb lb : Nat) : CalEntry := ⟨w, gb, lb, false, false, false, false, Trims.mid, 0, 0, 0, 0, 0, (0, 0)⟩

/-- The entry of a pair (R194). -/
def calEntry (s : State) (w gb lb : Nat) : CalEntry :=
  (s.calib.table.find? fun e => e.warp == w && e.gBand == gb && e.loBand == lb).getD (CalEntry.none w gb lb)

/-- The entry of the pair in force. -/
def calNow (s : State) (w : Nat) : CalEntry := calEntry s w (gBandOf s w) (loBand s w)

/-- Puts an entry in the table. -/
def calPut (e : CalEntry) (s : State) : State :=
  let rest := s.calib.table.filter fun x => !(x.warp == e.warp && x.gBand == e.gBand && x.loBand == e.loBand)
  { s with calib := { s.calib with table := sortBy (fun x => x.warp * 64 + x.gBand * 8 + x.loBand) (rest ++ [e]) } }

/-- A result entry as it is laid out (R194). (log 70: DEDUCED) -/
def entryBytes (e : CalEntry) : List Byte :=
  byte e.warp ++ byte e.gBand ++ byte e.loBand ++ byte (flagBits [e.valid, e.factory, e.snap, e.limit])
    ++ leSigned 2 e.trims.iqGain ++ leSigned 2 e.trims.iqPhase ++ leSigned 1 e.trims.dcI
    ++ leSigned 1 (if e.warp < 6 then e.trims.dcQ else 0) ++ byte (if e.warp < 6 then e.trims.cornerI else 0)
    ++ byte (if e.warp < 6 then e.trims.cornerQ else 0) ++ byte e.trims.bias ++ zeros 1 ++ leSigned 2 e.temp ++ leBytes 8 e.pick
    ++ leBytes 2 (if e.warp < 6 then e.image else 0) ++ leBytes 2 (if e.warp < 6 then e.lo else 0) ++ leCount 2 e.runs ++ zeros 2

/-- The entry a 32-byte layout holds (R194). -/
def entryOf (b : List Byte) : CalEntry :=
  let at_ := fun i n => ofLe ((b.drop i).take n)
  let sg := fun i n => ofLeSigned ((b.drop i).take n)
  let fl := at_ 3 1
  ⟨at_ 0 1, at_ 1 1, at_ 2 1, bit fl 0, bit fl 1, bit fl 2, bit fl 3,
    ⟨sg 4 2, sg 6 2, sg 8 1, sg 9 1, at_ 10 1 % 64, at_ 11 1 % 64, at_ 12 1 % 32⟩, sg 14 2, at_ 16 8, at_ 24 2, at_ 26 2, at_ 28 2, (0, 0)⟩

/-- The port a warp is routed from (R20), or the null handle. -/
def routeOf (s : State) (w : Nat) : Handle := ((objAt s 2 w).bind fun o => o.inputs.head?).getD nullHandle

/-- The warp's sensor value, in 0.01 °C; 0x8000 before the first (R174). -/
def tempOf (s : State) (w : Nat) : Int := (warpAt s w).sensor.value.getD (-32768)

/-- Changes a warp's calibration. -/
def cmod (w : Nat) (f : WarpCal → WarpCal) (s : State) : State := wmod w (fun x => { x with cal := f x.cal }) s

/-- HOLD is set for a warp (R196). -/
def held (s : State) (w : Nat) : Bool := bit s.calib.cfg.hold w

/-- ΔT_CAL in 0.01 °C. -/
def dTcal (s : State) : Int := (s.calib.cfg.dT : Int) * 10

/-- The present temperature is known and an entry was captured further than ΔT_CAL from it (R179). No trigger is evaluated against 0x8000 (R174). -/
def entryFar (s : State) (w : Nat) (e : CalEntry) : Bool :=
  (warpAt s w).sensor.value.any fun t => !inI (-(dTcal s)) (t - e.temp) (dTcal s)

/-- An entry serves the present conditions: VALID, and captured within ΔT_CAL of the present temperature (R181). -/
def entryGood (s : State) (w : Nat) (e : CalEntry) : Bool := e.valid && (warpAt s w).sensor.value.isSome && !entryFar s w e

/-! Trims (R177, R178). -/

/-- The widths of the seven trims. -/
def trimWidth (i : Nat) : Nat := nth [10, 10, 8, 8, 6, 6, 5] i 0

/-- The range of a trim: two's complement but for the corners and the bias (R177). -/
def trimRange (i : Nat) : Int × Int := if i < 4 then (-(2 ^ (trimWidth i - 1) : Int), 2 ^ (trimWidth i - 1) - 1) else (0, 2 ^ trimWidth i - 1)

/-- The trims as a list. -/
def trimList (t : Trims) : List Int := [t.iqGain, t.iqPhase, t.dcI, t.dcQ, t.cornerI, t.cornerQ, t.bias]

/-- The trims a list gives, each held to its range. -/
def trimsOf (l : List Int) : Trims :=
  let at_ := fun (i : Nat) => max (trimRange i).1 (min (nth l i 0) (trimRange i).2)
  ⟨at_ 0, at_ 1, at_ 2, at_ 3, (at_ 4).toNat, (at_ 5).toNat, (at_ 6).toNat⟩

/-- A value of the factory part of CAL: the `k`-th 2-byte field of the item of a kind and warp, signed (R572). (log 71: DESIGN CHOICE) -/
def factoryWord (s : State) (kind w k : Nat) : Option Int :=
  (s.calib.factory.find? fun x => x.1 == kind && x.2.1 == w && 2 * k + 2 ≤ x.2.2.length).map fun x => fs x.2.2 (2 * k) 2

/-- The factory gain error e of a warp at its gain and LO band, in 0.01 dB; 0 where CAL gives none (R155, R171, R181). (log 71: DESIGN CHOICE) -/
def gainError (s : State) (w g : Nat) : Int := (factoryWord s 0x20 w (if w < 6 then 6 * g + (loBand s w - 2) else g)).getD 0

/-- The compensation factor of a warp's lane, as an exponent in 0.01 dB (R155, R171). -/
def compOf (s : State) (w : Nat) : Int :=
  let g := (warpAt s w).gain
  ((if w < 6 then 60 else 40) - (g : Int)) * 100 - gainError s w g

/-- The tone level of the pair in force at manufacture, in 0.01 dB (R178, R572); none where CAL gives none. (log 71: DESIGN CHOICE) -/
def factoryLevel (s : State) (w : Nat) : Option Int := factoryWord s 0x25 w (if w < 6 then 6 * gBandOf s w + (loBand s w - 2) else gBandOf s w)

/-- The trims that the pair in force uses (R177, R178): all of a VHF/UHF warp, coarse DC and bias of an HF warp, the bias not in gain band 0 and only
where there is a factory level to hold it to. (log 144: DEDUCED) -/
def trimUsed (s : State) (w i : Nat) : Bool :=
  if i = 6 then gBandOf s w != 0 && (factoryLevel s w).isSome else decide (w < 6) || i == 2

/-- No trim that is used has met its tolerance (R180). -/
def tolNone (s : State) (w : Nat) : List Bool := (List.range 7).map fun i => !trimUsed s w i

/-- Every trim has met its tolerance. -/
def tolAll : List Bool := List.replicate 7 true

/-- A successive approximation begins (R190): from 2^(w−2) LSB in INITIAL, from 4 LSB in any other run. -/
def aimsStart (initial : Bool) : List (Nat × Int) := (List.range 7).map fun i => (if initial then 2 ^ (trimWidth i - 2) else 4, 0)

/-- The primary trims have met their tolerances, and with `all` every trim has (R180). -/
def tolMet (c : WarpCal) (all : Bool) : Bool := (if all then c.tol else c.tol.take 4).all id

/-- The code of a calibration state (R198). -/
def CalState.code : CalState → Nat
  | .initial => 0 | .current => 1 | .due => 2 | .stale => 3 | .degraded => 4

/-- The body of EV_CAL_STARVED and EV_CAL_STATE (R200). -/
def calBody (s : State) (w cause : Nat) : List Byte :=
  let c := (warpAt s w).cal
  handleBytes (fixedHandle 2 w) ++ byte c.state.code ++ byte cause ++ leCount 1 c.aborts ++ zeros 1 ++ leSigned 2 (tempOf s w)
    ++ leBytes 2 (if cause = 6 then c.image else 0) ++ leBytes 8 (now s)

/-- A warp's calibration enters a state. -/
def calEnter (w : Nat) (st : CalState) (s : State) : State := cmod w (fun c => { c with state := st, since := s.sys.ord }) s

/-- A change of state that EV_CAL_STATE reports. -/
def calGo (w : Nat) (st : CalState) (cause : Nat) (s : State) : State :=
  let s := calEnter w st s
  ev 0x1001 (calBody s w cause) s

/-- A run starts, or starts again for another pair (R179, R191): no tolerance is met yet, and the successive approximation begins. -/
def runStart (w : Nat) (s : State) : State :=
  let t := tolNone s w
  cmod w (fun c => { c with tol := t, aims := aimsStart (c.state == .initial), lim := List.replicate 7 false, corner := none, ran := [] }) s

/-- DUE (R179): a run starts. -/
def calDue (w : Nat) (full : Bool) (s : State) : State :=
  runStart w (cmod w (fun c => { c with full := full, tried := s.sys.ord }) (calEnter w .due s))

/-- CAL_STALE (R192). -/
def calStale (w cause : Nat) (s : State) : State :=
  let t := tempOf s w
  let s := cmod w (fun c => { c with tStale := t }) (calEnter w .stale s)
  ev 0x1002 (calBody s w cause) s

/-- TRIM_LIMIT is set on a primary trim in DUE or CAL_STALE: DEGRADED (R192). -/
def calLimit (w : Nat) (s : State) : State :=
  let c := (warpAt s w).cal
  if (c.lim.take 4).any id && (c.state == .due || c.state == .stale) then calGo w .degraded 5 s else s

/-- A run completes (R180, R192): the pair's entry is captured, the estimate of the fine DC loop with it, and the warp is CURRENT. (log 70: DEDUCED, 145: DEDUCED) -/
def calComplete (w : Nat) (s : State) : State :=
  let x := warpAt s w
  let c := x.cal
  let e := calNow s w
  if c.state != .current && !c.wantInitial && tolMet c (c.full || c.state == .initial) then
    let clear := c.state == .stale || c.state == .degraded
    let e1 : CalEntry := { e with valid := true, factory := false, snap := false, limit := c.limit && !clear, trims := c.trims
                                  temp := tempOf s w, pick := now s, image := c.image, lo := (x.lo.getD 0) / 100000
                                  runs := e.runs + 1, dc := expPair (-x.comp) x.dc }
    let s := calPut e1 { s with calib := { s.calib with dirty := true } }
    let was := c.state
    let s := cmod w (fun c => { c with full := false, limit := c.limit && !clear, changed := true, lastRun := now s
                                       capTemp := some (tempOf s w) }) (calEnter w .current s)
    if was == .due && !bit s.calib.cfg.flags 4 then s else ev 0x1001 (calBody s w 6) s
  else s

/-- A step made in a pick is aborted (R188, R189, R192): no selvedge or guard step for 100 picks. -/
def calAbort (w ord : Nat) (s : State) : State :=
  let s := cmod w (fun c => { c with aborts := c.aborts + 1, abortsAll := c.abortsAll + 1, backoff := ord + 100 }) s
  let c := (warpAt s w).cal
  if c.state = .due ∧ c.aborts ≥ 16 then calStale w 1 s else s

/-! Steps (R187-R190). -/

/-- What a step found of the trims (R187): for each that was measured, whether it met its tolerance, and the residual, as the sign of the change it asks
for. -/
structure Found where
  trim  : Nat
  ok    : Bool
  resid : Int

/-- The coarse DC of a warp at the end of a step, in converter codes (R187): the mean of the terminated lane, or the estimate of the fine DC loop. -/
def coarseDc (s : State) (w : Nat) (p : CalPlan) (m : CalMeas) : Int × Int :=
  if p.gap = 3 ∨ p.gap = 4 ∨ p.gap = 6 then (m.dcI, m.dcQ)
  else
    let x := warpAt s w
    let d := expPair (-x.comp) x.dc
    (roundDiv d.1 (2 ^ 32), roundDiv d.2 (2 ^ 32))

/-- The DC part rides on every step (R187, R188), but for an OVERLOAD pick in the last 100 (R189). -/
def foundDc (s : State) (w : Nat) (p : CalPlan) (m : CalMeas) : List Found :=
  let x := warpAt s w
  let d := coarseDc s w p m
  let f := fun (i : Nat) (v : Int) => (⟨i, inI (-4) v 4, -v⟩ : Found)
  if x.firstOn || 100 ≤ x.clean then (if w < 6 then [f 2 d.1, f 3 d.2] else [f 2 d.1]) else []

/-- What a step's own kind found (R187): IQ the image and its in-phase and quadrature parts; CORNER, at 45.5 MHz, the droop against the one found at
41.5 MHz, which drives the mean of the corners, and the image, whose change drives their difference; BIAS the level against that of manufacture. (log 144: DEDUCED) -/
def foundKind (s : State) (w : Nat) (p : CalPlan) (m : CalMeas) : List Found :=
  let c := (warpAt s w).cal
  match p.kind with
  | 0 => [⟨0, 800 ≤ m.image, m.gain⟩, ⟨1, 800 ≤ m.image, m.phase⟩]
  | 1 => match c.corner with
    | some (t, g) =>
      let d := m.tone - t - (Config.factoryDroop w c.pair.1 c.pair.2).toInt
      let flat := inI (-5) d 5
      let ok := flat && 800 ≤ m.image
      let mean : Int := if flat then 0 else -d.sign
      let diff : Int := if 800 ≤ m.image then 0 else (m.gain - g).sign
      [⟨4, ok, mean + diff⟩, ⟨5, ok, mean - diff⟩]
    | none => []
  | _ => match factoryLevel s w with
    | some l => [⟨6, inI (-10) (m.tone - l) 10, l - m.tone⟩]
    | none => []

/-- The sign that a residual points in, 0 within the tolerance. -/
def Found.sign (f : Found) : Int := if f.ok then 0 else f.resid.sign

/-- One trim of a step is taken into the successive approximation and into TRIM_LIMIT (R190, R191). -/
def takeFound (c : WarpCal) (f : Found) : WarpCal :=
  let (size, last) := nth c.aims f.trim (4, 0)
  let size := if f.sign * last < 0 then max 1 (size / 2) else size
  let v := nth (trimList c.trims) f.trim 0
  let r := trimRange f.trim
  let out := (f.sign < 0 && v == r.1) || (0 < f.sign && v == r.2)
  { c with tol := c.tol.set f.trim f.ok, lim := c.lim.set f.trim out, limit := c.limit || out
           aims := c.aims.set f.trim (size, if f.sign = 0 then last else f.sign) }

/-- The update that a step drives: for each trim the steps in LSB, with their sign (R190). -/
def movesOfStep (c : WarpCal) (l : List Found) : List Int :=
  (List.range 7).map fun i => match l.find? fun f => f.trim == i with
    | some f => f.sign * (nth c.aims i (1, 0)).1
    | none => 0

/-- A step that passes its checks (R189, R190): its measurement, and the update due at its pick + 2. (log 70: DEDUCED) -/
def calPass (w ord : Nat) (p : CalPlan) (m : CalMeas) (s : State) : State :=
  let l := foundKind s w p m ++ foundDc s w p m
  let first := p.kind = 1 ∧ (warpAt s w).cal.corner.isNone
  let s := cmod w (fun c =>
    let c := l.foldl takeFound { c with steps := c.steps + 1, aborts := 0, image := if p.kind = 0 then m.image else c.image
                                        corner := if first then some (m.tone, m.gain) else if p.kind = 1 then none else c.corner }
    let mv := movesOfStep c l
    { c with pend := if mv.all (· == 0) then c.pend else c.pend ++ [(ord + 2, mv)] }) s
  calComplete w (calLimit w s)

/-- The kinds a gap can serve on a warp, in the order of R188 (R178, R187). -/
def kindsOf (w gap : Nat) : List Nat := if 6 ≤ w then [2] else if gap = 2 then [0] else [0, 1, 2]

/-- The trims of a kind. -/
def kindTrims (k : Nat) : List Nat := if k = 0 then [0, 1] else if k = 1 then [4, 5] else [6]

/-- The kind a gap serves in the present pick (R188): the first whose trims are not yet within tolerance, none within one pick of a step of the same kind;
while only coarse DC is out, the last kind the gap can serve carries it. (log 144: DEDUCED) -/
def kindFor (s : State) (w gap : Nat) : Option Nat :=
  let c := (warpAt s w).cal
  let free := (kindsOf w gap).filter fun k => (tget c.ran k).all fun n => n + 2 ≤ s.sys.ord
  match free.find? fun k => (kindTrims k).any fun i => !nth c.tol i true with
  | some k => some k
  | none => if [2, 3].any fun i => !nth c.tol i true then free.getLast? else none

/-! Gaps (R182-R186). -/

/-- The window of a null symbol of a mode from the start of the null, in ns (R183): from one guard interval on, to 10 µs before its end. -/
def nullWindow (mode : Nat) : Nat × Nat :=
  let (n, g) := nth [(1297, 246), (324, 62), (168, 31), (648, 123)] (mode - 1) (0, 0)
  (g * 1000, (n - 10) * 1000)

/-- The picks of a DAB frame of a mode (R183). -/
def frameMs (mode : Nat) : Nat := nth [96, 24, 24, 48] (mode - 1) 96

/-- The parts that an interval starting `a` ns into a pick and `n` ns long has in that pick, the next and the one after. -/
def partsOf (a n : Nat) : List (Nat × Nat) :=
  [(a, min (a + n) 1000000), (0, min (a + n - 1000000) 1000000), (0, a + n - 2000000)]

/-- The part of a null symbol's window that lies in the pick of a boundary count, where it is the largest part of its window and at least 200 µs long (R183);
`o` and `ns` say where a null began. -/
def nullPart (mode o ns ord : Nat) : Option (Nat × Nat) :=
  let (a, b) := nullWindow mode
  let start := o * 1000000 + ns + a
  (List.range 3).findSome? fun back =>
    let pick := ord - back
    let t := start % (frameMs mode * 1000000)
    let u := pick * 1000000 % (frameMs mode * 1000000)
    if u ≤ t ∧ t < u + 1000000 then
      let l := partsOf (t - u) (b - a)
      let x := nth l back (0, 0)
      let big := (l.map fun y => y.2 - y.1).foldl max 0
      if 200000 ≤ x.2 - x.1 ∧ x.2 - x.1 = big ∧ (l.take back).all (fun y => y.2 - y.1 < big) = true then some x else none
    else none

/-- The weave whose null symbol serves a warp in the present pick, with the window (R183): a DAB weave in sync with a dent on the warp whose mirror region lies
clear of the DC-notch zone. -/
def nullShed (s : State) (w : Nat) : Option (Nat × (Nat × Nat)) :=
  s.weaves.findSome? fun x =>
    match (objAt s 4 x.1).map (·.st), tget s.dig x.1, (warpAt s w).lo with
    | some OState.active, some d, some lo =>
      let clear := x.2.dents.any fun h => (dentAt s (hIndex h)).any fun y =>
        y.warp == w && 793000000000 ≤ ((y.freq : Int) - lo * 1000000).natAbs
      if x.2.type = 3 ∧ d.sync = 2 ∧ clear = true then d.nullAt.bind fun n => (nullPart d.mode n.1 n.2 s.sys.ord).map fun z => (x.1, z) else none
    | _, _, _ => none

/-- The window of a blanking once the synthesiser has locked `settle` ns after the start of its retune (R184). -/
def blankWindow (gap : Nat) (profile : Bool) (settle : Nat) : Nat × Nat :=
  if gap = 4 then (4500, 9500) else (max 500 (settle + 2000), if profile then 39500 else 349500)

/-- The gaps available to a warp in the present pick, in the order of R188, each with the weave and the window of a null (R181-R185, R196). (log 144: DEDUCED) -/
def gapsOf (s : State) (w : Nat) : List (Nat × Nat × (Nat × Nat)) :=
  let c := (warpAt s w).cal
  let f := s.calib.cfg.flags
  let whole := (110000, 990000)
  let on := fun (b : Bool) (l : List (Nat × Nat × (Nat × Nat))) => if b then l else []
  if c.state = .initial ∨ routeOf s w = nullHandle then [(6, 0, whole)]
  else
    on (c.shed != 0 && !c.spoil && bit f 2) [(c.shed, 0, blankWindow c.shed ((synAt s w).profile < 64) 0)]
      ++ on (bit f 1 && w < 6) (((nullShed s w).map fun x => (2, x)).toList)
      ++ on (bit f 0 && w < 6 && c.backoff ≤ s.sys.ord) [(1, 0, whole)]
      ++ on (bit f 3 && 6 ≤ w && c.backoff ≤ s.sys.ord) [(5, 0, whole)]

/-- The tone of a step as Δf in Hz (R182, R185, R187), on the side away from the measurement side: none in a null. -/
def toneOf (w gap kind : Nat) (second low : Bool) : Int :=
  let f : Int := if 6 ≤ w then 40000000 else if kind = 1 then (if second then 45500000 else 41500000) else 43500000
  if gap = 2 then 0 else if 6 ≤ w ∨ low = true then f else -f

/-- The level of a step's tone at the converters, in 0.1 dBFS (R182, R184, R185). -/
def toneLevel (gap : Nat) : Int := if gap = 3 ∨ gap = 4 ∨ gap = 6 then -60 else -300

/-- A warp may take steps (R188): its domain on, not SUSPENDED, HOLD clear, an LO set, and not waiting for INITIAL. -/
def mayStep (s : State) (w : Nat) : Bool :=
  domOn s (hostDomain 2 w) && stCode s (fixedHandle 2 w) != 3 && !held s w && (6 ≤ w || (warpAt s w).lo.isSome) && !(warpAt s w).cal.wantInitial

/-- The step of the present pick (R182-R188): in the first gap that serves a kind. The measurement side is the selvedge with the lower energy in the
previous pick. (log 144: DEDUCED) -/
def planOf (s : State) (w : Nat) : Option CalPlan :=
  let c := (warpAt s w).cal
  let low := decide (c.selv.1 ≤ c.selv.2)
  if mayStep s w then (gapsOf s w).findSome? fun g => (kindFor s w g.1).map fun k =>
    ⟨g.1, k, toneOf w g.1 k c.corner.isSome low, toneLevel g.1, low, g.2.1, g.2.2.1, g.2.2.2⟩
  else none

/-- For how many ns of the present pick the input of a warp is terminated (R113, R181, R184, R185). -/
def termOf (s : State) (w : Nat) (p : Option CalPlan) : Nat :=
  let c := (warpAt s w).cal
  if routeOf s w = nullHandle ∨ (c.state = .initial ∧ c.wantInitial = false) then 1000000
  else match p with
    | some p => if p.gap = 3 ∨ p.gap = 4 then p.stop else 0
    | none => 0

/-- A step can be made in the gap as the pick turned out (R183-R185, R188): the synthesiser locked throughout, or for the blanking of a retune early
enough to leave 4 µs; the mirror region of a null loud enough; the region of a guard shed quiet. -/
def gapServes (s : State) (w : Nat) (p : CalPlan) (m : CalMeas) : Bool :=
  let c := (warpAt s w).cal
  let y := synAt s w
  let b := blankWindow p.gap (y.profile < 64) y.settle
  (if p.gap = 3 then locked s w && b.1 + 4000 ≤ b.2 else decide (6 ≤ w) || c.steady) &&
    (if p.gap = 2 then decide (-400 ≤ m.mirror) else if p.gap = 5 then decide (m.guard ≤ -700) else true)

/-- The checks of a step but for OVERLOAD and the confirmation of a null (R189). -/
def stepChecks (p : CalPlan) (m : CalMeas) : Bool :=
  match p.gap with
  | 1 => m.side ≤ -700 && m.bin ≤ -1000 && m.sideW ≤ -700 && m.binW ≤ -1000 && (p.kind == 0 || (m.at_ ≤ -900 && m.atW ≤ -900))
  | 2 => true
  | 5 => m.guard ≤ -700 && m.guardW ≤ -700
  | _ => m.term ≤ -600 && m.termW ≤ -600

/-- A null step waits for its weave: what the weave said by the end of the next pick decides (R189). -/
def nullStepEnd (w : Nat) (s : State) : State :=
  match (warpAt s w).cal.nullStep with
  | some (o, p, m, r) =>
    if o < s.sys.ord then
      let s := cmod w (fun c => { c with nullStep := none }) s
      if r = some true then calPass w o p m s else calAbort w o s
    else s
  | none => s

/-- The step of the pick that ends (R187-R190): made where the gap serves it, aborted where a check fails. (log 70: DEDUCED) -/
def stepEnd (w : Nat) (m : CalMeas) (s : State) : State :=
  match (warpAt s w).cal.plan with
  | some p =>
    if mayStep s w && gapServes s w p m then
      let s := cmod w (fun c => { c with lastGap := p.gap, tried := s.sys.ord, ran := tset c.ran p.kind s.sys.ord }) s
      if !stepChecks p m || (warpAt s w).overload then calAbort w s.sys.ord s
      else if p.gap = 2 then cmod w (fun c => { c with nullStep := some (s.sys.ord, p, m, none) }) s
      else calPass w s.sys.ord p m s
    else s
  | none => s

/-- The triggers of R179 at the end of a pick, and the temperature rule of CAL_STALE (R192). -/
def trigEnd (w : Nat) (s : State) : State :=
  let x := warpAt s w
  let c := x.cal
  let off := match x.sensor.value, c.capTemp with
    | some t, some u => !inI (-(dTcal s)) (t - u) (dTcal s) && !x.sensor.fault
    | _, _ => false
  let s := cmod w (fun c => { c with trig := false }) s
  match c.state with
  | .current => if (c.trig || off) && !c.wantInitial then calDue w false s else s
  | .stale =>
    if x.sensor.value.isSome && !inI (-2 * dTcal s) (tempOf s w - c.tStale) (2 * dTcal s) then calGo w .degraded 3 s else s
  | _ => s

/-- Calibration at the end of a pick (R179-R192). -/
def calEnd (w : Nat) (m : Option CalMeas) (s : State) : State :=
  if domOn s (hostDomain 2 w) then
    let s := nullStepEnd w s
    let s := match m with
      | some x => cmod w (fun c => { c with selv := (x.selvLow, x.selvHigh) }) (stepEnd w x s)
      | none => s
    trigEnd w s
  else s

/-- A dent on a warp is ACTIVE (R113, R190). -/
def liveDents (s : State) (w : Nat) : Bool :=
  s.reg.objs.any fun o => o.cls == 3 && o.st == .active && (dentAt s o.idx).any fun x => x.warp == w

/-- Trims updated (R190): each by its steps, or by one LSB where samples are live, and held to its range; the estimate of the fine DC loop follows the
coarse DC trims by their nominal 8 codes. (log 145: DEDUCED) -/
def trimsMove (live : Bool) (mv : List Int) (x : Warp) : Warp :=
  let old := trimList x.cal.trims
  let new := trimsOf ((old.zip mv).map fun p => p.1 + if live then p.2.sign else p.2)
  let d := fun (i : Nat) => expInt x.comp (8 * (nth (trimList new) i 0 - nth old i 0) * 2 ^ 32)
  { x with cal := { x.cal with trims := new }, dc := (x.dc.1 + d 2, x.dc.2 + d 3) }

/-- The updates of a warp that are due (R190). -/
def trimsDue (w : Nat) (s : State) : State :=
  let c := (warpAt s w).cal
  let live := liveDents s w && c.state != .initial
  let due := c.pend.filter fun p => p.1 ≤ s.sys.ord
  wmod w (fun x => due.foldl (fun x p => trimsMove live p.2 x) { x with cal := { x.cal with pend := x.cal.pend.filter fun p => s.sys.ord < p.1 } }) s

/-- The trims of the pair in force are loaded where the pair has changed (R158, R191), which drops what runs and starts the run again: a pair that holds no
result, or one captured too far from the present temperature, is a trigger (R179). The estimate of the fine DC loop is loaded with them, and at a retune
or a route change; at another gain of the same band it is scaled (R166). -/
def loadPair (w : Nat) (s : State) : State :=
  let x := warpAt s w
  let pair := (gBandOf s w, loBand s w)
  let e := calNow s w
  let k := compOf s w
  let bad := !e.valid || entryFar s w e
  let dc := if pair ≠ x.cal.pair ∨ x.reload = true then expPair k e.dc else expPair (k - x.comp) x.dc
  let s := wmod w (fun x => { x with dc := dc, comp := k, reload := false }) s
  if pair = x.cal.pair then s
  else runStart w (cmod w (fun c => { c with pair := pair, trims := e.trims, capTemp := if e.valid || e.factory then some e.temp else none, pend := []
                                             nullStep := none, trig := c.trig || bad, limit := e.limit }) s)

/-- A CAL_REQUEST takes effect (R197). -/
def requestDue (w : Nat) (s : State) : State :=
  let c := (warpAt s w).cal
  match c.reqDue with
  | some (o, full) =>
    if o ≤ s.sys.ord then
      let s := cmod w (fun c => { c with reqDue := none }) s
      if stCode s (fixedHandle 2 w) = 3 then s
      else if c.state = .current then calDue w full s else cmod w (fun c => { c with full := c.full || full }) s
    else s
  | none => s

/-- INITIAL is entered at the first boundary at which the synthesiser is locked (R181). -/
def initialDue (w : Nat) (s : State) : State :=
  if (warpAt s w).cal.wantInitial && (6 ≤ w || locked s w) then
    runStart w (cmod w (fun c => { c with wantInitial := false, aborts := 0 }) (calEnter w .initial s))
  else s

/-- The step of the pick that begins, the termination and the marking of INITIAL (R181-R188). -/
def planDue (w : Nat) (s : State) : State :=
  let s := cmod w (fun c => { c with steady := decide (6 ≤ w) || locked s w }) s
  let p := planOf s w
  let t := termOf s w p
  cmod w (fun c => { c with plan := p, term := t, shed := 0, spoil := false, marking := c.state == .initial && !c.wantInitial }) s

/-- Calibration at a boundary, after the other changes of step 5: the pair in force, a request that is due, the updates that are due, the entry into
INITIAL, and the step of the pick (R158, R181, R190, R197). -/
def calBoundary (w : Nat) (s : State) : State :=
  if domOn s (hostDomain 2 w) then
    let s := if stCode s (fixedHandle 2 w) = 3 then s else loadPair w s
    planDue w (initialDue w (trimsDue w (requestDue w s)))
  else cmod w (fun c => { c with marking := false, plan := none, term := 0, shed := 0, spoil := false }) s

/-- A step and an update are abandoned, without being counted (R112, R191). -/
def calDrop (w : Nat) (s : State) : State := cmod w (fun c => { c with pend := [], nullStep := none, plan := none }) s

/-- A warp's domain has come on (R181): CURRENT at once where the entry in force is good, else INITIAL is to come. -/
def calOn (w : Nat) (s : State) : State :=
  let e := calNow s w
  let good := entryGood s w e
  let pair := (gBandOf s w, loBand s w)
  let k := compOf s w
  let s := wmod w (fun x => { x with dc := expPair k e.dc, comp := k, reload := false }) s
  let s := cmod w (fun c => { WarpCal.reset with changed := c.changed, image := c.image, tStale := c.tStale, lastRun := c.lastRun, reqDue := c.reqDue
                                                 wantInitial := !good, limit := e.limit, trims := e.trims, pair := pair, tuned := c.tuned
                                                 capTemp := if e.valid || e.factory then some e.temp else none }) s
  let s := runStart w (calEnter w (if good then .current else .initial) s)
  if good then cmod w (fun c => { c with tol := tolAll }) s else s

/-- CAL_POLICY (R196). -/
def execCalPolicy (h : Hdr) (c : CalCfg) (s : State) : Host.Outcome State Fault Refusal :=
  serve (.calPolicy h c) 0x1001 .installer .ctl h nullHandle (fun s => chkRec 0 s do
    need (inR 5 c.dT 200 && only c.flags 5 && only c.hold 8 && inR 60 c.interval 3600) .badParam
    cfgOk s
    okay [] (schedQ ⟨s.sys.ord + 2, 0, nullHandle, 37, .calPolicy h c, 0⟩ s)) s

/-- The policy takes effect; HOLD abandons what runs (R191, R196). -/
def applyCalPolicy (c : CalCfg) (s : State) : State :=
  let s := { s with calib := { s.calib with cfg := c } }
  (List.range 8).foldl (fun s w => if bit c.hold w then calDrop w s else s) s

/-- CAL_REQUEST (R197). -/
def execCalRequest (h : Hdr) (warp : Handle) (flags : Nat) (s : State) : Host.Outcome State Fault Refusal :=
  serve (.calRequest h warp flags) 0x1002 .operator .ctl h warp (fun s => chk do
    need (only flags 1) .badParam
    let o ← objIs s warp 2
    let w := hIndex warp
    need (!held s w) .wrongMode
    need (o.st != .suspended && (w ≥ 6 || (warpAt s w).lo.isSome)) .notReady
    okay [] (cmod w (fun c => { c with reqDue := some (s.sys.ord + 2, bit flags 0 || (c.reqDue.any (·.2))) }) s)) s

/-- The CAL_STATUS reply (R198). -/
def calStatusBytes (s : State) (w : Nat) : List Byte :=
  let c := (warpAt s w).cal
  handleBytes (fixedHandle 2 w) ++ byte c.state.code ++ byte (flagBits [held s w, c.full, c.limit, c.changed]) ++ byte c.lastGap
    ++ leCount 1 c.aborts ++ leSigned 2 (tempOf s w) ++ leSigned 2 ((calNow s w).temp) ++ leBytes 2 c.image ++ byte (gBandOf s w)
    ++ byte (loBand s w) ++ leCount 4 c.steps ++ leCount 4 c.abortsAll ++ leBytes 8 c.lastRun ++ leBytes 8 (now s)

/-- CAL_STATUS (R198). -/
def execCalStatus (h : Hdr) (warp : Handle) (s : State) : Host.Outcome State Fault Refusal :=
  serve (.calStatus h warp) 0x1003 .operator .fw h warp (fun s => chk do
    let _ ← objNow s warp 2
    okay (calStatusBytes s (hIndex warp)) s) s

/-- CAL_RESULT_READ (R199). (log 127: DEDUCED) -/
def execCalResultRead (h : Hdr) (warp : Handle) (gainBand loBand : Nat) (s : State) : Host.Outcome State Fault Refusal :=
  serve (.calResultRead h warp gainBand loBand) 0x1004 .operator .fw h warp (fun s => chk do
    need (bandsOk 0 gainBand loBand || bandsOk 6 gainBand loBand) .badParam
    let _ ← objIs s warp 2
    need (bandsOk (hIndex warp) gainBand loBand) .badParam
    okay (entryBytes (calEntry s (hIndex warp) gainBand loBand)) s) s

/-- 400 ms in INITIAL without completion (R192). -/
def execCalInitialTimeout (w : Fin 8) (s : State) : Host.Outcome State Fault Refusal :=
  let c := (warpAt s w).cal
  .next (if domOn s (hostDomain 2 w) && c.state == .initial && !c.wantInitial && c.since + 400 ≤ s.sys.ord then calGo w .degraded 7 s else s)

/-- 60 s in DUE with no step attempted, the synthesiser locked and HOLD clear (R192). -/
def execCalNoGapTimeout (w : Fin 8) (s : State) : Host.Outcome State Fault Refusal :=
  let c := (warpAt s w).cal
  .next (if domOn s (hostDomain 2 w) && c.state == .due && (w.val ≥ 6 || locked s w) && !held s w && max c.tried c.since + 60000 ≤ s.sys.ord then
    calStale w 2 s else s)

/-- 600 s in CAL_STALE while TEMP_FAULT holds (R192). -/
def execCalStaleTempTimeout (w : Fin 8) (s : State) : Host.Outcome State Fault Refusal :=
  let c := (warpAt s w).cal
  .next (if domOn s (hostDomain 2 w) && c.state == .stale && (warpAt s w).sensor.fault && c.since + 600000 ≤ s.sys.ord then calGo w .degraded 4 s
    else s)

/-- The calibration every 60 s that replaces the temperature trigger in TEMP_FAULT (R174, R179). -/
def execCalTempFaultTimer (w : Fin 8) (s : State) : Host.Outcome State Fault Refusal :=
  let x := warpAt s w
  .next (if domOn s (hostDomain 2 w) && x.sensor.fault && x.cal.state == .current && !x.cal.wantInitial then calDue w false s else s)

end Sys2Proof.Machine
end

