-- ==== Sys2Proof/Machine/Warp.lean ====
section
/-! DEFINITION. Warps (R154-R176): their commands, what their due changes do, and what the end of a pick evaluates: overload, AGC and
the local sensors. -/

namespace Sys2Proof.Machine

/-- The gain range of a warp (R156, R171). -/
def gTop (w : Nat) : Nat := if w < 6 then 60 else 40

/-- The attenuator setting of a VHF/UHF warp at a gain, in dB, before the LNA of the gain band (R156): the band's gain less G. -/
def attenuator (g : Nat) : Nat := nth [15, 30, 45, 60] (gainBand 0 g) 0 - g

/-- A dent of a warp fits a placed LO (R167). -/
def dentsFit (s : State) (w lo : Nat) : Bool :=
  s.dents.all fun x => x.2.warp != w || laneFits lo x.2.freq x.2.bw

/-- The checks of a WARP_TUNE's fields (R168). -/
def tuneOk (r : TuneReq) : Bool :=
  r.placement < 2 && (r.profile < 64 || r.profile == 0xFF) && (r.placement == 0 || inR 1000 r.step 1000000) && synRange (placedLo r)

/-- The reply of WARP_TUNE (R168). -/
def tuneReply (s : State) (w : Nat) (r : TuneReq) (due : Nat) : List Byte :=
  let lo := placedLo r
  posReply s due 0 ++ zeros 2 ++ leBytes 4 lo ++ leBytes 8 (achieved (divCode lo) (synX lo / 2 ^ 28) (synX lo % 2 ^ 28))
    ++ byte (pickProfile s w lo r.profile)

/-- WARP_TUNE (R168). -/
def execWarpTune (h : Hdr) (warp : Handle) (r : TuneReq) (target : Nat) (s : State) : Host.Outcome State Fault Refusal :=
  serve (.warpTune h warp r target) 0x0501 .operator .ctl h warp (fun s => chkRec 0 s do
    need (tuneOk r) .badParam
    let due ← get! .badParam (dueOf s target)
    let _ ← objIs s warp 2
    need (hIndex warp < 6) .badParam
    need (!isHop s (hIndex warp)) .conflict
    cfgOk s
    need (dentsFit s (hIndex warp) (placedLo r)) .conflict
    okay (tuneReply s (hIndex warp) r due) (announceTune (hIndex warp) (pickProfile s (hIndex warp) (placedLo r) r.profile) (pickAt s due)
      (sched ⟨due, 0, warp, 30, .warpTune h warp r target, 0⟩ s))) s

/-- WARP_GAIN (R159). (log 127: DEDUCED) -/
def execWarpGain (h : Hdr) (warp : Handle) (gain target : Nat) (s : State) : Host.Outcome State Fault Refusal :=
  serve (.warpGain h warp gain target) 0x0502 .operator .ctl h warp (fun s => chkRec 0 s do
    need (gain ≤ gTop 0) .badParam
    let due ← get! .badParam (dueOf s target)
    let _ ← objIs s warp 2
    need (gain ≤ gTop (hIndex warp)) .badParam
    need ((warpAt s (hIndex warp)).agc.mode == 0) .wrongMode
    cfgOk s
    okay (posReply s due 0) (sched ⟨due, 0, warp, 31, .warpGain h warp gain 1, 0⟩ s)) s

/-- The checks of a WARP_AGC's fields (R163). -/
def agcOk (w : Nat) (c : AgcCfg) : Bool :=
  c.mode < 2 && only c.flags 1 && c.gMin ≤ c.gMax && c.gMax ≤ gTop w && decide (c.low < c.target) && decide (c.target < c.high) &&
    decide (c.high ≤ 0) && inR 1 c.attack 20 && inR 10 c.window 10000

/-- WARP_AGC (R163): at pick p + 2, each after the one accepted before it. (log 127: DEDUCED) -/
def execWarpAgc (h : Hdr) (warp : Handle) (c : AgcCfg) (s : State) : Host.Outcome State Fault Refusal :=
  serve (.warpAgc h warp c) 0x0503 .operator .ctl h warp (fun s => chkRec 0 s do
    need (agcOk 0 c) .badParam
    let _ ← objIs s warp 2
    need (c.gMax ≤ gTop (hIndex warp)) .badParam
    cfgOk s
    okay [] (schedAlso ⟨s.sys.ord + 2, 0, warp, 36, .warpAgc h warp c, 0⟩ s)) s

/-- The WARP_STATUS reply (R175). -/
def warpStatusBytes (s : State) (w : Nat) : List Byte :=
  let h := fixedHandle 2 w
  let x := warpAt s w
  let y := synAt s w
  handleBytes h ++ byte (stCode s h)
    ++ byte (flagBits [w ≥ 6 || locked s w, x.overload, x.meas.rfOver, x.cal.state == .stale, x.cal.state == .degraded, x.sensor.fault
        , (pendOf s h 30).isSome, (pendOf s h 31).isSome])
    ++ byte x.gain ++ byte (gBandOf s w) ++ byte x.agc.mode ++ byte (loBand s w) ++ leSigned 2 (tempOf s w)
    ++ handleBytes (routeOf s w) ++ leBytes 8 (if w < 6 && x.lo.isSome then achieved y.code y.n y.f else 0)
    ++ leSigned 2 x.meas.peak ++ leSigned 2 x.meas.mean ++ leCount 2 x.meas.clips
    ++ leBytes 2 (s.dents.filter fun d => d.2.warp == w).length ++ leCount 4 x.ovlPicks
    ++ leCount 2 (((objAt s 2 w).map (·.repl)).getD 0) ++ zeros 2 ++ leBytes 8 (now s)

/-- WARP_STATUS (R175). -/
def execWarpStatus (h : Hdr) (warp : Handle) (s : State) : Host.Outcome State Fault Refusal :=
  serve (.warpStatus h warp) 0x0504 .operator .fw h warp (fun s => chk do
    let _ ← objNow s warp 2
    okay (warpStatusBytes s (hIndex warp)) s) s

/-! What the due changes do. -/

/-- A warp is not SUSPENDED: its changes switch and mark (R40, R169). -/
def warpLive (s : State) (w : Nat) : Bool := domOn s (hostDomain 2 w) && stCode s (fixedHandle 2 w) != 3

/-- A change to a warp's AGC bookkeeping at a boundary at which the window begins again (R161). -/
def agcRestart (w : Nat) (s : State) : State := wmod w (fun x => { x with lastChg := s.sys.ord, peaks := [] }) s

/-- The NCO words of the dents on a warp follow its achieved LO (R169, R207). (log 134: DEDUCED) -/
def renco (w : Nat) (s : State) : State :=
  let lo := (warpAt s w).lo
  { s with dents := s.dents.map fun x =>
      if x.2.warp = w then
        let n := ncoWord w lo x.2.freq
        (x.1, if n = x.2.nco then x.2 else ({ x.2 with nco := n } : Dent).mark 0 false true)
      else x }

/-- The synthesiser of a warp takes an LO (R94, R169, R207): one more than 10 MHz from the last it took is a trigger of calibration (R179). -/
def tuneTo (w lo profile : Nat) (s : State) : State :=
  let far := (warpAt s w).cal.tuned.any fun a => decide (10000000 < ((lo : Int) - a).natAbs)
  renco w (cmod w (fun c => { c with tuned := some lo, trig := c.trig || far }) (retune w lo profile s))

/-- A retune at its boundary (R94, R168, R169). (log 134: DEDUCED) -/
def applyTune (w : Nat) (r : TuneReq) (s : State) : State :=
  let lo := placedLo r
  let s := wmod w (fun x => { x with lo := some lo, req := r }) s
  if warpLive s w then tuneTo w lo r.profile s
  else
    let o := domOn s (hostDomain 2 w)
    wmod w (fun x => { x with owed := o }) (holdFreq w lo s)

/-- The body of EV_WARP_GAIN (R176). -/
def gainBody (s : State) (w new old cause : Nat) : List Byte :=
  handleBytes (fixedHandle 2 w) ++ byte new ++ byte old ++ byte cause ++ zeros 5 ++ leBytes 8 (now s)

/-- A gain change at its boundary (R157-R159): its blanking is a shed, but for the retune of the same boundary, whose row applies (R184). -/
def applyGain (w g cause : Nat) (s : State) : State :=
  let was := (warpAt s w).gain
  if g = was then s
  else
    let s := agcRestart w (wmod w (fun x => { x with gain := g, news := x.news ||| 1 }) s)
    let s := if warpLive s w then blank w 10 (cmod w (fun c => { c with shed := if c.shed = 3 then 3 else 4 }) s) else s
    if bit (warpAt s w).agc.flags 0 then ev 0x0502 (gainBody s w g was cause) s else s

/-- An AGC setting takes effect (R161, R163). -/
def applyAgc (w : Nat) (c : AgcCfg) (s : State) : State :=
  let was := (warpAt s w).agc.mode
  let s := wmod w (fun x => { x with agc := c, agcFirst := if c.mode = 1 then (x.agcFirst || was = 0) else false }) s
  if c.mode = 1 ∧ was = 0 then agcRestart w s else s

/-! The end of a pick. -/

/-- ⌈a / 10⌉ for a level in 0.1 dB. -/
def ceil10 (a : Int) : Int := -((-a) / 10)

/-- The gain the AUTO policy decides on at the end of a pick, with the cause of R176 (R161, R163). -/
def agcDecide (s : State) (w : Nat) : Option (Nat × Nat) :=
  let x := warpAt s w
  let c := x.agc
  let g : Int := x.gain
  if x.agcFirst && (x.gain < c.gMin || x.gain > c.gMax) then
    some (if x.gain > c.gMax then (c.gMax, 3) else (c.gMin, 4))
  else
    let new : Int × Nat :=
      if x.overload then (max (c.gMin : Int) (g - c.attack), 2)
      else if x.meas.peak > c.high then (max (c.gMin : Int) (g - ceil10 (x.meas.peak - c.target)), 3)
      else if s.sys.ord ≥ x.lastChg + c.window && (x.peaks.take c.window).all (fun p => decide (p < c.low)) then
        (min (c.gMax : Int) (g + 1), 4)
      else (g, 0)
    if new.1 = g then none else some (new.1.toNat, new.2)

/-- The AGC of a warp in AUTO with no gain change pending decides (R161, R162). -/
def agcEnd (w : Nat) (s : State) : State :=
  let x := warpAt s w
  let h := fixedHandle 2 w
  if x.agc.mode = 1 ∧ warpLive s w = true ∧ mirroring s = false ∧ (pendOf s h 31).isNone = true then
    let d := agcDecide s w
    let s := wmod w (fun x => { x with agcFirst := false }) s
    match d with
    | some (g, cause) => announce 2 h (pickAt s (s.sys.ord + 2)) (byte g ++ byte cause ++ zeros 2)
        (sched ⟨s.sys.ord + 2, 0, h, 31, .warpGain (selfHdr 1) h g cause, 0⟩ s)
    | none => s
  else s

/-- A pick is OVERLOAD (R165). -/
def isOverload (m : WarpMeas) : Bool := m.clips ≥ 4 || m.rfOver

/-- The body of EV_WARP_OVERLOAD (R176). -/
def overBody (s : State) (w : Nat) (onset : Bool) (m : WarpMeas) : List Byte :=
  handleBytes (fixedHandle 2 w) ++ byte (flagBits [onset, m.clips ≥ 4, m.rfOver]) ++ zeros 3 ++ leSigned 2 m.peak
    ++ leCount 2 m.clips ++ leBytes 8 (now s)

/-- What a warp measured in the pick that ends (R164, R165). -/
def measEnd (w : Nat) (m : WarpMeas) (s : State) : State :=
  if domOn s (hostDomain 2 w) then
    let x := warpAt s w
    let o := isOverload m
    let onset := o && (x.firstOn || x.clean ≥ 100)
    let s := wmod w (fun x => { x with meas := m, overload := o, clean := if o then 0 else x.clean + 1, firstOn := x.firstOn && !o
                                       ovlPicks := x.ovlPicks + flag o, peaks := (m.peak :: x.peaks).take 10000
                                       ovlOpen := x.ovlOpen || onset }) s
    if onset then ev 0x0501 (overBody s w true m) s else s
  else s

/-- A sensor after a reading (R174): its new state, and whether TEMP_FAULT begins. (log 67: DEDUCED) -/
def Sensor.read (x : Sensor) (t : Int) : Sensor × Bool :=
  let ok := inI (-5500) t 15000 && (match x.prev with
    | some p => inI (-500) (t - p) 500
    | none => true)
  let rs := ((if ok then some t else none) :: x.readings).take 16
  let vs := rs.filterMap id
  let n : Int := vs.length
  let v := if n = 0 then x.value else some ((2 * vs.sum + n) / (2 * n))
  ({ readings := rs, prev := some t, last := t, value := v, fault := x.fault || !ok, run := if ok then x.run + 1 else 0 }
    , !ok && !x.fault)

/-- A sensor whose domain has come on (R174): the readings begin again, the value stays until the first valid one. -/
def Sensor.on (x : Sensor) : Sensor := { x with readings := [], prev := none, run := 0 }

/-- The body of EV_WARP_TEMP (R176). -/
def tempBody (s : State) (w : Nat) (onset : Bool) : List Byte :=
  handleBytes (fixedHandle 2 w) ++ byte (flag onset) ++ zeros 3 ++ leSigned 2 (warpAt s w).sensor.last ++ zeros 2 ++ leBytes 8 (now s)

/-- The sensor of a warp is read (R174). -/
def readTemp (w : Nat) (t : Int) (s : State) : State :=
  let (x, onset) := (warpAt s w).sensor.read t
  let s := wmod w (fun a => { a with sensor := x }) s
  if onset then ev 0x0503 (tempBody s w true) s else s

/-- The probe's sensor is read (R137, R174). -/
def readProbeTemp (t : Int) (s : State) : State := { s with probe := { s.probe with temp := (s.probe.temp.read t).1 } }

/-- TEMP_FAULT ends after 1,000 consecutive valid readings (R174). -/
def execTempFaultEnd (w : Fin 8) (s : State) : Host.Outcome State Fault Refusal :=
  let x := (warpAt s w).sensor
  if x.fault && x.run ≥ 1000 && domOn s (hostDomain 2 w) then
    let s := wmod w (fun a => { a with sensor := { a.sensor with fault := false } }) s
    .next (ev 0x0503 (tempBody s w false) s)
  else .next s

/-- The pick after the 100th consecutive pick without overload (R165). -/
def execOverloadClear (w : Fin 8) (s : State) : Host.Outcome State Fault Refusal :=
  let x := warpAt s w
  if x.ovlOpen && x.clean ≥ 100 && domOn s (hostDomain 2 w) then
    .next (ev 0x0501 (overBody s w false x.meas) (wmod w (fun x => { x with ovlOpen := false }) s))
  else .next s

/-- A warp's domain has come on (R169, R174, R181, R593): it takes up its held settings, its sensor is read before the retune. -/
def warpOn (w : Nat) (t : Int) (s : State) : State :=
  let s := wmod w (fun x => { x with sensor := x.sensor.on, firstOn := true, clean := 0, ovlPicks := 0, ovlOpen := false, marks := []
                                     overload := false, lossAt := none, owed := false, agcFirst := x.agcFirst }) s
  let s := agcRestart w (readTemp w t s)
  let s := match (warpAt s w).lo with
    | some lo => if w < 6 then tuneTo w lo (warpAt s w).req.profile s else s
    | none => s
  calOn w s

/-- A warp that was SUSPENDED with its domain on resumes: a retune held meanwhile is made (R40, R169). (log 58: DEDUCED, 134: DEDUCED) -/
def warpWake (w : Nat) (s : State) : State :=
  match (warpAt s w).lo with
  | some lo =>
    if (warpAt s w).owed ∧ w < 6 then tuneTo w lo (warpAt s w).req.profile (wmod w (fun x => { x with owed := false }) s)
    else s
  | none => s

/-- A warp's domain goes off (R593). -/
def warpOff (w : Nat) (s : State) : State :=
  let s := if w < 6 then synOff w s else s
  calDrop w (wmod w (fun x => { x with marks := [], lossAt := none }) s)

end Sys2Proof.Machine
end

