-- ==== Sys2Proof/Machine/Weave.lean ====
section
/-! DEFINITION. Weaves and their scheduler (R230-R254): commands, admission, flushes, dispatch of tasks and jobs, deadlines and misses,
shedding and readmission. -/

namespace Sys2Proof.Machine

/-- A weave by index. -/
def weaveAt (s : State) (i : Nat) : Option Weave := tget s.weaves i

/-- Changes a weave. -/
def vmod (i : Nat) (f : Weave → Weave) (s : State) : State := { s with weaves := tmod s.weaves i f }

/-- A PLL that tracks nothing (R269, R283). -/
def Pll.clear : Pll := ⟨false, 0, 0, 0, ⟨0, 1800, 0, 0⟩⟩

/-- A block decoder without block sync (R276). -/
def RdsDec.clear (mode : Nat) : RdsDec := ⟨mode, [], 0, 0, [], [], [], 0⟩

/-- The state of a weave that holds nothing yet: no figure of a second, no decision, no label. (log 78: DESIGN CHOICE) -/
def Analogue.none : Analogue :=
  { pilot := false, blend := 0, filter := 0, snr := 0, rds := false, carrier := false
    status := 2, pll := Pll.clear, held := 0, out := 0, side := 0, other := Option.none, adj := (0, 0), amps := [], runs := [], muteTo := 0
    told := 0, marks := [], olds := [], dec := RdsDec.clear 0, acc := [], mpxGood := 0, sel := 0, ratios := [], pi := 0, piOk := false, piCand := 0, piCount := 0, piSeen := [], pty := 0, tp := false, ta := false, ms := false
    di := 0, ecc := 0, pin := 0, psLast := [], psAcc := [], ps := [], rtFlag := Option.none, rtLast := [], rtAcc := [], rt := []
    rtPlus := [], afA := Option.none, afB := [], afSeen := 0, afTuned := Option.none
    fm := ⟨0, 0, -32768, false, 0, 0, 0, 0, 0, 0, 0, 0, 0, []⟩, piLog := [], piSwap := false, badRun := false
    fadeOut := false, am := ⟨0, 0, 0, 0, 0, []⟩ }

/-- A flush of an analogue weave at an instant in 1/6144 ms (R263, R278): decisions and acceptances end, the mute begins, and an AUTO filter is at its widest; what was
published stays published. (log 147: DEDUCED) -/
def Analogue.flush (a : Analogue) (type : Nat) (block : List Byte) (at_ : Nat) : Analogue :=
  let k := if type = 2 then (if tb16 block 6 = 0 then 110 else tb16 block 6) else 0
  { a with pilot := false, blend := 0, filter := k, rds := false, carrier := false, pll := Pll.clear, held := 0, out := 0
           side := 0, other := Option.none, amps := [], runs := [], muteTo := at_ + 6144, told := at_ + 6144
           marks := [(at_, 2, type == 2 && tb8 block 0 == 0), (at_, 5, type == 2 && decide (k < 100))], olds := []
           dec := RdsDec.clear (if type = 2 then tb8 block 2 else 0), acc := [], mpxGood := 0, sel := 0, ratios := [], pi := 0, piOk := false, piCand := 0, piCount := 0, piSeen := [], psLast := [], psAcc := [], rtFlag := Option.none
           rtLast := [], rtAcc := [] }

/-- The type block of an analogue weave changes at a boundary (R260): captures before it keep the old one; the filter set by the host, stereo and blend are those of
the new. -/
def Analogue.reblock (a : Analogue) (type ord at_ : Nat) (old new : List Byte) : Analogue :=
  let k := if type ≠ 2 then a.filter else if tb16 new 6 ≠ 0 then tb16 new 6 else if tb16 old 6 ≠ 0 then 110 else a.filter
  { a with filter := k, olds := a.olds ++ [(ord, old)]
           marks := a.marks ++ [(at_, 1, a.pilot && type == 2 && tb8 new 0 != 2)
             , (at_, 2, type == 2 && tb8 new 0 == 0 && decide (a.blend * 510 < 509 * 2 ^ 32)), (at_, 5, type == 2 && decide (k < 100))] }

/-- A slot with no component assigned: its status is MUTED (R306). -/
def DecSlot.vacant : DecSlot := ⟨nullHandle, 2, 0, 0, 0, false, false, 0, none, [], none, 0, 0, 0, 0, []⟩

/-- A digital weave that holds nothing (R301, R311). (log 78: DESIGN CHOICE) -/
def Digital.none : Digital :=
  { sync := 0, mode := 0, facRun := 0, since := 0, heard := 0, nullRun := 0, firstGone := 0, fine := false, lostFrom := 0, interAt := Option.none
    nullPrev := Option.none, superAt := Option.none, news := Option.none, conf := [], confFrom := 0, ending := [], texts := [], acc := [], mci := false, reconf := false, eid := 0, subch := [], services := 0, cif := 0, losses := 0, slots := []
    mismatch := false, sdc := false, occ := 0xFF, constel := 0, inter := 0xFF, framePick := 0, frameNs := 0, nullAt := Option.none, tii := [], tiiPick := 0
    tiiNs := 0, dab := ⟨0, 0, 0, 0, 0, 0, 0, 0⟩, drm := ⟨0, 0, 0, 0, 0, 0, 0, 0⟩ }

/-- A flush of a digital weave at a boundary (R301, R311): it keeps its slots and nothing it had decoded. -/
def Digital.flush (d : Digital) (ord : Nat) : Digital :=
  { Digital.none with slots := d.slots.map fun x => { DecSlot.vacant with comp := x.comp }, dab := d.dab, drm := d.drm, since := ord, heard := ord }

/-- The weave's work is taken from the cluster: tasks, jobs and stages (R243). -/
def haltWeave (i : Nat) (s : State) : State :=
  let c := s.cluster
  { s with cluster := { c with shuttles := c.shuttles.filter fun x => x.2.weave != i
                               ready := c.ready.filter fun x => x.weave != i
                               engines := c.engines.map fun x => (x.1, if x.2.weave = i then { x.2 with dead := true } else x.2)
                               jobs := c.jobs.filter fun x => x.weave != i
                               stages := c.stages.filter fun x => x.weave != i
                               dead := c.dead.filter fun x => x.1 != i
                               prog := c.prog.filter fun x => x.1 != i
                               late := c.late.filter fun x => x.1 != i } }

/-- The disclosed delay of a dent at τ = 0, in output samples times 2 × FCONV × 10¹¹ (R215). -/
def tauLess (s : State) (x : Dent) : Nat :=
  rateS x.rate * 1000 * (x.delay * 10 ^ 11 + analogueDelay s x.warp (loBand s x.warp) * (2 * fconv))

/-- The τ an analogue weave sets on a dent, in 1/256 sample, for the largest disclosed delay among its dents (R258). -/
def tauOf (gmax g : Nat) : Nat :=
  let u := 2 * fconv * 10 ^ 11
  (2 * 256 * ((gmax + u - 1) / u * u - g) + u) / (2 * u)

/-- A discontinuity of a dent's input has been marked at a sample of the present pick. -/
def Dent.broken (x : Dent) (sample : Nat) : Bool := x.segs.getLast?.any fun g => g.at_ == sample && g.disc

/-- A weave sets the τ of its dents at a sample, and its buffer takes the rest (R43, R258, R259, R299); the start of the new delay is marked on each, and remembered where nothing
else breaks there. (log 129: DEDUCED) -/
def setTaus (i sample : Nat) (s : State) : State :=
  match weaveAt s i with
  | some w =>
    let ds := w.dents.filterMap fun h => (dentAt s (hIndex h)).map fun x => (hIndex h, x)
    let g := ds.foldl (fun m x => max m (tauLess s x.2)) 0
    let u := 2 * fconv * 10 ^ 11
    let s := vmod i (fun w => { w with pad := (g + u - 1) / u }) s
    ds.foldl (fun s x =>
      let t := tauOf g (tauLess s x.2)
      if t = x.2.tau then s
      else
        let s := if x.2.broken sample then s else vmod i (fun w => { w with own := w.own ++ [(x.1, sample)] }) s
        dmod x.1 (fun y => ({ y with tau := t } : Dent).mark sample false true) s) s
  | none => s

/-- The body of EV_DIGITAL_STATE (R322). -/
def digBody (h comp : Handle) (code detail pick sample : Nat) : List Byte :=
  handleBytes h ++ byte code ++ byte detail ++ zeros 2 ++ handleBytes comp ++ leBytes 8 pick ++ leBytes 2 sample ++ zeros 2

/-- EV_DIGITAL_STATE, while NOTIFY is set (R322). -/
def tellDig (i : Nat) (comp : Handle) (code detail pick sample : Nat) (s : State) : State :=
  match weaveAt s i with
  | some w => if blockNotify w.type w.block then ev 0x0720 (digBody (handleOf s 4 i) comp code detail pick sample) s else s
  | none => s

/-- A flush of a weave: at a start, a resumption, a readmission or a change of D (R32, R237). -/
def flushWeave (i : Nat) (s : State) : State :=
  let s := haltWeave i s
  match weaveAt s i with
  | some w =>
    let s := vmod i (fun w => { w with missRun := 0, missed := 0, sinceMiss := none, missing := false, lastMiss := false
                                       since := s.tb.pick, sinceOrd := s.sys.ord, rsNow := 0, gaps := [], ovl := [], pd := [], avail := [] }) s
    let s := if w.type ≤ 2 then
        { s with ana := tmod s.ana i fun a => a.flush w.type w.block (tickOf s s.sys.ord 0) }
      else
        let was : Nat := ((tget s.dig i).map fun (d : Digital) => d.sync).getD 0
        let s := { s with dig := tmod s.dig i fun d => d.flush s.sys.ord }
        if was = 0 then s else tellDig i nullHandle 8 0 s.tb.pick 0 s
    setTaus i 0 s
  | none => s

/-! Admission. -/

/-- The declared slots of all digital weaves but one (R293). -/
def slotSum (s : State) (but : Option Nat) : Nat :=
  s.weaves.foldl (fun n x => if some x.1 = but then n else
    let pend := (s.sched.find? fun p => p.kind == 50 && p.obj == handleOf s 4 x.1).elim 0 fun p => match p.cmd with
      | .weaveSet _ _ _ _ _ b => slotsOf x.2.type b
      | _ => 0
    n + max (slotsOf x.2.type x.2.block) pend) 0

/-- The charges of every holder but a weave. -/
def chargesBut (s : State) (i : Nat) : List (Nat × Cost) := charges { s with weaves := tdel s.weaves i }

/-- A dent that a creation names: issued, in no weave, not being released, and created no later than the creation (R250, R644). -/
def dentJoins (s : State) (due : Nat) (h : Handle) : Bool :=
  (weaveOf s h).isNone && !releasing s h && !ownedDent s (hIndex h) &&
  (objOf s h).any fun o => o.st != .pending || o.due ≤ due

/-- The handles of a list are all different. -/
def distinct (l : List Handle) : Bool := l.eraseDups.length == l.length

/-- The dents of a creation suit its type (R21, R255, R257, R290, R296). (log 127: DEDUCED) -/
def dentsSuit (s : State) (r : WeaveReq) : Bool :=
  let ds := r.dents.filterMap fun h => dentAt s (hIndex h)
  distinct r.dents && ds.all fun x => rateOk r.type x.rate r.block && (ds.head?.any fun y => y.rate == x.rate) &&
    [x.bankA, x.bankB].all fun b => b.n == 0 ||
      withinNs (chainDelay x.k x.hb x.d b.delay) (analogueDelay s x.warp (loBand s x.warp)) (allowanceNs r.type r.block)

/-- The checks of a WEAVE_CREATE's own fields (R250). -/
def weaveReqOk (r : WeaveReq) : Bool :=
  inR 1 r.type 4 && inR 1 r.n 4 && r.prio < 256 && (r.group < 8 || r.group == 0xFF) && only r.flags 2 && r.opt < 2 ^ r.n &&
  r.opt != 2 ^ r.n - 1 && blockOk r.type r.block

/-- A new weave. (log 78: DESIGN CHOICE) -/
def newWeave (s : State) (r : WeaveReq) (group : Nat) : Weave :=
  { type := r.type, prio := r.prio, group := group, notify := bit r.flags 1, start := bit r.flags 0, block := r.block
    depth := depthOf r.type r.block, cost := costOf r.type r.n r.block, dents := r.dents, optMask := r.opt, shedCause := 0
    missRun := 0, missed := 0, sinceMiss := none, exempt := 0, missing := false, lastMiss := false, used := 0, usedNow := 0
    peaks := [], since := 0, sinceOrd := 0, readmit := false, rsNow := 0, admitted := s.cluster.admitted
    pad := 0, own := [], gaps := [], ovl := [], pd := [], avail := [] }

/-- The optional dents of a weave. -/
def optDents (l : List Handle) (mask : Nat) : List Handle := (l.zipIdx.filter fun x => bit mask x.2).map (·.1)

/-- Creates a weave for the host or the module: from check 9 on (R239, R250). A refusal by an admission check is reported. -/
def weaveCreate (h : Hdr) (r : WeaveReq) (target due : Nat) (s : State) : Except (Status × State) (Handle × Weave × State) := do
  let fail := fun (c : Status) => (Except.error (c, s) : Except (Status × State) Unit)
  if !r.dents.all (fun d => hClass d == 3 && (objOf s d).isSome) then fail .badHandle
  if !dentsSuit s r then fail .badParam
  if !(r.dents.all fun h => (dentAt s (hIndex h)).any fun x => x.bank.n != 0) then fail .notReady
  if !r.dents.all (dentJoins s due) then fail .conflict
  if (objsOf s 4).length ≥ 512 then throw (.noResource, refuseAdm 1 s)
  if slotSum s none + slotsOf r.type r.block > 256 then fail .noResource
  match roomFor s (charges s) r.group (costOf r.type r.n r.block) with
  | .error k => throw (.noResource, refuseAdm k s)
  | .ok g =>
    match issue 4 .pending r.dents (optDents r.dents r.opt) due s with
    | none => throw (.noResource, refuseAdm 1 s)
    | some (hd, t) =>
      let w := newWeave s r g
      let i := hIndex hd
      let t : State := { t with weaves := tset t.weaves i w, cluster := { t.cluster with admitted := t.cluster.admitted + 1 } }
      let d : Digital := { Digital.none with slots := List.replicate (slotsOf r.type r.block) DecSlot.vacant }
      let t : State := if r.type ≤ 2 then { t with ana := tset t.ana i Analogue.none } else { t with dig := tset t.dig i d }
      pure (hd, w, announce 5 hd (pickAt t due) (byte 1 ++ byte g ++ zeros 2) (sched ⟨due, 0, hd, 20, .weaveCreate h r target, 0⟩ t))

/-- A chain whose refusals may carry a state. -/
def chkS (x : Except (Status × State) (Status × List Byte × State)) : Ans :=
  match x with
  | .ok (c, p, s) => .done c p s
  | .error (c, s) => .bad c s

/-- The WEAVE_CREATE reply (R250). -/
def weaveReply (s : State) (hd : Handle) (w : Weave) (due : Nat) : List Byte :=
  handleBytes hd ++ posReply s due 0 ++ byte w.group ++ byte (depthByte w.depth) ++ leBytes 2 (w.depth + 1) ++ zeros 2
    ++ leBytes 4 w.cost.cycles ++ leBytes 4 w.cost.task ++ leBytes 4 w.cost.viterbi ++ leBytes 4 w.cost.rs ++ leBytes 4 w.cost.fft
    ++ leBytes 4 w.cost.tdi ++ leBytes 4 w.cost.beam ++ leBytes 4 w.cost.dram

/-- WEAVE_CREATE (R250). -/
def execWeaveCreate (h : Hdr) (r : WeaveReq) (target : Nat) (s : State) : Host.Outcome State Fault Refusal :=
  serve (.weaveCreate h r target) 0x0701 .operator .run h nullHandle (fun s =>
    if r.dents.length ≠ r.n ∨ r.block.length ≠ r.m then .fail .badLength
    else if !weaveReqOk r then .fail .badParam
    else match dueOf s target with
      | none => .fail .badParam
      | some due => match weaveCreate h r target due s with
        | .error (c, t) => .bad c t
        | .ok (hd, w, t) => .done .ok (weaveReply s hd w due) t) s

/-- A weave that a scheduling command names: issued and not the module's own (R356). -/
def weaveFor (s : State) (h : Handle) : Chk (Obj × Weave) := do
  let o ← objIs s h 4
  let w ← get! .badHandle (weaveAt s (hIndex h))
  need (!ownedWeave s (hIndex h)) .conflict
  pure (o, w)

/-- The state of a weave, that of one still to be created as its creation will leave it. (log 135: DEDUCED) -/
def weaveSt (o : Obj) (w : Weave) : OState := if o.st = .pending then (if w.start then .active else .idle) else o.st

/-- WEAVE_START (R251). (log 135: DEDUCED) -/
def execWeaveStart (h : Hdr) (weave : Handle) (target : Nat) (s : State) : Host.Outcome State Fault Refusal :=
  serve (.weaveStart h weave target) 0x0702 .operator .run h weave (fun s =>
    let go := fun (due : Nat) (t : State) =>
      Ans.done .ok (posReply s due 0) (sched ⟨due, 0, weave, 50, .weaveStart h weave target, 0⟩ t)
    let head : Chk (Nat × Obj × Weave) := do
      let due ← get! .badParam (dueOf s target)
      let (o, w) ← weaveFor s weave
      pendingOk o due false
      need (weaveSt o w == .idle || o.shed) .conflict
      pure (due, o, w)
    match head with
    | .error c => .fail c
    | .ok (due, o, w) =>
      if o.shed then
        match roomFor s (chargesBut s (hIndex weave)) w.group (weaveNeed s (hIndex weave) w) with
        | .error k => .bad .noResource (refuseAdm k s)
        | .ok _ => go due (vmod (hIndex weave) (fun w => { w with readmit := true }) s)
      else go due s) s

/-- WEAVE_STOP (R251). (log 135: DEDUCED) -/
def execWeaveStop (h : Hdr) (weave : Handle) (target : Nat) (s : State) : Host.Outcome State Fault Refusal :=
  serve (.weaveStop h weave target) 0x0703 .operator .run h weave (fun s => chk do
    let due ← get! .badParam (dueOf s target)
    let (o, w) ← weaveFor s weave
    pendingOk o due false
    need (weaveSt o w == .active) .conflict
    okay (posReply s due 0) (sched ⟨due, 0, weave, 50, .weaveStop h weave target, 0⟩ s)) s

/-- WEAVE_RELEASE (R251). -/
def execWeaveRelease (h : Hdr) (weave : Handle) (target : Nat) (s : State) : Host.Outcome State Fault Refusal :=
  serve (.weaveRelease h weave target) 0x0704 .operator .run h weave (fun s => chk do
    let due ← get! .badParam (dueOf s target)
    let (o, _) ← weaveFor s weave
    pendingOk o due true
    okay (posReply s due 0) (sched ⟨due, 0, weave, 10, .weaveRelease h weave target, 0⟩ s)) s

/-- A WEAVE_SET's block suits the weave it names (R255, R290, R292): a DRM weave keeps its family. -/
def setBlockOk (w : Weave) (b : List Byte) : Bool :=
  b.isEmpty || (blockOk w.type b && !(w.type == 4 && tb8 b 0 != tb8 w.block 0))

/-- A figure of a configuration exceeds the present one (R251). -/
def exceeds (a b : Cost) : Bool :=
  a.cycles > b.cycles || a.task > b.task || a.viterbi > b.viterbi || a.rs > b.rs || a.fft > b.fft || a.tdi > b.tdi || a.beam > b.beam ||
  a.dram > b.dram

/-- WEAVE_SET (R251). -/
def execWeaveSet (h : Hdr) (weave : Handle) (prio m target : Nat) (block : List Byte) (s : State) :
    Host.Outcome State Fault Refusal :=
  serve (.weaveSet h weave prio m target block) 0x0705 .operator .run h weave (fun s =>
    if block.length ≠ m then .fail .badLength
    else
      let head : Chk (Nat × Weave) := do
        let due ← get! .badParam (dueOf s target)
        let o ← objIs s weave 4
        let w ← get! .badHandle (weaveAt s (hIndex weave))
        need (setBlockOk w block) .badParam
        need (!ownedWeave s (hIndex weave)) .conflict
        pendingOk o due false
        pure (due, w)
      match head with
      | .error c => .fail c
      | .ok (due, w) =>
        let i := hIndex weave
        let b := if block.isEmpty then w.block else block
        let c := costOf w.type w.dents.length b
        let t := sched ⟨due, 0, weave, 50, .weaveSet h weave prio m target block, 0⟩ s
        let done := Ans.done .ok (posReply s due 0 ++ zeros 2 ++ leBytes 4 c.cycles ++ byte (depthByte (depthOf w.type b)) ++ zeros 3) t
        if slotSum s (some i) + slotsOf w.type b > 256 then .fail .noResource
        else if exceeds c w.cost then
          match roomFor s (chargesBut s i) w.group c with
          | .error k => .bad .noResource (refuseAdm k s)
          | .ok _ => done
        else done) s

/-- The WEAVE_STATUS reply (R252). -/
def weaveStatusBytes (s : State) (o : Obj) (w : Weave) : List Byte :=
  let gone := fun (h : Handle) => !available s h
  handleBytes o.handle ++ byte o.st.code ++ byte w.type ++ byte w.group ++ byte (depthByte w.depth) ++ byte w.prio
    ++ byte (flagBits [o.shed, s.sched.any (fun p => p.obj == o.handle), w.lastMiss, o.needs.any gone, o.opt.any gone, w.notify])
    ++ byte w.shedCause ++ byte (min w.missRun 2) ++ leBytes 4 w.cost.cycles ++ leCount 4 w.used
    ++ leCount 4 (w.peaks.foldl max w.used) ++ leCount 4 w.missed ++ leCount 2 o.repl ++ zeros 2
    ++ ((w.dents ++ List.replicate 4 nullHandle).take 4).flatMap handleBytes ++ leBytes 8 w.since ++ leBytes 8 (now s)

/-- WEAVE_STATUS (R252). -/
def execWeaveStatus (h : Hdr) (weave : Handle) (s : State) : Host.Outcome State Fault Refusal :=
  serve (.weaveStatus h weave) 0x0706 .operator .fw h weave (fun s => chk do
    let o ← objNow s weave 4
    let w ← get! .badHandle (weaveAt s (hIndex weave))
    okay (weaveStatusBytes s o w) s) s

/-- The code of a core clock state (R100). -/
def ClkState.code : ClkState → Nat
  | .normal => 0 | .degraded => 1 | .returning => 2 | .fault => 3

/-- The SCHED_STATUS reply (R253). -/
def schedStatusBytes (s : State) : List Byte :=
  let l := charges s
  let t := sumCost l
  byte s.clk.state.code ++ byte s.cluster.refusal ++ leBytes 2 (objsOf s 4).length ++ leBytes 4 (admLimit s)
    ++ leBytes 4 (groupLimit s) ++ leBytes 4 t.cycles ++ (List.range 8).flatMap (fun g => leBytes 4 (groupLoad l g))
    ++ leBytes 4 t.viterbi ++ leBytes 4 t.rs ++ leBytes 4 t.fft ++ leBytes 4 t.tdi ++ leBytes 4 (engineLimit s 4)
    ++ leBytes 4 (engineLimit s 2) ++ leBytes 4 (engineLimit s 4) ++ leBytes 4 (engineLimit s 1) ++ leBytes 4 (beamFree s)
    ++ leBytes 4 (dramFree s) ++ leCount 4 s.cluster.missedAll ++ zeros 4 ++ leBytes 8 (now s)

/-- SCHED_STATUS (R253). -/
def execSchedStatus (h : Hdr) (s : State) : Host.Outcome State Fault Refusal :=
  serve (.schedStatus h) 0x0707 .operator .fw h nullHandle (fun s => chk (okay (schedStatusBytes s) s)) s

/-! What the due changes do. -/

/-- A weave is created at its boundary (R250). -/
def applyWeaveCreate (h : Handle) (s : State) : State :=
  match weaveAt s (hIndex h) with
  | some w =>
    let st : OState := if w.start then .active else .idle
    let s := omod h (fun o => if o.shed then { o with st := .suspended, prior := st, cause := .shed, lost := nullHandle } else { o with st := st }) s
    if w.start && !isShed s (hIndex h) then flushWeave (hIndex h) s else s
  | none => s

/-- A weave starts, or is readmitted to be active (R245, R251); one that has become ACTIVE meanwhile runs on. -/
def applyWeaveStart (h : Handle) (s : State) : State :=
  let i := hIndex h
  match objOf s h with
  | some o =>
    if o.shed then
      vmod i (fun w => { w with shedCause := 0, readmit := false }) (omod h (fun o => { o with shed := false, prior := .active }) s)
    else if o.st = .idle then flushWeave i (omod h (fun o => { o with st := .active }) s)
    else s
  | none => s

/-- A weave stops: IDLE, its charge kept (R251). (log 126: DEDUCED) -/
def applyWeaveStop (h : Handle) (s : State) : State :=
  haltWeave (hIndex h) (omod h (fun o => { o with st := .idle }) s)

/-- A weave's configuration changes (R237, R251, R260): where D changes, as a stop followed by a start. -/
def applyWeaveSet (h : Handle) (prio : Nat) (block : List Byte) (s : State) : State :=
  let i := hIndex h
  match weaveAt s i with
  | some w =>
    let b := if block.isEmpty then w.block else block
    let d := depthOf w.type b
    let n := slotsOf w.type b
    let s := vmod i (fun w => { w with prio := if prio = 0xFF then w.prio else prio, block := b, depth := d
                                       cost := costOf w.type w.dents.length b }) s
    let s := { s with dig := tmod s.dig i fun g => { g with slots := (g.slots ++ List.replicate n DecSlot.vacant).take n }
                      ana := if b = w.block then s.ana else tmod s.ana i fun a => a.reblock w.type s.sys.ord (tickOf s s.sys.ord 0) w.block b }
    if d ≠ w.depth ∧ (objOf s h).any (fun o => o.st == .active) = true then flushWeave i s else s
  | none => s

/-- A weave goes to FREE (R251); its dents stay, with no weave bound. -/
def freeWeave (h : Handle) (s : State) : State :=
  let i := hIndex h
  let s := haltWeave i (unissue h s)
  { s with weaves := tdel s.weaves i, ana := tdel s.ana i, dig := tdel s.dig i
           svcs := s.svcs.map fun x => if x.2.weave = some i then (x.1, { x.2 with weave := none }) else x
           svcChg := s.svcChg.filter fun c => c.weave != i }

/-! Shedding. -/

/-- The body of EV_WEAVE_SHED (R254). -/
def shedBody (s : State) (h : Handle) (w : Weave) (cause : Nat) : List Byte :=
  handleBytes h ++ byte cause ++ byte w.prio ++ zeros 2 ++ leBytes 4 w.cost.cycles ++ leBytes 4 (loadOf s) ++ leBytes 8 s.tb.pick

/-- A weave is shed (R82, R244, R245): SUSPENDED without an event of R30 for itself. -/
def shedWeave (i cause : Nat) (s : State) : State :=
  match weaveAt s i with
  | some w =>
    let h := handleOf s 4 i
    let s := haltWeave i (vmod i (fun w => { w with shedCause := cause, missRun := 0, readmit := false }) (omod h (fun o =>
      { o with shed := true, cause := .shed, lost := nullHandle, prior := if o.st = .suspended then o.prior else o.st, st := .suspended }) s))
    announce 5 h s.tb.pick (byte 2 ++ byte w.group ++ byte cause ++ zeros 1) <| ev 0x0701 (shedBody s h w cause) s
  | none => s

/-- A component of the weave feeds an output stream or a follow set (R246). -/
def feeds (s : State) (i : Nat) : Bool :=
  s.comps.any fun c => (tget s.svcs c.2.svc).any (fun v => v.weave == some i) &&
    s.reg.objs.any fun o => (o.cls == 7 || o.cls == 8) && o.inputs.contains (handleOf s 6 c.1)

/-- The shedding order (R246): whether one weave goes before another, the priority first. -/
def shedBefore (s : State) (x y : Nat × Weave) : Bool :=
  let l := charges s
  let excess := fun (w : Weave) => groupLoad l w.group - 4080000
  let (f, g) := (feeds s x.1, feeds s y.1)
  if x.2.prio ≠ y.2.prio then x.2.prio < y.2.prio
  else if f ≠ g then !f
  else if s.clk.state = .degraded ∧ excess x.2 ≠ excess y.2 then excess x.2 > excess y.2
  else if x.2.cost.cycles ≠ y.2.cost.cycles then x.2.cost.cycles > y.2.cost.cycles
  else x.2.admitted > y.2.admitted

/-- The weave to shed first. -/
def shedFirst (s : State) : Option Nat :=
  (s.weaves.filter fun x => !isShed s x.1).foldl (fun b x => match b with
    | some y => if shedBefore s x y then some x else some y
    | none => some x) none |>.map (·.1)

/-- Sheds weaves until the load is within the half-clock limit (R82). -/
def shedLoop : Nat → State → State
  | 0, s => s
  | n + 1, s =>
    if loadOf s ≤ 32640000 then s
    else match shedFirst s with
      | some i =>
        let s := shedWeave i 2 s
        shedLoop n { s with clk := { s.clk with shedOrder := s.clk.shedOrder ++ [i] } }
      | none => s

/-- Readmits one weave if it passes the checks (R83). -/
def readmit (s : State) (i : Nat) : State :=
  match weaveAt s i with
  | some w =>
    if isShed s i ∧ w.shedCause = 2 then
      match roomFor s (chargesBut s i) w.group (weaveNeed s i w) with
      | .ok _ => announce 5 (handleOf s 4 i) s.tb.pick (byte 3 ++ byte w.group ++ zeros 2)
          (vmod i (fun w => { w with shedCause := 0 }) (omod (handleOf s 4 i) (fun o => { o with shed := false }) s))
      | .error _ => s
    else s
  | none => s

/-- The weaves shed under R82 that are still shed: those that R83 has skipped wait for the next return to NORMAL. -/
def stillShed (s : State) : List Nat := s.clk.shedOrder.filter fun i => (objAt s 4 i).any (·.shed) && (weaveAt s i).any (·.shedCause == 2)

/-- Readmission at the first boundary in NORMAL, in descending priority and the reverse of the order of shedding (R83). -/
def readmitAll (s : State) : State :=
  let l := sortBy (fun i => 255 - ((weaveAt s i).map (·.prio)).getD 0) s.clk.shedOrder.reverse
  let s := l.foldl readmit s
  { s with clk := { s.clk with shedOrder := stillShed s } }

/-! Dispatch. -/

/-- The deadline of a stage of a capture pick (R235), but for the 984 grid clocks that every deadline lies before it, in 125 µs: as far after the end of the capture
pick as the stage's number of ms. -/
def deadline (s : State) (cap stage : Nat) : Nat := gridOf s (cap + 1) + 8 * stage

/-- The order of ready tasks (R242): earliest deadline, higher priority, higher stage, lower handle. (log 75: DEDUCED) -/
def taskKey (s : State) (t : Task) : Nat :=
  ((deadline s t.cap t.stage * 256 + (255 - ((weaveAt s t.weave).map (·.prio)).getD 0)) * 4096 + (4095 - t.stage)) * 512 + t.weave

/-- The entry of a list with the least key. (log 75: DEDUCED) -/
def least {α : Type} (k : α → Nat) (l : List α) : Option α :=
  l.foldl (fun b x => match b with
    | some y => if k x < k y then some x else some y
    | none => some x) none

/-- The stage in progress of a weave's capture pick. -/
def stageOf (s : State) (w p k : Nat) : Option Stage := s.cluster.stages.find? fun x => x.weave == w && x.cap == p && x.stage == k

/-- Changes a stage in progress. -/
def smod (w p k : Nat) (f : Stage → Stage) (s : State) : State :=
  { s with cluster := { s.cluster with stages := s.cluster.stages.map fun x =>
      if x.weave = w ∧ x.cap = p ∧ x.stage = k then f x else x } }

/-- A task may run on a shuttle (R231, R242): of the weave's group, and one that has taken no task of the stage yet. -/
def taskFits (s : State) (n : Nat) (t : Task) : Bool :=
  (weaveAt s t.weave).any (fun w => w.group == n / 8) && (stageOf s t.weave t.cap t.stage).all fun x => !x.ran.contains n

/-- A free shuttle of a group takes the ready task that comes first; its working set goes into the shuttle's local memory (R231, R242). (log 75: DEDUCED) -/
def dispatchTask (s : State) (n : Nat) : State :=
  if (tget s.cluster.shuttles n).isSome then s
  else match least (taskKey s) (s.cluster.ready.filter (taskFits s n)) with
    | some t => smod t.weave t.cap t.stage (fun x => { x with ran := x.ran ++ [n] })
        { s with cluster := { s.cluster with shuttles := tset s.cluster.shuttles n t, ready := s.cluster.ready.erase t } }
    | none => s

/-- The order of waiting jobs (R233). (log 75: DEDUCED) -/
def jobKey (s : State) (j : Job) : Nat :=
  ((deadline s j.cap j.stage * 256 + (255 - ((weaveAt s j.weave).map (·.prio)).getD 0)) * 512 + j.weave) * 2 ^ 32 + j.order

/-- The engines of a class (R232). -/
def engines (c : Nat) : Nat := nth [4, 2, 4, 1] c 0

/-- A free engine takes the job of its class that comes first (R233). (log 75: DEDUCED) -/
def dispatchJob (s : State) (n : Nat) : State :=
  if n % 4 ≥ engines (n / 4) ∨ (tget s.cluster.engines n).isSome = true then s
  else match least (jobKey s) (s.cluster.jobs.filter fun j => j.cls == n / 4) with
    | some j => { s with cluster := { s.cluster with engines := tset s.cluster.engines n j, jobs := s.cluster.jobs.erase j } }
    | none => s

/-- Work is handed out to whatever is free. -/
def dispatch (s : State) : State :=
  (List.range 16).foldl dispatchJob ((List.range 64).foldl dispatchTask s)

/-- Engine cycles of a job (R232). -/
def jobCycles (j : JobReq) : Nat :=
  match j.cls with
  | 0 => (j.size + 1) / 2 + 160
  | 1 => j.size + 300
  | 2 => (j.size * (if j.size ≤ 1 then 0 else Nat.log2 (j.size - 1) + 1) + 3) / 4 + 128
  | _ => (j.size + 15) / 16 + 64

/-- The last stage of a capture pick that is over (R235). -/
def progOf (s : State) (w cap : Nat) : Nat := ((s.cluster.prog.find? fun x => x.1 == w && x.2.1 == cap).map (·.2.2)).getD 0

/-- A stage is over: it leaves the list, and the next of the same capture pick may come. -/
def stageOver (w cap stage : Nat) (s : State) : State :=
  let c := s.cluster
  let rest := c.prog.filter fun x => !(x.1 == w && x.2.1 == cap)
  let more := (weaveAt s w).any fun v => stage < v.depth
  { s with cluster := { c with stages := c.stages.filter fun x => !(x.weave == w && x.cap == cap && x.stage == stage)
                               prog := if more then rest ++ [(w, cap, stage)] else rest } }

/-- A stage may have become ready in the present pick (R235): the stage before it is over, its earliest instant lies before the end of the pick, its deadline
not before its beginning, and the capture pick is one of those since the weave became ACTIVE. -/
def stageTimely (s : State) (w : Weave) (i cap stage : Nat) : Bool :=
  inR 1 stage w.depth && w.sinceOrd ≤ cap && cap < s.sys.ord && progOf s i cap + 1 == stage && (stageOf s i cap stage).isNone &&
    gridOf s (cap + 1) + 8 * (stage - 1) < gridOf s (s.sys.ord + 1) && gridOf s s.sys.ord < deadline s cap stage

/-- The work of a stage is one the weave's type has (R231, R241, R256, R257): at most eight tasks, none beyond the local memory or the largest a task may declare;
no tasks in stages 4 and 5 of AM; no jobs of an analogue weave. -/
def workOk (w : Weave) (stage : Nat) (tasks : List TaskReq) (jobs : List JobReq) : Bool :=
  tasks.length ≤ 8 && (tasks.all fun t => t.set_ ≤ 192 && t.cycles ≤ 510000) && !(w.type == 1 && inR 4 stage 5 && !tasks.isEmpty) &&
    (2 < w.type || jobs.isEmpty)

/-- The jobs a stage submits (R295): of a DAB weave at most 57 Reed–Solomon codewords in one pick, those that waited first; the rest waits for a later stage of the
same capture pick, in the picks of the output buffer. The jobs, and the codewords that wait. (log 76: DEDUCED) -/
def jobsNow (s : State) (w : Weave) (i cap : Nat) (jobs : List JobReq) : List JobReq × List JobReq :=
  let rs := ((s.cluster.late.find? fun x => x.1 == i && x.2.1 == cap).map (·.2.2)).getD [] ++ jobs.filter fun j => j.cls == 1
  if w.type = 3 then ((jobs.filter fun j => j.cls != 1) ++ rs.take (57 - w.rsNow), rs.drop (57 - w.rsNow)) else (jobs, [])

/-- A stage of an ACTIVE weave becomes ready (R233, R235): its tasks wait for shuttles and its jobs for engines; a job of more than
20,000 engine cycles is refused and its stage treated as missed. The capture pick is named by its boundary count. (log 8: DESIGN CHOICE) -/
def execStageReady (weave : Fin 512) (cap stage : Nat) (tasks : List TaskReq) (jobs : List JobReq) (s : State) :
    Host.Outcome State Fault Refusal :=
  let h := handleOf s 4 weave
  match weaveAt s weave with
  | some w =>
    if stCode s h = 2 ∧ stageTimely s w weave cap stage = true ∧ workOk w stage tasks jobs = true then
      let (jobs, late) := jobsNow s w weave cap jobs
      let bad := jobs.any fun j => jobCycles j > 20000
      let js := (jobs.filter fun j => jobCycles j ≤ 20000).zipIdx.map fun j =>
        (⟨weave, cap, stage, j.1.cls, jobCycles j.1, s.cluster.jobCount + j.2, false⟩ : Job)
      let c := s.cluster
      let rest := c.late.filter fun x => !(x.1 == weave.val && x.2.1 == cap)
      .next (dispatch (vmod weave (fun w => { w with rsNow := w.rsNow + (js.filter fun j => j.cls == 1).length })
        { s with cluster := { c with stages := c.stages ++ [⟨weave, cap, stage, tasks.length, js.length, bad, []⟩]
                                     ready := c.ready ++ tasks.map fun t => ⟨weave, cap, stage, t.cycles, t.set_⟩
                                     jobs := c.jobs ++ js, jobCount := c.jobCount + js.length
                                     late := if late.isEmpty then rest else rest ++ [(weave.val, cap, late)] } }))
    else .next s
  | none => .next s

/-- Tasks running on shuttles have spent cycles in the present pick (R252). -/
def spend (l : List (Nat × Nat)) (s : State) : State :=
  l.foldl (fun s x => match tget s.cluster.shuttles x.1 with
    | some t => vmod t.weave (fun w => { w with usedNow := w.usedNow + x.2 }) s
    | none => s) s

/-- A shuttle completes its task (R242), having spent cycles in the present pick. -/
def execTaskComplete (shuttle : Fin 64) (cycles : Nat) (s : State) : Host.Outcome State Fault Refusal :=
  match tget s.cluster.shuttles shuttle with
  | some t =>
    let s := spend [(shuttle, cycles)] s
    let s := { s with cluster := { s.cluster with shuttles := tdel s.cluster.shuttles shuttle } }
    .next (dispatch (smod t.weave t.cap t.stage (fun x => { x with tasks := x.tasks - 1 }) s))
  | none => .next s

/-- An engine completes its job (R233); the result of a stopped stage is discarded (R243). -/
def execEngineJobComplete (cls : Fin 4) (engine : Fin 4) (s : State) : Host.Outcome State Fault Refusal :=
  let n := cls.val * 4 + engine.val
  match tget s.cluster.engines n with
  | some j =>
    let s := { s with cluster := { s.cluster with engines := tdel s.cluster.engines n } }
    .next (dispatch (if j.dead then s else smod j.weave j.cap j.stage (fun x => { x with jobs := x.jobs - 1 }) s))
  | none => .next s

/-- The body of EV_WEAVE_MISS (R254). -/
def missBody (s : State) (h : Handle) (stage reason : Nat) : List Byte :=
  handleBytes h ++ byte stage ++ byte reason ++ zeros 10 ++ leBytes 8 (now s)

/-- A stage is complete (R233): its tasks and all of its jobs are, and none was refused. -/
def Stage.complete (x : Stage) : Bool := x.tasks == 0 && x.jobs == 0 && !x.refused

/-- A stage is not complete at its deadline (R243, R254): it is stopped, the capture pick is MISSED, and the miss counts for the present
pick. (log 79: DEDUCED) -/
def missStage (x : Stage) (s : State) : State :=
  let (w, cap, stage) := (x.weave, x.cap, x.stage)
  let same := fun (a b c : Nat) => a == w && b == cap && c == stage
  let c := s.cluster
  let h := handleOf s 4 w
  let s := { s with cluster := { c with
      shuttles := c.shuttles.filter fun y => !same y.2.weave y.2.cap y.2.stage
      ready := c.ready.filter fun y => !same y.weave y.cap y.stage
      jobs := c.jobs.filter fun y => !same y.weave y.cap y.stage
      engines := c.engines.map fun y => (y.1, if same y.2.weave y.2.cap y.2.stage then { y.2 with dead := true } else y.2)
      dead := if c.dead.contains (w, cap) then c.dead else c.dead ++ [(w, cap)]
      missedAll := c.missedAll + 1 } }
  let s := stageOver w cap stage s
  let reason := if x.tasks = 0 then 2 else 1
  let tell := (weaveAt s w).any fun v => v.notify && !v.missing && (v.sinceMiss.all fun n => 1000 ≤ n)
  let s := vmod w (fun v => { v with missing := true }) s
  if tell then ev 0x0702 (missBody s h stage reason) s else s

/-- The stages whose deadlines lie in the pick that ends (R235, R243): one that is not complete is missed. (log 8: DESIGN CHOICE) -/
def overdue (s : State) : State :=
  let e := gridOf s (s.sys.ord + 1)
  dispatch ((s.cluster.stages.filter fun x => deadline s x.cap x.stage ≤ e).foldl (fun s x =>
    if x.complete then stageOver x.weave x.cap x.stage s else missStage x s) s)

/-- The end of a pick for a weave's misses (R244, R252): whether it is to be shed. Picks exempted by R82 neither count towards a run nor break
it; they are missed picks all the same. -/
def missEnd (s : State) (x : Nat × Weave) : Weave :=
  let w := x.2
  let ex := s.sys.ord ≤ w.exempt && w.missing
  let late := s.cluster.dead.contains (x.1, s.sys.ord - w.depth - 1) && s.sys.ord > w.depth
  { w with missRun := if ex then w.missRun else if w.missing then w.missRun + 1 else 0
           missed := if w.missing then w.missed + 1 else w.missed
           sinceMiss := if w.missing then some 0 else w.sinceMiss.map (· + 1)
           missing := false, lastMiss := late, used := w.usedNow, peaks := (w.usedNow :: w.peaks).take 1000, usedNow := 0, rsNow := 0 }

/-- The end of a pick for every weave; the weaves with three consecutive missed picks are shed at the boundary, but not by a module in
MIRROR (R244, R248). -/
def missesEnd (s : State) : State :=
  let s := overdue s
  let s := { s with weaves := s.weaves.map fun x => (x.1, missEnd s x) }
  let keep := fun (d : Nat × Nat) => (weaveAt s d.1).any fun w => s.sys.ord ≤ d.2 + max w.depth 24 + 1
  { s with cluster := { s.cluster with dead := s.cluster.dead.filter keep } }

/-- Weaves with three consecutive missed picks are shed (R244). -/
def shedMissed (s : State) : State :=
  if mirroring s = true then s
  else (s.weaves.filter fun x => x.2.missRun ≥ 3 && !isShed s x.1).foldl (fun s x => shedWeave x.1 1 s) s

end Sys2Proof.Machine
end

