-- ==== Sys2Proof/Machine/Inventory.lean ====
section
/-! DEFINITION. The service inventory (R323-R332, R342, R343): services and components issued, adopted, changed and released, their
labels and linkage, and the commands that read them. -/

namespace Sys2Proof.Machine

/-- What is kept for an object is forgotten with it: its measurement, thresholds and meters. -/
def forget (h : Handle) (s : State) : State :=
  { s with meas := s.meas.filter fun x => x.1 ≠ h, thrs := s.thrs.filter fun x => x.obj ≠ h
           louds := if hClass h = 6 then tdel s.louds (hIndex h) else s.louds }

/-- A service's entry. -/
def svcAt (s : State) (i : Nat) : Option Service := tget s.svcs i

/-- A component's entry. -/
def compAt (s : State) (i : Nat) : Option Component := tget s.comps i

/-- The components of a service, by index. -/
def compsOf (s : State) (v : Nat) : List (Nat × Component) := s.comps.filter fun c => c.2.svc == v

/-- The body of EV_SERVICE_CHANGE (R343). -/
def svcBody (s : State) (h : Handle) (code ident old : Nat) : List Byte :=
  handleBytes h ++ byte code ++ zeros 3 ++ leBytes 4 ident ++ leBytes 4 old ++ leBytes 8 s.tb.pick

/-- A component goes to FREE; its decoder slot becomes vacant (R303). -/
def freeComp (i : Nat) (s : State) : List Handle × State :=
  let h := handleOf s 6 i
  let s := announce 4 h s.tb.pick (zeros 4) (forget h (unissue h s))
  let gone := fun (x : DecSlot) => if x.comp = h then DecSlot.vacant else x
  ([h], { s with comps := tdel s.comps i, dig := s.dig.map fun d => (d.1, { d.2 with slots := d.2.slots.map gone, ending := d.2.ending.filter fun x => x.comp != h }) })

/-- A service goes to FREE together with its components (R324, R326, R327); the handles released. -/
def freeService (i : Nat) (s : State) : List Handle × State :=
  match svcAt s i with
  | some v =>
    let h := handleOf s 5 i
    let s := announce 4 h s.tb.pick (zeros 4) (ev 0x0810 (svcBody s h 4 v.ident 0) s)
    let (l, s) := (compsOf s i).foldl (fun a c => let (l, t) := freeComp c.1 a.2; (a.1 ++ l, t)) ([], s)
    (h :: l, { forget h (unissue h s) with svcs := tdel s.svcs i })
  | none => ([], s)

/-- A service has an output stream or a follow set among its dependants (R327). -/
def svcFeeds (s : State) (i : Nat) : Bool :=
  (compsOf s i).any fun c => s.reg.objs.any fun o => (o.cls == 7 || o.cls == 8) && o.inputs.contains (handleOf s 6 c.1)

/-- The SUSPENDED service that is released first where the inventory is full (R327). -/
def oldestFree (s : State) : Option Nat :=
  (least (fun x => x.2.lastOrd) (s.svcs.filter fun x => stCode s (handleOf s 5 x.1) == 3 && !svcFeeds s x.1)).map (·.1)

/-- Makes room for a service and `n` components (R327). -/
def makeRoom : Nat → Nat → Nat → State → List Handle × Bool × State
  | 0, _, _, s => ([], false, s)
  | k + 1, v, n, s =>
    if s.svcs.length + v ≤ 4096 ∧ s.comps.length + n ≤ 16384 then ([], true, s)
    else match oldestFree s with
      | some i =>
        let (l, s) := freeService i s
        let (l2, b, s) := makeRoom k v n s
        (l ++ l2, b, s)
      | none => ([], false, s)

/-- The state objects on a weave take (R324). -/
def weaveState (s : State) (w : Nat) : OState := ((objAt s 4 w).map (·.st)).getD .suspended

/-- Issues a component of a service in a state. -/
def issueComp (v : Nat) (st : OState) (c : CompInfo) (s : State) : State :=
  match issue 6 (if st = .suspended then .suspended else st) [handleOf s 5 v] [] 0 s with
  | some (h, t) => announce 3 h s.tb.pick [] { t with comps := tset t.comps (hIndex h) ⟨v, c, [], 0, []⟩ }
  | none => s

/-- Two components have the same identity within their service (R325): their kind, and their SCIdS in DAB or their stream number. (log 87: DEDUCED) -/
def sameComp (dab : Bool) (a b : CompInfo) : Bool := a.kind == b.kind && if dab then a.scids == b.scids else a.subch == b.subch

/-- The components of a service become those given: present ones keep their handles, absent ones are released, new ones are issued
(R325, R326). `bind` puts the present ones in a state, as an adoption does. (log 87: DEDUCED) -/
def setComps (v : Nat) (st : OState) (bind : Bool) (l : List CompInfo) (s : State) : List Handle × State :=
  let old := compsOf s v
  let same := sameComp ((svcAt s v).any fun x => x.tech == 3)
  let (rel, s) := (old.filter fun c => !l.any (same c.2.info)).foldl
    (fun a c => let (r, t) := freeComp c.1 a.2; (a.1 ++ r, t)) ([], s)
  let s := (old.filter fun c => l.any (same c.2.info)).foldl (fun s c =>
    let info := (l.find? (same c.2.info)).getD c.2.info
    let s := { s with comps := tmod s.comps c.1 fun x => { x with info := info } }
    if bind then omod (handleOf s 6 c.1) (fun o => { o with st := st, cause := .none, relIn := false }) s else s) s
  let new := l.filter fun c => !old.any fun x => same x.2.info c
  let (r2, ok, s) := makeRoom 4096 0 new.length s
  if ok then (rel ++ r2, new.foldl (fun s c => issueComp v st c s) s) else (rel ++ r2, { s with invFull := true })

/-- The raster by which a service is matched, in Hz (R325, R335). -/
def rasterOf (tech : Nat) : Nat := if tech = 1 then 9000 else if tech = 2 then 100000 else 1000

/-- A service that a weave can adopt (R325): SUSPENDED with cause RELEASED, of the same technology, frequency and identity. -/
def adoptable (s : State) (v : Service) (x : Nat × Service) : Bool :=
  (objAt s 5 x.1).any (fun o => o.st == .suspended && o.relIn) && x.2.tech == v.tech &&
  2 * ((x.2.freq : Int) - v.freq).natAbs ≤ x.2.raster && (v.tech ≤ 2 || x.2.ident == v.ident) &&
  (!(v.tech == 3 || v.tech == 5) || x.2.eid == v.eid)

/-- The service that a weave adopts: the one heard most recently. (log 87: DEDUCED) -/
def adoptee (s : State) (v : Service) : Option (Nat × Service) :=
  least (fun x => 2 ^ 64 - x.2.lastOrd) (s.svcs.filter (adoptable s v))

/-- A weave's service is issued, or adopted (R323, R325, R327); the handles released on the way. (log 87: DEDUCED) -/
def issueService (w : Nat) (v : Service) (l : List CompInfo) (s : State) : List Handle × State :=
  let st := weaveState s w
  let wh := handleOf s 4 w
  match adoptee s v with
  | some (i, x) =>
    let h := handleOf s 5 i
    let s := { s with svcs := tset s.svcs i { x with weave := some w, adopted := true, freq := v.freq, last := s.tb.pick
                                                     lastOrd := s.sys.ord, eid := v.eid, raster := v.raster } }
    let s := omod h (fun o => { o with inputs := [wh], st := st, cause := .none, relIn := false }) s
    let s := announce 3 h s.tb.pick [] (ev 0x0810 (svcBody s h 2 x.ident 0) s)
    setComps i st true l s
  | none =>
    let (rel, ok, s) := makeRoom 4096 1 l.length s
    if ok then
      match issue 5 st [wh] [] 0 s with
      | some (h, t) =>
        let t := { t with svcs := tset t.svcs (hIndex h) { v with weave := some w } }
        let t := announce 3 h s.tb.pick [] (ev 0x0810 (svcBody t h 1 v.ident 0) t)
        (rel, l.foldl (fun t c => issueComp (hIndex h) st c t) t)
      | none => (rel, { s with invFull := true })
    else (rel, { s with invFull := true })

/-- A component description that carries nothing but its kind. -/
def plainComp (kind : Nat) : CompInfo := ⟨kind, 0, 0, 0xFF, 0, 0, 0, 0⟩

/-- The frequency of a weave's first dent in Hz, to the nearest. -/
def weaveFreq (s : State) (w : Weave) : Nat :=
  ((w.dents.head?.bind fun h => dentAt s (hIndex h)).map fun x => (x.freq + 500000) / 1000000).getD 0

/-- The survey channel whose weave this is, with its entry's step (R335). -/
def surveyStep (s : State) (w : Nat) : Option Nat :=
  if s.survey.chans.any (fun c => c.weave == w && c.st == 3) then
    (s.survey.entries[s.survey.entry]?).map (·.step)
  else none

/-- A service as it is issued (R323, R342). -/
def newService (s : State) (w tech ident eid ecc : Nat) (info : SvcInfo) : Service :=
  let sv := surveyStep s w
  let step := (sv.getD 0)
  { tech := tech, ident := ident, ecc := ecc, eid := eid, identified := ident != 0 && tech != 2, tp := false, ta := false
    data := bit info.flags 3, ca := bit info.flags 4, survey := sv.isSome, adopted := false, rbds := false, pty := info.pty
    weave := some w, freq := ((weaveAt s w).map (weaveFreq s)).getD 0, raster := if step = 0 then rasterOf tech else step, field := 0
    occ := ((tget s.dig w).map (·.occ)).getD 0xFF,     links := [], labels := [], first := s.tb.pick, last := s.tb.pick, lastOrd := s.sys.ord }

/-- The services of an analogue weave, at its creation boundary (R323, R261). -/
def weaveBorn (w : Nat) (s : State) : List Handle × State :=
  match weaveAt s w with
  | some x =>
    if mirroring s = true then ([], s)
    else if x.type = 1 then issueService w (newService s w 1 0 0 0 ⟨0, 0, 0, []⟩) [{ plainComp 1 with flags := 1 }] s
    else if x.type = 2 then
      issueService w { newService s w 2 0 0 0 ⟨0, 0, 0, []⟩ with rbds := tb8 x.block 2 == 2 }
        [{ plainComp 1 with flags := 1 }, plainComp 2, plainComp 3, plainComp 4] s
    else ([], s)
  | none => ([], s)

/-- The components issued with a service of the MCI or SDC (R323): its own and one for labels. -/
def withLabels (v : SvcInfo) : List CompInfo := v.comps ++ [plainComp 3]

/-- The services of a weave that are not the ensemble's. -/
def svcsOf (s : State) (w : Nat) : List (Nat × Service) := s.svcs.filter fun x => x.2.weave == some w && x.2.tech != 5

/-- The services of a digital weave become those given (R323, R326). -/
def setServices (w : Nat) (l : List SvcInfo) (s : State) : List Handle × State :=
  let tech := if ((weaveAt s w).map (·.type)).getD 0 = 3 then 3 else 4
  let eid := ((tget s.dig w).map (·.eid)).getD 0
  let (rel, s) := ((svcsOf s w).filter fun x => !l.any fun v => v.ident == x.2.ident).foldl
    (fun a x => let (r, t) := freeService x.1 a.2; (a.1 ++ r, t)) ([], s)
  l.foldl (fun a v =>
    match (svcsOf a.2 w).find? fun x => x.2.ident == v.ident with
    | some x =>
      let t := { a.2 with svcs := tmod a.2.svcs x.1 fun y => { y with pty := v.pty, data := bit v.flags 3, ca := bit v.flags 4 } }
      let (r, t) := setComps x.1 (weaveState t w) false (withLabels v) t
      (a.1 ++ r, t)
    | none =>
      let (r, t) := issueService w (newService a.2 w tech v.ident (if tech = 3 then eid else 0) 0 v) (withLabels v) a.2
      (a.1 ++ r, t)) (rel, s)

/-- An FM service's identifier changes at the boundary after acceptance (R326). -/
def identChange (w ident ecc : Nat) (s : State) : State :=
  match s.svcs.find? fun x => x.2.weave == some w with
  | some (i, v) =>
    let new := ident + ecc * 65536
    let s := { s with svcs := tset s.svcs i { v with ident := new, ecc := ecc, identified := true } }
    if v.ident % 65536 = 0 ∨ ident = v.ident % 65536 then s else ev 0x0810 (svcBody s (handleOf s 5 i) 3 new v.ident) s
  | none => s

/-- A change of a weave's services falls due (R323, R326). -/
def applySvcChange (c : SvcChange) (s : State) : List Handle × State :=
  match weaveAt s c.weave with
  | some w =>
    match c.ident with
    | some (a, b) =>
      if w.type = 2 then ([], identChange c.weave a b s)
      else if w.type = 3 then
        if s.svcs.any fun x => x.2.weave == some c.weave && x.2.tech == 5 then ([], s)
        else issueService c.weave (newService s c.weave 5 (a + b * 65536) a b ⟨0, 0, 0, []⟩) [plainComp 8, plainComp 3] s
      else ([], s)
    | none => setServices c.weave c.svcs s
  | none => ([], s)

/-- The changes of services due at the present boundary, in the order they came (R323, R326); EV_INVENTORY_FULL once for the pick
(R327). A module in MIRROR makes none of its own accord (R612). -/
def svcDue (s : State) : List Handle × State :=
  let l := if mirroring s = true then [] else s.svcChg.filter fun c => c.due ≤ s.sys.ord
  let s := { s with svcChg := s.svcChg.filter fun c => s.sys.ord < c.due }
  l.foldl (fun a c => let (r, t) := applySvcChange c a.2; (a.1 ++ r, t)) ([], s)

/-- EV_INVENTORY_FULL for the pick (R327, R343). -/
def tellFull (w : Handle) (s : State) : State :=
  if s.invFull then ev 0x0811 (handleBytes w ++ leBytes 8 s.tb.pick) { s with invFull := false } else s

/-- An object takes the state of what it stands under, IDLE or ACTIVE; while SUSPENDED, as the state it resumes. -/
def Obj.follows (t : Option OState) (o : Obj) : Obj :=
  match t with
  | some .idle => if o.st = .suspended then { o with prior := .idle } else if o.st = .active then { o with st := .idle } else o
  | some .active => if o.st = .suspended then { o with prior := .active } else if o.st = .idle then { o with st := .active } else o
  | _ => o

/-- Services and components take the state of their weave, IDLE or ACTIVE (R324); a follow set is ACTIVE while a source is, and IDLE
while none is and one is IDLE (R26, R33). (log 131: DEDUCED) -/
def alignServices (s : State) : State :=
  let stOf := fun (v : Nat) => ((svcAt s v).bind (·.weave)).map (weaveState s)
  let fix := fun (o : Obj) =>
    o.follows (if o.cls = 5 then stOf o.idx else if o.cls = 6 then (compAt s o.idx).bind fun c => stOf c.svc else none)
  let s := { s with reg := { s.reg with objs := s.reg.objs.map fix } }
  let has := fun (o : Obj) (t : OState) => o.inputs.any fun h => (objOf s h).any (·.st == t)
  let fix := fun (o : Obj) =>
    o.follows (if o.cls = 7 then (if has o .active then some .active else if has o .idle then some .idle else none) else none)
  { s with reg := { s.reg with objs := s.reg.objs.map fix } }

/-- Whether a service is present in the pick that ends: its weave is ACTIVE, and in sync where it is digital (R342). -/
def present (s : State) (w : Nat) : Bool :=
  weaveState s w == .active && match tget s.dig w with
    | some d => d.sync ≥ (if ((weaveAt s w).map (·.type)).getD 0 = 3 then 2 else 3)
    | none => true

/-- Services heard in the pick that ends. (log 125: DEDUCED) -/
def heardEnd (s : State) : State :=
  { s with svcs := s.svcs.map fun x => if (x.2.weave.any (present s)) then (x.1, { x.2 with last := now s, lastOrd := s.sys.ord }) else x }

/-! Labels and linkage. -/

/-- UTF-8 of a code point (R331). -/
def utf8 (c : Nat) : List Byte :=
  if c < 0x80 then byte c
  else if c < 0x800 then byte (0xC0 + c / 64) ++ byte (0x80 + c % 64)
  else if c < 0x10000 then byte (0xE0 + c / 4096) ++ byte (0x80 + c / 64 % 64) ++ byte (0x80 + c % 64)
  else byte (0xF0 + c / 262144) ++ byte (0x80 + c / 4096 % 64) ++ byte (0x80 + c / 64 % 64) ++ byte (0x80 + c % 64)

/-- RDS codes as UTF-8 (R331). (log 82: DESIGN CHOICE) -/
def rdsText (l : List Nat) : List Byte := l.flatMap fun c => utf8 (Config.rdsChar c).toNat

/-- UCS-2 codes as UTF-8 (R331): a half of a surrogate pair has no mapping, nor has an odd byte. (log 82: DESIGN CHOICE) -/
def ucsText : List Byte → List Byte
  | a :: b :: l =>
    let c := 256 * a.toNat + b.toNat
    utf8 (if inR 0xD800 c 0xDFFF then 0xFFFD else c) ++ ucsText l
  | [] => []
  | [_] => utf8 0xFFFD

/-- The text of a DAB or DRM label in the set its FIG or SDC signals (R331): EBU Latin, UCS-2, UTF-8; none in any other. (log 82: DESIGN CHOICE) -/
def digText (cset : Nat) (raw : List Byte) : Option (List Byte) :=
  match cset with
  | 0 => some (raw.flatMap fun b => utf8 (Config.ebuChar b.toNat).toNat)
  | 6 => some (ucsText raw)
  | 15 => some raw
  | _ => none

/-- Publishes a label in a list: the latest of its kind. -/
def putLabel (l : LabelRec) (ls : List LabelRec) : List LabelRec := (ls.filter fun x => x.kind != l.kind) ++ [l]

/-- A linkage entry is added or renewed (R329): the 64 most recently received stay. -/
def putLink (l : Link) (ls : List Link) : List Link :=
  let same := fun (x : Link) => x.kind == l.kind && x.tech == l.tech && x.ident == l.ident && x.freq == l.freq && x.lsn == l.lsn
  let r := ls.filter fun x => !same x
  let r := if r.length ≥ 64 then (match least (·.heard) r with
    | some x => r.erase x
    | none => r) else r
  r ++ [l]

/-- The label record body (R332). -/
def labelBytes (l : LabelRec) : List Byte :=
  byte l.kind ++ byte l.cset ++ byte l.tags.length ++ zeros 1 ++ leBytes 2 l.mask ++ leBytes 2 l.text.length ++ l.text
    ++ l.tags.flatMap fun t => byte t.1 ++ byte t.2.1 ++ byte t.2.2 ++ zeros 1

/-- A side-data record (R332): its header and its body, padded to a multiple of 4 bytes. -/
def recordBytes (type flags : Nat) (comp : Handle) (pick sample : Nat) (body : List Byte) : List Byte :=
  padTo 4 (leBytes 2 type ++ leBytes 2 flags ++ leBytes 4 body.length ++ handleBytes comp ++ zeros 4 ++ leBytes 8 pick ++ leBytes 2 sample ++ zeros 6 ++ body)

/-- A record of a component at a capture position, by boundary count and 48 kHz sample (R332). -/
def putRecord (comp type flags cap sample : Nat) (body : List Byte) (s : State) : State :=
  let r := recordBytes type flags (handleOf s 6 comp) (pickOf s cap) sample body
  { s with comps := tmod s.comps comp fun c => { c with recs := c.recs ++ [r] } }

/-- The component of a service that has a kind. -/
def kindOf (s : State) (v kind : Nat) : Option Nat := ((compsOf s v).find? fun c => c.2.info.kind == kind).map (·.1)

/-- A record on the component of a service that carries its kind; none where there is none. -/
def kindRecord (v kind type flags cap sample : Nat) (body : List Byte) (s : State) : State :=
  match kindOf s v kind with
  | some c => putRecord c type flags cap sample body s
  | none => s

/-- The first `n` bytes of UTF-8 text, cut at a code-point boundary: `k` steps back at most. -/
def cutText : Nat → List Byte → Nat → List Byte
  | 0, t, n => t.take n
  | k + 1, t, n => match t[n]? with
    | some b => if b.toNat / 64 = 2 then cutText k t (n - 1) else t.take n
    | none => t.take n

/-- The label of SERVICE_READ: the service label, or PS (R342). -/
def svcLabel (v : Service) : List Byte :=
  let t := ((v.labels.find? fun l => l.kind == 5 || l.kind == 1 || l.kind == 8 || l.kind == 4).map (·.text)).getD []
  let c := cutText 4 t 48
  c ++ zeros (48 - c.length)

/-! Commands. -/

/-- SERVICE_LIST (R342, R472). -/
def execServiceList (h : Hdr) (start : Nat) (s : State) : Host.Outcome State Fault Refusal :=
  serve (.serviceList h start) 0x0810 .operator .fw h nullHandle (fun s => chk do
    let l := (objsOf s 5).filter fun o => start ≤ o.idx
    let n := min (min l.length 256) ((payloadLimit s h.via - 4) / 4)
    okay (leBytes 2 (objsOf s 5).length ++ leBytes 2 n ++ (l.take n).flatMap fun o => handleBytes o.handle) s) s

/-- The SERVICE_READ reply (R342). -/
def serviceBytes (s : State) (o : Obj) (v : Service) : List Byte :=
  handleBytes o.handle ++ byte o.st.code ++ byte v.tech
    ++ byte (flagBits [v.identified, v.tp, v.ta, v.data, v.ca, v.survey, v.adopted]) ++ byte (v.pty % 32 + 128 * flag v.rbds)
    ++ leBytes 4 v.ident ++ byte v.ecc ++ leCount 1 (compsOf s o.idx).length ++ leBytes 2 (if v.tech = 3 ∨ v.tech = 5 then v.eid else 0)
    ++ handleBytes (v.weave.elim nullHandle (handleOf s 4)) ++ leBytes 4 v.freq ++ leBytes 2 v.field ++ leBytes 2 v.links.length
    ++ zeros 4 ++ leBytes 8 v.first ++ leBytes 8 v.last ++ svcLabel v

/-- SERVICE_READ (R342). -/
def execServiceRead (h : Hdr) (svc : Handle) (s : State) : Host.Outcome State Fault Refusal :=
  serve (.serviceRead h svc) 0x0811 .operator .fw h svc (fun s => chk do
    let o ← objNow s svc 5
    let v ← get! .badHandle (svcAt s (hIndex svc))
    okay (serviceBytes s o v) s) s

/-- The output streams a component feeds. -/
def outputsOf (s : State) (h : Handle) : Nat := (s.reg.objs.filter fun o => o.cls == 8 && o.inputs.contains h).length

/-- The COMPONENT_READ reply (R342). -/
def componentBytes (s : State) (o : Obj) (c : Component) : List Byte :=
  let i := c.info
  let slot := s.dig.any fun d => d.2.slots.any fun x => x.comp == o.handle
  handleBytes o.handle ++ handleBytes (handleOf s 5 c.svc) ++ byte o.st.code ++ byte i.kind ++ byte i.codec ++ byte i.lang
    ++ byte i.subch ++ byte i.scids ++ byte (flagBits [bit i.flags 0, slot, bit i.flags 2]) ++ leCount 1 (outputsOf s o.handle)
    ++ leBytes 2 i.rate ++ leBytes 2 i.app ++ leCount 4 c.discarded ++ leBytes 8 (now s)

/-- COMPONENT_READ (R342). -/
def execComponentRead (h : Hdr) (comp : Handle) (s : State) : Host.Outcome State Fault Refusal :=
  serve (.componentRead h comp) 0x0812 .operator .fw h comp (fun s => chk do
    let o ← objNow s comp 6
    let c ← get! .badHandle (compAt s (hIndex comp))
    okay (componentBytes s o c) s) s

/-- LABEL_READ (R342): the latest label of a kind, or one with no text. -/
def execLabelRead (h : Hdr) (obj : Handle) (kind : Nat) (s : State) : Host.Outcome State Fault Refusal :=
  serve (.labelRead h obj kind) 0x0813 .operator .fw h obj (fun s => chk do
    need (inR 1 kind 9) .badParam
    let ls ← (if hClass obj = 5 then do
        let _ ← objNow s obj 5
        (get! .badHandle ((svcAt s (hIndex obj)).map (·.labels)) : Chk (List LabelRec))
      else do
        let _ ← objNow s obj 6
        get! .badHandle ((compAt s (hIndex obj)).map (·.labels)))
    okay (labelBytes ((ls.find? fun l => l.kind == kind).getD ⟨kind, 0, 0, [], []⟩)) s) s

/-- A linkage entry as it is laid out (R329). -/
def linkBytes (s : State) (l : Link) : List Byte :=
  byte l.kind ++ byte l.tech ++ byte l.flags ++ zeros 1 ++ leBytes 4 l.ident ++ leBytes 4 l.freq ++ leBytes 2 l.lsn
    ++ leCount 2 ((s.sys.ord - l.heard) / 1000)

/-- LINK_READ (R342, R472). -/
def execLinkRead (h : Hdr) (svc : Handle) (start : Nat) (s : State) : Host.Outcome State Fault Refusal :=
  serve (.linkRead h svc start) 0x0814 .operator .fw h svc (fun s => chk do
    let _ ← objNow s svc 5
    let v ← get! .badHandle (svcAt s (hIndex svc))
    let l := v.links.drop start
    let n := min l.length ((payloadLimit s h.via - 4) / 16)
    okay (leBytes 2 v.links.length ++ leBytes 2 n ++ (l.take n).flatMap (linkBytes s)) s) s

/-- A service is SUSPENDED with cause RELEASED (R324). -/
def svcReleased (o : Obj) : Bool := o.st == .suspended && o.relIn

/-- SERVICE_RELEASE (R324). -/
def execServiceRelease (h : Hdr) (svc : Handle) (target : Nat) (s : State) : Host.Outcome State Fault Refusal :=
  serve (.serviceRelease h svc target) 0x0815 .operator .run h svc (fun s => chk do
    let due ← get! .badParam (dueOf s target)
    let o ← objIs s svc 5
    need (svcReleased o) .conflict
    okay (posReply s due 0) (sched ⟨due, 0, svc, 10, .serviceRelease h svc target, 0⟩ s)) s

end Sys2Proof.Machine
end

