-- ==== Sys2Proof/Machine/Levels.lean ====
section
/-! DEFINITION. Logarithmic levels: ten times the logarithm of a ratio, and the mean of powers, each to the nearest unit of the quantity (R380, R382, R383, R387). -/

namespace Sys2Proof.Machine

/-- A power of a fraction held with 160 fractional bits. -/
def fracPow : Nat → Nat → Nat → Nat
  | 0, _, _ => 2 ^ 160
  | f + 1, c, d => let h := fracPow f (c * c / 2 ^ 160) (d / 2); if d % 2 = 1 then h * c / 2 ^ 160 else h

/-- Half a unit of a logarithmic quantity as a fraction with 160 bits: 10^(-1/200) for 0.1 dB, 10^(-1/2000) for 0.01 dB. -/
def halfStep (fine : Bool) : Nat :=
  if fine then 1459819989609143033433562129185932312891834261795 else 1444771966429647172307035939241580248622021125592

/-- The smallest number of steps at which a test holds, below a bound. -/
def firstStep (f : Nat → Bool) : Nat → Nat → Nat → Nat
  | 0, lo, _ => lo
  | n + 1, lo, hi => if hi ≤ lo then lo else let m := (lo + hi) / 2; if f m then firstStep f n lo m else firstStep f n (m + 1) hi

/-- How many steps of 0.1 dB, or of 0.01 dB where `fine`, a ratio not above 1 lies below it, to the nearest. -/
def stepsUnder (fine : Bool) (num den : Nat) : Nat :=
  firstStep (fun e => decide (fracPow 40 (halfStep fine) (2 * e + 1) * den ≤ num * 2 ^ 160)) 17 0 65536

/-- Ten times the logarithm of a ratio in 0.1 dB, or in 0.01 dB where `fine`, to the nearest; a ratio of 0 has none. -/
def tenLog (fine : Bool) (num den : Nat) : Option Int :=
  if num = 0 ∨ den = 0 then none
  else if num ≤ den then some (-(stepsUnder fine num den : Int))
  else some (stepsUnder fine den num)

/-- The field strength in 0.1 dBµV EMF of a mean power (R380); there is none of no power. -/
def fieldLevel (warp power : Nat) : Option Int :=
  if warp < 6 then (tenLog false power (524288000 ^ 2)).map (· + 1080) else (tenLog false power (104857600 ^ 2)).map (· + 1130)

/-- A count of a whole, in parts of `unit`, to the nearest. -/
def ratio (unit num den : Nat) : Int := if den = 0 then 0 else ((2 * num * unit + den) / (2 * den) : Nat)

/-- The mean of powers given in a logarithmic unit with how often each occurs, to the nearest (R383, R385). -/
def powerMean (fine : Bool) (l : List (Int × Nat)) : Int :=
  let c := halfStep fine
  let top := l.foldl (fun m x => max m x.1) ((l.headD (0, 0)).1)
  let sum := l.foldl (fun n x => n + x.2 * fracPow 40 c (2 * (top - x.1).toNat)) 0
  let count := l.foldl (fun n x => n + x.2) 0
  top - firstStep (fun e => decide (fracPow 40 c (2 * e + 1) * count < sum)) 17 0 65536

end Sys2Proof.Machine
end

