-- ==== Sys2Proof/Machine/Input.lean ====
section
/-! DEFINITION. The input of the weaves (R264, R273, R274, R298): what the sample flags of the dents' rings make of a capture pick, spans of the aerial timeline
in 1/6144 ms, and the correction of the frequencies measured on a dent (R379). -/

namespace Sys2Proof.Machine

/-! Seconds. -/

/-- Where the measurement second of a pick begins (R377): the last pick 0 up to it, among the runs of the numbering. -/
def secBack (s : State) : Nat → Nat → Nat
  | 0, o => o
  | n + 1, o =>
    let r := s.tb.run o
    let a := o - pickOf s o % 1000
    if r.ord ≤ a then a else if r.ord = 0 then 0 else secBack s n (r.ord - 1)

/-- The boundary count of pick 0 of the measurement second that a pick lies in (R377). -/
def secStart (s : State) (o : Nat) : Nat := secBack s s.tb.runs.length o

/-- A pick is the last of its measurement second (R377). -/
def secEnds (s : State) (o : Nat) : Bool := pickOf s (o + 1) % 1000 == 0

/-! Spans. -/

/-- A span has an instant in common with a list of spans. -/
def touches (l : List (Nat × Nat)) (a b : Nat) : Bool := l.any fun x => x.1 < b && a < x.2

/-- How much of a span lies in one of a list of spans that do not overlap. -/
def covered (l : List (Nat × Nat)) (a b : Nat) : Nat := l.foldl (fun n x => n + (min b x.2 - max a x.1)) 0

/-- A span is put at the end of a list, joined with the last where they meet. -/
def addSpan (l : List (Nat × Nat)) (a b : Nat) : List (Nat × Nat) :=
  match l.getLast? with
  | some x => if a ≤ x.2 then l.dropLast ++ [(x.1, max x.2 b)] else l ++ [(a, b)]
  | none => [(a, b)]

/-- The spans, of `step` each from `x` on, of the entries that are set; `acc` are those before, the last first. -/
def spansGo (step : Nat) : List Bool → Nat → List (Nat × Nat) → List (Nat × Nat)
  | [], _, acc => acc.reverse
  | b :: l, x, acc =>
    spansGo step l (x + step) (if !b then acc else match acc with
      | y :: t => if y.2 = x then (y.1, x + step) :: t else (x, x + step) :: acc
      | [] => [(x, x + step)])

/-- Spans that end before an instant are forgotten. -/
def keepSpans (l : List (Nat × Nat)) (x : Nat) : List (Nat × Nat) := l.filter fun y => x < y.2

/-! The combined input. -/

/-- A sample of the combined input: missing, INVALID, OVERLOAD or SATURATED, PROBE_DISTURBED, and the branches with weight, a bit each (R264, R274). -/
structure InSample where
  miss : Bool
  inv  : Bool
  ovl  : Bool
  pd   : Bool
  used : Nat

/-- A branch's sample is missing (R258, R264, R274): INVALID, or DISCONTINUITY but where the weave itself moved the delay. -/
def branchMiss (own : List (Nat × Nat)) (dent j : Nat) (b : Byte) : Bool := b.getLsbD 0 || (b.getLsbD 6 && !own.contains (dent, j))

/-- The combined sample of the branches at hand: place, dent and flags of each (R274). (log 148: DEDUCED) -/
def combine (own : List (Nat × Nat)) (j : Nat) (l : List (Nat × Nat × Byte)) : InSample :=
  let there := l.filter fun x => !branchMiss own x.2.1 j x.2.2
  let clean := there.filter fun x => !x.2.2.getLsbD 2 && !x.2.2.getLsbD 5
  let with_ := if there.any (fun x => !x.2.2.getLsbD 2) && !clean.isEmpty then clean else there
  { miss := with_.isEmpty, inv := with_.isEmpty && !l.any fun x => !x.2.2.getLsbD 0
    ovl := with_.any fun x => x.2.2.getLsbD 2 || x.2.2.getLsbD 5
    pd := with_.any fun x => x.2.2.getLsbD 3, used := with_.foldl (fun m x => m + 2 ^ x.1) 0 }

/-- The combined samples of a pick: `n` of them from sample `j` on. -/
def combineGo (own : List (Nat × Nat)) : Nat → Nat → List (Nat × Nat × List Byte) → List InSample
  | 0, _, _ => []
  | n + 1, j, l =>
    combine own j (l.filterMap fun x => x.2.2.head?.map fun b => (x.1, x.2.1, b)) :: combineGo own n (j + 1) (l.map fun x => (x.1, x.2.1, x.2.2.drop 1))

/-- The branches of a weave at hand in the pick that ends: place, dent and flags; an optional dent that is not available is dropped (R28, R274). -/
def branchesOf (s : State) (w : Weave) : List (Nat × Nat × List Byte) :=
  w.dents.zipIdx.filterMap fun h => match objOf s h.1, dentAt s (hIndex h.1) with
    | some o, some x => if o.st = .active then some (h.2, hIndex h.1, x.ring) else none
    | _, _ => none

/-- The rate code of a weave's dents (R21). -/
def weaveRate (s : State) (w : Weave) : Nat := ((w.dents.head?.bind fun h => dentAt s (hIndex h)).map (·.rate)).getD 0

/-- The combined samples of a weave over the pick that ends. -/
def weaveInput (s : State) (w : Weave) : List InSample :=
  let l := branchesOf s w
  combineGo w.own (((l.map fun x => x.2.2.length).foldl max 0)) 0 l

/-- The instants in 1/6144 ms from one sample of a rate code to the next. -/
def rateStep (rate : Nat) : Nat := 6144 / rateS rate

/-- The gaps of one dent of a digital weave after the pick that ends (R298). -/
def dentGaps (s : State) (w : Weave) (k : Nat) (h : Handle) : List (Nat × Nat) :=
  let base := tickOf s s.sys.ord 0
  let old := keepSpans (nth w.gaps k []) (base - 3072000)
  match objOf s h, dentAt s (hIndex h) with
  | some o, some x =>
    if o.st = .active then spansGo (rateStep x.rate) (x.ring.map fun b => b.getLsbD 0 || b.getLsbD 6) base old.reverse
    else addSpan old base (tickOf s (s.sys.ord + 1) 0)
  | _, _ => addSpan old base (tickOf s (s.sys.ord + 1) 0)

/-- A weave takes the flags of the pick that ends (R273, R274, R298). -/
def weaveTakes (s : State) (l : List InSample) (w : Weave) : Weave :=
  let base := tickOf s s.sys.ord 0
  let stop := tickOf s (s.sys.ord + 1) 0
  let keep := fun (v : List (Nat × Nat)) (b : Bool) => let v := keepSpans v (base - 15360000); if b then addSpan v base stop else v
  let n := l.length / 4
  let quarter := fun (k : Nat) => ((l.drop (k * n)).take n).foldl (fun m x => m ||| x.used) 0
  { w with own := [], ovl := keep w.ovl (l.any (·.ovl)), pd := keep w.pd (l.any (·.pd))
           gaps := if w.type ≤ 2 then [] else w.dents.zipIdx.map fun h => dentGaps s w h.2 h.1
           avail := if w.type ≤ 2 then ((s.sys.ord, (List.range 4).map quarter) :: w.avail).take 4 else [] }

/-- A weave was ACTIVE in the pick that ends. -/
def weaveOn (s : State) (i : Nat) : Bool := (objAt s 4 i).any fun o => o.st == .active

/-! Frequencies. -/

/-- The rate s at which a warp's converter clock departs from the reference, in 10⁻⁹, positive when it is fast (R58, R66, R67, R379): of a slew, which catches up where the
module is late, of a movement of the pick phase and of one of the warp's own trim, which make it late. (log 149: DEDUCED) -/
def clockRate (s : State) (w : Nat) : Int :=
  let c : Int := min s.tb.cfg.slew 1000 * 10
  let slew := if s.tb.slewRem = 0 then 0 else s.tb.slewRem.sign * c
  let move := fun (k : Nat) (top : Int) =>
    (((s.tb.moves.find? fun m => m.obj == k && m.running).map fun m => m.steps.sign).getD 0) * min 6144 top
  slew - move 0 (if s.tb.slewRem = 0 then 10000 else 10000 - c) - move (w + 1) 10000

/-- A frequency offset measured on a dent, in 1/`unit` Hz, is reported with s × Δf added, Δf taken from the achieved LO, or the frequency itself on an HF warp
(R86, R379). (log 149: DEDUCED) -/
def corrected (s : State) (dent : Option Dent) (unit : Nat) (v : Int) : Int :=
  match dent with
  | some x =>
    let y := synAt s x.warp
    let lo : Int := if x.warp < 6 then ((achieved y.code y.n y.f : Nat) : Int) else 0
    let df := ((x.freq : Int) - lo) * unit + v * 1000000
    let d : Int := 1000000000 * 1000000
    v + (2 * (clockRate s x.warp * df) + d) / (2 * d)
  | none => v

/-- The first dent of a weave. -/
def firstDent (s : State) (w : Weave) : Option Dent := w.dents.head?.bind fun h => dentAt s (hIndex h)

end Sys2Proof.Machine
end

