-- ==== Sys2Proof/Machine/Analogue.lean ====
section
/-! DEFINITION. Analogue weaves (R262-R289): what a stage of an AM or FM weave decides and decodes does to the state, the status byte of
R262, and the status commands. -/

namespace Sys2Proof.Machine

/-- Changes what an analogue weave holds. -/
def amod (i : Nat) (f : Analogue → Analogue) (s : State) : State := { s with ana := tmod s.ana i f }

/-- The body of EV_ANALOGUE_STATE (R289). -/
def anaBody (h : Handle) (code value pick sample : Nat) : List Byte :=
  handleBytes h ++ byte code ++ zeros 3 ++ leBytes 4 value ++ leBytes 8 pick ++ leBytes 2 sample ++ zeros 2

/-- EV_ANALOGUE_STATE at the output position of an instant of the aerial timeline in 1/6144 ms, while NOTIFY is set (R43, R289). -/
def tellAna (i code value x : Nat) (s : State) : State :=
  match weaveAt s i with
  | some w =>
    if blockNotify w.type w.block then
      let p := placeOf s (x / 128 + 48 * (w.depth + 1))
      ev 0x0710 (anaBody (handleOf s 4 i) code value (pickOf s p.1) p.2) s
    else s
  | none => s

/-- The service of an analogue weave. -/
def anaSvc (s : State) (i : Nat) : Option (Nat × Service) := s.svcs.find? fun x => x.2.weave == some i

/-- Changes the service of an analogue weave. -/
def anaSvcMod (i : Nat) (f : Service → Service) (s : State) : State :=
  match anaSvc s i with
  | some x => { s with svcs := tmod s.svcs x.1 f }
  | none => s

/-! RDS. -/

/-- A PI is accepted (R278, R326): the service's identifier changes at the next boundary; a replacement is reported. -/
def piAccept (i v old x : Nat) (replace : Bool) (s : State) : State :=
  let ecc := ((tget s.ana i).map (·.ecc)).getD 0
  let s := amod i (fun a => { a with pi := v, piOk := true, piCount := 0 }) s
  let s := { s with svcChg := s.svcChg ++ [⟨s.sys.ord + 1, i, [], [], some (v, ecc)⟩] }
  if replace then tellAna i 5 (v + 65536 * old) x (amod i (fun a => { a with piSwap := true }) s) else s

/-- A PI-bearing block, error-free or corrected, at an instant in 1/6144 ms (R278). -/
def piBlock (i v x : Nat) (s : State) : State :=
  match tget s.ana i with
  | some a =>
    let seen := a.piSeen.filter fun y => x ≤ y.2 + 6144000
    let run := if v = a.piCand then a.piCount + 1 else 1
    let twice := seen.any fun y => y.1 == v
    let log := insertBy (·.1) (v, s.sys.ord) (a.piLog.filter fun y => y.1 != v && s.sys.ord < y.2 + 1000)
    let s := amod i (fun a => { a with piLog := log, piSeen := if a.piOk then [] else seen ++ [(v, x)], piCand := v, piCount := run }) s
    let id := ((anaSvc s i).map fun y => y.2.ident % 65536).getD 0
    if a.piOk then
      if v ≠ a.pi ∧ 4 ≤ run then piAccept i v a.pi x true s else s
    else if id = 0 ∨ v = id then (if twice then piAccept i v 0 x false s else s)
    else if 4 ≤ run then piAccept i v id x true s
    else s
  | none => s

/-- Publishes a label of an FM service, with its record at the position of the last bit of the group that completes it (R279, R331, R332). (log 80: DEDUCED) -/
def publish (i kind : Nat) (codes : List Nat) (tags : List (Nat × Nat × Nat)) (s : State) : State :=
  let l : LabelRec := ⟨kind, 0, 0, rdsText codes, tags⟩
  let p := tickAt s (((tget s.ana i).map (·.dec.wholeAt)).getD 0)
  match anaSvc s i with
  | some x => kindRecord x.1 3 3 0 p.1 p.2 (labelBytes l) (anaSvcMod i (fun v => { v with labels := putLabel l v.labels }) s)
  | none => s

/-- A PS segment (R279). (log 80: DEDUCED) -/
def psSegment (i addr c1 c2 : Nat) (s : State) : State :=
  match tget s.ana i with
  | some a =>
    let acc := if tget a.psLast addr = some (c1, c2) then tset a.psAcc addr (c1, c2) else a.psAcc
    let text := acc.flatMap fun x => [x.2.1, x.2.2]
    let pub := acc.length == 4 && text != a.ps
    let s := amod i (fun a => { a with psLast := tset a.psLast addr (c1, c2), psAcc := if pub then [] else acc
                                       ps := if pub then text else a.ps }) s
    if pub then publish i 1 text [] s else s
  | none => s

/-- The radio text that accepted segments make, where every one up to the end has been accepted (R279): `n` segments still to
come. -/
def rtText : Nat → Nat → Tab (List Nat) → Option (List Nat)
  | 0, _, _ => some []
  | n + 1, k, t => match tget t k with
    | some cs => if cs.contains 0x0D then some (cs.takeWhile (· != 0x0D)) else (rtText n (k + 1) t).map (cs ++ ·)
    | none => none

/-- A radio text segment (R279): a change of the A/B flag discards the text being accumulated. -/
def rtSegment (i : Nat) (ab : Bool) (addr : Nat) (cs : List Nat) (s : State) : State :=
  match tget s.ana i with
  | some a =>
    let same := a.rtFlag == some ab
    let last := if same then a.rtLast else []
    let acc := if same then a.rtAcc else []
    let acc := if tget last addr = some cs then tset acc addr cs else acc
    let text := rtText 16 0 acc
    let pub := text.any fun t => t != a.rt
    let s := amod i (fun a => { a with rtFlag := some ab, rtLast := tset last addr cs, rtAcc := acc
                                       rtPlus := if same then a.rtPlus else [], rt := if pub then text.getD [] else a.rt }) s
    if pub then publish i 2 (text.getD []) (if same then a.rtPlus else []) s else s
  | none => s

/-- RT+ tags are attached to the radio text they refer to and published with it (R279). (log 80: DEDUCED) -/
def rtTags (i : Nat) (tags : List (Nat × Nat × Nat)) (s : State) : State :=
  match tget s.ana i with
  | some a =>
    let s := amod i (fun a => { a with rtPlus := tags }) s
    if a.rt.isEmpty then s else publish i 2 a.rt tags s
  | none => s

/-! Alternative frequencies. -/

/-- An AF list that holds nothing. -/
def AfList.start (key count : Nat) : AfList := ⟨key, min count 25, [], [], 0, 0⟩

/-- An entry arrives in a list being built (R280). (log 81: DEDUCED) -/
def AfList.hit (l : AfList) (f : Nat) (reg : Bool) : AfList :=
  if f = 0 then l
  else if l.entries.any fun x => x.1 == f then
    { l with entries := l.entries.map fun x => if x.1 = f then (f, x.2.1 + 1, reg) else x }
  else if l.entries.length < 25 then { l with entries := l.entries ++ [(f, 1, reg)] }
  else l

/-- The list holds as many entries as its count announces, each having arrived at least twice (R280). (log 81: DEDUCED) -/
def AfList.complete (l : AfList) : Bool := l.entries.length == l.count && l.count != 0 && l.entries.all fun x => 2 ≤ x.2.1

/-- The entries of a complete list as they are published, in ascending frequency. -/
def AfList.set (l : AfList) : List (Nat × Bool) := sortBy (·.1) (l.entries.map fun x => (x.1, x.2.2))

/-- A complete list is published where its set of entries differs; the next list is built afresh (R280). (log 81: DEDUCED) -/
def AfList.settle (l : AfList) (pick : Nat) : AfList × Bool :=
  if l.complete then
    if l.set = l.pubd then ({ l with entries := [] }, false)
    else ({ l with entries := [], pubd := l.set, pubPick := pick }, true)
  else (l, false)

/-- A count announced anew: another count starts the list afresh (R280). (log 81: DEDUCED) -/
def AfList.announce (l : AfList) (n : Nat) : AfList :=
  if l.count = min n 25 then l else { l with count := min n 25, entries := [] }

/-- The tuned frequency of a weave in kHz. -/
def tunedKHz (s : State) (i : Nat) : Nat := ((weaveAt s i).map (weaveFreq s)).getD 0 / 1000

/-- The linkage entries of a published AF list (R329). -/
def afLinks (i : Nat) (l : List (Nat × Bool)) (s : State) : State :=
  l.foldl (fun s x => anaSvcMod i (fun v => { v with links := putLink ⟨1, 2, flag x.2, 0, x.1 * 1000, 0, s.sys.ord⟩ v.links }) s) s

/-- A method B list is put back, its key the one most recently received; a thirteenth displaces the one least recently received
(R280). (log 81: DEDUCED) -/
def putAfB (l : AfList) (ls : List AfList) : List AfList :=
  let r := ls.filter fun x => x.key != l.key
  let r := if r.length ≥ 12 then (match least (·.seen) r with
    | some x => r.erase x
    | none => r) else r
  insertBy (·.key) l r

/-- The count-bearing pair of a list (R280): method B where its second code is the weave's frequency. (log 81: DEDUCED) -/
def afCount (i pick n f : Nat) (s : State) : State :=
  match tget s.ana i with
  | some a =>
    if f ≠ 0 ∧ f = tunedKHz s i then
      let l := ((a.afB.find? fun x => x.key == f).getD (AfList.start f n)).announce n
      amod i (fun a => { a with afTuned := some f, afSeen := a.afSeen + 1, afB := putAfB { l with seen := a.afSeen } a.afB }) s
    else
      let (l, p) := ((((a.afA.getD (AfList.start 0 n)).announce n).hit f false).settle pick)
      let s := amod i (fun a => { a with afTuned := none, afA := some l }) s
      if p then afLinks i l.pubd s else s
  | none => s

/-- A later pair of a list (R280): a pair without the tuned frequency makes it a list of method A. (log 81: DEDUCED) -/
def afPair (i pick f1 f2 : Nat) (s : State) : State :=
  match tget s.ana i with
  | some a =>
    let toA := fun (l : AfList) (fs : List Nat) (s : State) =>
      let (l, p) := (fs.foldl (fun l f => l.hit f false) l).settle pick
      let s := amod i (fun a => { a with afTuned := none, afA := some l }) s
      if p then afLinks i l.pubd s else s
    match a.afTuned.bind fun k => a.afB.find? fun x => x.key == k with
    | some b =>
      if f1 = b.key ∨ f2 = b.key then
        let (l, p) := (if f1 = b.key then b.hit f2 false else b.hit f1 true).settle pick
        let s := amod i (fun a => { a with afSeen := a.afSeen + 1, afB := putAfB { l with seen := a.afSeen } a.afB }) s
        if p then afLinks i l.pubd s else s
      else
        let old := b.entries.map (·.1)
        let s := amod i (fun a => { a with afB := if b.pubd.isEmpty then a.afB.erase b else putAfB { b with entries := [] } a.afB }) s
        toA ((a.afA.getD (AfList.start 0 b.count)).announce b.count) (b.key :: old ++ [f1, f2]) s
    | none => match a.afA with
      | some l => toA l [f1, f2] s
      | none => s
  | none => s

/-- PTY, TP, TA, MS, DI, ECC and PIN as decoded (R281); the inventory takes those it lists. -/
def rdsInfo (i pty : Nat) (tp ta ms : Bool) (di ecc pin : Nat) (s : State) : State :=
  let s := amod i (fun a => { a with pty := pty, tp := tp, ta := ta, ms := ms, di := di, ecc := ecc, pin := pin }) s
  anaSvcMod i (fun v => { v with pty := pty, tp := tp, ta := ta, ecc := ecc
                                 ident := if v.ident = 0 then 0 else v.ident % 65536 + ecc * 65536 }) s

/-! Marks and blocks. -/

/-- The type block that a capture pick is processed with (R260). -/
def blockFor (w : Weave) (a : Analogue) (cap : Nat) : List Byte := ((a.olds.find? fun o => cap < o.1).map (·.2)).getD w.block

/-- What a weave's status tells of changes at an instant. -/
def setMark (i x code : Nat) (on : Bool) (s : State) : State := amod i (fun a => { a with marks := a.marks ++ [(x, code, on)] }) s

/-- What a code stood at, at an instant: as the last change up to it left it. -/
def markAt (l : List (Nat × Nat × Bool)) (code x : Nat) : Bool :=
  (l.foldl (fun (b : Nat × Bool) m => if m.2.1 = code ∧ m.1 ≤ x ∧ b.1 ≤ m.1 then (m.1, m.2.2) else b) (0, false)).2

/-- A code was on at an instant from `x` to before `y`. -/
def markAny (l : List (Nat × Nat × Bool)) (code x y : Nat) : Bool :=
  markAt l code x || l.any fun m => m.2.1 == code && x ≤ m.1 && m.1 < y && m.2.2

/-- A code was on throughout. -/
def markAll (l : List (Nat × Nat × Bool)) (code x y : Nat) : Bool :=
  markAt l code x && l.all fun m => !(m.2.1 == code && x ≤ m.1 && m.1 < y && !m.2.2)

/-! Decisions. -/

/-- RDS block sync is gained or lost at an instant (R276). -/
def setRds (i x : Nat) (on : Bool) (s : State) : State :=
  if (tget s.ana i).any fun a => a.rds != on then
    tellAna i (if on then 3 else 4) 0 x (setMark i x 0 on (amod i (fun a => { a with rds := on }) s))
  else s

/-- The pilot decision changes (R269): stereo decoding begins or ends with it, unless it is set to MONO. -/
def setPilot (i x : Nat) (on : Bool) (s : State) : State :=
  if (tget s.ana i).any fun a => a.pilot != on then
    let stereo := on && (weaveAt s i).any fun w => tb8 w.block 0 != 2
    tellAna i (if on then 1 else 2) 0 x (setMark i x 1 stereo (setMark i x 3 on (amod i (fun a => { a with pilot := on }) s)))
  else s

/-- The carrier PLL locks or unlocks (R283). -/
def setCarrier (i x : Nat) (on : Bool) (s : State) : State :=
  if (tget s.ana i).any fun a => a.carrier != on then
    tellAna i (if on then 6 else 7) 0 x (setMark i x 4 on (amod i (fun a => { a with carrier := on }) s))
  else s

/-- The detection in use (R283, R284, R288): synchronous while the PLL is locked and the setting is a SYNC mode, else the envelope. -/
def detectOf (w : Weave) (a : Analogue) : Nat :=
  if a.carrier ∧ tb8 w.block 1 < 4 then (if tb8 w.block 1 = 3 then a.side else tb8 w.block 1) else 3

/-! The PLLs. -/

/-- A PLL over a stretch up to `t1` with `d` of valid input in which its phase error is small, or large, or its tone weak (R269, R283): it locks after `lockT` of small error, and unlocks
after 5 ms of large error or `weakT` of a weak tone. The instant of a change. (log 150: DEDUCED) -/
def pllStep (lockT weakT : Nat) (small large weak : Bool) (t1 d : Nat) (p : Pll) : Pll × Option Nat :=
  if p.locked then
    let wi := if large then p.wide + d else 0
    let we := if weak then p.weak + d else 0
    let a := if 30720 ≤ wi then some (wi - 30720) else none
    let b := if weak ∧ weakT ≤ we then some (we - weakT) else none
    if a.isSome ∨ b.isSome then ({ p with locked := false, good := 0, wide := 0, weak := 0 }, some (t1 - min d (max (a.getD 0) (b.getD 0))))
    else ({ p with wide := wi, weak := we }, none)
  else
    let g := if small then p.good + d else 0
    if lockT ≤ g then ({ p with locked := true, good := 0, wide := 0, weak := 0 }, some (t1 - min d (g - lockT)))
    else ({ p with good := g }, none)

/-- The stretches of a capture pick with the reading in force in each. -/
def readSpans (base x stop : Nat) (last : PllRead) : List PllRead → List (Nat × Nat × PllRead)
  | [] => [(x, stop, last)]
  | r :: l => let y := min stop (max x (base + r.at_)); (x, y, last) :: readSpans base y stop r l

/-- The pilot PLL over a stretch (R269): for how long the pilot has been there and away. Missing input stops its clocks (R264). -/
def pilotStep (a : Analogue) (x : Nat × Nat × PllRead) : Analogue :=
  let (t0, t1, r) := x
  let d := t1 - t0 - covered a.runs t0 t1
  let strong := decide (200 ≤ r.level)
  let (p, c) := pllStep 30720 30720 (decide (r.phase.natAbs ≤ 100) && strong) (decide (450 < r.phase.natAbs)) (!strong) t1 d a.pll
  let since := c.elim d (t1 - ·)
  { a with pll := { p with last := r }
           held := if p.locked ∧ 300 ≤ r.level then (if c.isSome then since else a.held + d) else 0
           out := if !strong then a.out + d else if p.locked then 0 else if c.isSome then since else a.out + d }

/-- The readings of the pilot PLL in a capture pick (R269): the decision takes effect at the boundary that ends it. -/
def pilotTone (i cap : Nat) (l : List PllRead) (s : State) : State :=
  match tget s.ana i with
  | some a =>
    let base := tickOf s cap 0
    let stop := tickOf s (cap + 1) 0
    let b := (readSpans base base stop a.pll.last l).foldl pilotStep a
    let s := amod i (fun _ => b) s
    if a.pilot = false ∧ 307200 ≤ b.held then setPilot i stop true s
    else if a.pilot = true ∧ 1228800 ≤ b.out then setPilot i stop false s
    else s
  | none => s

/-- The carrier PLL over a stretch (R283): it captures within ±200 Hz, and a carrier more than 30 dB below its mean of the last second is lost at once. -/
def carrierStep (i : Nat) (mean : Nat) (s : State) (x : Nat × Nat × PllRead) : State :=
  match tget s.ana i with
  | some a =>
    let (t0, t1, r) := x
    let d := t1 - t0 - covered a.runs t0 t1
    let weak := decide (r.level ^ 2 * 1000 < mean ^ 2)
    let small := decide (r.phase.natAbs ≤ 100) && decide (r.freq.natAbs ≤ 20000) && !weak
    let (p, c) := pllStep 122880 0 small (decide (450 < r.phase.natAbs)) weak t1 d a.pll
    let s := amod i (fun a => { a with pll := { p with last := r } }) s
    match c with
    | some y => setCarrier i y p.locked s
    | none => s
  | none => s

/-- The readings of the carrier PLL in a capture pick (R283). -/
def carrierTone (i cap : Nat) (l : List PllRead) (s : State) : State :=
  match tget s.ana i with
  | some a =>
    let base := tickOf s cap 0
    let stop := tickOf s (cap + 1) 0
    let spans := readSpans base base stop a.pll.last l
    let mean := if a.amps.isEmpty then 0 else a.amps.sum / a.amps.length
    let here := spans.foldl (fun n x => n + x.2.2.level * (x.2.1 - x.1)) 0 / (stop - base)
    amod i (fun a => { a with amps := (here :: a.amps).take 1000 }) (spans.foldl (carrierStep i mean) s)
  | none => s

/-- The adjacent carriers measured at an instant (R284, R286): the sideband of SYNC_AUTO. (log 150: DEDUCED) -/
def amAdjacent (x : Nat) (below above : Int) (a : Analogue) : Analogue :=
  let a := { a with adj := (below, above) }
  if below < -400 ∧ above < -400 then { a with side := 0, other := none }
  else if a.side = 0 then { a with side := if above < below then 2 else 1, other := none }
  else
    let better := if a.side = 1 then decide (above + 60 ≤ below) else decide (below + 60 ≤ above)
    if !better then { a with other := none }
    else match a.other with
      | none => { a with other := some x }
      | some y => if y + 6144000 ≤ x then { a with side := 3 - a.side, other := none } else a

/-! Stereo, the channel filter, diversity. -/

/-- A second in which nothing has been gathered. -/
def AnaAcc.none : AnaAcc :=
  { peak := 0, exceed := 0, free := 0, corrected := 0, uncorr := 0, wins := [], picks := 0, snrSum := 0, snrs := 0, fm := Option.none, am := Option.none }

/-- What a second gathers, changed. -/
def accMod (i cap : Nat) (f : AnaAcc → AnaAcc) (s : State) : State :=
  let k := secStart s cap
  amod i (fun a => { a with acc := tset a.acc k (f ((tget a.acc k).getD AnaAcc.none)) }) s

/-- The target of the blend factor in 2⁻³² (R270): linear in dB between blend low and blend high. -/
def blendTarget (block : List Byte) (snr : Nat) : Nat :=
  let high := tb16 block 8
  let low := tb16 block 10
  if high ≤ snr then 2 ^ 32 else if snr ≤ low then 0 else (snr - low) * 2 ^ 32 / (high - low)

/-- The blend factor over one capture pick (R270): it follows its target with a time constant of 10 ms as it falls and of 1 s as it rises. (log 147: DEDUCED) -/
def blendStep (target b : Nat) : Nat := if target < b then b - (b - target) * 408720178 / 2 ^ 32 else b + (target - b) * 4292821 / 2 ^ 32

/-- Stage 2 of a capture pick is complete: the blend factor moves on (R270). -/
def anaBlend (i cap : Nat) (s : State) : State :=
  match weaveAt s i, tget s.ana i with
  | some w, some a =>
    let block := blockFor w a cap
    if w.type = 2 ∧ tb8 block 0 = 0 then
      let b := blendStep (blendTarget block a.snr) a.blend
      let low := decide (b * 510 < 509 * 2 ^ 32)
      let x := tickOf s cap 0
      let s := amod i (fun a => { a with blend := b }) s
      if markAt a.marks 2 x = low then s else setMark i x 2 low s
    else s
  | _, _ => s

/-- The half-bandwidth for a ratio R in 0.1 dB (R267). -/
def filterFor (r : Int) : Nat := if r < -100 then 110 else if r < 0 then 90 else if r < 100 then 70 else 50

/-- The AUTO filter takes a ratio (R267): a step to a wider one needs R 3 dB inside the wider range. -/
def filterStep (r : Int) (k : Nat) : Nat := if filterFor r < k then filterFor r else max k (filterFor (r + 30))

/-- The ratio R of a capture pick (R267): the filter of the captures from the next one on. -/
def adjacent (i cap : Nat) (r : Int) (s : State) : State :=
  match weaveAt s i, tget s.ana i with
  | some w, some a =>
    if tb16 (blockFor w a cap) 6 = 0 then
      let k := filterStep r a.filter
      setMark i (tickOf s (cap + 1) 0) 5 (decide (k < 100)) (amod i (fun a => { a with filter := k }) s)
    else s
  | _, _ => s

/-- The place of the largest entry, the first of equal ones. -/
def largest (l : List Nat) : Nat := (l.zipIdx.foldl (fun (b : Nat × Nat) x => if b.1 < x.1 then x else b) (0, 0)).2

/-- The branches over 250 µs (R274): `l` amplitude and noise power, `mask` the branches with weight. The branch of SELECT, and the one with the largest weight. (log 148: DEDUCED) -/
def branchStep (select : Bool) (a : Analogue) (l : List (Nat × Nat)) (mask : Nat) : Analogue × Nat :=
  let v := l.zipIdx.map fun x => if bit mask x.2 then x.1 else (0, 0)
  let rs := (v.map fun x => x.1 ^ 2 * 2 ^ 32 / max x.2 1) :: a.ratios
  let rs := rs.take 40
  let sums := v.zipIdx.map fun x => if bit mask x.2 then rs.foldl (fun n r => n + nth r x.2 0) 0 else 0
  let best := largest sums
  let sel := if !bit mask a.sel || decide (1995 * nth sums a.sel 0 ≤ 1000 * nth sums best 0) then best else a.sel
  ({ a with ratios := rs, sel := sel }, if select then sel else largest (v.map fun x => x.1 * 2 ^ 32 / max x.2 1))

/-- The branches of a capture pick (R274, R288). -/
def branches (i cap : Nat) (l : List (List (Nat × Nat))) (s : State) : State :=
  match weaveAt s i with
  | some w =>
    let masks := ((w.avail.find? fun v => v.1 == cap).map (·.2)).getD []
    l.zipIdx.foldl (fun s x => match tget s.ana i with
      | some a =>
        let block := blockFor w a cap
        let (b, k) := branchStep (tb8 block (if w.type = 2 then 4 else 3) == 1) a x.1 (nth masks x.2 0)
        accMod i cap (fun c => { c with wins := (List.range w.dents.length).map fun j => nth c.wins j 0 + flag (j = k) }) (amod i (fun _ => b) s)
      | none => s) s
  | none => s

/-! RDS blocks. -/

/-- The spans in which the audio is muted or fades for long runs (R264): from 1 ms before the run to the end of the fade-in that begins 1 ms after it. -/
def muteSpans (runs : List (Nat × Nat)) : List (Nat × Nat) :=
  (runs.filter fun r => 12288 < r.2 - r.1).map fun r => (r.1 - 6144, r.2 + 36864)

/-- The baseband is concealed, muted or missed somewhere in a span (R264, R265). -/
def spoiled (s : State) (i : Nat) (a : Analogue) (x y : Nat) : Bool :=
  touches a.runs x y || touches (muteSpans a.runs) x y ||
    s.cluster.dead.any fun d => d.1 == i && decide (tickOf s d.2 0 < y) && decide (x < tickOf s (d.2 + 1) 0)

/-- The place in its group of a block with an offset word (R276). -/
def placeOff (off : Nat) : Nat := nth [0, 1, 2, 2, 3] off 4

/-- A group is whole (R277): where a block of it is not uncorrectable, its record enters the group stream. -/
def groupDone (i x : Nat) (s : State) : State :=
  match tget s.ana i, anaSvc s i with
  | some a, some v =>
    let g := a.dec.group
    let p := tickAt s x
    let s := amod i (fun a => { a with dec := { a.dec with whole := g, wholeAt := x, group := [] } }) s
    if g.all fun b => b.cls == 2 then s
    else
      let st := g.zipIdx.foldl (fun n b => n + b.1.cls * 4 ^ b.2) 0
      kindRecord v.1 2 1 0 p.1 p.2 (g.flatMap (fun b => leBytes 2 b.word) ++ leBytes 8 (pickOf s p.1) ++ leBytes 2 p.2 ++ byte st
        ++ byte (flagBits [g.any fun b => b.off == 3, g.any fun b => b.off == 5])) s
  | _, _ => s

/-- A block while block sync is held, whose last bit lies at an instant (R276-R278): it counts, a PI in it is taken, and the fourth block of a group makes it whole. -/
def takeBlock (i cap place x : Nat) (b : RdsBlk) (s : State) : State :=
  let s := accMod i cap (fun c => { c with free := c.free + flag (b.cls = 0), corrected := c.corrected + flag (b.cls = 1), uncorr := c.uncorr + flag (b.cls = 2) }) s
  let put := fun (d : RdsDec) => { d with bits := d.bits + 26, place := place, recent := ((b.cls == 2) :: d.recent).take 50
                                          group := ((if place = 0 then [] else d.group ++ List.replicate (place - d.group.length) ⟨2, 0, 0⟩) ++ [b]) }
  let s := amod i (fun a => { a with dec := put a.dec }) s
  let s := if b.cls < 2 ∧ ((place = 0 ∧ b.off = 0) ∨ (place = 2 ∧ b.off = 3)) then piBlock i b.word x s else s
  if place = 3 then groupDone i x s else s

/-- 43 or more of the last 50 blocks are uncorrectable: block sync is lost (R276). -/
def rdsCheck (i x : Nat) (s : State) : State :=
  match tget s.ana i with
  | some a =>
    if a.rds = true ∧ 43 ≤ (a.dec.recent.filter id).length then setRds i x false (amod i (fun a => { a with dec := RdsDec.clear a.dec.mode }) s) else s
  | none => s

/-- A block is read (R275, R276): in block sync at 26-bit spacing, blocks of which nothing came being uncorrectable; otherwise three successive error-free ones in the offset
sequence acquire block sync. (log 151: DEDUCED) -/
def rdsBlock (i cap bits sample off : Nat) (burst : Option Nat) (word : Nat) (s : State) : State :=
  match weaveAt s i, tget s.ana i with
  | some w, some a =>
    let block := blockFor w a cap
    let x := tickOf s cap (128 * sample)
    let limit := nth [0, 2, 5] (tb8 block 3) 0
    let cls := if spoiled s i a (x - 134522) x then 2 else match burst with
      | some n => if n = 0 then 0 else if n ≤ limit then 1 else 2
      | none => 2
    let d := a.dec
    if tb8 block 2 = 0 then s
    else if a.rds then
      let n := (bits - d.bits) / 26
      if n = 0 ∨ (bits - d.bits) % 26 ≠ 0 then s
      else
        let s := (List.range (n - 1)).foldl (fun s k =>
          let y := x - (n - 1 - k) * 134522
          rdsCheck i y (if (tget s.ana i).any (·.rds) then takeBlock i cap ((d.place + 1 + k) % 4) y ⟨2, 0, 0⟩ s else s)) s
        let place := (d.place + n) % 4
        let fits := placeOff off = place ∨ (off = 5 ∧ tb8 block 2 = 2)
        if (tget s.ana i).any (·.rds) then rdsCheck i x (takeBlock i cap place x ⟨if fits then cls else 2, off, word⟩ s) else s
    else
      let joins := d.chain.getLast?.any fun y => y.1 + 26 == bits && placeOff off == (placeOff y.2.2.off + 1) % 4
      let chain := if cls ≠ 0 ∨ off > 4 then [] else ((if joins then d.chain else []) ++ [(bits, x, ⟨0, off, word⟩)])
      if chain.length < 3 then amod i (fun a => { a with dec := { a.dec with chain := chain } }) s
      else
        let s := setRds i x true (amod i (fun a => { a with dec := { RdsDec.clear a.dec.mode with bits := bits - 78 } }) s)
        chain.foldl (fun s y => takeBlock i cap (placeOff y.2.2.off) y.2.1 y.2.2 s) s
  | _, _ => s

/-- The RDS setting of a capture pick's block is not the one the decoder works under (R260): block sync is dropped and acquired again from that capture pick on. -/
def rdsMode (i cap : Nat) (s : State) : State :=
  match weaveAt s i, tget s.ana i with
  | some w, some a =>
    let m := tb8 (blockFor w a cap) 2
    if w.type ≠ 2 ∨ m = a.dec.mode then s
    else setRds i (tickOf s cap 0) false (amod i (fun a => { a with dec := RdsDec.clear m }) s)
  | _, _ => s

/-- The last whole group is interpreted (R276): block sync held, its block B and the blocks needed not uncorrectable. -/
def groupSays (a : Analogue) (need : List Nat) : Bool :=
  a.rds && a.dec.whole.length == 4 && ([1] ++ need).all fun k => (nth a.dec.whole k ⟨2, 0, 0⟩).cls < 2

/-! Seconds. -/

/-- The first and the last instant of the measurement second that ends with a capture pick (R272). -/
def secondOf (s : State) (cap : Nat) : Nat × Nat := (tickOf s (secStart s cap) 0, tickOf s (cap + 1) 0)

/-- The samples of a capture pick that were neither concealed nor muted, in 1/6144 ms (R273). -/
def goodTicks (s : State) (a : Analogue) (cap : Nat) : Nat :=
  let base := tickOf s cap 0
  let bad := a.runs ++ muteSpans a.runs
  ((List.range ((tickOf s (cap + 1) 0 - base) / 128)).filter fun j => !touches bad (base + 128 * j) (base + 128 * j + 1)).length * 128

/-- The largest |MPX| of a capture pick (R272, R273): over its samples that were neither concealed nor muted. -/
def fmLevel (i cap : Nat) (peak : Option Nat) (s : State) : State :=
  match weaveAt s i, tget s.ana i, peak with
  | some w, some a, some p =>
    let n := goodTicks s a cap
    if n = 0 then s
    else
      let above := decide (tb16 (blockFor w a cap) 12 < p)
      accMod i cap (fun c => { c with peak := max c.peak p, exceed := c.exceed + flag above }) (amod i (fun a => { a with mpxGood := a.mpxGood + n }) s)
  | _, _, _ => s

/-- The branch shares of a second in per cent, to the nearest (R288). -/
def sharesOf (l : List Nat) : List Nat := l.map fun n => if l.sum = 0 then 0 else (200 * n + l.sum) / (2 * l.sum)

/-- The flags of a second (R273, R286): FILTERED, OVERLOAD, PROBE_DISTURBED at bits 1 to 3. -/
def secondFlags (w : Weave) (a : Analogue) (x : Nat × Nat) : Nat :=
  flagBits [false, w.type == 2 && markAny a.marks 5 x.1 x.2, touches w.ovl x.1 x.2, touches w.pd x.1 x.2]

/-- An FM second is over (R272, R273): pilot and RDS values read 0 where they were not held throughout it. -/
def fmSecond (i cap : Nat) (v : FmMeas) (s : State) : State :=
  match weaveAt s i, tget s.ana i with
  | some w, some a =>
    let k := secStart s cap
    let x := secondOf s cap
    let c := (tget a.acc k).getD AnaAcc.none
    let pilot := markAll a.marks 3 x.1 x.2
    let rds := markAll a.marks 0 x.1 x.2
    let r : FmSecond := { peak := c.peak, exceed := c.exceed, mpx := if a.mpxGood = 0 then -32768 else v.mpx, mpxFull := decide (368640000 ≤ a.mpxGood)
                          pilot := if pilot then v.pilot else 0, pilotFreq := if pilot then v.pilotFreq else 0
                          rds := if rds then v.rds else 0, rdsPhase := if rds then v.rdsPhase else 0
                          carrier := corrected s (firstDent s w) 100 v.carrier, free := c.free, corrected := c.corrected, uncorr := c.uncorr
                          flags := secondFlags w a x, share := sharesOf c.wins }
    amod i (fun a => { a with fm := r, acc := a.acc.filter fun y => k < y.1 }) s
  | _, _ => s

/-- An AM second is over (R286): the carrier's offset is that of a second locked throughout. -/
def amSecond (i cap : Nat) (v : AmMeas) (s : State) : State :=
  match weaveAt s i, tget s.ana i with
  | some w, some a =>
    let k := secStart s cap
    let x := secondOf s cap
    let c := (tget a.acc k).getD AnaAcc.none
    let r : AmSecond := { carrier := if markAll a.marks 4 x.1 x.2 then corrected s (firstDent s w) 100 v.carrier else 0, posPeak := v.posPeak
                          negPeak := v.negPeak, cut := v.cut, flags := secondFlags w a x, share := sharesOf c.wins }
    amod i (fun a => { a with am := r, acc := a.acc.filter fun y => k < y.1 }) s
  | _, _ => s

/-! Stage results. -/

/-- What a completed stage of an analogue weave measured or decoded, each in the stage of its work (R257). -/
def anaFact (i cap stage : Nat) (f : StageFact) (s : State) : State :=
  let type := ((weaveAt s i).map (·.type)).getD 0
  let told := fun (l : List Nat) (g : State → State) => if stage = 2 ∧ ((tget s.ana i).any fun a => groupSays a l) = true then g s else s
  match f with
  | .branches l => if stage = 1 then branches i cap l s else s
  | .tone l => if stage ≠ 1 then s else if type = 2 then pilotTone i cap l s else carrierTone i cap l s
  | .adjacent r => if stage = 1 ∧ type = 2 then adjacent i cap r s else s
  | .upperSnr v => if stage = 2 ∧ type = 2 then accMod i cap (fun c => { c with snrSum := c.snrSum + v, snrs := c.snrs + 1 }) (amod i (fun a => { a with snr := v }) s)
    else s
  | .rdsBlock b x o e w => if stage = 2 ∧ type = 2 then rdsBlock i cap b x o e w s else s
  | .amAdjacent x b a => if stage = 2 ∧ type = 1 then amod i (amAdjacent (tickOf s cap (128 * x)) b a) s else s
  | .info pty tp ta ms di ecc pin => told [] (rdsInfo i pty tp ta ms di ecc pin)
  | .ps addr c1 c2 => told [3] (psSegment i addr c1 c2)
  | .rt ab addr cs => told (if cs.length = 4 then [2, 3] else [3]) (rtSegment i ab addr cs)
  | .rtPlus tags => told [2, 3] (rtTags i tags)
  | .afCount n f => told [2] (afCount i (pickOf s cap) n f)
  | .afPair f1 f2 => told [2] (afPair i (pickOf s cap) f1 f2)
  | .afEon l => told [2, 3] (anaSvcMod i fun v => { v with links := putLink { l with kind := 2, heard := s.sys.ord } v.links })
  | .label _ _ 3 _ _ raw _ => told [2, 3] (publish i 3 (raw.map BitVec.toNat) [])
  | .fmLevel p => if stage = 3 ∧ type = 2 then fmLevel i cap p s else s
  | .fmSecond v => if stage = 3 ∧ type = 2 then accMod i cap (fun c => { c with fm := some v }) s else s
  | .amSecond v => if stage = 3 ∧ type = 1 then accMod i cap (fun c => { c with am := some v }) s else s
  | _ => s

/-! The end of a pick. -/

/-- A sample of the combined input while the mute after a flush may last (R263, R264): the end of the mute, and whether the sample is one of a missing run. -/
def muteStep (step : Nat) (b : Nat × Nat × List Bool) (x : InSample) : Nat × Nat × List Bool :=
  let (t, m, l) := b
  let m := if x.inv ∧ t < m then t + 6144 else m
  (t + step, m, (x.miss && decide (m ≤ t)) :: l)

/-- A run that lasts for more than 50 ms ends the decisions and their PLLs (R264). -/
def longRun (i x : Nat) (s : State) : State :=
  let s := setCarrier i x false (setRds i x false (setPilot i x false s))
  amod i (fun a => { a with blend := 0, pll := Pll.clear, held := 0, out := 0, dec := RdsDec.clear a.dec.mode, badRun := true }) s

/-- The beginnings of fade-outs and the ends of fade-ins between two instants, with which they are (R264, R289): muted spans that overlap are one. -/
def muteEdges (l : List (Nat × Nat)) (x y : Nat) : List (Nat × Bool) :=
  let on := (l.filter fun z => x ≤ z.1 && z.1 < y && !l.any fun v => v.1 < z.1 && z.1 ≤ v.2).map fun z => (z.1, true)
  let off := (l.filter fun z => x ≤ z.2 && z.2 < y && !l.any fun v => v.1 ≤ z.2 && z.2 < v.2).map fun z => (z.2, false)
  sortBy (·.1) (on ++ off)

/-- The combined input of an analogue weave over the pick that ends (R263, R264): its missing runs, what a long one ends, and where the audio fades. (log 150: DEDUCED) -/
def anaInput (i : Nat) (l : List InSample) (rate : Nat) (s : State) : State :=
  match tget s.ana i with
  | some a =>
    let base := tickOf s s.sys.ord 0
    let stop := tickOf s (s.sys.ord + 1) 0
    let (_, m, miss) := l.foldl (muteStep (rateStep rate)) (base, a.muteTo, [])
    let runs := spansGo (rateStep rate) miss.reverse base (keepSpans a.runs (base - 245760)).reverse
    let s := amod i (fun a => { a with runs := runs, muteTo := m }) s
    let s := runs.foldl (fun s r => if base ≤ r.1 + 307200 ∧ r.1 + 307200 < r.2 then longRun i (r.1 + 307200) s else s) s
    let h := stop - 18432
    let s := (muteEdges (muteSpans runs) a.told h).foldl (fun s e =>
      tellAna i (if e.2 then 8 else 9) 0 e.1 (amod i (fun a => { a with fadeOut := a.fadeOut || e.2 }) s)) s
    amod i (fun a => { a with told := max a.told h }) s
  | none => s

/-- The status byte of an output pick whose samples lie from one aerial instant to before another (R262-R265). (log 79: DEDUCED) -/
def anaByte (s : State) (i : Nat) (w : Weave) (a : Analogue) (x y : Nat) : Nat :=
  let c := (tickAt s x).1
  let dead := fun (k : Nat) => s.cluster.dead.contains (i, k)
  let short := (a.runs.filter fun r => r.2 - r.1 ≤ 12288).any fun r => max x ((r.1 + 127) / 128 * 128) < min y r.2
  let mute := decide (x < a.muteTo + 30720) || touches (muteSpans a.runs) x y || dead c || dead (c - 1)
  flagBits [short && !dead c, mute, w.type == 2 && markAt a.marks 1 (y - 128), w.type == 2 && markAny a.marks 2 x y
    , markAt a.marks (if w.type = 2 then 0 else 4) (y - 128), touches w.ovl x y, touches w.pd x y, dead c]

/-- The status byte of the pick that ends (R262): MUTED alone where the weave produced no samples for it. (log 79: DEDUCED) -/
def lastByte (s : State) (i : Nat) (a : Analogue) : Nat :=
  match weaveAt s i with
  | some w =>
    let late := 6144 * (w.depth + 1)
    let x := tickOf s s.sys.ord 0
    if weaveOn s i = false ∨ x < tickOf s w.sinceOrd 0 + late then 2
    else anaByte s i w a (x - late) (tickOf s (s.sys.ord + 1) 0 - late)
  | none => 2

/-- Marks that later ones of their code have overtaken for longer than a second are forgotten. -/
def keepMarks (l : List (Nat × Nat × Bool)) (x : Nat) : List (Nat × Nat × Bool) :=
  l.filter fun m => x < m.1 || !l.any fun n => n.2.1 == m.2.1 && m.1 < n.1 && n.1 ≤ x

/-- The end of a pick for the inputs of the weaves (R264, R273, R298). -/
def inputsEnd (s : State) : State :=
  s.weaves.foldl (fun s x =>
    if weaveOn s x.1 then
      let l := weaveInput s x.2
      let s := if x.2.type ≤ 2 then anaInput x.1 l (weaveRate s x.2) s else s
      vmod x.1 (weaveTakes s l) s
    else s) s

/-- The end of a pick for analogue weaves: the byte of the last complete pick (R262). -/
def anaEnd (s : State) : State :=
  let s := inputsEnd s
  let old := tickOf s s.sys.ord 0 - 7372800
  { s with ana := s.ana.map fun x => (x.1, { x.2 with status := lastByte s x.1 x.2, marks := keepMarks x.2.marks old
                                                      olds := x.2.olds.filter fun o => s.sys.ord < o.1 + 8 }) }

/-! Commands. -/

/-- A weave of a type, and what it holds. -/
def anaFor (s : State) (h : Handle) (type : Nat) : Chk (Weave × Analogue) := do
  let _ ← objNow s h 4
  let w ← get! .badHandle (weaveAt s (hIndex h))
  need (w.type == type) .badParam
  let a ← get! .badParam (tget s.ana (hIndex h))
  pure (w, a)

/-- The branch shares: one byte per dent, 0xFF where unused (R288). -/
def shareBytes (l : List Nat) : List Byte := ((l ++ List.replicate 4 0xFF).take 4).flatMap byte

/-- Stereo decoding is active (R269): the pilot is present and the setting is not MONO. -/
def stereoOn (w : Weave) (a : Analogue) : Bool := a.pilot && tb8 w.block 0 != 2

/-- The blend factor in force, in 1/255 (R269, R270, R288): b under AUTO, full under STEREO, none under MONO. (log 147: DEDUCED) -/
def blendByte (w : Weave) (a : Analogue) : Nat :=
  match tb8 w.block 0 with
  | 0 => (a.blend * 255 + 2 ^ 31) / 2 ^ 32
  | 1 => 255
  | _ => 0

/-- The FM_STATUS reply (R288). (log 128: DEDUCED) -/
def fmStatusBytes (s : State) (h : Handle) (w : Weave) (a : Analogue) : List Byte :=
  let v := a.fm
  handleBytes h ++ byte (flagBits [a.pilot, stereoOn w a, a.rds, a.piOk, bit a.status 1, a.ta, a.tp, tb8 w.block 2 == 2])
    ++ byte (blendByte w a) ++ leBytes 2 a.filter ++ leBytes 2 a.pi ++ byte a.pty ++ byte a.status ++ leBytes 2 a.snr ++ leBytes 2 v.pilot
    ++ leSigned 4 v.pilotFreq ++ leBytes 2 v.rds ++ leBytes 2 v.rdsPhase ++ leSigned 4 ((v.carrier + 50) / 100) ++ leBytes 2 v.peak
    ++ leCount 2 v.exceed ++ leSigned 2 v.mpx ++ byte (flagBits [!v.mpxFull, bit v.flags 1, bit v.flags 2, bit v.flags 3]) ++ zeros 1
    ++ leCount 2 v.free ++ leCount 2 v.corrected ++ leCount 2 v.uncorr ++ zeros 2 ++ shareBytes v.share ++ leBytes 8 (now s)

/-- FM_STATUS (R288). -/
def execFmStatus (h : Hdr) (weave : Handle) (s : State) : Host.Outcome State Fault Refusal :=
  serve (.fmStatus h weave) 0x0710 .operator .fw h weave (fun s => chk do
    let (w, a) ← anaFor s weave 2
    okay (fmStatusBytes s weave w a) s) s

/-- The AM_STATUS reply (R288). -/
def amStatusBytes (s : State) (h : Handle) (w : Weave) (a : Analogue) : List Byte :=
  let v := a.am
  handleBytes h ++ byte (flagBits [a.carrier, bit a.status 1, bit (detectOf w a) 0, bit (detectOf w a) 1, bit v.flags 2, bit v.flags 3])
    ++ byte a.status ++ leBytes 2 (tb8 w.block 2) ++ leSigned 4 v.carrier ++ leBytes 2 v.posPeak ++ leBytes 2 v.negPeak
    ++ leCount 2 v.cut ++ leSigned 2 a.adj.1 ++ leSigned 2 a.adj.2 ++ zeros 2 ++ shareBytes v.share ++ zeros 4 ++ leBytes 8 (now s)

/-- AM_STATUS (R288). -/
def execAmStatus (h : Hdr) (weave : Handle) (s : State) : Host.Outcome State Fault Refusal :=
  serve (.amStatus h weave) 0x0711 .operator .fw h weave (fun s => chk do
    let (w, a) ← anaFor s weave 1
    okay (amStatusBytes s weave w a) s) s

/-- The FM_AF_READ reply: the list published under an index (R288). -/
def afReadBytes (h : Handle) (a : Analogue) (index : Nat) : List Byte :=
  let bs := a.afB.filter fun l => !l.pubd.isEmpty
  let l := if index = 0 then a.afA.filter fun l => !l.pubd.isEmpty else bs[index - 1]?
  let e := (l.map (·.pubd)).getD []
  handleBytes h ++ byte (if l.isNone then 0 else if index = 0 then 1 else 2) ++ byte bs.length ++ byte index ++ byte e.length
    ++ leBytes 4 ((l.map (·.key)).getD 0) ++ leBytes 8 ((l.map (·.pubPick)).getD 0)
    ++ e.flatMap fun x => leBytes 4 (x.1 % 2 ^ 24 + 2 ^ 24 * flag x.2)

/-- FM_AF_READ (R288). -/
def execFmAfRead (h : Hdr) (weave : Handle) (index : Nat) (s : State) : Host.Outcome State Fault Refusal :=
  serve (.fmAfRead h weave index) 0x0712 .operator .fw h weave (fun s => chk do
    need (index ≤ 12) .badParam
    let (_, a) ← anaFor s weave 2
    okay (afReadBytes weave a index) s) s

end Sys2Proof.Machine
end

