-- ==== Sys2Proof/Machine/Crypto.lean ====
section
/-! DEFINITION. The primitives the rules on proofs and firmware name: SHA-256, HMAC-SHA-256 (R553) and ECDSA on P-256 (R576-R580). -/

namespace Sys2Proof.Machine

/-! SHA-256. The rules name it and give no constants; they are computed here from the roots of primes that define them. -/

/-- A word of the digest. -/
abbrev ShaWord := BitVec 32

/-- Adds to `r` the lowest `k` bits of the largest number whose `d`-th power is no more than `n`. -/
def rootBits (d n : Nat) : Nat → Nat → Nat
  | 0, r => r
  | k + 1, r => rootBits d n k (if (r + 2 ^ k) ^ d ≤ n then r + 2 ^ k else r)

/-- The first 32 bits after the point of the `d`-th root of a number below 4,096. -/
def fracRoot (d p : Nat) : ShaWord := BitVec.ofNat 32 (rootBits d (p * 2 ^ (32 * d)) 38 0)

/-- The first 64 primes: below 19² a number is prime where it shares no factor with the primes up to 17. -/
def shaPrimes : List Nat := [2, 3, 5, 7, 11, 13, 17] ++ (List.range 312).filter fun n => 17 < n && Nat.gcd n 510510 == 1

/-- The constants of the rounds: cube roots. -/
def shaKeys : List ShaWord := shaPrimes.map (fracRoot 3)

/-- What the rounds carry, newest word first: the words that stand in a to d and those in e to h. -/
structure ShaPair where
  up  : List ShaWord
  low : List ShaWord
  deriving DecidableEq, Repr

/-- The exclusive or of a word turned right by each of the counts. -/
def turns (x : ShaWord) (l : List Nat) : ShaWord := l.foldl (fun r n => r ^^^ x.rotateRight n) 0

/-- `n` more words of the message schedule, newest word first. -/
def shaExpand : Nat → List ShaWord → List ShaWord
  | 0, w => w
  | n + 1, w =>
    let x := nth w 1 0
    let y := nth w 14 0
    shaExpand n (((turns x [17, 19] ^^^ x >>> 10) + nth w 6 0 + (turns y [7, 18] ^^^ y >>> 3) + nth w 15 0) :: w)

/-- One round: a word of the schedule with its constant added. -/
def shaRound (x : ShaPair) (kw : ShaWord) : ShaPair :=
  let u := fun k => nth x.up k 0
  let l := fun k => nth x.low k 0
  let t := l 3 + turns (l 0) [6, 11, 25] + ((l 0 &&& l 1) ||| (~~~ l 0 &&& l 2)) + kw
  ⟨(t + turns (u 0) [2, 13, 22] + ((u 0 &&& (u 1 ||| u 2)) ||| (u 1 &&& u 2))) :: x.up.take 3, (u 3 + t) :: x.low.take 3⟩

/-- The big-endian words of a list of bytes. -/
def beWords : Nat → List Byte → List ShaWord
  | 0, _ => []
  | n + 1, bs => BitVec.ofNat 32 (ofBe (bs.take 4)) :: beWords n (bs.drop 4)

/-- One block of 64 bytes on the eight words of the digest so far. -/
def shaBlock (x : List ShaWord) (bs : List Byte) : List ShaWord :=
  let w := (shaExpand 48 (beWords 16 bs).reverse).reverse
  let y := (List.zipWith (· + ·) shaKeys w).foldl shaRound ⟨x.take 4, x.drop 4⟩
  List.zipWith (· + ·) x (y.up ++ y.low)

/-- The blocks of a padded message. -/
def shaBlocks : Nat → List Byte → List ShaWord → List ShaWord
  | 0, _, x => x
  | n + 1, bs, x => shaBlocks n (bs.drop 64) (shaBlock x (bs.take 64))

/-- SHA-256: the digest starts from the square roots of the first eight primes. -/
def sha256 (bs : List Byte) : List Byte :=
  let m := bs ++ [0x80#8] ++ zeros ((119 - bs.length % 64) % 64) ++ beBytes 8 (8 * bs.length)
  (shaBlocks (m.length / 64) m ((shaPrimes.take 8).map (fracRoot 2))).flatMap fun v => beBytes 4 v.toNat

/-- HMAC-SHA-256 with a key of at most 64 bytes. -/
def hmac (key msg : List Byte) : List Byte :=
  let k := (key ++ zeros 64).take 64
  sha256 (k.map (· ^^^ 0x5C#8) ++ sha256 (k.map (· ^^^ 0x36#8) ++ msg))

/-! P-256. -/

/-- The field prime. -/
def p256 : Nat := 2 ^ 256 - 2 ^ 224 + 2 ^ 192 + 2 ^ 96 - 1

/-- The group order. -/
def n256 : Nat := 0xFFFFFFFF00000000FFFFFFFFFFFFFFFFBCE6FAADA7179E84F3B9CAC2FC632551

/-- The curve constant b. -/
def b256 : Nat := 0x5AC635D8AA3A93E7B3EBBD55769886BC651D06B0CC53B0F63BCE3C3E27D2604B

/-- The base point. -/
def g256 : Nat × Nat :=
  (0x6B17D1F2E12C4247F8BCE6E563A440F277037D812DEB33A0F4A13945D898C296
  , 0x4FE342E2FE1A7F9B8EE7EB4A7C0F9E162BCE33576B315ECECBB6406837BF51F5)

/-- `b ^ e` modulo `m`, over the lowest `k` bits of `e`. -/
def powMod (m : Nat) : Nat → Nat → Nat → Nat
  | 0, _, _ => 1 % m
  | k + 1, b, e => (if e % 2 = 1 then b else 1) * powMod m k (b * b % m) (e / 2) % m

/-- The inverse modulo a prime of 256 bits. -/
def invMod (m a : Nat) : Nat := powMod m 256 (a % m) (m - 2)

/-- `a - b` modulo the field prime. -/
def subP (a b : Nat) : Nat := (a + p256 - b % p256) % p256

/-- A point, none at infinity. -/
abbrev EcPoint := Option (Nat × Nat)

/-- The sum of two points. -/
def ecAdd : EcPoint → EcPoint → EcPoint
  | none, q => q
  | p, none => p
  | some (x1, y1), some (x2, y2) =>
    if x1 = x2 ∧ (y1 + y2) % p256 = 0 then none
    else
      let l := if x1 = x2 then (3 * x1 * x1 + p256 - 3) * invMod p256 (2 * y1) % p256
               else subP y2 y1 * invMod p256 (subP x2 x1) % p256
      let x := subP (l * l) (x1 + x2)
      some (x, subP (l * subP x1 x) y1)

/-- The multiple of a point, over the lowest `k` bits of `e`. -/
def ecMul : Nat → Nat → EcPoint → EcPoint
  | 0, _, _ => none
  | k + 1, e, p => ecAdd (if e % 2 = 1 then p else none) (ecMul k (e / 2) (ecAdd p p))

/-- A public key as its 64 bytes give it (R576). -/
def ecKey (key : List Byte) : Nat × Nat := (ofBe (key.take 32), ofBe ((key.drop 32).take 32))

/-- A key is a point on P-256 (R580). -/
def onCurve (key : List Byte) : Bool :=
  let (x, y) := ecKey key
  x < p256 && y < p256 && y * y % p256 == (x * x * x + p256 * x - 3 * x + b256) % p256

/-- ECDSA P-256 over a SHA-256 digest: the signature is r then s, each 32 bytes big-endian (R577). -/
def ecdsaOk (key digest sig : List Byte) : Bool :=
  let r := ofBe (sig.take 32)
  let s := ofBe ((sig.drop 32).take 32)
  if r = 0 ∨ n256 ≤ r ∨ s = 0 ∨ n256 ≤ s ∨ onCurve key = false then false
  else
    let w := invMod n256 s
    match ecAdd (ecMul 256 (ofBe digest * w % n256) (some g256)) (ecMul 256 (r * w % n256) (some (ecKey key))) with
    | some (x, _) => x % n256 == r
    | none => false

end Sys2Proof.Machine
end

