-- ==== Sys2Proof/Machine/Digital.lean ====
section
/-! DEFINITION. Digital weaves (R290-R322): the sync state machines, the MCI, decoder slots, TII and figures as completed stages report
them, and the digital commands. -/

namespace Sys2Proof.Machine

/-- What a digital weave holds. -/
def digAt (s : State) (i : Nat) : Option Digital := tget s.dig i

/-- Changes what a digital weave holds. -/
def gmod (i : Nat) (f : Digital → Digital) (s : State) : State := { s with dig := tmod s.dig i f }

/-- EV_DIGITAL_STATE without a component, at a capture position (R322): the mode is added to the detail. -/
def tellSync (i code detail cap sample : Nat) (s : State) : State :=
  tellDig i nullHandle code (detail + 16 * ((digAt s i).map (·.mode)).getD 0) (pickOf s cap) sample s

/-- A change of sync state that has no code of its own (R301, R311). -/
def goSync (i st mode cap sample : Nat) (s : State) : State :=
  tellSync i 8 st cap sample (gmod i (fun d => { d with sync := st, mode := mode, facRun := 0, nullRun := 0, fine := false, since := cap, heard := cap }) s)

/-- The mode a block fixes, or the one identified (R300, R311). -/
def modeSeen (w : Weave) (mode : Nat) : Option Nat :=
  let fixed := if w.type = 3 then tb8 w.block 0 else if tb8 w.block 0 = 0 then tb8 w.block 4 else 5
  if fixed = 0 ∨ fixed = mode then some mode else none

/-- The sync state LOCKED of a weave's type. -/
def lockedSt (type : Nat) : Nat := if type = 3 then 2 else 3

/-- Sync is lost (R301, R311): back to SEARCH, everything erased from a capture pick on. -/
def syncLost (i lost cap sample : Nat) (s : State) : State :=
  let s := tellSync i 2 0 cap sample s
  gmod i (fun d => { d with sync := 0, mode := 0, facRun := 0, nullRun := 0, since := cap, lostFrom := lost, losses := d.losses + 1 }) s

/-- A change of services is to be made at a boundary (R323, R326). -/
def svcLater (i due : Nat) (subch : List Subch) (svcs : List SvcInfo) (ident : Option (Nat × Nat)) (s : State) : State :=
  { s with svcChg := s.svcChg ++ [⟨due, i, subch, svcs, ident⟩] }

/-- The services one weave carries (R304, R314). -/
def capSvcs (type : Nat) (l : List SvcInfo) : List SvcInfo := l.take (if type = 3 then 64 else 4)

/-- Instants of a capture pick in 1/6144 ms. -/
def nsTick (s : State) (cap ns : Nat) : Nat := tickOf s cap (ns * 6144 / 1000000)

/-- A symbol between two instants is erased (R298): every branch has a gap in it, or its last sample lies in a MISSED capture pick. -/
def erased (s : State) (i : Nat) (w : Weave) (x y : Nat) : Bool :=
  (!w.gaps.isEmpty && w.gaps.all fun g => touches g x y) || s.cluster.dead.contains (i, (tickAt s (y - 1)).1)

/-- The organisation of a subchannel, without its figures. -/
def Subch.org (x : Subch) : Nat × Nat × Nat × Nat × Nat × Nat := (x.id, x.prot, x.start, x.size, x.rate, x.kind)

/-- The figures of a subchannel of the last second, in the organisation held. -/
def figures (new : List Subch) (x : Subch) : Subch :=
  match new.find? fun y => y.id == x.id with
  | some y => { x with ber := y.ber, rsCorr := y.rsCorr, rsFail := y.rsFail, units := y.units }
  | none => x

/-! TII. -/

/-- A mean rounded to the nearest. (log 84: DEDUCED) -/
def meanOf (l : List Int) : Int := if l.isEmpty then 0 else (2 * l.foldl (· + ·) 0 + l.length) / (2 * l.length)

/-- Level and arrival of a transmitter over its detections in the last 10 TII nulls (R309). (log 84: DEDUCED) -/
def TiiTx.level (x : TiiTx) : Int := meanOf (x.hist.filterMap fun h => h.map (·.1))
/-- The arrival offset (R309). (log 84: DEDUCED) -/
def TiiTx.arrival (x : TiiTx) : Int := meanOf (x.hist.filterMap fun h => h.map (·.2))
/-- Detections in the last 10 TII nulls (R308). -/
def TiiTx.count (x : TiiTx) : Nat := (x.hist.filterMap id).length

/-- A TII null (R308): detections taken, then who is listed. -/
def tiiUpdate (hits : List TiiHit) (l : List TiiTx) : List TiiTx :=
  let same := fun (x : TiiTx) (h : TiiHit) => h.main == x.main && h.sub == x.sub
  let l := l ++ (hits.filter fun h => !l.any fun x => same x h).map fun h => (⟨h.main, h.sub, false, []⟩ : TiiTx)
  let l := l.map fun x => match hits.find? (same x) with
    | some h => { x with hist := (some (h.level, h.arrival) :: x.hist).take 10 }
    | none => { x with hist := (none :: x.hist).take 10 }
  let l := l.map fun x => { x with listed := x.listed && 3 ≤ x.count }
  let top := (l.filter (·.listed)).foldl (fun (m : Option Int) x => some (m.elim x.level (max x.level))) none
  let l := l.map fun x => { x with listed := x.listed || (5 ≤ x.count && top.all fun t => t - 300 ≤ x.level) }
  l.filter fun x => x.count != 0

/-- The transmitters listed, strongest first, at most 24 (R308). -/
def tiiListed (d : Digital) : List TiiTx := (sortBy (fun x => (100000 - x.level).toNat) (d.tii.filter (·.listed))).take 24

/-! DAB. -/

/-- A null as the state machine takes it (R300, R301): in SEARCH three in succession at the mode's frame spacing lead to FRAME, within ±40 kHz; in LOCKED ten in succession that are not
there lose sync. (log 152: DEDUCED) -/
def nullSync (i cap mode ns : Nat) (found : Bool) (offset : Int) (s : State) : State :=
  match weaveAt s i, digAt s i with
  | some w, some d =>
    let at_ := 125000 * gridOf s cap + ns
    let apart := (d.nullAt.map fun p => at_ - (125000 * gridOf s p.1 + p.2)).getD 0
    let sample := ns * 48 / 1000000
    let s := gmod i (fun d => { d with nullAt := some (cap, ns), nullPrev := d.nullAt }) s
    if d.sync = 0 then
      match (if found ∧ offset.natAbs ≤ 40000 then modeSeen w mode else none) with
      | some m =>
        let spaced := decide (d.facRun = m) && inR (frameMs m * 1000000 - 500000) apart (frameMs m * 1000000 + 500000)
        let n := if spaced then d.nullRun + 1 else 1
        if 3 ≤ n then goSync i 1 m cap sample s else gmod i (fun d => { d with nullRun := n, facRun := m }) s
      | none => gmod i (fun d => { d with nullRun := 0 }) s
    else if d.sync ≠ 2 then s
    else if found then gmod i (fun d => { d with nullRun := 0 }) s
    else
      let first := if d.nullRun = 0 then cap else d.firstGone
      if d.nullRun + 1 < 10 then gmod i (fun d => { d with nullRun := d.nullRun + 1, firstGone := first }) s else syncLost i first cap sample s
  | _, _ => s

/-- A null symbol (R183, R189, R301, R308): one whose window holds an INVALID sample counts neither way. In LOCKED it answers the calibration step that used it: block energy in the window at
least 20 dB below the mean symbol energy, and no TII. With TII set, a null in which a comb stands 15 dB above the unused carriers is a TII null. -/
def dabNull (i cap mode ns : Nat) (found : Bool) (offset energy mean comb : Int) (hits : List TiiHit) (s : State) : State :=
  match weaveAt s i, digAt s i with
  | some w, some d =>
    let m := if d.sync = 0 then mode else d.mode
    let len := nth [1297000, 324000, 168000, 648000] (m - 1) 0
    if w.gaps.any fun g => touches g (nsTick s cap ns) (nsTick s cap (ns + len)) then s
    else
      let ok := decide (200 ≤ mean - energy) && decide (comb < 150)
      let s := if d.sync ≠ 2 then s else (List.range 6).foldl (fun s k => cmod k (fun c => { c with nullStep := c.nullStep.map fun x =>
        if x.1 = cap ∧ x.2.1.weave = i then (x.1, x.2.1, x.2.2.1, some ok) else x }) s) s
      let s := nullSync i cap mode ns found offset s
      if d.sync ≠ 0 ∧ bit (tb8 w.block 2) 1 ∧ 150 ≤ comb then
        gmod i (fun d => { d with tii := tiiUpdate hits d.tii, tiiPick := pickOf s cap, tiiNs := ns }) s
      else s
  | _, _ => s

/-- The FIB record (R302). -/
def fibBody (s : State) (cap cif index sample : Nat) (ok : Bool) (data : List Byte) : List Byte :=
  (data ++ zeros 30).take 30 ++ byte (flag (!ok)) ++ byte index ++ leBytes 8 (pickOf s cap) ++ leBytes 2 sample ++ leBytes 2 cif

/-- A second in which nothing has been gathered. -/
def DigAcc.none : DigAcc := { total := 0, failed := 0, subs := [], picks := 0, dab := Option.none, drm := Option.none }

/-- What a second of a digital weave gathers, changed. -/
def digAcc (i cap : Nat) (f : DigAcc → DigAcc) (s : State) : State :=
  let k := secStart s cap
  gmod i (fun d => { d with acc := tset d.acc k (f ((tget d.acc k).getD DigAcc.none)) }) s

/-- The ensemble service of a DAB weave (R323). -/
def ensemble (s : State) (i : Nat) : Option Nat := (s.svcs.find? fun x => x.2.weave == some i && x.2.tech == 5).map (·.1)

/-- A FIB was received (R301, R302): passed through where the flag is set; one that passes its CRC in FRAME, with the fine frequency reached, locks. A failed one is not interpreted. -/
def fib (i cap cif index sample eid ecc : Nat) (ok : Bool) (data : List Byte) (s : State) : State :=
  match weaveAt s i, digAt s i with
  | some w, some d =>
    if d.sync = 0 then s
    else
      let s := digAcc i cap (fun a => { a with total := a.total + 1, failed := a.failed + flag (!ok) }) s
      let s := if bit (tb8 w.block 2) 2 then (match ensemble s i with
        | some v => kindRecord v 8 2 (if ok then 0 else 4) cap sample (fibBody s cap cif index sample ok data) s
        | none => s) else s
      if !ok then s
      else
        let s := gmod i (fun d => { d with cif := cif, eid := eid, heard := cap }) s
        if d.sync = 1 ∧ d.fine = true then
          svcLater i (s.sys.ord + 1) [] [] (some (eid, ecc)) (tellSync i 1 0 cap sample (gmod i (fun d => { d with sync := 2, since := cap, nullRun := 0 }) s))
        else s
  | _, _ => s

/-- A configuration is complete (R303): subchannels, and services whose components cover every one of them. -/
def covers (subch : List Subch) (svcs : List SvcInfo) : Bool :=
  !subch.isEmpty && subch.all fun x => svcs.any fun v => v.comps.any fun c => c.subch == x.id

/-- The configuration as received differs from the one held. -/
def differs (d : Digital) (subch : List Subch) (svcs : List SvcInfo) : Bool := subch.map Subch.org != d.subch.map Subch.org || svcs != d.conf

/-- A configuration that has changed without an announcement (R326): after four receptions of it in succession it applies at the next boundary. (log 83: DEDUCED) -/
def newsOf (i : Nat) (subch : List Subch) (svcs : List SvcInfo) (s : State) : State :=
  match digAt s i with
  | some d =>
    if d.reconf then s
    else if !differs d subch svcs then gmod i (fun d => { d with news := none }) s
    else
      let n := match d.news with
        | some (n, a, b) => if a.map Subch.org = subch.map Subch.org ∧ b = svcs then n + 1 else 1
        | none => 1
      if n < 4 then gmod i (fun d => { d with news := some (n, subch, svcs) }) s
      else svcLater i (s.sys.ord + 1) subch svcs none (gmod i (fun d => { d with news := none, conf := svcs }) s)
  | none => s

/-- The MCI as the FIBs that passed have given it so far (R303, R323, R326). (log 83: DEDUCED) -/
def mci (i cap sample : Nat) (subch : List Subch) (svcs : List SvcInfo) (s : State) : State :=
  match digAt s i with
  | some d =>
    let l := capSvcs 3 svcs
    let x := subch.take 64
    if d.sync ≠ 2 ∨ covers x l = false then s
    else if d.mci then newsOf i x l s
    else
      let s := gmod i (fun d => { d with mci := true, subch := x, services := l.length, conf := l }) s
      svcLater i (s.sys.ord + 1) x l none (tellSync i 3 0 cap sample s)
  | none => s

/-- An announced reconfiguration (R303, R312, R326): the CIF or frame named begins `picks` after the capture pick, at `ns`; the output side follows at T_R + L. (log 83: DEDUCED) -/
def reconfig (i cap picks ns : Nat) (subch : List Subch) (svcs : List SvcInfo) (s : State) : State :=
  match weaveAt s i, digAt s i with
  | some w, some d =>
    if d.sync ≠ lockedSt w.type ∨ d.reconf = true then s
    else
      let tr := cap + picks + flag (ns ≠ 0)
      let l := capSvcs w.type svcs
      let s := gmod i (fun d => { d with reconf := true, conf := l, confFrom := tr, news := none }) s
      svcLater i (tr + w.depth + 1) (subch.take 64) l none (tellSync i 4 0 (cap + picks) (ns * 48 / 1000000) s)
  | _, _ => s

/-! DRM. -/

/-- A symbol in SEARCH (R299, R311): four in succession that confirm one mode within the capture range lead to TIME. -/
def drmSymbol (i cap mode sample : Nat) (ok : Bool) (offset : Int) (s : State) : State :=
  match weaveAt s i, digAt s i with
  | some w, some d =>
    let range := if tb8 w.block 0 = 0 then 350 else 8000
    if d.sync ≠ 0 then s
    else match (if ok ∧ offset.natAbs ≤ range then modeSeen w mode else none) with
      | some m =>
        let n := if d.facRun = m then d.nullRun + 1 else 1
        if 4 ≤ n then goSync i 1 m cap sample s else gmod i (fun d => { d with nullRun := n, facRun := m }) s
      | none => gmod i (fun d => { d with nullRun := 0 }) s
  | _, _ => s

/-- Time reference cells at a frame start (R311, R320): in TIME they lead to FRAME. -/
def drmFrame (i cap ns : Nat) (super : Bool) (s : State) : State :=
  match digAt s i with
  | some d =>
    if d.sync = 0 then s
    else
      let s := gmod i (fun d => { d with framePick := pickOf s cap, frameNs := ns, superAt := if super then some (cap, ns) else d.superAt }) s
      if d.sync = 1 then goSync i 2 d.mode cap (ns * 48 / 1000000) s else s
  | none => s

/-- What a FAC says comes into force (R311-R313). -/
def facSays (i cap occ inter constel sample : Nat) (s : State) : State :=
  match weaveAt s i, digAt s i with
  | some w, some d =>
    let mis := tb8 w.block 2 == 1 && inter == 1
    let moved := d.inter ≠ 0xFF ∧ d.inter ≠ inter
    let s := gmod i (fun d => { d with occ := occ, inter := inter, constel := constel, mismatch := mis
                                       interAt := if moved then some (tickOf s cap (128 * sample)) else d.interAt }) s
    let s : State := { s with svcs := s.svcs.map fun x => if x.2.weave = some i then (x.1, { x.2 with occ := occ }) else x }
    if mis = d.mismatch then s else tellSync i 7 (flag mis) cap sample s
  | _, _ => s

/-- A FAC (R311): two passes in succession in FRAME lock, five failures in LOCKED lose sync; one with an erased symbol among its cells is no failure. -/
def drmFac (i cap occ inter constel sample span : Nat) (ok : Bool) (s : State) : State :=
  match weaveAt s i, digAt s i with
  | some w, some d =>
    let x := tickOf s cap (128 * sample)
    let void := !ok && erased s i w (x - span) x
    let s := if d.sync = 3 ∧ void = false then digAcc i cap (fun a => { a with total := a.total + 1, failed := a.failed + flag (!ok) }) s else s
    if void then s
    else if d.sync = 2 then
      if !ok then gmod i (fun d => { d with facRun := 0 }) s
      else if d.facRun + 1 < 2 then gmod i (fun d => { d with facRun := d.facRun + 1 }) s
      else facSays i cap occ inter constel sample (tellSync i 1 0 cap sample (gmod i (fun d => { d with sync := 3, facRun := 0, since := cap }) s))
    else if d.sync = 3 then
      if ok then facSays i cap occ inter constel sample (gmod i (fun d => { d with facRun := 0 }) s)
      else
        let first := if d.facRun = 0 then cap else d.firstGone
        if d.facRun + 1 < 5 then gmod i (fun d => { d with facRun := d.facRun + 1, firstGone := first }) s else syncLost i first cap sample s
    else s
  | _, _ => s

/-- The SDC is decoded (R311, R323, R326). -/
def drmSdc (i : Nat) (svcs : List SvcInfo) (s : State) : State :=
  match digAt s i with
  | some d =>
    let l := capSvcs 4 svcs
    if d.sync ≠ 3 then s
    else if d.sdc then newsOf i [] l s
    else svcLater i (s.sys.ord + 1) [] l none (gmod i (fun d => { d with sdc := true, services := l.length, conf := l }) s)
  | none => s

/-! Audio units. -/

/-- The component's audio is carried by a subchannel or stream from a T0 on (R303): that of the configuration announced where T0 lies at or after its first CIF. -/
def compSub (s : State) (d : Digital) (t0 : Nat) (h : Handle) : Option Nat :=
  match compAt s (hIndex h) with
  | some c =>
    if d.reconf ∧ d.confFrom ≤ t0 then
      match svcAt s c.svc with
      | some v => (d.conf.find? fun x => x.ident == v.ident).bind fun x => (x.comps.find? (sameComp (v.tech == 3) c.info)).map (·.subch)
      | none => none
    else some c.info.subch
  | none => none

/-- One decoding unit of a component's audio, `len` samples from `at_` on (R307): the first failed one repeats the last good one, the second fades it out, later ones are zero;
the first good one after two or more failures is faded in over 10 ms. What MUTE_ON or MUTE_OFF is to be told, and where. -/
def auStep (proto : AudioSeg) (at_ len : Nat) (good : Bool) (x : DecSlot) : DecSlot × Option (Bool × Nat) :=
  let g := { proto with at_ := at_, len := len }
  if good then
    let fade := 2 ≤ x.fails
    ({ x with fails := 0, faded := x.faded && !fade, audio := x.audio ++ [{ g with muted := if fade then 480 else 0 }] }
      , if fade && x.faded then some (false, at_ + 480) else none)
  else
    let y := { x with fails := x.fails + 1, bad := x.bad || decide (1 ≤ x.fails) }
    if x.fails = 0 then ({ y with audio := x.audio ++ [{ g with conc := true }] }, none)
    else if x.fails = 1 then ({ y with faded := true, audio := x.audio ++ [{ g with conc := true, muted := len }] }, some (true, at_))
    else ({ y with audio := x.audio ++ [{ g with muted := len }] }, none)

/-- The last stretch reaches up to where the next begins (R297). -/
def stretch (l : List AudioSeg) (x : Nat) : List AudioSeg :=
  match l.getLast? with
  | some g => l.dropLast ++ [{ g with len := x - g.at_ }]
  | none => []

/-- An audio unit on a slot (R44, R297, R307, R319): its first sample leaves at (T0 + L, 0), that of a later one within a sample of it, where the one before ends. The last unit of a component that
leaves the assignment is faded out over 10 ms at its end. (log 85: DEDUCED) -/
def slotUnit (s : State) (w : Weave) (t0 lag len : Nat) (proto : AudioSeg) (good same : List Bool) (x : DecSlot) : DecSlot × List (Bool × Nat) :=
  let own := audioPos s (t0 + w.depth + 1) 0
  let at_ := x.next.elim own fun n => max (own - 1) (min (own + 1) n)
  let n := max good.length 1
  let x := { x with audio := if x.next.any (fun m => m ≤ at_ + 1 && at_ ≤ m + 1) then stretch x.audio at_ else x.audio }
  let (x, told) := good.zipIdx.foldl (fun (b : DecSlot × List (Bool × Nat)) g =>
    let (y, e) := auStep proto (at_ + len * g.2 / n) (len * (g.2 + 1) / n - len * g.2 / n) g.1 b.1
    (y, b.2 ++ e.toList)) (x, [])
  let last := x.until_.any fun u => u ≤ t0 + len / 48
  let x := if last then (match x.audio.getLast? with
    | some g => { x with audio := x.audio.dropLast ++ [{ g with tail := min 480 g.len }] }
    | none => x) else x
  let units := good.zipIdx.map fun g => (at_ + len * g.2 / n, g.1, nth same g.2 false)
  ({ x with next := some (at_ + len), lastT0 := t0, lag := lag, len := len, aus := good.length, units := x.units ++ units }, told)

/-- The slots of a weave, those whose component has left the assignment after them. -/
def Digital.allSlots (d : Digital) : List DecSlot := d.slots ++ d.ending

/-- Changes the slots of a weave, and tells of mutes at their output positions (R307, R322). -/
def slotsRun (i : Nat) (f : DecSlot → DecSlot × List (Bool × Nat)) (s : State) : State :=
  match digAt s i with
  | some d =>
    let l := d.slots.map f
    let e := d.ending.map f
    let s := gmod i (fun d => { d with slots := l.map (·.1), ending := e.map (·.1) }) s
    (l ++ e).foldl (fun s x => x.2.foldl (fun s m =>
      let p := placeOf s m.2
      tellDig i x.1.comp (if m.1 then 5 else 6) (128 + 16 * d.mode) (pickOf s p.1) p.2 s) s) s
  | none => s

/-- A unit of an audio subchannel or stream has been taken (R297, R305-R307, R310, R313, R315): why all of it fails, how it counts, and what it makes of the slots it is for. (log 153: DEDUCED) -/
def audioUnit (i cap : Nat) (u : AudioUnit) (s : State) : State :=
  match weaveAt s i, digAt s i with
  | some w, some d =>
    let t0 := cap - u.back + flag (u.ns ≠ 0)
    let x := nsTick s (cap - u.back) u.ns
    let y := tickOf s (cap + 1) 0
    let lost := d.sync != lockedSt w.type && decide (d.lostFrom ≤ cap)
    let narrow := w.type == 4 && decide (4 ≤ d.occ) && d.occ != 0xFF && weaveRate s w == 0
    let fails := lost || d.mismatch || narrow || !u.sync || u.codec == 0xFF || d.interAt.any fun z => x < z && z ≤ y
    let good := u.good.map fun g => g && !fails
    let s := digAcc i cap (fun a =>
      let c := (tget a.subs u.sub).getD (0, 0, 0)
      { a with subs := tset a.subs u.sub (c.1, c.2.1, c.2.2 + (good.filter (!·)).length) }) s
    let proto : AudioSeg := ⟨0, 0, false, 0, 0, u.two, u.sbr, u.sync && !lost, touches w.ovl x y, touches w.pd x y, false⟩
    slotsRun i (fun z =>
      if z.comp ≠ nullHandle ∧ compSub s d t0 z.comp = some u.sub ∧ z.from_ ≤ t0 ∧ (z.until_.all fun v => t0 < v) = true then
        let (z, l) := slotUnit s w t0 (cap - t0) u.len proto good u.same z
        ({ z with codec := u.codec, rate := u.rate }, l)
      else (z, [])) s
  | _, _ => s

/-- The unit expected next on a slot fails (R298, R301, R303, R307): the pick in which it would have been whole was MISSED, sync has been lost, or the new configuration lacks its
component. (log 85: DEDUCED, 153: DEDUCED) -/
def slotGone (s : State) (w : Weave) (d : Digital) (i : Nat) (x : DecSlot) : DecSlot × List (Bool × Nat) :=
  let t0 := x.lastT0 + x.len / 48
  let cap := t0 + x.lag
  let missed := s.cluster.dead.contains (i, cap)
  let late := decide (cap + 8 ≤ s.sys.ord)
  let lost := late && d.sync != lockedSt w.type && decide (d.lostFrom ≤ cap)
  let absent := late && (compSub s d t0 x.comp).isNone
  if x.comp ≠ nullHandle ∧ x.next.isSome ∧ (missed || lost || absent) = true ∧ (x.until_.all fun v => t0 < v) = true then
    slotUnit s w t0 x.lag x.len ⟨0, 0, false, 0, 0, false, false, false, false, false, missed⟩ (List.replicate x.aus false) [] x
  else (x, [])

/-- The status byte of a component over the output samples from `x` to before `y` (R306): what no unit covers is zero. -/
def digByte (x y : Nat) (z : DecSlot) : Nat :=
  let l := z.audio.filter fun g => g.at_ < y && x < g.at_ + g.len
  let quiet := l.any fun g => x < g.at_ + min g.muted g.len || g.at_ + g.len - g.tail < min y (g.at_ + g.len)
  let got := l.foldl (fun n g => n + (min y (g.at_ + g.len) - max x g.at_)) 0
  let last := l.find? fun g => g.at_ < y && y ≤ g.at_ + g.len
  flagBits [l.any (·.conc), quiet || decide (got < y - x), last.any (·.two), last.any (·.sbr), last.any (·.sync), l.any (·.ovl), l.any (·.pd), l.any (·.missed)]

/-- The end of a pick on a slot: its status byte; stretches that have left are forgotten. -/
def slotEnd (on : Bool) (x y : Nat) (z : DecSlot) : DecSlot :=
  { z with status := if !on || z.comp == nullHandle then 2 else digByte x y z, audio := z.audio.filter fun g => y < g.at_ + g.len }

/-! Sides of a weave. -/

/-- A label, text or object goes to a component of a subchannel or stream of the weave, where there is one of the kind. -/
def subComp (s : State) (i sub kind : Nat) : Option (Nat × Component) :=
  s.comps.find? fun c => c.2.info.kind == kind && c.2.info.subch == sub && (svcAt s c.2.svc).any fun v => v.weave == some i

/-- A label of DAB or DRM is published (R330-R332): an ensemble label, a service label, or one of a component, with its record on the labels component. -/
def digLabel (i ident : Nat) (comp : Option Nat) (l : LabelRec) (flags cap sample : Nat) (s : State) : State :=
  match s.svcs.find? fun x => x.2.weave == some i && (if l.kind = 4 then x.2.tech == 5 else x.2.tech != 5 && x.2.ident == ident) with
  | some (v, _) =>
    let s := kindRecord v 3 3 flags cap sample (labelBytes l) s
    match comp with
    | none => { s with svcs := tmod s.svcs v fun x => { x with labels := putLabel l x.labels } }
    | some k => { s with comps := s.comps.map fun c =>
        if c.2.svc = v ∧ c.2.info.scids = k ∧ c.2.info.kind ≠ 3 then (c.1, { c.2 with labels := putLabel l c.2.labels }) else c }
  | none => s

/-- What is received of a text, put in the place of what was held of it. -/
def putText (x : TextRecv) (l : List TextRecv) : List TextRecv := (l.filter fun y => !(y.key == x.key && y.kind == x.kind)) ++ [x]

/-- A label received (R330): published when two receptions in succession carry identical content. -/
def label (i ident : Nat) (comp : Option Nat) (kind cset mask : Nat) (raw : List Byte) (cap sample : Nat) (s : State) : State :=
  match digAt s i with
  | some d =>
    let old := d.texts.find? fun y => y.key == (ident, comp) && y.kind == kind
    let same := old.any fun y => y.cset == cset && y.mask == mask && y.parts == [(0, raw)]
    let s := gmod i (fun d => { d with texts := putText ⟨(ident, comp), kind, cset, mask, 0, 0, [(0, raw)], same⟩ d.texts }) s
    if same ∧ (old.all fun y => !y.done) = true then
      digLabel i ident comp ⟨kind, cset, mask, (digText cset raw).getD [], []⟩ (if (digText cset raw).isNone then 2 else 0) cap sample s
    else s
  | none => s

/-- A text of a subchannel or stream is published (R330): on its audio component, with its record on the PAD component or else on the labels component of the service. -/
def subText (i sub : Nat) (l : LabelRec) (flags cap sample : Nat) (s : State) : State :=
  match subComp s i sub 1 with
  | some (k, c) =>
    let s := { s with comps := tmod s.comps k fun c => { c with labels := putLabel l c.labels } }
    match subComp s i sub 5 with
    | some (p, _) => putRecord p 3 flags cap sample (labelBytes l) s
    | none => kindRecord c.svc 3 3 flags cap sample (labelBytes l) s
  | none => s

/-- A segment of DLS or of a DRM text message whose CRC passes (R330): the text is published when all segments of one toggle state have arrived. (log 14: DEDUCED) -/
def segment (i sub kind toggle number last cset : Nat) (raw : List Byte) (cap sample : Nat) (s : State) : State :=
  match digAt s i with
  | some d =>
    let old := d.texts.find? fun y => y.key == (sub, none) && y.kind == kind && y.toggle == toggle
    let parts := tset ((old.map (·.parts)).getD []) number raw
    let whole := (List.range (last + 1)).all fun k => (tget parts k).isSome
    let s := gmod i (fun d => { d with texts := putText ⟨(sub, none), kind, cset, 0, toggle, last, parts, whole⟩ d.texts }) s
    if whole ∧ (old.all fun y => !y.done) = true then
      let all := parts.flatMap (·.2)
      subText i sub ⟨kind, cset, 0, (digText cset all).getD [], []⟩ (if (digText cset all).isNone then 2 else 0) cap sample s
    else s
  | none => s

/-- DL Plus tags are published with the DLS they refer to (R330). -/
def textTags (i sub : Nat) (t : List (Nat × Nat × Nat)) (cap sample : Nat) (s : State) : State :=
  match (subComp s i sub 1).bind fun c => c.2.labels.find? fun l => l.kind == 7 with
  | some l => subText i sub { l with tags := t.take 32 } 0 cap sample s
  | none => s

/-- A MOT slideshow object is complete (R330, R332): one with a body above 1 MiB is discarded and counted. -/
def motObject (i sub id content size : Nat) (header body : List Byte) (cap sample : Nat) (s : State) : State :=
  match subComp s i sub 6 with
  | some (k, _) =>
    if 1048576 < size then { s with comps := tmod s.comps k fun c => { c with discarded := c.discarded + 1 } }
    else putRecord k 4 0 cap sample (leBytes 2 id ++ leBytes 2 content ++ leBytes 4 header.length ++ leBytes 4 body.length ++ header ++ body) s
  | none => s

/-- A linkage entry of DAB or DRM (R329). -/
def digLink (i ident : Nat) (l : Link) (s : State) : State :=
  { s with svcs := s.svcs.map fun x =>
      if x.2.weave = some i ∧ x.2.ident = ident then (x.1, { x.2 with links := putLink { l with heard := s.sys.ord } x.2.links }) else x }

/-! Seconds. -/

/-- MER from the sums of |s|² and of |r − s|² (R382): at most 40.0 dB; a second without cells leaves the last. -/
def merOf (last : Int) (x : Nat × Nat) : Int := if x.1 = 0 then last else if x.2 = 0 then 400 else min 400 ((tenLog false x.1 x.2).getD 400)

/-- A DAB second is over (R316): its figures, and those of the subchannels. -/
def dabSecond (i cap : Nat) (v : DabMeas) (s : State) : State :=
  match weaveAt s i, digAt s i with
  | some w, some d =>
    let k := secStart s cap
    let x := secondOf s cap
    let a := (tget d.acc k).getD DigAcc.none
    let sum := fun (f : Nat × Nat × Nat → Nat) => a.subs.foldl (fun n y => n + f y.2) 0
    let r : DabSecond := { mer := merOf d.dab.mer v.msc, freq := corrected s (firstDent s w) 100 v.freq, fibs := a.total, fibsFailed := a.failed, rsCorr := sum (·.1)
                           rsFail := sum (·.2.1), units := sum (·.2.2)
                           flags := flagBits [false, false, touches w.ovl x.1 x.2, touches w.pd x.1 x.2] }
    let fig := fun (y : Subch) =>
      let c := (tget a.subs y.id).getD (0, 0, 0)
      { y with ber := ((v.bers.find? fun b => b.1 == y.id).map fun b => (ratio 1000000 b.2.1 b.2.2).toNat).getD y.ber, rsCorr := if y.kind = 2 then c.1 else 0
               rsFail := if y.kind = 2 then c.2.1 else 0, units := c.2.2 }
    gmod i (fun d => { d with dab := r, subch := d.subch.map fig, acc := d.acc.filter fun y => k < y.1 }) s
  | _, _ => s

/-- A DRM second is over (R316). -/
def drmSecond (i cap : Nat) (v : DrmMeas) (s : State) : State :=
  match weaveAt s i, digAt s i with
  | some w, some d =>
    let k := secStart s cap
    let x := secondOf s cap
    let a := (tget d.acc k).getD DigAcc.none
    let r : DrmSecond := { freq := corrected s (firstDent s w) 100 v.freq, merMsc := merOf d.drm.merMsc v.msc, merFac := merOf d.drm.merFac v.fac, delay := v.delay, doppler := v.doppler
                           fac := a.failed, units := a.subs.foldl (fun n y => n + y.2.2.2) 0
                           flags := flagBits [false, false, touches w.ovl x.1 x.2, touches w.pd x.1 x.2] }
    gmod i (fun d => { d with drm := r, acc := d.acc.filter fun y => k < y.1 }) s
  | _, _ => s

/-! Stage results. -/

/-- What a completed stage of a DAB weave measured or decoded: demodulation in stages 1 and 2, the FIC in stage 4, the MSC in stages 3 to 5 (R297, R302). -/
def dabFact (i cap stage : Nat) (f : StageFact) (s : State) : State :=
  match f with
  | .dabNull mode ns found off e m c hits => if stage ≤ 2 then dabNull i cap mode ns found off e m c hits s else s
  | .fineFreq x => if stage ≤ 2 then gmod i (fun d => { d with fine := decide (x.natAbs ≤ 10) }) s else s
  | .fib ok cif ix sample eid ecc data => if stage = 4 then fib i cap cif ix sample eid ecc ok data s else s
  | .mci sample subch svcs => if stage = 4 then mci i cap sample subch svcs s else s
  | .reconfig picks ns subch svcs => if stage = 4 then reconfig i cap picks ns subch svcs s else s
  | .label ident comp kind cset mask raw sample => if stage = 4 then label i ident comp kind cset mask raw cap sample s else s
  | .link ident l => if stage = 4 then digLink i ident l s else s
  | .codewords sub c e => if inR 3 stage 5 then digAcc i cap (fun a =>
      let x := (tget a.subs sub).getD (0, 0, 0)
      { a with subs := tset a.subs sub (x.1 + c, x.2.1 + e, x.2.2) }) s else s
  | .unit u => if inR 3 stage 5 then audioUnit i cap u s else s
  | .segment sub kind toggle n last cset raw sample => if inR 3 stage 5 then segment i sub kind toggle n last cset raw cap sample s else s
  | .tags sub l sample => if inR 3 stage 5 then textTags i sub l cap sample s else s
  | .mot sub id content size header body sample => if inR 3 stage 5 then motObject i sub id content size header body cap sample s else s
  | .data sub type bytes sample => if inR 3 stage 5 ∧ inR 5 type 6 = true then (match subComp s i sub 7 with
      | some (k, _) => putRecord k type 0 cap sample bytes s
      | none => s) else s
  | .dabSecond v => if stage = 5 then digAcc i cap (fun a => { a with dab := some v }) s else s
  | _ => s

/-- What a completed stage of a DRM weave measured or decoded: demodulation in stages 1 to 3, audio in stages 4 to 7 (R297). -/
def drmFact (i cap stage : Nat) (f : StageFact) (s : State) : State :=
  match f with
  | .drmSymbol mode sample ok off => if stage ≤ 3 then drmSymbol i cap mode sample ok off s else s
  | .drmFrame ns super => if stage ≤ 3 then drmFrame i cap ns super s else s
  | .drmFac ok occ inter constel sample span => if stage = 3 then drmFac i cap occ inter constel sample span ok s else s
  | .drmSdc _ svcs => if stage = 3 then drmSdc i svcs s else s
  | .reconfig picks ns subch svcs => if stage = 3 then reconfig i cap picks ns subch svcs s else s
  | .label ident comp kind cset mask raw sample => if stage = 3 then label i ident comp kind cset mask raw cap sample s else s
  | .link ident l => if stage = 3 then digLink i ident l s else s
  | .unit u => if inR 4 stage 7 then audioUnit i cap u s else s
  | .segment sub kind toggle n last cset raw sample => if inR 4 stage 7 then segment i sub kind toggle n last cset raw cap sample s else s
  | .data sub type bytes sample => if inR 4 stage 7 ∧ inR 5 type 6 = true then (match subComp s i sub 7 with
      | some (k, _) => putRecord k type 0 cap sample bytes s
      | none => s) else s
  | .drmSecond v => if stage = 7 then digAcc i cap (fun a => { a with drm := some v }) s else s
  | _ => s

/-- What a completed stage of a digital weave measured or decoded. -/
def digFact (i cap stage : Nat) (f : StageFact) (s : State) : State :=
  if ((weaveAt s i).map (·.type)).getD 0 = 3 then dabFact i cap stage f s else drmFact i cap stage f s

/-! The end of a pick. -/

/-- The time limits of the sync states (R301, R311), once the stages that could have met them are over. -/
def syncTimes (i : Nat) (w : Weave) (d : Digital) (s : State) : State :=
  let o := s.sys.ord
  if w.type = 3 then
    if d.sync = 1 ∧ d.heard + 1004 ≤ o then goSync i 0 0 (d.heard + 1000) 0 s
    else if d.sync = 2 ∧ d.heard + 2004 ≤ o then syncLost i (d.heard + 2000) (d.heard + 2000) 0 s
    else s
  else
    let t := if tb8 w.block 0 = 0 then 3000 else 1000
    if (d.sync = 1 ∨ d.sync = 2) ∧ d.since + t + 3 ≤ o then goSync i 0 0 (d.since + t) 0 s else s

/-- The end of a pick for one digital weave: its time limits, the units that fail unseen, and the status bytes. -/
def digPick (s : State) (i : Nat) : State :=
  let x := audioPos s s.sys.ord 0
  let y := audioPos s (s.sys.ord + 1) 0
  match weaveAt s i, digAt s i with
  | some w, some d =>
    let s := if weaveOn s i then slotsRun i (slotGone s w d i) (syncTimes i w d s) else s
    gmod i (fun d => { d with slots := d.slots.map (slotEnd (weaveOn s i) x y)
                              ending := (d.ending.map (slotEnd (weaveOn s i) x y)).filter fun z => !z.audio.isEmpty || z.until_.any fun u =>
                                decide (s.sys.ord ≤ u + w.depth + 1) }) s
  | _, _ => s

/-- The end of a pick for digital weaves. -/
def digEnd (s : State) : State := (s.dig.map (·.1)).foldl digPick s

/-- The configurations whose output side begins at the present boundary (R303, R326): the MCI the status reports is theirs. (log 83: DEDUCED) -/
def digDue (s : State) : State :=
  (s.svcChg.filter fun c => c.due ≤ s.sys.ord && c.ident.isNone).foldl (fun s c =>
    gmod c.weave (fun d => { d with subch := c.subch.map (figures d.subch), services := c.svcs.length, reconf := false }) s) s

/-! Commands. -/

/-- A weave of a type, and what it holds. -/
def digFor (s : State) (h : Handle) (type : Nat) : Chk (Obj × Weave × Digital) := do
  let o ← objNow s h 4
  let w ← get! .badHandle (weaveAt s (hIndex h))
  need (w.type == type) .badParam
  let d ← get! .badParam (digAt s (hIndex h))
  pure (o, w, d)

/-- The slot entries of a status reply (R320): a weave that is not ACTIVE reports MUTED. -/
def slotBytes (o : Obj) (d : Digital) : List Byte :=
  d.slots.flatMap fun x => handleBytes x.comp ++ byte (if o.st = .active then x.status else 2) ++ byte x.codec ++ byte x.rate ++ zeros 1

/-- The DAB_STATUS reply (R320). -/
def dabStatusBytes (s : State) (o : Obj) (w : Weave) (d : Digital) : List Byte :=
  let v := d.dab
  handleBytes o.handle ++ byte d.sync ++ byte d.mode
    ++ byte (flagBits [d.mci, d.reconf, bit (tb8 w.block 2) 1, bit v.flags 2, bit v.flags 3, blockNotify w.type w.block])
    ++ byte d.slots.length ++ leBytes 2 w.depth ++ leBytes 2 d.eid ++ byte d.subch.length ++ byte d.services ++ leSigned 2 v.mer
    ++ leSigned 4 ((v.freq + 5) / 10) ++ leCount 2 v.fibs ++ leCount 2 v.fibsFailed ++ leCount 2 v.rsCorr ++ leCount 2 v.rsFail ++ leCount 2 v.units
    ++ leBytes 2 d.cif ++ leCount 4 d.losses ++ zeros 4 ++ leBytes 8 (now s) ++ slotBytes o d

/-- DAB_STATUS (R318). -/
def execDabStatus (h : Hdr) (weave : Handle) (s : State) : Host.Outcome State Fault Refusal :=
  serve (.dabStatus h weave) 0x0720 .operator .fw h weave (fun s => chk do
    let (o, w, d) ← digFor s weave 3
    okay (dabStatusBytes s o w d) s) s

/-- The DAB_SUBCH_READ reply (R320). -/
def subchBytes (s : State) (h : Handle) (x : Subch) : List Byte :=
  handleBytes h ++ byte x.id ++ byte x.prot ++ leBytes 2 x.start ++ leBytes 2 x.size ++ leBytes 2 x.rate ++ leBytes 4 x.ber
    ++ leCount 2 x.rsCorr ++ leCount 2 x.rsFail ++ leCount 2 x.units ++ byte x.kind ++ zeros 1 ++ leBytes 8 (now s)

/-- DAB_SUBCH_READ (R318). -/
def execDabSubchRead (h : Hdr) (weave : Handle) (id : Nat) (s : State) : Host.Outcome State Fault Refusal :=
  serve (.dabSubchRead h weave id) 0x0721 .operator .fw h weave (fun s => chk do
    need (id < 64) .badParam
    let (_, _, d) ← digFor s weave 3
    let x ← get! .badParam (d.subch.find? fun x => x.id == id)
    okay (subchBytes s weave x) s) s

/-- The DAB_TII_READ reply (R321). -/
def tiiBytes (h : Handle) (d : Digital) : List Byte :=
  let l := tiiListed d
  handleBytes h ++ byte l.length ++ byte d.mode ++ zeros 2 ++ leBytes 8 d.tiiPick ++ leBytes 4 d.tiiNs ++ zeros 4
    ++ l.flatMap fun x => byte x.main ++ byte x.sub ++ leSigned 2 x.level ++ leSigned 4 x.arrival ++ byte x.count ++ byte (flag (decide (-200 ≤ x.level ∧ 150 ≤ d.dab.mer)))
      ++ zeros 2

/-- DAB_TII_READ (R321). -/
def execDabTiiRead (h : Hdr) (weave : Handle) (s : State) : Host.Outcome State Fault Refusal :=
  serve (.dabTiiRead h weave) 0x0722 .operator .fw h weave (fun s => chk do
    let (_, _, d) ← digFor s weave 3
    okay (tiiBytes weave d) s) s

/-- The DRM_STATUS reply (R320). -/
def drmStatusBytes (s : State) (o : Obj) (w : Weave) (d : Digital) : List Byte :=
  let v := d.drm
  handleBytes o.handle ++ byte d.sync ++ byte d.mode ++ byte d.occ ++ byte d.slots.length ++ leBytes 2 w.depth ++ byte d.constel
    ++ byte d.inter ++ byte (flagBits [d.mismatch, d.reconf, bit v.flags 2, bit v.flags 3, blockNotify w.type w.block, d.sdc])
    ++ byte d.services ++ zeros 2 ++ leSigned 4 v.freq ++ leSigned 2 v.merMsc ++ leSigned 2 v.merFac ++ leBytes 2 v.delay
    ++ leBytes 2 v.doppler ++ leCount 2 v.fac ++ leCount 2 v.units ++ leBytes 8 d.framePick ++ leBytes 4 d.frameNs ++ zeros 4
    ++ leBytes 8 (now s) ++ slotBytes o d

/-- DRM_STATUS (R318). -/
def execDrmStatus (h : Hdr) (weave : Handle) (s : State) : Host.Outcome State Fault Refusal :=
  serve (.drmStatus h weave) 0x0730 .operator .fw h weave (fun s => chk do
    let (o, w, d) ← digFor s weave 4
    okay (drmStatusBytes s o w d) s) s

/-- A handle is an audio component of a weave (R319). -/
def audioOf (s : State) (i : Nat) (c : Handle) : Bool :=
  (compAt s (hIndex c)).any fun x => x.info.kind == 1 && (svcAt s x.svc).any fun v => v.weave == some i

/-- DIG_DECODE_SET (R319). (log 127: DEDUCED) -/
def execDigDecodeSet (h : Hdr) (weave : Handle) (n target : Nat) (comps : List Handle) (s : State) : Host.Outcome State Fault Refusal :=
  serve (.digDecodeSet h weave n target comps) 0x0740 .operator .run h weave (fun s =>
    if comps.length ≠ n then .fail .badLength
    else chk do
      need (n ≤ 16) .badParam
      let due ← get! .badParam (dueOf s target)
      let o ← objIs s weave 4
      let w ← get! .badHandle (weaveAt s (hIndex weave))
      need (comps.all fun c => hClass c == 6 && (objOf s c).isSome) .badHandle
      need (w.type == 3 || w.type == 4) .badParam
      need (comps.all (audioOf s (hIndex weave)) && distinct comps) .badParam
      need (!ownedWeave s (hIndex weave)) .conflict
      pendingOk o due false
      need (n ≤ slotsOf w.type w.block) .noResource
      okay (posReply s due 0) (sched ⟨due, 0, weave, 52, .digDecodeSet h weave n target comps, 0⟩ s)) s

/-- The slot assignment changes (R319): a component in both the old and the new one runs on; a new one is heard from its first unit whose T0 lies at or after the boundary, with a fade-in; one
that is left out up to its first such unit. (log 85: DEDUCED) -/
def applyDecode (h : Handle) (comps : List Handle) (s : State) : State :=
  let i := hIndex h
  let o := s.sys.ord
  gmod i (fun d =>
    let new := (List.range d.slots.length).map fun k => match comps[k]? with
      | some c => if audioOf s i c then (d.slots.find? fun x => x.comp == c).getD { DecSlot.vacant with comp := c, from_ := o, fails := 2 } else DecSlot.vacant
      | none => DecSlot.vacant
    let left := d.slots.filter fun x => x.comp != nullHandle && x.next.isSome && !new.any fun y => y.comp == x.comp
    { d with slots := new, ending := d.ending ++ left.map fun x => { x with until_ := some o } }) s

end Sys2Proof.Machine
end

