-- ==== Sys2Proof/Machine/Follow.lean ====
section
/-! DEFINITION. Service following (R344-R376): sources and their failures, delay estimates, candidate states, run-ahead weaves and the hop
warp, commits, fades and undos, and the commands. -/

namespace Sys2Proof.Machine

/-- A follow set. -/
def followAt (s : State) (i : Nat) : Option Follow := tget s.follows i

/-- Changes a follow set. -/
def fmod (i : Nat) (f : Follow → Follow) (s : State) : State := { s with follows := tmod s.follows i f }

/-- Changes a source of a follow set. -/
def srcMod (i n : Nat) (f : Src → Src) (s : State) : State := fmod i (fun x => { x with srcs := lmod x.srcs n f }) s

/-- The code of a source's state (R375). -/
def SrcState.code : SrcState → Nat
  | .current => 0 | .absent => 1 | .waiting => 2 | .acquiring => 3 | .verified => 4 | .primed => 5

/-- The body of the follow events (R376). -/
def followBody (set : Handle) (code entry cause : Nat) (x : Option Src) (pick sample : Nat) : List Byte :=
  handleBytes set ++ byte code ++ byte entry ++ byte cause ++ zeros 1 ++ handleBytes ((x.map (·.req.comp)).getD nullHandle)
    ++ leSigned 4 ((x.map (·.d)).getD 0) ++ leBytes 8 pick ++ leBytes 2 sample ++ zeros 2

/-- A set is in AUTO, and so on: the code of its state (R363). -/
def Follow.state (f : Follow) : Nat :=
  match f.fade with
  | none => 0
  | some e => if e.undoing.isSome then 2 else 1

/-! Sources. -/

/-- The service of a component. -/
def compSvc (s : State) (h : Handle) : Option Service := (compAt s (hIndex h)).bind fun c => svcAt s c.svc

/-- A component is SUSPENDED, or no longer issued. -/
def compGone (s : State) (h : Handle) : Bool := (objOf s h).all fun o => o.st == .suspended

/-- The component's service is SUSPENDED with cause RELEASED (R324, R355). -/
def compReleased (s : State) (h : Handle) : Bool :=
  (compAt s (hIndex h)).any fun c => (objAt s 5 c.svc).any svcReleased

/-- Identifiers agree under a mask (R345). -/
def agrees (e : SrcReq) (ident : Nat) : Bool := ident &&& e.mask == e.ident &&& e.mask

/-- A source matches (R345): its service is identified, an FM one with its PI accepted. -/
def srcMatches (s : State) (e : SrcReq) : Bool :=
  match compSvc s e.comp with
  | some v => agrees e v.ident && v.identified &&
      (v.tech != 2 || v.weave.any fun w => (tget s.ana w).any fun a => a.piOk)
  | none => false

/-- A component is decoded (R354): while its weave is ACTIVE, a digital one only in a decoder slot. (log 131: DEDUCED) -/
def decoded (s : State) (h : Handle) : Bool :=
  match compWeave s h with
  | some w => weaveState s w == .active && (tget s.dig w).all fun d => d.slots.any fun x => x.comp == h
  | none => false

/-- The failure conditions of R350 that hold for a source in the present pick, by code; SUSPENDED first, then in the order of the
table. (log 90: DEDUCED) -/
def conds (s : State) (x : Src) : List Nat :=
  let h := x.req.comp
  let w := compWeave s h
  let v := w.bind (weaveAt s)
  let a := w.bind fun i => tget s.ana i
  let d := w.bind fun i => tget s.dig i
  let on := w.any fun i => weaveState s i == .active
  let slot := d.bind fun d => d.slots.find? fun y => y.comp == h
  let tech : Nat := ((compSvc s h).map fun (v : Service) => v.tech).getD 0
  let ecc : Nat := ((compSvc s h).map fun (v : Service) => v.ecc).getD 0
  let sync := match a, d with
    | some a, _ => a.rds && !a.badRun
    | _, some d => d.sync == (if v.any fun w => w.type == 3 then 2 else 3)
    | _, _ => false
  let heard := a.any fun a => a.piLog.any fun p => s.sys.ord < p.2 + 1000 && agrees x.req (p.1 + ecc * 65536)
  let verify := if tech = 2 then heard && !(a.any (·.piSwap) && !srcMatches s x.req) else srcMatches s x.req
  let audio := match a, d with
    | some a, _ => !a.fadeOut
    | _, some d => !d.mismatch && slot.any fun y => !y.bad
    | _, _ => true
  [(4, compGone s h), (1, !(on && sync)), (2, !verify), (3, !audio), (5, v.any (·.missing))].filterMap fun c =>
    if c.2 then some c.1 else none

/-- A candidate is verified (R351). -/
def srcVerified (s : State) (x : Src) : Bool := srcMatches s x.req && (conds s x).all fun c => c == 3 || c == 5

/-- A candidate is within the window (R348). -/
def inWindow (f : Follow) (x : Src) : Bool := inI 0 ((f.hold : Int) - x.d) 384000

/-- A list of lags lies within ±2 of its median (R353). (log 92: DEDUCED) -/
def near (l : List Int) : Bool :=
  let t := sortBy (fun z => (z + 1000000).toNat) l
  let a := nth t ((l.length - 1) / 2) 0
  let b := nth t (l.length / 2) 0
  l.all fun z => inI (-4) (2 * z - (a + b)) 4

/-- The delay of a candidate is confident (R353). (log 92: DEDUCED) -/
def confident (f : Follow) (x : Src) : Bool :=
  x.rho ≥ f.cfg.thr * 10 && f.cfg.k ≤ x.agree && f.cfg.k ≤ x.lags.length && near (x.lags.take f.cfg.k)

/-- A candidate may be PRIMED (R354). -/
def mayPrime (s : State) (f : Follow) (x : Src) : Bool :=
  srcVerified s x && confident f x && inWindow f x && !x.failed && decoded s x.req.comp

/-- The state a source begins in (R354). (log 91: DEDUCED) -/
def srcStart (s : State) (e : SrcReq) : SrcState :=
  if compGone s e.comp then (if bit e.flags 0 && compReleased s e.comp then .waiting else .absent) else .acquiring

/-- A source as a command names it. -/
def newSrc (s : State) (e : SrcReq) (st : SrcState) : Src :=
  { req := e, st := st, d := 0, lags := [], rho := 0, agree := 0, lastEst := 0, failed := false, code := 0, failOrd := 0, condOrd := 0
    primedOrd := s.sys.ord, dent := none, weave := none, onHop := false, tried := 0, from_ := s.sys.ord, dirty := [], silent := [] }

/-- A candidate's state changes (R354), reported while NOTIFY is set. -/
def candGo (i n : Nat) (st : SrcState) (s : State) : State :=
  match followAt s i with
  | some f =>
    match f.srcs[n]? with
    | some x =>
      if x.st = st then s
      else
        let clear := st == .waiting
        let s := srcMod i n (fun x => { x with st := st, primedOrd := if st = .primed ∨ st = .waiting then s.sys.ord else x.primedOrd
                                               lags := if clear then [] else x.lags, agree := if clear then 0 else x.agree
                                               rho := if clear then 0 else x.rho }) s
        if f.notify then ev 0x0903 (followBody (handleOf s 7 i) st.code n 0 (some x) (now s) 0) s else s
    | none => s
  | none => s

/-- The next state of a candidate under the candidate state machine (R354). (log 91: DEDUCED) -/
def candNext (s : State) (f : Follow) (x : Src) : SrcState :=
  let gone := compGone s x.req.comp
  let ra := bit x.req.flags 0
  match x.st with
  | .current => .current
  | .absent => if !gone then .acquiring else if ra && compReleased s x.req.comp then .waiting else .absent
  | .waiting => if x.weave.isSome || !gone then .acquiring else if ra then .waiting else .absent
  | st =>
    if gone && !ra then .absent
    else if gone && x.weave.isNone && compReleased s x.req.comp then .waiting
    else if !srcVerified s x then .acquiring
    else if st = .acquiring then .verified
    else if mayPrime s f x then .primed
    else .verified

/-- A candidate follows the state machine to where it rests. (log 91: DEDUCED) -/
def candRun : Nat → Nat → Nat → State → State
  | 0, _, _, s => s
  | k + 1, i, n, s =>
    match followAt s i with
    | some f =>
      match f.srcs[n]? with
      | some x => if candNext s f x = x.st then s else candRun k i n (candGo i n (candNext s f x) s)
      | none => s
    | none => s

/-- The status byte of an audio component for the output pick that ends (R262, R306). -/
def compStatus (s : State) (c : Handle) : Nat :=
  match compWeave s c with
  | some i => match tget s.ana i with
    | some a => a.status
    | none => ((tget s.dig i).bind fun d => (d.slots ++ d.ending).find? fun x => x.comp == c).elim 2 (·.status)
  | none => 2

/-- What a set's buffer takes in of a source over the output pick that ends (R352, R364). -/
def srcSee (s : State) (x : Src) : Src :=
  let b := compStatus s x.req.comp
  let o := s.sys.ord
  let y := audioPos s o 0
  let old := keepSpans x.silent (y - 432000)
  { x with dirty := if b &&& 0x83 = 0 then x.dirty.filter (o < · + 3000) else o :: x.dirty.filter (o < · + 3000)
           silent := if b = 2 then addSpan old y (audioPos s (o + 1) 0) else old }

/-- At least 90 % of the picks of a source's window carry none of CONCEALED, MUTED and MISSED (R352); a pick before it was a source counts as one that does. (log 92: DEDUCED) -/
def cleanWindow (s : State) (x : Src) : Bool := decide (x.dirty.length + (x.from_ + 2999 - s.sys.ord) ≤ 300)

/-- An estimate is formed for a candidate at the end of a pick that is a multiple of 1,000 (R346, R352, R353). (log 92: DEDUCED) -/
def takeEst (s : State) (e : Estimate) : State :=
  match followAt s e.set with
  | some f =>
    match f.srcs[e.entry]? with
    | some x =>
      if now s % 1000 = 0 ∧ s.clk.state ≠ .degraded ∧ e.entry ≠ 0 ∧ compGone s x.req.comp = false ∧ decoded s x.req.comp = true ∧ cleanWindow s x = true ∧
          (f.srcs.head?).any (cleanWindow s) = true ∧ -500 ≤ e.rms then
        let rho := if e.lag.natAbs ≥ 384000 - 48 then 0 else e.rho
        let run := (e.lag :: x.lags).take 8
        let good := near (run.take f.cfg.k)
        let y : Src := if rho < f.cfg.thr * 10 then { x with lags := [], agree := 0 }
          else if good then { x with lags := run, agree := min (x.agree + 1) 8 }
          else { x with lags := [e.lag], agree := 1 }
        srcMod e.set e.entry (fun _ => { y with d := e.lag, rho := rho, lastEst := now s }) s
      else s
    | none => s
  | none => s

/-! What the module owns. -/

/-- A dent goes to FREE (R224). -/
def freeDent (h : Handle) (s : State) : State := { forget h (unissue h s) with dents := tdel s.dents (hIndex h) }

/-- The weave and the dent a source owns are released (R357); the handles released. -/
def freeOwned (i n : Nat) (s : State) : List Handle × State :=
  match (followAt s i).bind fun f => f.srcs[n]? with
  | some x =>
    let wh := (x.weave.map (handleOf s 4)).toList
    let dh := (x.dent.map (handleOf s 3)).toList
    let s := wh.foldl (fun s h => freeWeave h s) s
    let s := dh.foldl (fun s h => freeDent h s) s
    let s := (wh ++ dh).foldl (fun s h => announce 4 h s.tb.pick (zeros 4) s) s
    (wh ++ dh, srcMod i n (fun x => { x with weave := none, dent := none }) s)
  | none => ([], s)

/-- The centre frequencies of the Band III blocks 5A to 13F, in Hz. (log 86: PRESUMED) -/
def bandIII : List Nat :=
  [174928000, 176640000, 178352000, 180064000, 181936000, 183648000, 185360000, 187072000, 188928000, 190640000, 192352000, 194064000
  , 195936000, 197648000, 199360000, 201072000, 202928000, 204640000, 206352000, 208064000, 209936000, 211648000, 213360000, 215072000
  , 216928000, 218640000, 220352000, 222064000, 223936000, 225648000, 227360000, 229072000, 230784000, 232496000, 234208000, 235776000
  , 237488000, 239200000]

/-- The centre of the nearer guard of a block: half-way to the neighbour that lies nearer, the lower one where both lie alike. (log 86: PRESUMED) -/
def guardOf (f : Nat) : Nat :=
  let dist := fun (b : Nat) => ((b : Int) - f).natAbs
  match least dist (bandIII.filter fun b => dist b > 800000) with
  | some b => (b + f) / 2
  | none => f + 856000

/-- The dent and weave kind for a service (R355): rate code, declared bandwidth, and the kind of the type defaults. A DRM service above
30 MHz is mode E. (log 86: PRESUMED) -/
def aheadKind (v : Service) : Nat × Nat × Nat :=
  if v.tech = 2 then (4, 256000, 1)
  else if v.tech = 3 then (7, 1536000, 3)
  else if v.freq > 30000000 then (3, 100000, 5)
  else (0, nth [4500, 5000, 9000, 10000] v.occ 10000, 4)

/-- The dent of a run-ahead candidate on a warp (R355). -/
def aheadDent (v : Service) (w : Nat) : DentReq :=
  let (r, bw, _) := aheadKind v
  ⟨fixedHandle 2 w, r, 0, 1, 0, v.freq * 1000000, bw, 0⟩

/-- The weave of a run-ahead candidate (R355). -/
def aheadWeave (f : Follow) (v : Service) (dent : Handle) : WeaveReq :=
  let (_, _, k) := aheadKind v
  let b := defaultBlock k 1
  ⟨if v.tech = 2 then 2 else v.tech, 1, f.cfg.runPrio, 0xFF, 1, 0, b.length, [dent], b⟩

/-- A dent and a weave for a candidate on a warp, created at a boundary (R355): all or nothing. -/
def aheadMake (i n w due : Nat) (s : State) : Option State :=
  match followAt s i, (followAt s i).bind fun f => f.srcs[n]? with
  | some f, some x =>
    match compSvc s x.req.comp with
    | some v =>
      match dentCreate (selfHdr 4) (aheadDent v w) 0 due s with
      | .ok (dh, _, t) =>
        match weaveCreate (selfHdr 4) (aheadWeave f v dh) 0 due t with
        | .ok (wh, _, t) =>
          let t := announce 3 wh (pickAt t due) [] (announce 3 dh (pickAt t due) [] t)
          let t := gmod (hIndex wh) (fun d => { d with slots := d.slots.map fun y => { y with comp := x.req.comp } }) t
          some (srcMod i n (fun x => { x with dent := some (hIndex dh), weave := some (hIndex wh) }) t)
        | .error _ => none
      | .error _ => none
    | none => none
  | _, _ => none

/-- The warp of a candidate (R355): the one its entry names, or the lowest that is routed from a port and on which the dent fits. -/
def aheadWarp (s : State) (v : Service) (e : SrcReq) : Option Nat :=
  if e.warp ≠ nullHandle then some (hIndex e.warp)
  else
    let d := aheadDent v 0
    (List.range 8).find? fun w => routeOf s w != nullHandle && !isHop s w && (laneOk s w d.freq d.bw).isOk

/-- A run-ahead weave is attempted for a candidate (R355); a refusal leaves it WAITING. (log 93: DEDUCED) -/
def runAhead (i n : Nat) (s : State) : State :=
  let s := srcMod i n (fun x => { x with tried := s.sys.ord }) s
  match followAt s i, (followAt s i).bind fun f => f.srcs[n]? with
  | some f, some x =>
    if bit x.req.flags 0 && compReleased s x.req.comp && x.weave.isNone && n != 0 && !mirroring s then
      match compSvc s x.req.comp with
      | some v =>
        match aheadWarp s v x.req with
        | some w => (aheadMake i n w (s.sys.ord + 2) s).getD s
        | none => if f.cfg.hop = nullHandle then s else srcMod i n (fun x => { x with onHop := true }) s
      | none => s
    else s
  | _, _ => s

/-! The hop warp. -/

/-- A candidate takes turns on the hop warp (R358). -/
def takesTurn (s : State) (x : Src) : Bool := x.onHop && bit x.req.flags 0 && compReleased s x.req.comp

/-- The entry visited next, in entry order after the last (R358). -/
def nextVisit (s : State) (f : Follow) : Option Nat :=
  let p := f.visiting.getD 0
  ([1, 2, 3].map fun k => (p - 1 + k) % 3 + 1).find? fun n => n != 0 && ((f.srcs[n]?).any (takesTurn s))

/-- The LO for a visit (R358): EXACT, at the candidate's frequency + 500 kHz, or the centre of the nearer guard of its block. -/
def visitTune (v : Service) : TuneReq := ⟨if v.tech = 3 then guardOf v.freq else v.freq + 500000, 0, 0xFF, 0, 0⟩

/-- The end of a visit at the present boundary, before the releases of step 4 (R358); the handles released. (log 93: DEDUCED) -/
def visitLeave (i : Nat) (s : State) : List Handle × State :=
  match followAt s i with
  | some f =>
    if f.visitEnd = some s.sys.ord then
      match f.visiting with
      | some n =>
        let (l, s) := freeOwned i n s
        (l, candGo i n .waiting s)
      | none => ([], s)
    else ([], s)
  | none => ([], s)

/-- A visit begins at the present boundary (R358): the warp retunes at step 5, and the dent and weave are created at the next
boundary. (log 93: DEDUCED) -/
def visitBegin (i : Nat) (s : State) : State :=
  match followAt s i with
  | some f =>
    if f.visitEnd = some s.sys.ord then
      match nextVisit s f with
      | some n =>
        let s := fmod i (fun f => { f with visiting := some n, visitEnd := none, visitAt := s.sys.ord }) s
        match (f.srcs[n]?).bind fun x => compSvc s x.req.comp with
        | some v =>
          let w := hIndex f.cfg.hop
          let s := applyTune w (visitTune v) s
          match aheadMake i n w (s.sys.ord + 1) s with
          | some t => candGo i n .acquiring t
          | none => s
        | none => s
      | none => fmod i (fun f => { f with visiting := none, visitEnd := none }) s
    else s
  | none => s

/-- The hop warp is free and a candidate waits for it: a visit begins at the next boundary (R358). (log 93: DEDUCED) -/
def hopWake (i : Nat) (s : State) : State :=
  match followAt s i with
  | some f =>
    if f.cfg.hop ≠ nullHandle ∧ f.visiting = none ∧ f.visitEnd = none ∧ f.stopped = false ∧ (nextVisit s f).isSome = true ∧ mirroring s = false then
      fmod i (fun f => { f with visitEnd := some (s.sys.ord + 1) }) s
    else s
  | none => s

/-- At a boundary, once the objects have been suspended and resumed: a candidate whose component has gone, come back or is no longer decoded moves on (R33, R354). (log 91: DEDUCED) -/
def candsTurn (s : State) : State :=
  s.follows.foldl (fun s f => [1, 2, 3].foldl (fun s n =>
    match (followAt s f.1).bind fun g => (g.srcs[n]?).map fun x => (g, x) with
    | some (g, x) =>
      let gone := compGone s x.req.comp
      if stCode s (handleOf s 7 f.1) != 0 && ((x.st == .absent && !gone) || (x.st != .absent && x.st != .waiting && (gone || (x.st == .primed && !decoded s x.req.comp)))) then
        candGo f.1 n (candNext s g x) s
      else s
    | none => s) s) s

/-! Fades. -/

/-- The position at which a fade, or its undo, ends (R360, R361). -/
def Fade.endAt (e : Fade) : Nat :=
  match e.undoing with
  | some u => e.at_ + 2 * (u - e.at_)
  | none => e.at_ + e.len

/-- The stretch of a set's output that begins at a position. -/
def Follow.leg (f : Follow) (x : Nat) : Leg :=
  let cur := (f.srcs.head?.map (·.req.comp)).getD nullHandle
  match f.fade with
  | none => ⟨x, cur, f.hold, nullHandle, 0, 0, 0, none⟩
  | some e => ⟨x, cur, f.hold, (f.srcs[e.entry]?.map (·.req.comp)).getD nullHandle, f.hold - e.d, e.at_, e.len, e.undoing⟩

/-- A set's output takes a new course from sample `j` of the present pick on. -/
def turnOut (i j : Nat) (s : State) : State := fmod i (fun f => { f with legs := (f.leg (audioPos s s.sys.ord j) :: f.legs).take 8 }) s

/-- The weight w(k) of a fade of F samples, in 2⁻³¹ (R360): sin² of half the angle whose cosine is taken. (log 146: DESIGN CHOICE) -/
def fadeWeight (k : Int) (len : Nat) : Int := 2 ^ 30 - (cosSin (((2 * k + 1) * 2 ^ 30 / max 1 (len : Int)) % 2 ^ 32).toNat).1

/-- A sample of a source as the set's buffer holds it (R348, R364): zero where its component produced none. (log 120: DESIGN CHOICE) -/
def bufSample (f : Follow) (c : Handle) (x : Int) (ch : Nat) : Int :=
  if x < 0 ∨ (f.srcs.any fun y => y.req.comp == c && touches y.silent x.toNat (x.toNat + 1)) = true then 0
  else (Config.audio c.toNat 1 x.toNat ch).toInt

/-- The sample of a set's output at a position, by channel (R348, R360, R361). (log 120: DESIGN CHOICE) -/
def followSample (f : Follow) (x ch : Nat) : Int :=
  match f.legs.find? fun l => l.from_ ≤ x with
  | some l =>
    let old := bufSample f l.old ((x : Int) - 48 - l.oldH) ch
    if l.new = nullHandle then old
    else
      let new := bufSample f l.new ((x : Int) - 48 - l.newH) ch
      let k : Int := match l.undo with
        | some u => 2 * ((u : Int) - l.c) - 1 - (x - l.c)
        | none => x - l.c
      let w := fadeWeight k l.len
      roundDiv ((2 ^ 31 - w) * old + w * new) (2 ^ 31)
  | none => 0

/-- A commit falls due (R359). In MIRROR the owner has decided; where the owner aborts one it says so (R604, R612). -/
def applyCommit (h : Handle) (entry sample fade : Nat) (s : State) : State :=
  let i := hIndex h
  match followAt s i with
  | some f =>
    let x := f.srcs[entry]?
    let fresh := x.any fun x => x.condOrd ≥ f.commitAt && x.code != 0
    if f.fade.isNone && ((x.any (fun x => x.st == .primed && mayPrime s f x) && !fresh) || (mirroring s && x.isSome)) then
      let e : Fade := ⟨entry, audioPos s s.sys.ord sample, sample, s.tb.pick, (if fade = 0 then f.cfg.fade else fade) * 48, (x.map (·.d)).getD 0, none, none⟩
      let s := turnOut i sample (fmod i (fun f => { f with fade := some e, stopped := f.stopped || x.any (·.onHop) }) s)
      ev 0x0901 (followBody h 1 entry 0 x s.tb.pick sample) s
    else
      let s := fmod i (fun f => { f with aborts := f.aborts + 1 }) s
      announce 6 h s.tb.pick (byte 3 ++ byte entry ++ leBytes 2 sample ++ leBytes 4 fade)
        (ev 0x0901 (followBody h 3 entry (if fresh then (x.map (·.code)).getD 0 else 0x10) x s.tb.pick sample) s)
  | none => s

/-- The priority of an owned weave is set at the next boundary (R356). -/
def ownPrio (w : Option Nat) (prio : Nat) (s : State) : State :=
  match w with
  | some w =>
    let h := handleOf s 4 w
    sched ⟨s.sys.ord + 1, 0, h, 50, .weaveSet (selfHdr 2) h prio 0 0 [], 0⟩ s
  | none => s

/-- A switch completes (R349, R356, R360): the entries change places, and every delay is rebased. (log 91: DEDUCED) -/
def switchDone (i : Nat) (sample : Nat) (s : State) : State :=
  match followAt s i with
  | some f =>
    match f.fade with
    | some e =>
      let h := handleOf s 7 i
      let new := f.srcs[e.entry]?
      let s := ev 0x0901 (followBody h 2 e.entry 0 new s.tb.pick sample) s
      let rebase := fun (x : Src) => { x with d := x.d - e.d, lags := x.lags.map (· - e.d) }
      let old := (f.srcs.head?).map fun x => { rebase { x with d := 0 } with st := .acquiring }
      let cur := new.map fun x => { x with st := .current, d := 0, lags := [], agree := 0 }
      let put := f.srcs.zipIdx.map fun x =>
        if x.2 = 0 then cur.getD x.1 else if x.2 = e.entry then old.getD x.1 else rebase x.1
      let hopOld := f.srcs.head?.any (·.onHop)
      let s := fmod i (fun f => { f with
          srcs := put, hold := ((f.hold : Int) - e.d).toNat, fade := none, lastFade := (e.pick, e.sample), switches := f.switches + 1
          visiting := if f.visiting = some e.entry then none else if hopOld then some e.entry else f.visiting
          stopped := if new.any (·.onHop) then true else if hopOld then false else f.stopped }) s
      ownPrio (f.srcs.head?.bind (·.weave)) f.cfg.runPrio (ownPrio (new.bind (·.weave)) f.cfg.curPrio s)
    | none => s
  | none => s

/-- An undo ends (R361): the old source continues alone, and rotation resumes at the end of the visit. (log 93: DEDUCED) -/
def undoDone (i : Nat) (s : State) : State :=
  fmod i (fun f => { f with fade := none, stopped := false }) s

/-- Deferred swaps whose fades have all ended take effect (R367): at the dent's first sample at or after the position. (log 74: DEDUCED) -/
def swapsFree (sample : Nat) (s : State) : State :=
  s.dents.foldl (fun s x =>
    let h := handleOf s 3 x.1
    if x.2.defer.isSome && !fading s h then
      let k := (sample * rateS x.2.rate + 47) / 48
      if k < rateS x.2.rate then applySwap h k 2 s
      else schedAlso ⟨s.sys.ord + 1, 0, h, 44, .dentBankSwap (selfHdr 2) h 0 0, 0⟩ (dmod x.1 (fun y => { y with defer := none }) s)
    else s) s

/-- The fade of a set as sample `j` of the present pick comes (R360-R362). -/
def fadeStep (i j : Nat) (s : State) : State :=
  match (followAt s i).bind (·.fade) with
  | some e =>
    let here := audioPos s s.sys.ord j
    let h := handleOf s 7 i
    let s := match e.undo, e.undoing with
      | some (u, c), none =>
        if u = s.sys.ord ∧ j = 0 then
          if (followAt s i).any fun f => (f.srcs.head?).any (·.failed) then
            fmod i (fun f => { f with fade := some { e with undo := none } }) s
          else
            let s := turnOut i 0 (fmod i (fun f => { f with fade := some { e with undoing := some here }, undos := f.undos + 1 }) s)
            ev 0x0902 (followBody h 1 e.entry c ((followAt s i).bind fun f => f.srcs[e.entry]?) s.tb.pick 0) s
        else s
      | _, _ => s
    match (followAt s i).bind (·.fade) with
    | some e => if e.endAt = here then swapsFree j (turnOut i j (if e.undoing.isSome then undoDone i s else switchDone i j s)) else s
    | none => s
  | none => s

/-- Every set's fade as a sample of the present pick comes. -/
def fadesAt (j : Nat) (s : State) : State := s.follows.foldl (fun s f => fadeStep f.1 j s) s

/-! The end of a pick. -/

/-- Failures decided in the pick that ends (R350). (log 90: DEDUCED) -/
def failStep (s : State) (x : Src) : Src :=
  match (conds s x).head? with
  | some c => { x with failed := true, code := c, condOrd := s.sys.ord, failOrd := if x.failed then x.failOrd else s.sys.ord }
  | none => x

/-- A failure of the new source decided during its fade is undone from u, where the old source is not failed (R361, R362). -/
def undoStep (s : State) (f : Follow) : Follow :=
  match f.fade with
  | some e =>
    let bad := (f.srcs[e.entry]?).any fun x => x.failed && x.condOrd == s.sys.ord
    let old := f.srcs.head?.any (·.failed)
    if mirroring s = false ∧ e.undo = none ∧ bad = true ∧ old = false ∧ audioPos s (s.sys.ord + 2) 0 < e.endAt then
      { f with fade := some { e with undo := some (s.sys.ord + 2, ((f.srcs[e.entry]?).map (·.code)).getD 0) } }
    else f
  | none => f

/-- The candidate the shipped policy commits to (R365). -/
def autoPick (s : State) (f : Follow) : Option Nat :=
  let cur := f.srcs.head?
  let l := (f.srcs.zipIdx.filter fun x => x.2 != 0 && x.1.st == .primed)
  if cur.any (fun c => c.failed && c.failOrd + f.cfg.lossHold ≤ s.sys.ord) then (least (fun x => x.1.req.rank) l).map (·.2)
  else if bit f.cfg.flags 0 then
    let ok := fun (x : Src × Nat) =>
      cur.any (fun c => decide (x.1.req.rank < c.req.rank)) && x.1.primedOrd + f.cfg.revert * 1000 ≤ s.sys.ord
    (least (fun x => x.1.req.rank) (l.filter ok)).map (·.2)
  else none

/-- The shipped policy commits (R365). -/
def autoCommit (i : Nat) (s : State) : State :=
  match followAt s i with
  | some f =>
    let h := handleOf s 7 i
    if mirroring s = false ∧ f.cfg.mode = 1 ∧ f.fade = none ∧ (pendOf s h 60).isNone = true ∧ stCode s h ≠ 3 then
      match autoPick s f with
      | some n =>
        announce 6 h (s.tb.pick + 2) (byte 1 ++ byte n ++ zeros 2 ++ leBytes 4 f.cfg.fade) <| fmod i (fun f => { f with commitAt := s.sys.ord })
          (schedQ ⟨s.sys.ord + 2, 0, h, 60, .followCommit (selfHdr 2) h n 0 (s.tb.pick + 2) f.cfg.fade, 0⟩ s)
      | none => s
    else s
  | none => s

/-- The end of a pick for a follow set: estimates have been taken. An undo decided is announced (R604). -/
def followEnd (i : Nat) (s : State) : State :=
  match followAt s i with
  | some _ =>
    if stCode s (handleOf s 7 i) = 0 then s
    else
      let undoing := fun (s : State) => ((followAt s i).bind (·.fade)).bind (·.undo)
      let was := undoing s
      let s := fmod i (fun f => undoStep s { f with srcs := f.srcs.map (failStep s) }) s
      let s := match undoing s with
        | some (u, _) => if was.isNone then announce 6 (handleOf s 7 i) (pickAt s u)
              (byte 0x10 ++ byte ((((followAt s i).bind (·.fade)).map (·.entry)).getD 0) ++ zeros 6) s else s
        | none => s
      let s := [1, 2, 3].foldl (fun s n => candRun 4 i n s) s
      let tried := fun (n : Nat) => (followAt s i).any fun f => (f.srcs[n]?).any fun x => x.st == .waiting && x.primedOrd == s.sys.ord
      let s := [1, 2, 3].foldl (fun s n => if tried n then runAhead i n s else s) s
      autoCommit i (hopWake i s)
  | none => s

/-- The end of a pick for following (R350-R365); what happened within the pick is then forgotten. -/
def followsEnd (ests : List Estimate) (s : State) : State :=
  let s := ests.foldl takeEst { s with follows := s.follows.map fun f => (f.1, { f.2 with srcs := f.2.srcs.map (srcSee s) }) }
  let s := s.follows.foldl (fun s f => followEnd f.1 s) s
  let calm := fun (y : DecSlot) => { y with bad := false }
  { s with ana := s.ana.map fun x => (x.1, { x.2 with piSwap := false, badRun := false, fadeOut := false })
           dig := s.dig.map fun x => (x.1, { x.2 with slots := x.2.slots.map calm, ending := x.2.ending.map calm }) }

/-! Timers. -/

/-- 1,000 consecutive picks without a failure condition end a source's failed state (R350). -/
def execSourceFailureClear (set : Fin 64) (entry : Fin 4) (s : State) : Host.Outcome State Fault Refusal :=
  .next (srcMod set entry (fun x =>
    if x.failed = true ∧ (conds s x).isEmpty = true ∧ x.condOrd + 1000 ≤ s.sys.ord then { x with failed := false } else x) s)

/-- A refused run-ahead creation is retried (R355). -/
def execRunAheadRetry (set : Fin 64) (entry : Fin 4) (s : State) : Host.Outcome State Fault Refusal :=
  if (followAt s set).any fun f => (f.srcs[entry.val]?).any fun x => x.st == .waiting && !x.onHop && decide (x.tried + 1000 ≤ s.sys.ord) then .next (runAhead set entry s)
  else .next s

/-- A visit has lasted its length (R358): the next begins at the next boundary, unless rotation is stopped. (log 93: DEDUCED) -/
def execHopVisitEnd (set : Fin 64) (s : State) : Host.Outcome State Fault Refusal :=
  .next (fmod set (fun f => if f.visiting.isSome && !f.stopped && decide (f.visitAt + f.cfg.visit ≤ s.sys.ord + 1) then { f with visitEnd := some (s.sys.ord + 1) } else f) s)

/-! Commands. -/

/-- The checks of an entry's own fields (R371). -/
def entryOk (e : SrcReq) : Bool := e.rank < 4 && only e.flags 1

/-- The handles of an entry (check 9). -/
def entryHandles (s : State) (e : SrcReq) : Chk Unit := do
  discard (objIs s e.comp 6)
  if e.warp != nullHandle then discard (objIs s e.warp 2)

/-- An entry names an audio component of an FM, DAB or DRM service (R344). -/
def entrySuits (s : State) (e : SrcReq) : Bool :=
  (compAt s (hIndex e.comp)).any fun c => c.info.kind == 1 && (svcAt s c.svc).any fun v => v.tech == 2 || v.tech == 3 || v.tech == 4

/-- The policy's defaults (R374). -/
def policyReset : FollowCfg := ⟨1, 0, 50, 80, 3, 30, 10000, nullHandle, 200, 40, 0⟩

/-- FOLLOW_CREATE (R371). (log 127: DEDUCED) -/
def execFollowCreate (h : Hdr) (n group flags hold target : Nat) (entries : List SrcReq) (s : State) :
    Host.Outcome State Fault Refusal :=
  serve (.followCreate h n group flags hold target entries) 0x0901 .operator .run h nullHandle (fun s =>
    let head : Chk Nat := do
      need (entries.length == n) .badLength
      need (inR 1 n 4 && (group < 8 || group == 0xFF) && only flags 1 && hold ≤ 384000 && entries.all entryOk) .badParam
      let due ← get! .badParam (dueOf s target)
      entries.forM (entryHandles s)
      need (entries.all (entrySuits s) && distinct (entries.map (·.comp))) .badParam
      need ((objsOf s 7).length < 64) .noResource
      pure due
    match head with
    | .error c => .fail c
    | .ok due =>
      match roomFor s (charges s) group (followCost n) with
      | .error k => .bad .noResource (refuseAdm k s)
      | .ok g =>
        match issue 7 .pending (entries.map (·.comp)) [] due s with
        | none => .fail .noResource
        | some (hd, t) =>
          let srcs := entries.zipIdx.map fun e => newSrc s e.1 (if e.2 = 0 then .current else .absent)
          let f : Follow := { srcs := srcs, hold := hold, group := g, notify := bit flags 0, cfg := policyReset, fade := none
                              lastFade := (0, 0), replaced := 0, switches := 0, undos := 0, aborts := 0, commitAt := 0, stopped := false
                              visitEnd := none, visiting := none, visitAt := 0, charged := n, legs := [] }
          let c := followCost n
          .done .ok (handleBytes hd ++ leBytes 8 (pickAt s due) ++ byte g ++ zeros 3 ++ leBytes 4 c.cycles ++ leBytes 4 c.fft
              ++ leBytes 4 c.dram)
            (sched ⟨due, 0, hd, 20, .followCreate h n g flags hold target entries, 0⟩ { t with follows := tset t.follows (hIndex hd) f })) s

/-- The candidates a set has just taken in leave ABSENT for what their components make of them (R354). (log 91: DEDUCED) -/
def srcsStart (i : Nat) (s : State) : State :=
  match followAt s i with
  | some f => f.srcs.zipIdx.foldl (fun s x => if x.1.st = .absent then candGo i x.2 (srcStart s x.1.req) s else s) s
  | none => s

/-- A follow set is created at its boundary (R370). -/
def applyFollowCreate (h : Handle) (s : State) : State :=
  let i := hIndex h
  let s := omod h (fun o => { o with st := .active }) s
  srcsStart i (turnOut i 0 (fmod i (fun f => { f with srcs := f.srcs.map fun x => { x with primedOrd := s.sys.ord, from_ := s.sys.ord } }) s))

/-- A follow set a scheduling command names. -/
def followFor (s : State) (h : Handle) : Chk (Obj × Follow) := do
  let o ← objIs s h 7
  let f ← get! .badHandle (followAt s (hIndex h))
  pure (o, f)

/-- FOLLOW_SET (R372). (log 127: DEDUCED, 133: DEDUCED) -/
def execFollowSet (h : Hdr) (set : Handle) (n target : Nat) (entries : List SrcReq) (s : State) : Host.Outcome State Fault Refusal :=
  serve (.followSet h set n target entries) 0x0902 .operator .run h set (fun s =>
    let head : Chk (Nat × Follow) := do
      need (entries.length == n) .badLength
      need (n ≤ 3 && entries.all entryOk) .badParam
      let due ← get! .badParam (dueOf s target)
      let (o, f) ← followFor s set
      entries.forM (entryHandles s)
      need (entries.all (entrySuits s) && distinct (((f.srcs.head?).map (·.req.comp)).toList ++ entries.map (·.comp))) .badParam
      pendingOk o due false
      need f.fade.isNone .conflict
      pure (due, f)
    match head with
    | .error c => .fail c
    | .ok (due, f) =>
      let i := hIndex set
      let t := fmod i (fun f => { f with charged := n + 1 }) (sched ⟨due, 0, set, 61, .followSet h set n target entries, 0⟩ s)
      let done := Ans.done .ok (posReply s due 0) t
      if n + 1 > f.srcs.length then
        match roomFor s (charges { s with follows := tdel s.follows i }) f.group (followCost (n + 1)) with
        | .error k => .bad .noResource (refuseAdm k s)
        | .ok _ => done
      else done) s

/-- The candidates a FOLLOW_SET removes give up what the module owns for them (R357); the handles released. -/
def followDrop (h : Handle) (entries : List SrcReq) (s : State) : List Handle × State :=
  let i := hIndex h
  match followAt s i with
  | some f =>
    f.srcs.zipIdx.foldl (fun a x =>
      if x.2 != 0 && !entries.any (fun e => e.comp == x.1.req.comp) then
        let (l, t) := freeOwned i x.2 a.2
        (a.1 ++ l, t)
      else a) ([], s)
  | none => ([], s)

/-- The candidates are replaced (R372): one whose component appears again keeps its state and estimates. (log 23: DESIGN CHOICE, 133: DEDUCED) -/
def applyFollowSet (h : Handle) (entries : List SrcReq) (s : State) : State :=
  let i := hIndex h
  match followAt s i with
  | some f =>
    let keep := fun (e : SrcReq) => match (f.srcs.drop 1).find? fun x => x.req.comp == e.comp with
      | some x => { x with req := e }
      | none => newSrc s e .absent
    let srcs := f.srcs.take 1 ++ entries.map keep
    let place := fun (n : Nat) => ((f.srcs[n]?).bind fun x => (srcs.zipIdx.find? fun y => y.1.req.comp == x.req.comp).map (·.2))
    let s := fmod i (fun f => { f with srcs := srcs, visiting := f.visiting.bind place }) s
    srcsStart i (omod h (fun o => { o with inputs := srcs.map (·.req.comp) }) s)
  | none => s

/-- FOLLOW_COMMIT (R373). -/
def execFollowCommit (h : Hdr) (set : Handle) (entry sample target fade : Nat) (s : State) : Host.Outcome State Fault Refusal :=
  serve (.followCommit h set entry sample target fade) 0x0903 .operator .run h set (fun s => chk do
    need (inR 1 entry 3 && sample < 48 && (fade == 0 || inR 5 fade 200)) .badParam
    let due ← get! .badParam (dueOf s target)
    let (o, f) ← followFor s set
    pendingOk o due false
    need f.fade.isNone .conflict
    let x ← get! .notReady (f.srcs[entry]?)
    need (x.st == .primed && mayPrime s f x) .notReady
    let len := (if fade = 0 then f.cfg.fade else fade) * 48
    okay (posReply s due sample ++ zeros 2 ++ leBytes 4 len ++ leSigned 4 ((f.hold : Int) - x.d))
      (fmod (hIndex set) (fun f => { f with commitAt := s.sys.ord })
        (sched ⟨due, sample, set, 60, .followCommit h set entry sample target fade, 0⟩ s))) s

/-- FOLLOW_RELEASE (R370). -/
def execFollowRelease (h : Hdr) (set : Handle) (target : Nat) (s : State) : Host.Outcome State Fault Refusal :=
  serve (.followRelease h set target) 0x0904 .operator .run h set (fun s => chk do
    let due ← get! .badParam (dueOf s target)
    let (o, _) ← followFor s set
    pendingOk o due true
    okay (posReply s due 0) (sched ⟨due, 0, set, 10, .followRelease h set target, 0⟩ s)) s

/-- A follow set goes to FREE with what the module owns for it (R357, R363); the handles released. -/
def freeFollow (h : Handle) (s : State) : List Handle × State :=
  let (l, s) := followDrop h [] s
  let (l0, s) := freeOwned (hIndex h) 0 s
  (h :: l ++ l0, { unissue h s with follows := tdel s.follows (hIndex h) })

/-- The source record of FOLLOW_STATUS (R375). -/
def srcBytes (s : State) (f : Follow) (x : Option Src) : List Byte :=
  match x with
  | none => zeros 32
  | some x =>
    let cand := x.st != .current
    handleBytes x.req.comp ++ handleBytes ((compWeave s x.req.comp).elim nullHandle (handleOf s 4)) ++ byte x.st.code ++ byte x.req.rank
      ++ byte (flagBits [x.weave.isSome, x.onHop, x.failed, cand && !inWindow f x, srcVerified s x, !decoded s x.req.comp])
      ++ byte x.code ++ leSigned 4 (if cand then x.d else 0) ++ leBytes 2 x.rho ++ byte x.agree ++ zeros 1
      ++ leSigned 4 (if cand then (f.hold : Int) - x.d else f.hold) ++ leBytes 8 x.lastEst

/-- The FOLLOW_STATUS reply (R375). -/
def followBytes (s : State) (o : Obj) (f : Follow) : List Byte :=
  let deferred := (s.dents.filter fun x => x.2.defer.isSome && (weaveOf s (handleOf s 3 x.1)).any fun w =>
    (fadeComps f).any fun c => compWeave s c == some w.1).length
  let c := f.fade.elim f.lastFade fun e => (e.pick, e.sample)
  handleBytes o.handle ++ byte o.st.code ++ byte f.state ++ byte f.cfg.mode
    ++ byte (flagBits [f.srcs.head?.any (·.failed), (pendOf s o.handle 60).isSome, f.notify, f.stopped]) ++ leBytes 4 f.hold
    ++ leBytes 4 (f.fade.elim 0 (·.len)) ++ leBytes 8 c.1 ++ leBytes 2 c.2 ++ leBytes 2 deferred ++ leCount 4 f.replaced
    ++ leCount 4 f.switches ++ leCount 4 f.undos ++ leCount 4 f.aborts ++ zeros 4 ++ leBytes 8 (now s)
    ++ [0, 1, 2, 3].flatMap fun n => srcBytes s f f.srcs[n]?

/-- FOLLOW_STATUS (R375). -/
def execFollowStatus (h : Hdr) (set : Handle) (s : State) : Host.Outcome State Fault Refusal :=
  serve (.followStatus h set) 0x0905 .operator .fw h set (fun s => chk do
    let o ← objNow s set 7
    let f ← get! .badHandle (followAt s (hIndex set))
    okay (followBytes s o f) s) s

/-- The checks of a FOLLOW_POLICY's fields (R374). -/
def policyOk (c : FollowCfg) : Bool :=
  c.mode < 2 && only c.flags 1 && inR 5 c.fade 200 && inR 50 c.thr 99 && inR 1 c.k 8 && inR 1 c.revert 3600 && inR 500 c.visit 60000 &&
  c.curPrio < 256 && c.runPrio < 256 && c.lossHold ≤ 1000

/-- A warp may become the hop warp of a set (R358): no dent on it but the set's own, and no other set's. -/
def hopOk (s : State) (i : Nat) (f : Follow) (w : Handle) : Bool :=
  s.dents.all (fun x => x.2.warp != hIndex w || f.srcs.any fun y => y.dent == some x.1) &&
  s.follows.all fun x => x.1 == i || x.2.cfg.hop != w

/-- FOLLOW_POLICY (R374). -/
def execFollowPolicy (h : Hdr) (set : Handle) (c : FollowCfg) (s : State) : Host.Outcome State Fault Refusal :=
  serve (.followPolicy h set c) 0x0906 .operator .run h set (fun s => chk do
    need (policyOk c) .badParam
    let due := s.sys.ord + 2
    let (o, f) ← followFor s set
    if c.hop != nullHandle then
      discard (objIs s c.hop 2)
      need (hIndex c.hop < 6) .badParam
    pendingOk o due false
    need (c.hop == nullHandle || hopOk s (hIndex set) f c.hop) .conflict
    okay (posReply s due 0) (sched ⟨due, 0, set, 62, .followPolicy h set c, 0⟩ s)) s

/-- A policy takes effect (R358, R374): a hop warp that is given up ends its visit, its candidates placed anew. (log 23: DESIGN CHOICE) -/
def applyPolicy (h : Handle) (c : FollowCfg) (s : State) : List Handle × State :=
  let i := hIndex h
  match followAt s i with
  | some f =>
    let s := fmod i (fun f => { f with cfg := c }) s
    if f.cfg.hop = c.hop then ([], s)
    else
      let (l, s) := match f.visiting with
        | some n =>
          let (l, t) := freeOwned i n s
          (l, candGo i n .waiting t)
        | none => ([], s)
      (l, fmod i (fun f => { f with visiting := none, visitEnd := none, stopped := false
                                    srcs := f.srcs.map fun x => if x.st = .current then x else { x with onHop := false } }) s)
  | none => ([], s)

end Sys2Proof.Machine
end

