-- ==== Sys2Proof/Machine/Rtc.lean ====
section
/-! DEFINITION. The real-time clock (R531-R548): ticks and trim, supply and oscillator, settings of the count, the weekday counter, alarms, the
conversions between counts and dates, and the RTC commands. -/

namespace Sys2Proof.Machine

/-- Changes the clock. -/
def rmod (f : Rtc → Rtc) (s : State) : State := { s with rtc := f s.rtc }

/-- Ticks in a day of 86,400 s (R531). -/
def dayTicks : Nat := 2831155200

/-! Events. -/

/-- The body of EV_RTC_ALARM (R548). -/
def alarmBody (k : Nat) (skipped down atArm : Bool) (pick : Nat) : List Byte :=
  byte k ++ byte (flagBits [skipped, down, atArm]) ++ zeros 6 ++ leBytes 8 pick

/-- The body of EV_RTC_SUPPLY (R548). (log 107: DEDUCED) -/
def supplyBody (s : State) (code dur pick : Nat) : List Byte :=
  byte code ++ byte (flagBits [s.rtc.onBackup, s.rtc.osf]) ++ leBytes 2 s.rtc.vbackup ++ leCount 4 dur ++ leBytes 8 pick

/-- An alarm fires (R541, R542): reported at once while firmware runs, else at the next firmware start. -/
def alarmFire (k : Nat) (skipped atArm : Bool) (s : State) : State :=
  let s := rmod (fun r => { r with alarms := lmod r.alarms k fun a =>
    { a with st := .fired, skipped := skipped, down := !running s } }) s
  ev 0x0D01 (alarmBody k skipped false atArm (now s)) s

/-- An alarm. -/
def alarmAt (s : State) (k : Nat) : Alarm := nth s.rtc.alarms k ⟨0, .disarmed, false, false⟩

/-! Ticks. -/

/-- The count advances by one (R531, R540, R541): the weekday at a crossing of DAY_OFFSET, then the alarms; a wrap fires none. -/
def tickOnce (s : State) : State :=
  let c := s.rtc.count + 1
  let cross := c.toNat % dayTicks = s.rtc.dayOff
  let s := rmod (fun r => { r with count := c, ticks := r.ticks + 1, weekday := if cross then (r.weekday + 1) % 7 else r.weekday }) s
  [0, 1].foldl (fun s k =>
    let a := alarmAt s k
    if a.st = .armed ∧ c ≠ 0 ∧ a.value = c.toNat then alarmFire k false false s else s) s

/-- A correction is made at the end of block `b` (R533). (log 108: DEDUCED) -/
def corrects (t : Int) (b : Nat) : Bool := b * t.natAbs / 128 < (b + 1) * t.natAbs / 128

/-- One cycle of the crystal (R531, R533): a trim correction at the end of a block adds a tick or drops one. (log 108: DEDUCED) -/
def execRtcTick (s : State) : Host.Outcome State Fault Refusal :=
  if !s.rtc.running || !s.rtc.powered then .next s
  else
    let c := (s.rtc.cycle + 1) % 2 ^ 20
    let last := c % 8192 = 0
    let b := s.rtc.cycle / 8192
    let t := s.rtc.trimRun
    let fix := last && corrects t b
    let s := if fix && t < 0 then s else if fix then tickOnce (tickOnce s) else tickOnce s
    .next (rmod (fun r => { r with cycle := c, trimRun := if last then r.trim else r.trimRun }) s)

/-- The oscillator stops (R536): the count holds and OSF is set. (log 107: DEDUCED) -/
def execRtcOscStop (s : State) : Host.Outcome State Fault Refusal :=
  if s.rtc.running then
    let was := s.rtc.osf
    let s := rmod (fun r => { r with running := false, osf := true }) s
    .next (if was then s else ev 0x0D02 (supplyBody s 5 0 (now s)) s)
  else .next s

/-- The crystal restarts (R536): the count resumes from the same value. -/
def execRtcOscRestart (s : State) : Host.Outcome State Fault Refusal :=
  .next (rmod (fun r => { r with running := r.powered }) s)

/-! Supply. -/

/-- D0 switches to VBACKUP (R534): a backup episode begins. -/
def execRtcToBackup (s : State) : Host.Outcome State Fault Refusal :=
  if s.rtc.onBackup || !s.rtc.powered then .next s
  else
    let s := rmod (fun r => { r with onBackup := true, epStart := r.count.toNat }) s
    .next (ev 0x0D02 (supplyBody s 1 0 (now s)) s)

/-- D0 returns to the rail (R534): the episode ends and is counted. -/
def execRtcToMain (s : State) : Host.Outcome State Fault Refusal :=
  if s.rtc.onBackup then
    let d := (s.rtc.count.toNat + 2 ^ 56 - s.rtc.epStart) % 2 ^ 56 / 32768
    let s := rmod (fun r => { r with onBackup := false, episodes := r.episodes + 1, lastDur := d, lastRet := r.count.toNat
                                     epDown := r.epDown || !running s }) s
    .next (ev 0x0D02 (supplyBody s 2 d (now s)) s)
  else .next s

/-- D0 at its power-up (R535): what the firmware keeps of the cell and of the last boundary is not D0 state. (log 106: DEDUCED) -/
def Rtc.cleared (r : Rtc) : Rtc :=
  { Rtc.powerUp with lowThr := r.lowThr, vbackup := r.vbackup, low := r.low, lowPrev := r.lowPrev, latched := r.latched, latch := r.latch
                     ticks := r.ticks, marks := r.marks }

/-- The supply of D0 collapses while it runs from VBACKUP (R535). -/
def execBackupCollapse (s : State) : Host.Outcome State Fault Refusal :=
  if s.rtc.onBackup then .next (rmod (fun r => { r.cleared with powered := false, running := false }) s) else .next s

/-- D0 powers up after it had no supply (R534, R535): on the cell while VMAIN is absent, an episode begins. -/
def execD0PowerUp (s : State) : Host.Outcome State Fault Refusal :=
  if s.rtc.powered then .next s
  else .next (rmod (fun r => { r.cleared with onBackup := !s.sys.vmainGood }) s)

/-- VBACKUP is measured while firmware runs (R537). -/
def execVbackupMeasure (mv : Nat) (s : State) : Host.Outcome State Fault Refusal :=
  if !running s then .next s
  else
    let v := if mv < 2000 then 0 else mv
    let under := v < s.rtc.lowThr
    let raise := under && s.rtc.lowPrev && !s.rtc.low
    let clear := s.rtc.low && s.rtc.lowThr + 100 ≤ v
    let s := rmod (fun r => { r with vbackup := v, lowPrev := under, low := (r.low || raise) && !clear }) s
    .next (if raise then ev 0x0D02 (supplyBody s 3 0 (now s)) s else if clear then ev 0x0D02 (supplyBody s 4 0 (now s)) s else s)

/-! Settings of the count. -/

/-- The count is set (R538, R541): OSF is cleared; an armed alarm that the count passes fires with SKIPPED. -/
def setCount (c : BitVec 56) (s : State) : State :=
  let old := s.rtc.count.toNat
  let s := rmod (fun r => { r with count := c, osf := false }) s
  [0, 1].foldl (fun s k =>
    let a := alarmAt s k
    if a.st = .armed ∧ old < a.value ∧ a.value ≤ c.toNat then alarmFire k true false s else s) s

/-- The count is latched at a boundary (R532), and marked for the rate every 1,000 boundaries while the timebase is LOCKED (R547). -/
def latchCount (s : State) : State :=
  let mark := (gridOf s s.sys.ord, s.rtc.ticks)
  rmod (fun r => { r with latch := (r.count :: r.latch).take 4000, latched := r.count
                          marks := if s.tb.state != .locked then [] else if s.sys.ord % 1000 = 0 then (mark :: r.marks).take 1001 else r.marks }) s

/-- The rate of the count against the timebase over the last 1,000 s in 0.001 ppm, the trim included (R547); none before its window is full. (log 158: DEDUCED) -/
def rtcRate (s : State) : Option Int :=
  match s.rtc.marks, s.rtc.marks[1000]? with
  | x :: _, some y =>
    let d : Int := 32768 * ((x.1 : Int) - y.1)
    if d ≤ 0 then none else some ((2000000000 * (8000 * ((x.2 : Int) - y.2) - d) + d) / (2 * d))
  | _, _ => none

/-- The count in force at a boundary is the latched one with any setting applied (R532). -/
def settleCount (s : State) : State := rmod (fun r => { r with latched := r.count }) s

/-- A due RTC_SET (R538). -/
def applyRtcSet (kind value : Nat) (s : State) : State :=
  setCount (if kind = 0 then BitVec.ofNat 56 value else s.rtc.count + BitVec.ofNat 56 value) s

/-- A setting of the count is pending (R547): of the host or of the time policy. -/
def rtcPending (s : State) : Bool := (pendOf s nullHandle 90).isSome || s.time.setDue.isSome

/-! Dates. -/

/-- A leap year of the proleptic Gregorian calendar (R543). -/
def leap (y : Nat) : Bool := (y % 4 == 0 && y % 100 != 0) || y % 400 == 0

/-- The length of a month. -/
def monthLen (y m : Nat) : Nat :=
  if m = 2 then (if leap y then 29 else 28) else if m = 4 ∨ m = 6 ∨ m = 9 ∨ m = 11 then 30 else 31

/-- Days from 1970-01-01 to the first day of a year: 477 leap days come before 1970. -/
def yearDays (y : Nat) : Nat := 365 * (y - 1970) + ((y - 1) / 4 + (y - 1) / 400 - (y - 1) / 100 - 477)

/-- Days of a year before a month. -/
def monthDays (y : Nat) : Nat → Nat
  | 0 => 0
  | 1 => 0
  | m + 2 => monthDays y (m + 1) + monthLen y (m + 1)

/-- Days from 1970-01-01 to a date (R544). -/
def dateDays (y m d : Nat) : Nat := yearDays y + monthDays y m + (d - 1)

/-- The count of a date (R544). -/
def dateTicks (x : Date) : Nat :=
  (dateDays x.year x.month x.day * 86400 + x.hour * 3600 + x.minute * 60 + x.second) * 32768 + x.sub

/-- The year a day lies in: the 400-year cycle, then the century, the four years and the year within it. -/
def dayYear (d : Nat) : Nat :=
  let z := d + 719162
  let c := min (z % 146097 / 36524) 3
  let r := z % 146097 - c * 36524
  let q := r / 1461
  let y := min ((r - q * 1461) / 365) 3
  z / 146097 * 400 + c * 100 + q * 4 + y + 1

/-- The month that day `n` of a year lies in, from month `m` on, and the day of it. -/
def dayMonth (y : Nat) : Nat → Nat → Nat → Nat × Nat
  | 0, m, n => (m, n + 1)
  | k + 1, m, n => if n < monthLen y m then (m, n + 1) else dayMonth y k (m + 1) (n - monthLen y m)

/-- The date of a count (R545). -/
def ticksDate (t : Nat) : Date :=
  let secs := t / 32768
  let d := secs / 86400
  let s := secs % 86400
  let y := dayYear d
  let (m, n) := dayMonth y 11 1 (d - yearDays y)
  ⟨y, m, n, s / 3600, s / 60 % 60, s % 60, t % 32768⟩

/-- The weekday of a count: 0 is Monday, and tick 0 falls on a Thursday (R543). -/
def ticksWeekday (t : Nat) : Nat := (t / dayTicks + 3) % 7

/-- Month, day and time exist (R544). -/
def dateOk (x : Date) : Bool :=
  inR 1 x.month 12 && inR 1 x.day (monthLen x.year x.month) && x.hour < 24 && x.minute < 60 && x.second < 60

/-- The calendar fields (R544). -/
def dateBytes (x : Date) (weekday : Nat) : List Byte :=
  leBytes 2 x.year ++ byte x.month ++ byte x.day ++ byte x.hour ++ byte x.minute ++ byte x.second ++ byte weekday ++ leBytes 2 x.sub
    ++ zeros 2

/-! Commands. -/

/-- RTC_READ (R532, R547). -/
def execRtcRead (h : Hdr) (s : State) : Host.Outcome State Fault Refusal :=
  serve (.rtcRead h) 0x0D01 .operator .all h nullHandle (fun s => chk do
    let c := if domOn s 2 then s.rtc.latched else s.rtc.count
    okay (leBytes 8 c.toNat ++ leBytes 8 (now s) ++ byte (flagBits [s.rtc.osf, rtcPending s]) ++ byte s.rtc.weekday ++ zeros 2) s) s

/-- RTC_SET (R538). -/
def execRtcSet (h : Hdr) (kind value target : Nat) (s : State) : Host.Outcome State Fault Refusal :=
  serve (.rtcSet h kind value target) 0x0D02 .installer .fw h nullHandle (fun s => chk do
    need (kind < 2) .badParam
    need (value < 2 ^ 64 && (if kind = 0 then value < 2 ^ 56 else value < 2 ^ 55 || 2 ^ 64 - 2 ^ 55 ≤ value)) .badParam
    let due ← get! .badParam (dueOf s target)
    okay (posReply s due 0) (schedQ ⟨due, 0, nullHandle, 90, .rtcSet h kind value target, 0⟩ s)) s

/-- RTC_TRIM (R533, R546): from the start of the next block. -/
def execRtcTrim (h : Hdr) (trim : Int) (s : State) : Host.Outcome State Fault Refusal :=
  serve (.rtcTrim h trim) 0x0D03 .installer .fw h nullHandle (fun s => chkRec 0 s do
    need (inI (-127) trim 127) .badParam
    cfgOk s
    okay [] (cfgTouch (roleOf s h) (rmod (fun r => { r with trim := trim }) s))) s

/-- RTC_ALARM_SET (R541, R546). -/
def execRtcAlarmSet (h : Hdr) (alarm flags value : Nat) (s : State) : Host.Outcome State Fault Refusal :=
  serve (.rtcAlarmSet h alarm flags value) 0x0D04 .operator .fw h nullHandle (fun s => chk do
    need (alarm < 2 && only flags 1 && value < 2 ^ 56) .badParam
    let put := fun (st : AlarmState) (s : State) =>
      rmod (fun r => { r with alarms := lmod r.alarms alarm fun _ => ⟨value, st, false, false⟩ }) s
    let off := fun (a : Alarm) => { a with st := .disarmed, skipped := false, down := false }
    okay [] (if !bit flags 0 then rmod (fun r => { r with alarms := lmod r.alarms alarm off }) s
      else if s.rtc.count.toNat < value then put .armed s
      else alarmFire alarm false true (put .fired s))) s

/-- The code of an alarm's state (R547). -/
def AlarmState.code : AlarmState → Nat
  | .disarmed => 0 | .armed => 1 | .fired => 2

/-- The RTC_STATUS reply (R547). -/
def rtcStatusBytes (s : State) : List Byte :=
  let r := s.rtc
  let (a, b) := (alarmAt s 0, alarmAt s 1)
  byte (flagBits [r.osf, r.onBackup, r.low, r.d0Reset, rtcPending s]) ++ byte r.weekday ++ leBytes 2 r.vbackup ++ leBytes 2 r.vsw
    ++ leSigned 1 r.trim ++ byte (a.st.code + 4 * flag a.skipped + 8 * b.st.code + 32 * flag b.skipped) ++ leBytes 4 r.dayOff
    ++ leSigned 4 ((rtcRate s).getD (-2147483648)) ++ leCount 2 r.episodes ++ zeros 2 ++ leCount 4 r.lastDur ++ leBytes 8 r.lastRet

/-- RTC_STATUS (R547). -/
def execRtcStatus (h : Hdr) (s : State) : Host.Outcome State Fault Refusal :=
  serve (.rtcStatus h) 0x0D05 .operator .all h nullHandle (fun s => chk (okay (rtcStatusBytes s) s)) s

/-- RTC_WEEKDAY_SET (R540, R546). (log 106: DEDUCED) -/
def execRtcWeekdaySet (h : Hdr) (weekday offset : Nat) (s : State) : Host.Outcome State Fault Refusal :=
  serve (.rtcWeekdaySet h weekday offset) 0x0D06 .installer .fw h nullHandle (fun s => chkRec 0 s do
    need (weekday < 7 && (offset < dayTicks || offset == 0xFFFFFFFF)) .badParam
    cfgOk s
    let keep := offset == 0xFFFFFFFF
    let s := rmod (fun r => { r with weekday := weekday, dayOff := if keep then r.dayOff else offset }) s
    okay [] (cfgTouch (roleOf s h) s)) s

/-- RTC_CONFIG (R546). (log 106: DEDUCED) -/
def execRtcConfig (h : Hdr) (vsw low : Nat) (s : State) : Host.Outcome State Fault Refusal :=
  serve (.rtcConfig h vsw low) 0x0D07 .installer .fw h nullHandle (fun s => chkRec 0 s do
    need (inR 900 vsw 1050 && inR 2000 low 3300) .badParam
    cfgOk s
    okay [] (cfgTouch (roleOf s h) (rmod (fun r => { r with vsw := vsw, lowThr := low }) s))) s

/-- DATE_TO_TICKS (R544). -/
def execDateToTicks (h : Hdr) (d : Date) (s : State) : Host.Outcome State Fault Refusal :=
  serve (.dateToTicks h d) 0x0D10 .operator .all h nullHandle (fun s => chk do
    need (inR 1970 d.year 9999 && d.sub ≤ 32767) .badParam
    need (dateOk d) .badDate
    okay (leBytes 8 (dateTicks d)) s) s

/-- TICKS_TO_DATE (R545). -/
def execTicksToDate (h : Hdr) (count : Nat) (s : State) : Host.Outcome State Fault Refusal :=
  serve (.ticksToDate h count) 0x0D11 .operator .all h nullHandle (fun s => chk do
    need (count < 8303486592614400) .badParam
    okay (dateBytes (ticksDate count) (ticksWeekday count)) s) s

end Sys2Proof.Machine
end

