-- ==== Sys2Proof/Machine/Survey.lean ====
section
/-! DEFINITION. Surveys (R333-R336) and broadcast time (R337-R341): the scan of entries and positions, candidates and their weaves, estimates, and
the policy that sets the clock. -/

namespace Sys2Proof.Machine

/-! Surveys. -/

/-- The entry the survey is at. -/
def surveyEntry (s : State) : Option SurveyEntry := s.survey.entries[s.survey.entry]?

/-- Changes the survey. -/
def vsurv (f : Survey → Survey) (s : State) : State := { s with survey := f s.survey }

/-- The lowest frequency of a position of an entry (R334): positions of 80 MHz; an HF warp has one. -/
def posLow (e : SurveyEntry) (p : Nat) : Nat := e.low + 80000000 * p

/-- The highest frequency of a position. -/
def posHigh (e : SurveyEntry) (p : Nat) : Nat := if hIndex e.warp ≥ 6 then e.high else min e.high (posLow e (p + 1) - 1)

/-- A position of the entry exists. -/
def posIs (e : SurveyEntry) (p : Nat) : Bool := posLow e p ≤ e.high && (p = 0 || hIndex e.warp < 6)

/-- Channel `k` of a position, in ascending frequency (R333, R334): the raster of the entry, or the Band III blocks. -/
def chanFreq (e : SurveyEntry) (p k : Nat) : Option Nat :=
  if e.step = 0 then (bandIII.filter fun b => posLow e p ≤ b && b ≤ posHigh e p)[k]?
  else
    let j := (posLow e p - e.low + e.step - 1) / e.step + k
    let f := e.low + j * e.step
    if f ≤ posHigh e p then some f else none

/-- The guard between the two blocks nearest a frequency: its centre (R334). -/
def guardNear (f : Nat) : Nat :=
  let l := sortBy (fun (b : Nat) => ((b : Int) - f).natAbs) bandIII
  (nth l 0 0 + nth l 1 0) / 2

/-- The LO of a position (R334). -/
def posTune (e : SurveyEntry) (p : Nat) : TuneReq :=
  let c := (posLow e p + min (posLow e (p + 1)) e.high) / 2
  if e.kind = 3 then ⟨guardNear c, 0, 0xFF, 0, 0⟩ else ⟨c, 1, 0xFF, e.low, e.step⟩

/-- A position begins at the present boundary, at step 5 (R334). -/
def surveyPlace (s : State) : State :=
  if s.survey.running ∧ s.survey.posDue = some s.sys.ord then
    match surveyEntry s with
    | some e =>
      let s := vsurv (fun v => { v with posDue := none, next := 0, made := s.sys.ord, chans := [] }) s
      if hIndex e.warp < 6 then applyTune (hIndex e.warp) (posTune e s.survey.pos) s else s
    | none => s
  else s

/-- The body of EV_SURVEY_STATE (R336). -/
def surveyBody (s : State) (cause scanned cands found : Nat) : List Byte :=
  byte s.survey.entry ++ byte cause ++ leCount 2 scanned ++ leCount 2 cands ++ leCount 2 found ++ leBytes 8 (now s)

/-- The end of the survey (R336), with the counts of the whole of it. -/
def surveyOver (cause : Nat) (s : State) : State :=
  let v := s.survey
  let s := ev 0x0801 (surveyBody s cause (v.totScan + v.scanned) (v.totCand + v.cands) (v.totFound + v.found)) s
  vsurv (fun v => { v with running := false, chans := [], posDue := none }) s

/-- The end of an entry (R334, R336): the next one begins at the next boundary, after a STARVED one once its dents are gone, or the survey is done. (log 88: DEDUCED) -/
def entryOver (cause : Nat) (s : State) : State :=
  let v := s.survey
  let s := if cause = 5 ∨ bit v.flags 1 = true then ev 0x0801 (surveyBody s cause v.scanned v.cands v.found) s else s
  if v.entry + 1 < v.entries.length then
    vsurv (fun v => { v with entry := v.entry + 1, pos := 0, posDue := some (s.sys.ord + if cause = 5 then 2 else 1), chans := [], scanned := 0, cands := 0, found := 0
                             totScan := v.totScan + v.scanned, totCand := v.totCand + v.cands, totFound := v.totFound + v.found }) s
  else surveyOver 2 s

/-- The type of weave and dent a kind takes (R255, R290, R334): weave type, rate code, declared bandwidth. (log 86: PRESUMED) -/
def surveyKind (k : Nat) : Nat × Nat × Nat :=
  match k with
  | 1 => (2, 4, 256000) | 2 => (1, 0, 9000) | 3 => (3, 7, 1536000) | 4 => (4, 0, 10000) | _ => (4, 3, 100000)

/-- The dent of a channel (R334). -/
def surveyDent (e : SurveyEntry) (f : Nat) : DentReq :=
  let (_, r, bw) := surveyKind e.kind
  ⟨e.warp, r, 0, 1, 0, f * 1000000, bw, 0⟩

/-- The weave of a candidate (R334): priority 20, group 0xFF, the type defaults. -/
def surveyWeave (e : SurveyEntry) (dent : Handle) : WeaveReq :=
  let (t, _, _) := surveyKind e.kind
  let b := defaultBlock e.kind 0
  ⟨t, 1, 20, 0xFF, 1, 0, b.length, [dent], b⟩

/-- Dents for waiting channels in ascending frequency, as many as there is room for (R334). -/
def surveyDents : Nat → SurveyEntry → State → State
  | 0, _, s => s
  | n + 1, e, s =>
    match chanFreq e s.survey.pos s.survey.next with
    | some f =>
      match dentCreate (selfHdr 5) (surveyDent e f) 0 (s.sys.ord + 2) s with
      | .ok (h, _, t) =>
        let t := announce 3 h (pickAt t (t.sys.ord + 2)) [] t
        surveyDents n e (vsurv (fun v => { v with next := v.next + 1, made := t.sys.ord, chans := v.chans ++ [⟨f, 1, hIndex h, 0, t.sys.ord + 2⟩] }) t)
      | .error _ => s
    | none => s

/-- Changes the channel of a frequency. -/
def chanMod (f : Nat) (g : SurveyChan → SurveyChan) (s : State) : State :=
  vsurv (fun v => { v with chans := v.chans.map fun c => if c.freq = f then g c else c }) s

/-- A release that the survey schedules. -/
def surveyDrop (h : Handle) (weave : Bool) (s : State) : State :=
  announce 4 h (pickAt s (s.sys.ord + 2)) (zeros 4)
    (sched ⟨s.sys.ord + 2, 0, h, 10, if weave then .weaveRelease (selfHdr 5) h 0 else .dentRelease (selfHdr 5) h 0 0, 0⟩ s)

/-- Candidates receive weaves in ascending frequency; where one is refused, it and the rest wait (R334). -/
def surveyWeaves (e : SurveyEntry) : List SurveyChan → State → State
  | [], s => s
  | c :: l, s =>
    if c.st ≠ 2 then surveyWeaves e l s
    else match weaveCreate (selfHdr 5) (surveyWeave e (handleOf s 3 c.dent)) 0 (s.sys.ord + 2) s with
      | .ok (h, _, t) =>
        surveyWeaves e l (chanMod c.freq (fun c => { c with st := 3, weave := hIndex h, since := t.sys.ord + 2 }) (announce 3 h (pickAt t (t.sys.ord + 2)) [] t))
      | .error _ => s

/-- A channel's weave has found what identifies its kind (R334). -/
def identified (s : State) (e : SurveyEntry) (c : SurveyChan) : Bool :=
  let labelled := s.svcs.all fun x => x.2.weave != some c.weave || x.2.tech == 5 || x.2.labels.any fun l => l.kind == 5 || l.kind == 8
  let any := s.svcs.any fun x => x.2.weave == some c.weave && x.2.tech != 5
  match tget s.ana c.weave, tget s.dig c.weave with
  | some a, _ => if e.kind = 1 then a.piOk && !a.ps.isEmpty else a.carrier
  | _, some d => (if e.kind = 3 then d.mci else d.sdc) && any && labelled
  | _, _ => false

/-- A candidate is identified (R334): its services are counted; kept, or its weave and dent released. (log 88: DEDUCED) -/
def surveyFound (c : SurveyChan) (s : State) : State :=
  let n := (s.svcs.filter fun x => x.2.weave == some c.weave).length
  let s := vsurv (fun v => { v with found := v.found + n }) s
  if bit s.survey.flags 0 then
    vsurv (fun v => { v with kept := v.kept ++ [c.weave], chans := v.chans.filter fun x => x.freq != c.freq }) s
  else
    chanMod c.freq (fun c => { c with st := 5 }) (surveyDrop (handleOf s 3 c.dent) false (surveyDrop (handleOf s 4 c.weave) true s))

/-- The objects of a channel are no longer issued. -/
def chanGone (s : State) (c : SurveyChan) : Bool := (dentAt s c.dent).isNone

/-- The end of a pick for the survey (R334): channels done with are dropped, candidates identified, dents and weaves asked for; the next
position, or the next entry, begins at the next boundary. (log 88: DEDUCED) -/
def surveyEnd (s : State) : State :=
  if !s.survey.running || s.survey.posDue.isSome then s
  else match surveyEntry s with
    | none => s
    | some e =>
      let s := vsurv (fun v => { v with chans := v.chans.filter fun c => !chanGone s c }) s
      let s := (s.survey.chans.filter fun c => c.st == 3 && identified s e c).foldl (fun s c => surveyFound c s) s
      let s := surveyDents 512 e s
      let s := surveyWeaves e s.survey.chans s
      if s.survey.chans.isEmpty ∧ (chanFreq e s.survey.pos s.survey.next).isNone = true then
        if posIs e (s.survey.pos + 1) then vsurv (fun v => { v with pos := v.pos + 1, posDue := some (s.sys.ord + 1) }) s
        else entryOver 1 s
      else s

/-- The dents and weaves that the survey has not identified are released with it, at the present boundary (R336); the handles. (log 88: DEDUCED) -/
def surveyClear (s : State) : List Handle × State :=
  s.survey.chans.foldl (fun a c =>
    let wh := if c.st ≥ 3 then (handleOf a.2 4 c.weave :: []).filter (fun h => h != nullHandle) else []
    let dh := (handleOf a.2 3 c.dent :: []).filter fun h => h != nullHandle
    let t := wh.foldl (fun s h => announce 4 h s.tb.pick (zeros 4) (freeWeave h s)) a.2
    (a.1 ++ wh ++ dh, dh.foldl (fun s h => announce 4 h s.tb.pick (zeros 4) (freeDent h s)) t)) ([], s)

/-- A survey ends at the present boundary before it is done (R336); the handles released. (log 88: DEDUCED) -/
def surveyStopNow (cause : Nat) (s : State) : List Handle × State :=
  if s.survey.running then
    let (l, s) := surveyClear s
    (l, surveyOver cause s)
  else ([], s)

/-- A survey starts at its target boundary (R333). -/
def applySurveyStart (flags : Nat) (entries : List SurveyEntry) (s : State) : State :=
  vsurv (fun _ => { Survey.reset with running := true, flags := flags, entries := entries, posDue := some s.sys.ord
                                      start := s.tb.pick }) s

/-- A range and kind suit a warp (R167, R172, R333). -/
def entryFits (e : SurveyEntry) : Bool :=
  let (_, _, bw) := surveyKind e.kind
  if hIndex e.warp ≥ 6 then hfFits (e.low * 1000000) bw && hfFits (e.high * 1000000) bw
  else 30000000 ≤ e.low && e.high ≤ 1700000000

/-- The checks of an entry's own fields (R333). -/
def surveyEntryOk (e : SurveyEntry) : Bool :=
  inR 1 e.kind 5 && e.thr ≤ 1200 && e.low ≤ e.high && (inR 1000 e.step 1000000 || (e.kind == 3 && e.step == 0)) && inR 100 e.dwell 30000

/-- SURVEY_START (R333). -/
def execSurveyStart (h : Hdr) (n flags target : Nat) (entries : List SurveyEntry) (s : State) : Host.Outcome State Fault Refusal :=
  serve (.surveyStart h n flags target entries) 0x0801 .operator .s h nullHandle (fun s => chk do
    need (entries.length == n) .badLength
    need (inR 1 n 16 && only flags 2 && entries.all surveyEntryOk) .badParam
    let due ← get! .badParam (dueOf s target)
    entries.forM fun e => discard (objIs s e.warp 2)
    need (entries.all entryFits) .badParam
    need (!s.survey.running && (pendOf s nullHandle 80).isNone) .conflict
    need (entries.all fun e => s.dents.all (fun x => x.2.warp != hIndex e.warp) && !isHop s (hIndex e.warp)) .conflict
    okay (posReply s due 0) (schedQ ⟨due, 0, nullHandle, 80, .surveyStart h n flags target entries, 0⟩ s)) s

/-- SURVEY_STOP (R336): at p + 2. (log 88: DEDUCED) -/
def execSurveyStop (h : Hdr) (s : State) : Host.Outcome State Fault Refusal :=
  serve (.surveyStop h) 0x0802 .operator .fw h nullHandle (fun s => chk do
    need (s.survey.running || (pendOf s nullHandle 80).isSome) .conflict
    okay (posReply s (s.sys.ord + 2) 0) (schedQ ⟨s.sys.ord + 2, 0, nullHandle, 81, .surveyStop h, 0⟩ s)) s

/-- The SURVEY_STATUS reply (R336). -/
def surveyStatusBytes (s : State) : List Byte :=
  let v := s.survey
  let k := (v.kept.filter fun i => (weaveAt s i).isSome)
  byte (flag v.running) ++ byte v.entry ++ leCount 2 (v.chans.filter fun c => c.st == 2).length
    ++ leCount 2 (v.chans.filter fun c => c.st == 3).length ++ leCount 2 (v.totFound + v.found) ++ leBytes 8 v.start ++ leBytes 8 (now s)
    ++ leCount 2 k.length ++ k.flatMap fun i => handleBytes (handleOf s 4 i)

/-- SURVEY_STATUS (R336). -/
def execSurveyStatus (h : Hdr) (s : State) : Host.Outcome State Fault Refusal :=
  serve (.surveyStatus h) 0x0803 .operator .fw h nullHandle (fun s => chk (okay (surveyStatusBytes s) s)) s

/-- A survey dent has been measured over 20 picks after its fill (R334). (log 88: DEDUCED) -/
def fieldDone (s : State) (c : SurveyChan) : Bool :=
  (dentAt s c.dent).any fun x => decide (c.since + (x.fill + rateS x.rate - 1) / rateS x.rate + 20 ≤ s.sys.ord + 1)

/-- A survey dent's field strength has been measured over 20 picks (R334, R380): at or above the threshold, the channel is a candidate. -/
def execSurveyFieldMeasured (dent : Fin 512) (power : Nat) (s : State) : Host.Outcome State Fault Refusal :=
  match surveyEntry s, s.survey.chans.find? fun c => c.dent == dent.val && c.st == 1 with
  | some e, some c =>
    if s.survey.running && fieldDone s c then
      let cand := ((dentAt s c.dent).bind fun x => fieldLevel x.warp power).any fun v => (e.thr : Int) ≤ v
      let s := vsurv (fun v => { v with scanned := v.scanned + 1, cands := v.cands + flag cand }) s
      if cand then .next (chanMod c.freq (fun c => { c with st := 2 }) s)
      else .next (chanMod c.freq (fun c => { c with st := 5 }) (surveyDrop (handleOf s 3 c.dent) false s))
    else .next s
  | _, _ => .next s

/-- A candidate's dwell ends (R334): it is identified with whatever is held. (log 88: DEDUCED) -/
def execSurveyDwellEnd (weave : Fin 512) (s : State) : Host.Outcome State Fault Refusal :=
  match s.survey.chans.find? fun c => c.weave == weave.val && c.st == 3 with
  | some c => .next (if s.survey.running && (surveyEntry s).any fun e => decide (c.since + e.dwell ≤ s.sys.ord + 1) then surveyFound c s else s)
  | none => .next s

/-- No dent of the entry could be created for 10 s (R334): the entry ends with the waiting channels unscanned, and what is in progress is released. (log 88: DEDUCED) -/
def execSurveyStarved (s : State) : Host.Outcome State Fault Refusal :=
  match surveyEntry s with
  | some e =>
    if s.survey.running ∧ s.survey.posDue = none ∧ (chanFreq e s.survey.pos s.survey.next).isSome = true ∧ s.survey.made + 10000 ≤ s.sys.ord + 1 then
      .next (entryOver 5 ((s.survey.chans.filter (·.st != 5)).foldl (fun s c =>
        let s := if c.st = 3 then surveyDrop (handleOf s 4 c.weave) true s else s
        surveyDrop (handleOf s 3 c.dent) false s) s))
    else .next s
  | none => .next s

/-! Broadcast time. -/

/-- The RTC time at an instant less a UTC in ms, to the nearest ms: E of R340, from a latched count and ns. -/
def estimate (utc count ns : Nat) : Int :=
  let d : Int := 32768 * 1000000
  (2 * ((utc : Int) * d - ((count : Int) * 1000000000 + (ns : Int) * 32768)) + d) / (2 * d)

/-- The count latched at the boundary `ord` (R340). -/
def latchAt (s : State) (ord : Nat) : Option (BitVec 56) := if ord ≤ s.sys.ord then s.rtc.latch[s.sys.ord - ord]? else none

/-- The identifier a weave's reading is kept under (R337, R340): of the FM service, the DAB ensemble, or the first DRM service. -/
def timeSvc (s : State) (w : Nat) : Option (Nat × Service) :=
  s.svcs.find? fun x => x.2.weave == some w && (x.2.tech == 2 || x.2.tech == 5 || x.2.tech == 4)

/-- The instant a reading is assigned to (R338), by boundary count and ns in the pick: of RDS CT the first bit of the 4A group, of a FIG 0/10 the null symbol its frame began with, of
DRM the start of the super frame; none where it may not be passed (R281, R337). -/
def timeInstant (s : State) (w cap sample stage : Nat) : Option (Nat × Nat) :=
  match (weaveAt s w).map (·.type), tget s.ana w, digAt s w with
  | some 2, some a, _ =>
    if stage = 2 ∧ a.rds = true ∧ a.dec.whole.length = 4 ∧ (a.dec.whole.all fun b => b.cls == 0) = true then some (nsAt s (a.dec.wholeAt * 1000000 / 6144 - 87579000))
    else none
  | some 3, _, some d =>
    let x := 125000 * gridOf s cap + sample * 1000000 / 48
    let before := fun (n : Nat × Nat) => 125000 * gridOf s n.1 + n.2 ≤ x
    if stage = 4 ∧ d.sync ≠ 0 then (d.nullAt.toList ++ d.nullPrev.toList).find? (decide <| before ·) else none
  | some 4, _, some d => if stage = 3 ∧ d.sync = 3 then d.superAt else none
  | _, _, _ => none

/-- The time record (R337): the estimate is absent where it was not formed, and held within its field. (log 89: DEDUCED) -/
def timeBody (s : State) (source res utc : Nat) (off : Option Int) (at_ : Nat × Nat) (e : Option Int) : List Byte :=
  byte source ++ byte res ++ leSigned 2 (off.getD (-32768)) ++ zeros 4 ++ leBytes 8 utc ++ leBytes 8 (pickOf s at_.1) ++ leBytes 4 at_.2
    ++ leSigned 2 ((e.map fun v => max (-32767) (min 32767 v)).getD (-32768)) ++ zeros 2

/-- A reading of broadcast time (R337, R340): its record on the labels component, and, from an enabled source, of a service that is ACTIVE, its estimate. -/
def takeTime (w cap stage utc res : Nat) (off : Option Int) (sample : Nat) (s : State) : State :=
  match timeInstant s w cap sample stage, timeSvc s w with
  | some x, some v =>
    let source := ((weaveAt s w).map (·.type)).getD 2 - 1
    let p := s.time
    let e := if bit p.cfg.sources (source - 1) && weaveState s w == .active then (latchAt s x.1).map fun c => estimate utc c.toNat x.2 else none
    let s := kindRecord v.1 3 7 0 x.1 (x.2 * 48 / 1000000) (timeBody s source res utc off x e) s
    match e with
    | some e => { s with time := { s.time with held := (p.held.filter fun y => y.ident != v.2.ident) ++ [⟨v.2.ident, source, e, s.sys.ord⟩] } }
    | none => s
  | _, _ => s

/-- The sets of a sorted list that begin at each place and lie within a spread: how many, their spread, and where. -/
def timeSets (tol : Nat) (l : List Int) : List (Nat × Int × List Int) :=
  (List.range l.length).map fun i =>
    let a := nth l i 0
    let m := (l.drop i).takeWhile fun x => x - a ≤ tol
    (m.length, nth m (m.length - 1) a - a, m)

/-- The largest set whose spread is within the tolerance, ties to the smaller spread (R340). -/
def timeBest (tol : Nat) (l : List Int) : List Int :=
  ((timeSets tol (sortBy (fun z => (z + 2 ^ 63).toNat) l)).foldl (fun (b : Option (Nat × Int × List Int)) x => match b with
    | some y => if y.1 < x.1 ∨ (y.1 = x.1 ∧ x.2.1 < y.2.1) then some x else some y
    | none => some x) none).elim [] (·.2.2)

/-- The median of a sorted list: of an even number, the mean of the middle two, rounded down. (log 89: DEDUCED) -/
def median (l : List Int) : Int := (nth l ((l.length - 1) / 2) 0 + nth l (l.length / 2) 0) / 2

/-- The candidate C, its members and source (R340): from PTP while the label is PTP, else by agreement. (log 89: DEDUCED) -/
def timeCand (s : State) : Option Int × Nat × Nat :=
  let p := s.time
  if bit p.cfg.sources 3 && s.tb.label == 2 then
    (some ((s.tb.pick : Int) - p.cfg.tai * 1000 - (estimate 0 s.rtc.latched.toNat 0 * -1)), 1, 4)
  else
    let m := timeBest p.cfg.tol (p.held.map (·.e))
    let src := ((p.held.filter fun x => m.contains x.e).getLast?.map (·.source)).getD 0
    if p.cfg.agree ≤ m.length ∧ m ≠ [] then (some (median m), m.length, src) else (none, m.length, 0)

/-- The end of a pick for the time policy (R340, R341): old estimates go; the candidate is formed, and may be decided on. -/
def timeEnd (s : State) : State :=
  let s := { s with time := { s.time with held := s.time.held.filter fun x => s.sys.ord ≤ x.ord + s.time.cfg.window * 60000 } }
  let (c, n, src) := timeCand s
  let p := s.time
  let go := match c with
    | some c => p.setDue.isNone && ((p.cfg.mode == 1 && s.rtc.osf) || (p.cfg.mode == 2 && (s.rtc.osf || decide (c.natAbs > p.cfg.hold))))
    | none => false
  { s with time := { p with cand := c, members := n, source := src
                            setDue := if go then some (s.sys.ord + 2, c.getD 0, src, n) else p.setDue } }

/-- A policy setting falls due (R341): audited, the readings discarded, EV_TIME_SET. A host setting at the same boundary displaces it. -/
def timeDue (host : Bool) (s : State) : State :=
  match s.time.setDue with
  | some (b, c, src, n) =>
    if b ≠ s.sys.ord then s
    else
      let drop := fun (s : State) => { s with time := { s.time with held := [], setDue := none, cand := none, members := 0 } }
      if host then drop s
      else
        let s := setCount (s.rtc.count + BitVec.ofInt 56 ((2 * c * 32768 + 1000) / 2000)) s
        let s := auditPut nullHandle 0x0D02 0 0x0F 0 0xFF s
        let s := ev 0x0820 (byte src ++ byte n ++ zeros 2 ++ leSigned 4 c ++ leBytes 8 s.tb.pick) (drop s)
        { s with time := { s.time with lastSet := s.tb.pick, count := s.time.count + 1 } }
  | none => s

/-- The checks of a TIME_POLICY's fields (R339). -/
def timeOk (c : TimeCfg) : Bool :=
  c.mode < 3 && only c.sources 4 && inR 1 c.agree 8 && c.tai < 256 && inR 10 c.tol 10000 && inR 100 c.hold 60000 && inR 1 c.window 60

/-- TIME_POLICY (R339): at p + 2. -/
def execTimePolicy (h : Hdr) (c : TimeCfg) (s : State) : Host.Outcome State Fault Refusal :=
  serve (.timePolicy h c) 0x0820 .installer .ctl h nullHandle (fun s => chkRec 0 s do
    need (timeOk c) .badParam
    cfgOk s
    okay (posReply s (s.sys.ord + 2) 0) (schedQ ⟨s.sys.ord + 2, 0, nullHandle, 91, .timePolicy h c, 0⟩ s)) s

/-- A time policy takes effect (R339): the readings held are discarded. -/
def applyTimePolicy (c : TimeCfg) (s : State) : State :=
  { s with time := { s.time with cfg := c, held := [], cand := none, members := 0 } }

/-- TIME_STATUS (R341). -/
def execTimeStatus (h : Hdr) (s : State) : Host.Outcome State Fault Refusal :=
  serve (.timeStatus h) 0x0821 .operator .fw h nullHandle (fun s => chk do
    let p := s.time
    okay (byte p.cfg.mode ++ byte p.members ++ zeros 2 ++ leSigned 4 (p.cand.getD (-2147483648)) ++ leBytes 8 p.lastSet
      ++ leCount 2 p.count ++ zeros 2 ++ leBytes 8 (now s)) s) s

end Sys2Proof.Machine
end

