-- ==== Sys2Proof/Machine/Stage.lean ====
section
/-! DEFINITION. What a completed stage leaves (R235), and what its deadline does (R243). -/

namespace Sys2Proof.Machine

/-- One fact that a completed stage of a weave's capture pick measured or decoded. -/
def stageFact (i cap stage : Nat) (s : State) (f : StageFact) : State :=
  match f, weaveAt s i with
  | .clock utc res off sample, some _ => takeTime i cap stage utc res off sample s
  | f, some w => if w.type ≤ 2 then anaFact i cap stage f s else digFact i cap stage f s
  | _, none => s

/-- What a completed stage of a weave's capture pick does (R235, R257): in stage 2 of an FM weave the setting of RDS first, and the blend factor last (R260, R270). -/
def stageDone (i cap stage : Nat) (l : List StageFact) (s : State) : State :=
  let two := fun (f : State → State) (s : State) => if stage = 2 then f s else s
  two (anaBlend i cap) (l.foldl (stageFact i cap stage) (two (rdsMode i cap) s))

/-- The last stage of a capture pick that is not MISSED is complete: the pick has yielded a measurement (R243, R377). -/
def yields (i cap stage : Nat) (s : State) : State :=
  match weaveAt s i with
  | some w =>
    if stage < w.depth then s
    else if w.type ≤ 2 then accMod i cap (fun c => { c with picks := c.picks + 1 }) s
    else digAcc i cap (fun c => { c with picks := c.picks + 1 }) s
  | none => s

/-- A stage completes before its deadline (R235): when its tasks and jobs are done and none of them was refused, what it decoded takes effect; a MISSED capture pick
yields nothing (R243). (log 8: DESIGN CHOICE) -/
def execStageComplete (weave : Fin 512) (cap stage : Nat) (r : StageResult) (s : State) : Host.Outcome State Fault Refusal :=
  match stageOf s weave cap stage with
  | some x =>
    if x.complete = true ∧ gridOf s s.sys.ord < deadline s cap stage then
      let s := stageOver weave cap stage s
      .next (if s.cluster.dead.contains (weave.val, cap) then s else yields weave cap stage (stageDone weave cap stage r.facts s))
    else .next s
  | none => .next s

/-- The deadline of a stage comes in the present pick (R235, R243): a stage that is not complete is stopped and its capture pick MISSED, its running tasks having
spent the cycles given for each shuttle. -/
def execStageDeadline (weave : Fin 512) (cap : Nat) (cut : StageCut) (s : State) : Host.Outcome State Fault Refusal :=
  match stageOf s weave cap cut.stage with
  | some x =>
    .next (if x.complete = true ∨ gridOf s (s.sys.ord + 1) < deadline s cap cut.stage then s
      else
        let mine := cut.spent.filter fun y => (tget s.cluster.shuttles y.1).any fun t => t.weave == weave.val && t.cap == cap && t.stage == cut.stage
        dispatch (missStage x (spend mine s)))
  | none => .next s

end Sys2Proof.Machine
end

