-- ==== Sys2Proof/Machine/Meas.lean ====
section
/-! DEFINITION. Measurement and verification (R377-R393): the seconds of every quantity, its window and thresholds, loudness and the audio
alarms, programme verification, and their commands. -/

namespace Sys2Proof.Machine

/-! Quantities and their window. -/

/-- The quantities of an object, by code (R382). -/
def codesOf (s : State) (h : Handle) : List Nat :=
  match hClass h with
  | 3 => [1]
  | 4 => match (weaveAt s (hIndex h)).map (·.type) with
    | some 1 => [2, 4, 5, 8, 9, 0x0A, 0x0B]
    | some 2 => [2, 0x0B, 0x0C]
    | some 3 => [3, 6, 0x0B]
    | some 4 => [3, 0x0B]
    | _ => []
  | 6 => match compAt s (hIndex h) with
    | some c => if c.info.kind = 1 then
        (if (svcAt s c.svc).any fun v => v.tech == 3 || v.tech == 4 then [7, 0x0D, 0x0E] else [0x0D, 0x0E])
      else []
    | none => []
  | _ => []

/-- The measurement of an object, with W at its default before it has one (R383). -/
def measOf (s : State) (h : Handle) : Meas := ((s.meas.find? fun x => x.1 = h).map (·.2)).getD ⟨60, 0, [], 0, false, false⟩

/-- Writes the measurement of an object. -/
def measPut (h : Handle) (m : Meas) (s : State) : State := { s with meas := (s.meas.filter fun x => x.1 ≠ h) ++ [(h, m)] }

/-- A quantity of an object. -/
def quantOf (m : Meas) (code : Nat) : Quantity := (m.qs.find? fun q => q.code == code).getD ⟨code, 0, none, []⟩

/-- A second is included in window means and maxima (R378): the audio quantities know neither exclusion. -/
def measIncluded (code flags : Nat) (v : Option Int) : Bool :=
  v.isSome && (code == 0x0D || code == 0x0E || (!bit flags 2 && !(code ≤ 4 && bit flags 1)))

/-- The included seconds of a window. (log 96: DEDUCED) -/
def Quantity.incl (q : Quantity) : List MeasSec := q.secs.filter (·.incl)

/-- The unit of a ratio of counts (R382): BER in 10⁻⁶, the others in 0.1 %. -/
def ratioUnit (code : Nat) : Nat := if code = 6 then 1000000 else 1000

/-- The window mean (R383). (log 96: DEDUCED) -/
def Quantity.mean (q : Quantity) : Option Int :=
  let l := q.incl
  let vs := l.filterMap (·.value)
  if l.isEmpty then none
  else if q.code = 1 ∨ q.code = 2 ∨ q.code = 3 ∨ q.code = 9 then some (powerMean (q.code == 9) (vs.map fun v => (v, 1)))
  else if q.code = 5 ∨ q.code = 6 ∨ q.code = 7 then
    some (ratio (ratioUnit q.code) (l.foldl (fun n x => n + x.num) 0) (l.foldl (fun n x => n + x.den) 0))
  else some (meanOf vs)

/-- The window maximum (R383). (log 96: DEDUCED) -/
def Quantity.max (q : Quantity) : Option Int := match q.incl.filterMap (·.value) with
  | [] => none
  | v :: l => some (l.foldl Max.max v)

/-- An entry of MEAS_READ (R392). (log 96: DEDUCED) -/
def quantBytes (s : State) (h : Handle) (m : Meas) (code : Nat) : List Byte :=
  let q := quantOf m code
  let v := fun (x : Option Int) => leSigned 4 (x.getD (-2147483648))
  let raised := s.thrs.any fun t => t.live && t.raised && t.obj == h && t.req.code == code
  byte code ++ byte (flagBits [q.last.isNone, bit q.flags 1, bit q.flags 2, bit q.flags 3, bit q.flags 4, q.incl.length < m.w, raised])
    ++ zeros 2 ++ v q.last ++ v q.mean ++ v q.max

/-- The body of a measurement event (R393). (log 96: DEDUCED) -/
def measBody (obj : Handle) (code detail cause : Nat) (value : Int) (rho pick : Nat) : List Byte :=
  handleBytes obj ++ byte code ++ byte detail ++ byte cause ++ zeros 1 ++ leSigned 4 value ++ leBytes 2 rho ++ zeros 2 ++ leBytes 8 pick

/-- One evaluated second of a threshold (R384): the threshold after it, and whether it changed. (log 94: DEDUCED, 95: DEDUCED) -/
def thrStep (t : Threshold) (v : Int) : Threshold × Bool :=
  let under := t.req.low.any fun l => v < l
  let above := t.req.high.any fun u => u < v
  let within := (t.req.low.all fun l => l + t.req.hyst ≤ v) && (t.req.high.all fun u => v ≤ u - t.req.hyst)
  let on := if t.raised then within else under || above
  if !on then ({ t with run := 0 }, false)
  else if t.run + 1 < t.req.hold then ({ t with run := t.run + 1 }, false)
  else ({ t with raised := !t.raised, side := if t.raised then t.side else above, run := 0 }, true)

/-- A quantity's second comes to a threshold: it is evaluated where the threshold watches it and the second is included. (log 94: DEDUCED) -/
def thrSecond (h : Handle) (code pick : Nat) (v mean : Option Int) (s : State) (t : Threshold) : State :=
  if t.live && t.obj == h && t.req.code == code then
    match (if t.req.basis = 0 then v else mean) with
    | some x =>
      let (u, chg) := thrStep t x
      let s := { s with thrs := s.thrs.map fun y => if y.index = t.index then u else y }
      if chg then ev 0x0A01 (measBody h code (flagBits [u.raised, u.side]) 0 x 0 pick) s else s
    | none => s
  else s

/-- One quantity of a second that is over (R377-R382): its value where it has one, the flags of its entry, and the counts of BLER, BER and UNIT_FAIL. -/
structure Reading where
  code  : Nat
  value : Option Int
  flags : Nat
  num   : Nat
  den   : Nat
  deriving DecidableEq, Repr

/-- A second of a quantity is complete (R377-R384). -/
def measSecond (h : Handle) (second : Nat) (s : State) (v : Reading) : State :=
  let m := measOf s h
  let q := quantOf m v.code
  let inc := measIncluded v.code v.flags v.value
  let q : Quantity := { q with flags := v.flags, last := v.value, secs := (⟨v.value, inc, v.num, v.den⟩ :: q.secs).take m.w }
  let s := measPut h { m with second := second, qs := sortBy (·.code) (q :: m.qs.filter fun x => x.code != v.code) } s
  if inc then s.thrs.foldl (thrSecond h v.code second v.value q.mean) s else s

/-- The readings of a second that is not formed (R377). -/
def unread (l : List Reading) : List Reading := l.map fun v => { v with value := none, num := 0, den := 0 }

/-- A ratio of counts as a reading (R382): none where nothing was counted. -/
def counted (code flags num den : Nat) : Reading := ⟨code, if den = 0 then none else some (ratio (ratioUnit code) num den), flags, num, den⟩

/-- The second of an FM weave that ends with a capture pick (R272, R382). (log 157: DEDUCED) -/
def fmReadings (i cap : Nat) (v : FmMeas) (c : AnaAcc) (s : State) : List Reading × State :=
  let x := secondOf s cap
  let rds := (tget s.ana i).any fun a => markAll a.marks 0 x.1 x.2
  let t := fmSecond i cap v s
  let r := ((tget t.ana i).map (·.fm)).getD ⟨0, 0, -32768, false, 0, 0, 0, 0, 0, 0, 0, 0, 0, []⟩
  let one := fun (code : Nat) (v : Option Int) => (⟨code, v, r.flags, 0, 0⟩ : Reading)
  ([one 2 (if c.snrs = 0 then none else some ((2 * c.snrSum + c.snrs) / (2 * c.snrs) : Nat)), one 4 (some v.multi)
    , if rds then counted 5 r.flags r.uncorr (r.free + r.corrected + r.uncorr) else one 5 none
    , one 8 (some r.peak), one 9 (if r.mpx = -32768 then none else some r.mpx), one 0x0A (some r.pilot), one 0x0B (some r.carrier)], t)

/-- The second of an AM weave (R286, R382): SNR and OFFSET in locked seconds only. (log 157: DEDUCED) -/
def amReadings (i cap : Nat) (v : AmMeas) (s : State) : List Reading × State :=
  let x := secondOf s cap
  let held := (tget s.ana i).any fun a => markAll a.marks 4 x.1 x.2
  let t := amSecond i cap v s
  let r := ((tget t.ana i).map (·.am)).getD ⟨0, 0, 0, 0, 0, []⟩
  let one := fun (code : Nat) (v : Option Int) => (⟨code, v, r.flags, 0, 0⟩ : Reading)
  ([one 2 (if held then some v.snr else none), one 0x0B (if held then some r.carrier else none), one 0x0C (some r.posPeak)], t)

/-- The subchannels that carry a component in a slot (R382). -/
def slottedSubs (s : State) (d : Digital) (t0 : Nat) : List Nat := d.slots.filterMap fun z => if z.comp = nullHandle then none else compSub s d t0 z.comp

/-- The second of a DAB weave (R316, R382): BER is the largest of the subchannels that carry a slotted component. (log 157: DEDUCED) -/
def dabReadings (i cap : Nat) (d : Digital) (v : DabMeas) (s : State) : List Reading × State :=
  let t := dabSecond i cap v s
  let r := ((digAt t i).map (·.dab)).getD ⟨0, 0, 0, 0, 0, 0, 0, 0⟩
  let subs := slottedSubs s d cap
  let l := v.bers.filter fun b => subs.contains b.1 && b.2.2 != 0
  let worst := l.foldl (fun (m : Nat × Nat) b => if m.1 * b.2.2 < b.2.1 * m.2 ∨ m.2 = 0 then b.2 else m) (0, 0)
  ([⟨3, if v.msc.1 = 0 then none else some r.mer, r.flags, 0, 0⟩, counted 6 r.flags worst.1 worst.2, ⟨0x0B, some r.freq, r.flags, 0, 0⟩], t)

/-- The second of a DRM weave (R316, R382). (log 157: DEDUCED) -/
def drmReadings (i cap : Nat) (v : DrmMeas) (s : State) : List Reading × State :=
  let t := drmSecond i cap v s
  let r := ((digAt t i).map (·.drm)).getD ⟨0, 0, 0, 0, 0, 0, 0, 0⟩
  ([⟨3, if v.msc.1 = 0 then none else some r.merMsc, r.flags, 0, 0⟩, ⟨0x0B, some r.freq, r.flags, 0, 0⟩], t)

/-- Half of the picks of a second or more have yielded a measurement (R377). -/
def halfOf (s : State) (cap picks : Nat) : Bool := decide (cap + 1 - secStart s cap ≤ 2 * picks)

/-- The flags of a weave's second, whether it is formed or not (R378). -/
def weaveFlags (w : Weave) (x : Nat × Nat) : Nat := flagBits [false, touches w.ovl x.1 x.2, touches w.pd x.1 x.2]

/-- The readings of a weave's second that ends with a capture pick. (log 157: DEDUCED) -/
def weaveReadings (i cap : Nat) (w : Weave) (s : State) : List Reading × State :=
  let none_ := ((codesOf s (handleOf s 4 i)).map fun c => (⟨c, none, weaveFlags w (secondOf s cap), 0, 0⟩ : Reading), s)
  let take := fun (c : Option AnaAcc) => c.bind fun c => if halfOf s cap c.picks then some c else none
  let takeD := fun (c : Option DigAcc) => c.bind fun c => if halfOf s cap c.picks then some c else none
  match w.type, (tget s.ana i).bind fun a => take (tget a.acc (secStart s cap)), (digAt s i).bind fun d => (takeD (tget d.acc (secStart s cap))).map fun c => (d, c) with
  | 2, some c, _ => (c.fm.map fun v => fmReadings i cap v c s).getD none_
  | 1, some c, _ => (c.am.map fun v => amReadings i cap v s).getD none_
  | 3, _, some (d, c) => (c.dab.map fun v => dabReadings i cap d v s).getD none_
  | 4, _, some (_, c) => (c.drm.map fun v => drmReadings i cap v s).getD none_
  | _, _, _ => none_

/-- What an object's second has come to enters its quantities. -/
def secondDone (h : Handle) (cap : Nat) (l : List Reading) (s : State) : State := l.foldl (measSecond h (pickOf s (secStart s cap))) s

/-- The seconds of the weaves whose last capture pick has left the cluster in the pick that ends (R377). (log 157: DEDUCED) -/
def weaveSeconds (s : State) : List Handle × State :=
  s.weaves.foldl (fun b x =>
    let s := b.2
    let cap := s.sys.ord - x.2.depth
    if weaveOn s x.1 ∧ x.2.sinceOrd ≤ cap ∧ x.2.depth ≤ s.sys.ord ∧ secEnds s cap = true then
      let (l, s) := weaveReadings x.1 cap x.2 s
      (b.1 ++ [handleOf s 4 x.1], secondDone (handleOf s 4 x.1) cap l s)
    else b) ([], s)

/-- A pick of an ACTIVE dent enters its second (R377-R380): a sample neither INVALID nor of the fill yields a measurement. -/
def dentSecond (s : State) (x : Nat × Dent) : State :=
  if ((objAt s 3 x.1).any fun o => o.st == .active) = true then
    let h := handleOf s 3 x.1
    let m := measOf s h
    let any := fun (k : Nat) => x.2.ring.any fun f => f.getLsbD k
    measPut h { m with picks := m.picks + flag (x.2.ring.any fun f => !f.getLsbD 0 && !f.getLsbD 1), ovl := m.ovl || any 2 || any 5, pd := m.pd || any 3 } s
  else s

/-- The field strength of a dent is that of the services heard on it (R342). -/
def fieldHeard (k : Nat) (v : Option Int) (s : State) : State :=
  match v with
  | some v => { s with svcs := s.svcs.map fun x =>
      if (x.2.weave.any fun w => present s w && (weaveAt s w).any fun y => y.dents.head? == some (handleOf s 3 k)) = true then (x.1, { x.2 with field := v.toNat }) else x }
  | none => s

/-- The seconds of the dents (R380, R381): a field within 10 dB of the noise is NOISE_LIMITED. (log 157: DEDUCED) -/
def dentSeconds (l : List FieldMeas) (s : State) : List Handle × State :=
  let s := s.dents.foldl dentSecond s
  if secEnds s s.sys.ord then
    s.dents.foldl (fun b x =>
      let s := b.2
      if ((objAt s 3 x.1).any fun o => o.st == .active) = true then
        let h := handleOf s 3 x.1
        let m := measOf s h
        let f := l.find? fun f => f.dent == x.1
        let v := if halfOf s s.sys.ord m.picks then f.bind fun f => fieldLevel x.2.warp f.power else none
        let flags := flagBits [false, m.ovl, m.pd, false, f.any fun f => f.power < 10 * f.noise]
        let s := secondDone h s.sys.ord [⟨1, v, flags, 0, 0⟩] s
        (b.1 ++ [h], fieldHeard x.1 v (measPut h { measOf s h with picks := 0, ovl := false, pd := false } s))
      else b) ([], s)
  else ([], s)

/-- An object that a measurement command names: a dent, a weave or a component (R392). -/
def measFor (s : State) (h : Handle) : Chk Obj := do
  need (hClass h == 3 || hClass h == 4 || hClass h == 6) .badHandle
  objIs s h (hClass h)

/-- The MEAS_READ reply (R392). -/
def measBytes (s : State) (h : Handle) : List Byte :=
  let cs := codesOf s h
  let m := measOf s h
  handleBytes h ++ byte cs.length ++ zeros 1 ++ leBytes 2 m.w ++ leBytes 8 m.second ++ cs.flatMap (quantBytes s h m)

/-- MEAS_READ (R392). -/
def execMeasRead (h : Hdr) (obj : Handle) (s : State) : Host.Outcome State Fault Refusal :=
  serve (.measRead h obj) 0x0A01 .operator .fw h obj (fun s => chk do
    let o ← measFor s obj
    need (!(codesOf s obj).isEmpty) .badParam
    need (o.st != .pending) .notReady
    okay (measBytes s obj) s) s

/-- MEAS_WINDOW (R383): at p + 2. -/
def execMeasWindow (h : Hdr) (obj : Handle) (w : Nat) (s : State) : Host.Outcome State Fault Refusal :=
  serve (.measWindow h obj w) 0x0A02 .operator .run h obj (fun s => chk do
    need (inR 1 w 3600) .badParam
    let o ← measFor s obj
    need (!(codesOf s obj).isEmpty) .badParam
    pendingOk o (s.sys.ord + 2) false
    okay [] (sched ⟨s.sys.ord + 2, 0, obj, 100, .measWindow h obj w, 0⟩ s)) s

/-- A window takes effect (R383): a change of W restarts it. -/
def applyMeasWindow (h : Handle) (w : Nat) (s : State) : State :=
  let m := measOf s h
  measPut h { m with w := w, qs := if w = m.w then m.qs else m.qs.map fun q => { q with secs := [] } } s

/-- MEAS_THRESHOLD (R384): at p + 2; its index is the lowest free, and is held from acceptance. (log 94: DEDUCED) -/
def execMeasThreshold (h : Hdr) (obj : Handle) (t : ThrReq) (s : State) : Host.Outcome State Fault Refusal :=
  serve (.measThreshold h obj t) 0x0A03 .operator .run h obj (fun s => chk do
    need (t.basis ≤ 2 && inR 1 t.hold 3600 && (t.low.all fun l => t.high.all fun u => l ≤ u)) .badParam
    let o ← measFor s obj
    need ((codesOf s obj).contains t.code) .badParam
    pendingOk o (s.sys.ord + 2) false
    let p : Pend := ⟨s.sys.ord + 2, 0, obj, 0x200 + t.code, .measThreshold h obj t, 0⟩
    match s.thrs.find? fun x => x.obj = obj && x.req.code == t.code with
    | some x => okay (leBytes 2 x.index ++ zeros 2) (sched p s)
    | none =>
      need (t.basis != 2) .conflict
      let i ← get! .noResource ((List.range 1024).find? fun k => s.thrs.all fun x => x.index != k)
      okay (leBytes 2 i ++ zeros 2) (sched p { s with thrs := s.thrs ++ [⟨i, obj, t, false, false, false, 0⟩] })) s

/-- A threshold takes effect, or goes (R384, R392). (log 94: DEDUCED) -/
def applyThreshold (h : Handle) (t : ThrReq) (s : State) : State :=
  if t.basis = 2 then { s with thrs := s.thrs.filter fun x => !(x.obj = h && x.req.code == t.code) }
  else { s with thrs := s.thrs.map fun x => if x.obj = h && x.req.code == t.code then ⟨x.index, h, t, true, false, false, 0⟩ else x }

/-! Loudness and audio alarms. -/

/-- The settings of R387 at reset. -/
def monReset : MonCfg := ⟨0x0F, 8, -600, 10, 20⟩

/-- The meter of a component that has been metered nothing yet. (log 78: DESIGN CHOICE) -/
def Loud.none : Loud :=
  { mom := .none, short := .none, integ := 0, maxMom := .none, maxShort := .none, peak := .none, maxPeak := .none, gated := 0, excl := 0
    start := .none, mon := monReset, silence := false, frozen := false, rep := false, silRun := 0, silClr := 0, frzRun := 0, silAt := 0
    clrAt := 0, frzAt := 0, anchor := [], level := .none, rptRun := 0, rptAt := 0, hist := [], bad := [], shortSec := .none, peakSec := .none }

/-- The meter of a component. -/
def loudAt (s : State) (i : Nat) : Loud := (tget s.louds i).getD Loud.none

/-- Writes the meter of a component. -/
def loudPut (i : Nat) (l : Loud) (s : State) : State := { s with louds := tset s.louds i l }

/-- A handle names an audio component (R382, R385). -/
def audioComp (s : State) (h : Handle) : Bool := (compAt s (hIndex h)).any fun c => c.info.kind == 1

/-- Integration begins at the component's first ACTIVE boundary (R386). -/
def loudStarts (s : State) : State :=
  (objsOf s 6).foldl (fun s o =>
    if o.st == .active && audioComp s o.handle && (loudAt s o.idx).start.isNone then
      loudPut o.idx { loudAt s o.idx with start := some s.tb.pick } s
    else s) s

/-- The larger of two figures where there are any. -/
def maxOpt : Option Int → Option Int → Option Int
  | some a, some b => some (max a b)
  | some a, .none => some a
  | .none, b => b

/-- An output pick of the component since a boundary count carried one of the conditions of a mask (R386, R387, R390). -/
def Loud.had (l : Loud) (since mask : Nat) : Bool := l.bad.any fun x => decide (since ≤ x.1) && x.2 &&& mask != 0

/-- The status byte of the pick that ends is kept where it carries CONCEALED, MUTED or MISSED (R262, R386). -/
def loudPick (s : State) : State :=
  (objsOf s 6).foldl (fun s o =>
    let b := compStatus s o.handle &&& 0x83
    if audioComp s o.handle ∧ b ≠ 0 then
      let l := loudAt s o.idx
      loudPut o.idx { l with bad := (s.sys.ord, b) :: l.bad.filter fun x => s.sys.ord < x.1 + 6000 } s
    else s) s

/-- A block loudness enters the integration. -/
def putHist (v : Int) : List (Int × Nat) → List (Int × Nat)
  | [] => [(v, 1)]
  | x :: l => if x.1 = v then (v, x.2 + 1) :: l else x :: putHist v l

/-- The blocks that pass both gates of BS.1770 (R385): above −70 LKFS, and above 10 LU below the mean of those. (log 98: DEDUCED) -/
def gatedBlocks (l : List (Int × Nat)) : List (Int × Nat) :=
  let l := l.filter fun x => -7000 < x.1
  let mean := powerMean true l
  l.filter fun x => mean - 1000 < x.1

/-- The figures of a block enter the meter (R385, R386): `out` is that it is excluded, `whole` that it lies in the integration. (log 96: DEDUCED) -/
def Loud.meter (l : Loud) (b : BlockMeas) (out whole : Bool) : Loud :=
  let mom := if out then .none else some b.mom
  let short := if out then .none else some b.short
  let hist := if out || !whole then l.hist else putHist b.mom l.hist
  let g := gatedBlocks hist
  { l with mom := mom, short := short, hist := hist, integ := powerMean true g, gated := g.foldl (fun n x => n + x.2) 0
           maxMom := if whole then maxOpt l.maxMom mom else l.maxMom, maxShort := if whole then maxOpt l.maxShort short else l.maxShort
           maxPeak := maxOpt l.maxPeak (some b.peak), excl := l.excl + flag out
           shortSec := match short with
             | some v => some v
             | .none => l.shortSec
           peakSec := maxOpt l.peakSec (some b.peak) }

/-- SILENCE over one assessed block that began at the pick `at_` (R387), at a level that only digital silence lacks; the event is whether it is raised, and from when.
(log 98: DEDUCED) (log 98: DEDUCED) -/
def Loud.silStep (l : Loud) (v : Option Int) (at_ : Nat) : Loud × Option (Bool × Nat) :=
  let low := v.all fun v => v < l.mon.silThr
  let high := v.any fun v => l.mon.silThr + 30 ≤ v
  let l := { l with silRun := if low then l.silRun + 1 else 0, silAt := if l.silRun = 0 then at_ else l.silAt
                    silClr := if high then l.silClr + 1 else 0, clrAt := if l.silClr = 0 then at_ else l.clrAt }
  if !bit l.mon.flags 0 then (l, .none)
  else if !l.silence && decide (10 * l.mon.silHold ≤ l.silRun) then ({ l with silence := true }, some (true, l.silAt))
  else if l.silence && decide (10 ≤ l.silClr) then ({ l with silence := false }, some (false, l.clrAt))
  else (l, .none)

/-- Every sample of each channel lies within ±2¹⁶ of a value of that channel (R387). -/
def standsAt (anchor : List Int) (spans : List (Int × Int × Int)) : Bool :=
  anchor.length == spans.length && (anchor.zip spans).all fun x => x.1 - 65536 ≤ x.2.2.1 && x.2.2.2 ≤ x.1 + 65536

/-- The level of a frozen value (R387): that of samples which all have it. -/
def anchorLevel (l : List Int) : Option Int := tenLog false ((l.map fun v => (v * v).natAbs).sum) (l.length * 2 ^ 62)

/-- FROZEN over one assessed block (R387): a frozen value within the silence threshold is SILENCE. (log 98: DEDUCED) -/
def Loud.frzStep (l : Loud) (spans : List (Int × Int × Int)) (at_ : Nat) : Loud × Option (Bool × Nat) :=
  let first := spans.map (·.1)
  let still := decide (0 < l.frzRun) && standsAt l.anchor spans
  let l := if still then { l with frzRun := l.frzRun + 1 }
    else { l with anchor := first, frzAt := at_, frzRun := flag (standsAt first spans && !spans.isEmpty) }
  if !bit l.mon.flags 1 then (l, .none)
  else if l.frozen && !still then ({ l with frozen := false }, some (false, at_))
  else if !l.frozen && decide (l.mon.frzHold ≤ l.frzRun) && (anchorLevel l.anchor).any (fun v => l.mon.silThr ≤ v) then
    ({ l with frozen := true }, some (true, l.frzAt))
  else (l, .none)

/-- REPEAT over one decoding unit whose output begins in the pick `at_` (R387): a failed unit breaks the run without clearing. (log 98: DEDUCED) -/
def Loud.rptStep (l : Loud) (good same : Bool) (at_ : Nat) : Loud × Option (Bool × Nat) :=
  if !good then ({ l with rptRun := 0 }, .none)
  else if same ∧ 0 < l.rptRun then
    let l := { l with rptRun := l.rptRun + 1 }
    if bit l.mon.flags 2 && !l.rep && decide (l.mon.units ≤ l.rptRun) then ({ l with rep := true }, some (true, l.rptAt)) else (l, .none)
  else
    let l := { l with rptRun := 1, rptAt := at_ }
    if l.rep && !same then ({ l with rep := false }, some (false, at_)) else (l, .none)

/-- A figure the spec states no value for before it is formed. (log 97: DESIGN CHOICE) -/
def unformed (s : State) (k : Nat) (x : Option Int) : Int := x.getD (Config.freeInt (s.sys.free + k))

/-- Queues an alarm's change while NOTIFY is set (R387). (log 97: DESIGN CHOICE, 98: DEDUCED) -/
def alarmTell (h : Handle) (code : Nat) (l : Loud) (e : Option (Bool × Nat)) (s : State) : State :=
  match e with
  | some (on, pick) =>
    if bit l.mon.flags 3 then ev 0x0A10 (measBody h code (flag on) 0 (unformed s 0 l.level) 0 pick) { s with sys := { s.sys with free := s.sys.free + 1 } } else s
  | none => s

/-- The decoding units of a component whose output begins between two positions, those not counted yet. -/
def unitsIn (s : State) (h : Handle) (x y : Nat) : List (Nat × Bool × Bool) :=
  match (compWeave s h).bind fun i => digAt s i with
  | some d => (d.allSlots.filter fun z => z.comp == h).flatMap fun z => z.units.filter fun u => x ≤ u.1 && u.1 < y
  | none => []

/-- The REPEAT alarm over the decoding units of the 100 ms that end (R387). -/
def repeatEnd (comp : Nat) (s : State) : State :=
  let h := handleOf s 6 comp
  (unitsIn s h (audioPos s (s.sys.ord + 1 - min (s.sys.ord + 1) 100) 0) (audioPos s (s.sys.ord + 1) 0)).foldl (fun s u =>
    let (l, e) := (loudAt s comp).rptStep u.2.1 u.2.2 (pickOf s (placeOf s u.1).1)
    alarmTell h 3 l e (loudPut comp l s)) s

/-- A block of a component ends at an output boundary that is a multiple of 100 (R385-R387). (log 98: DEDUCED) -/
def blockEnd (s : State) (b : BlockMeas) : State :=
  let h := handleOf s 6 b.comp
  if audioComp s h && ((objOf s h).any fun o => o.st == .active) && (s.tb.pick + 1) % 100 == 0 then
    let o := s.sys.ord + 1
    let l := loudAt s b.comp
    let l := l.meter b (l.had (o - 400) 0x82) (l.start.any fun p => p + 400 ≤ s.tb.pick + 1)
    let at_ := s.tb.pick + 1 - 100
    let v := tenLog false b.square (2 ^ 62)
    let (l, e1, e2) := if l.had (o - 100) 0x82 then (l, .none, .none)
      else
        let (l, e1) := { l with level := v }.silStep v at_
        let (l, e2) := l.frzStep b.spans at_
        (l, e1, e2)
    repeatEnd b.comp (alarmTell h 2 l e2 (alarmTell h 1 l e1 (loudPut b.comp l s)))
  else s

/-- The second of an audio component on its output positions (R377, R382, R392). (log 157: DEDUCED) -/
def compSecond (b : List Handle × State) (o : Obj) : List Handle × State :=
  let s := b.2
  if o.st == .active && audioComp s o.handle then
    let from_ := secStart s s.sys.ord
    let l := loudAt s o.idx
    let us := unitsIn s o.handle (audioPos s from_ 0) (audioPos s (s.sys.ord + 1) 0)
    let codes := codesOf s o.handle
    let rs := [counted 7 0 (us.filter fun u => !u.2.1).length us.length, ⟨0x0D, l.shortSec, 0, 0, 0⟩, ⟨0x0E, l.peakSec, 0, 0, 0⟩].filter fun r => codes.contains r.code
    let lost := (l.bad.filter fun x => from_ ≤ x.1 && bit x.2 7).length
    let rs := if halfOf s s.sys.ord (s.sys.ord + 1 - from_ - lost) then rs else unread rs
    let s := secondDone o.handle s.sys.ord rs s
    (b.1 ++ [o.handle], loudPut o.idx { loudAt s o.idx with peak := l.peakSec, shortSec := .none, peakSec := .none } s)
  else b

/-- Decoding units that have been counted are forgotten. -/
def dropUnits (s : State) : State :=
  let y := audioPos s (s.sys.ord + 1) 0
  let cut := fun (z : DecSlot) => { z with units := z.units.filter fun u => y ≤ u.1 }
  { s with dig := s.dig.map fun x => (x.1, { x.2 with slots := x.2.slots.map cut, ending := x.2.ending.map cut }) }

/-- The measurement at the end of a pick (R377-R387): the blocks, then the seconds that are over; the objects that have completed one. (log 157: DEDUCED) -/
def measEndAll (fields : List FieldMeas) (blocks : List BlockMeas) (s : State) : List Handle × State :=
  let s := blocks.foldl blockEnd (loudPick s)
  let (l, s) := weaveSeconds s
  let (m, s) := dentSeconds fields s
  let (n, s) := if secEnds s s.sys.ord then (objsOf s 6).foldl compSecond ([], s) else ([], s)
  (l ++ m ++ n, if secEnds s s.sys.ord then dropUnits s else s)

/-- The LOUDNESS_READ reply (R392). (log 97: DESIGN CHOICE) -/
def loudBytes (s : State) (h : Handle) : List Byte :=
  let l := loudAt s (hIndex h)
  handleBytes h ++ byte (flagBits [l.gated == 0, l.silence, l.frozen, l.rep]) ++ zeros 3 ++ leSigned 2 (l.mom.getD (-32768))
    ++ leSigned 2 (l.short.getD (-32768)) ++ leSigned 2 (unformed s 0 (if l.gated = 0 then none else some l.integ))
    ++ leSigned 2 (unformed s 1 l.maxMom) ++ leSigned 2 (unformed s 2 l.maxShort) ++ leSigned 2 (unformed s 3 l.peak)
    ++ leSigned 2 (unformed s 4 l.maxPeak) ++ zeros 2 ++ leCount 4 l.gated ++ leCount 4 l.excl ++ leBytes 8 (l.start.getD 0)
    ++ leBytes 8 (now s)

/-- A component that an audio command names: an audio component (R392). -/
def audioFor (s : State) (h : Handle) : Chk Obj := do
  let o ← objIs s h 6
  need (audioComp s h) .badParam
  pure o

/-- LOUDNESS_READ (R392). (log 97: DESIGN CHOICE) -/
def execLoudnessRead (h : Hdr) (comp : Handle) (s : State) : Host.Outcome State Fault Refusal :=
  serve (.loudnessRead h comp) 0x0A10 .operator .fw h comp (fun s => chk do
    let o ← audioFor s comp
    need (o.st != .pending) .notReady
    okay (loudBytes s comp) { s with sys := { s.sys with free := s.sys.free + 5 } }) s

/-- LOUDNESS_RESET (R386). -/
def execLoudnessReset (h : Hdr) (comp : Handle) (target : Nat) (s : State) : Host.Outcome State Fault Refusal :=
  serve (.loudnessReset h comp target) 0x0A11 .operator .run h comp (fun s => chk do
    let due ← get! .badParam (dueOf s target)
    let o ← audioFor s comp
    pendingOk o due false
    okay (posReply s due 0) (sched ⟨due, 0, comp, 103, .loudnessReset h comp target, 0⟩ s)) s

/-- The integration restarts (R386). -/
def applyLoudReset (h : Handle) (s : State) : State :=
  loudPut (hIndex h) { loudAt s (hIndex h) with maxMom := none, maxShort := none, maxPeak := none, gated := 0, excl := 0, hist := []
                                                start := some s.tb.pick } s

/-- AUDIO_MON_SET (R387): at p + 2. -/
def execAudioMonSet (h : Hdr) (comp : Handle) (c : MonCfg) (s : State) : Host.Outcome State Fault Refusal :=
  serve (.audioMonSet h comp c) 0x0A12 .operator .run h comp (fun s => chk do
    need (only c.flags 4 && inR 2 c.units 255 && inI (-900) c.silThr (-300) && inR 1 c.silHold 600 && inR 1 c.frzHold 600) .badParam
    let o ← audioFor s comp
    pendingOk o (s.sys.ord + 2) false
    okay [] (sched ⟨s.sys.ord + 2, 0, comp, 102, .audioMonSet h comp c, 0⟩ s)) s

/-- The alarm settings take effect (R387): an alarm no longer watched is not raised. -/
def applyAudioMon (h : Handle) (c : MonCfg) (s : State) : State :=
  let l := loudAt s (hIndex h)
  loudPut (hIndex h) { l with mon := c, silence := l.silence && bit c.flags 0, frozen := l.frozen && bit c.flags 1, rep := l.rep && bit c.flags 2
                              silRun := 0, silClr := 0, frzRun := 0 } s

/-! Programme verification. -/

/-- The median of lags. -/
def lagMedian (l : List Int) : Int := median (sortBy (fun z => (z + 2 ^ 63).toNat) l)

/-- K lags lie within ±48 samples of their median (R391). -/
def lagsAgree (k : Nat) (l : List Int) : Bool := l.length == k && l.all fun z => (z - lagMedian l).natAbs ≤ 48

/-- A formed check at or above the match threshold (R391); the cause of an event, if one is due. -/
def Verif.hit (v : Verif) (lag : Int) : Verif × Option Nat :=
  let v := { v with low := 0 }
  if v.st = 1 ∧ (lag - v.delay).natAbs ≤ 48 then
    let r := (lag :: v.inRun).take v.req.k
    ({ v with inRun := r, lags := [], delay := lagMedian r }, none)
  else
    let l := (lag :: v.lags).take v.req.k
    if lagsAgree v.req.k l then ({ v with st := 1, inRun := l, lags := [], delay := lagMedian l }, some (if v.st = 1 then 2 else 1))
    else ({ v with lags := l }, none)

/-- One check (R390, R391); the cause of an event, if one is due. -/
def Verif.check (v : Verif) (res : Option (Nat × Int)) : Verif × Option Nat :=
  match res with
  | none =>
    let v := { v with unformed := v.unformed + 1, notFormed := v.notFormed + 1, lastFormed := false }
    if 30 ≤ v.unformed ∧ v.st ≠ 0 then ({ v with st := 0, lags := [], inRun := [], low := 0 }, some 1) else (v, none)
  | some (rho, lag) =>
    let rho := if lag ≤ v.req.min + 48 ∨ v.req.max - 48 ≤ lag then 0 else rho
    let v := { v with unformed := 0, formed := v.formed + 1, lastFormed := true, rho := rho, lag := lag }
    if 10 * v.req.match_ ≤ rho then v.hit lag
    else if rho < 10 * v.req.mismatch then
      let v := { v with lags := [], low := v.low + 1 }
      if v.req.m ≤ v.low ∧ v.st ≠ 2 then ({ v with st := 2, inRun := [] }, some 1) else (v, none)
    else ({ v with lags := [], low := 0 }, none)

/-- ⌈x / 48⌉: samples at 48 kHz as picks. -/
def picksUp (x : Int) : Int := -((-x) / 48)

/-- How many picks back the programme window ends (R390). -/
def Verif.back (v : Verif) : Nat := (picksUp (max 0 (-v.req.min))).toNat

/-- The picks a verification needs after its start before a check can be formed (R390). -/
def Verif.lead (v : Verif) : Nat :=
  4000 + (picksUp (max 0 v.req.max)).toNat + v.back

/-- A component is available to a check: issued and not SUSPENDED (R390). -/
def checkable (s : State) (h : Handle) : Bool := (objOf s h).any fun o => o.st != .suspended && o.st != .pending

/-- The pick that ends lacked a frame of the reference, or a frame of it was discarded (R390, R410). -/
def refGap (s : State) (v : Verif) : Bool :=
  v.req.kind == 0 && match (nth s.tdm (hIndex v.req.ref) TdmPort.reset).ring with
    | [] :: _ => true
    | l :: _ => l.any fun f => f.flag.getLsbD 0 || f.flag.getLsbD 2
    | [] => true

/-- The output picks of a component, of the 4,000 that end `back` picks before the present one, that carry none of CONCEALED, MUTED and MISSED are 90 % or more (R390). -/
def mostlyClean (s : State) (h : Handle) (back : Nat) : Bool :=
  let o := s.sys.ord - back
  decide (((loudAt s (hIndex h)).bad.filter fun x => x.1 ≤ o && o < x.1 + 4000 && x.2 &&& 0x83 != 0).length ≤ 400)

/-- A check of the present pick can be formed (R390): the buffers filled, the programme clean, the reference whole and at or above −50 dBFS, neither component SUSPENDED. -/
def canForm (s : State) (v : Verif) (c : CheckMeas) : Bool :=
  checkable s v.req.prog && (v.req.kind == 0 || checkable s v.req.ref) && decide (v.startOrd + v.lead ≤ s.sys.ord) && mostlyClean s v.req.prog v.back &&
  (v.dropAt.all fun d => (d : Int) + 4000 + v.back + picksUp v.req.max ≤ s.sys.ord) && decide (2 ^ 62 ≤ c.square * 100000)

/-- The checks at the end of an output pick that is a multiple of 2,000 (R389-R391): `checks` is what the correlator found. (log 98: DEDUCED) -/
def verifsEnd (checks : List CheckMeas) (s : State) : State :=
  let s := { s with verifs := s.verifs.map fun x => (x.1, if refGap s x.2 then { x.2 with dropAt := some s.sys.ord } else x.2) }
  if s.tb.pick % 2000 = 0 ∧ s.clk.state ≠ .degraded then
    s.verifs.foldl (fun s x =>
      if !x.2.live then s
      else
        let v := x.2
        let res := (checks.find? fun c => c.index == x.1).bind fun c => if canForm s v c then some (c.rho, c.lag) else none
        let (u, e) := { v with last := s.tb.pick }.check res
        let s := { s with verifs := tset s.verifs x.1 u }
        match e with
        | some c => if bit v.req.flags 0 then ev 0x0A20 (measBody v.req.prog u.st x.1 c u.delay u.rho s.tb.pick) s else s
        | none => s) s
  else s

/-- An input slot of a port framed at 48 kHz (R388, R395). -/
def refSlot (s : State) (port : Handle) (k : Nat) : Bool :=
  let c := (nth s.tdm (hIndex port) TdmPort.reset).cfg
  c.dir == 2 && c.rate == 1 && bit c.mask k

/-- The fields of a VERIFY_SET lie in their ranges (R390-R392). -/
def verifyOk (r : VerifyReq) : Bool :=
  r.index < 64 && r.kind ≤ 1 && only r.flags 1 && (r.group < 8 || r.group == 0xFF) && decide (-48000 ≤ r.min) && decide (r.min ≤ r.max) &&
  decide (r.max ≤ 528000) && decide (r.max - r.min ≤ 576000) && inR 30 r.match_ 99 && decide (r.mismatch + 10 ≤ r.match_) && inR 1 r.k 8 &&
  inR 1 r.m 30 && (r.kind == 1 || (r.slotL < 32 && (r.slotR < 32 || r.slotR == 0xFF)))

/-- A verification accepted and not yet in effect (R388, R391). -/
def Verif.fresh (r : VerifyReq) (group start : Nat) (live : Bool) : Verif :=
  { req := r, group := group, live := live, st := 0, lags := [], inRun := [], low := 0, unformed := 0, delay := 0, rho := 0, lag := 0
    formed := 0, notFormed := 0, last := 0, lastFormed := false, startOrd := start, dropAt := none }

/-- VERIFY_SET (R388-R392): an index in use is replaced; the charge is held from acceptance. -/
def execVerifySet (h : Hdr) (r : VerifyReq) (target : Nat) (s : State) : Host.Outcome State Fault Refusal :=
  serve (.verifySet h r target) 0x0A20 .operator .run h nullHandle (fun s =>
    let head : Chk Nat := do
      need (verifyOk r) .badParam
      let due ← get! .badParam (dueOf s target)
      let o ← objIs s r.prog 6
      let q ← objIs s r.ref (if r.kind = 0 then 9 else 6)
      need (audioComp s r.prog && (if r.kind = 0 then refSlot s r.ref r.slotL && (r.slotR == 0xFF || refSlot s r.ref r.slotR)
        else audioComp s r.ref)) .badParam
      pendingOk o due false
      pendingOk q due false
      pure due
    match head with
    | .error c => .fail c
    | .ok due =>
      match roomFor s (charges { s with verifs := tdel s.verifs r.index }) r.group verifCost with
      | .error k => .bad .noResource (refuseAdm k s)
      | .ok g =>
        let v := match tget s.verifs r.index with
          | some v => { v with group := g }
          | none => Verif.fresh r g 0 false
        .done .ok (posReply s due 0 ++ byte g ++ zeros 1)
          (schedQ ⟨due, 0, nullHandle, 0x300 + r.index, .verifySet h r target, 0⟩ { s with verifs := tset s.verifs r.index v })) s

/-- A verification takes effect: UNKNOWN, its runs and buffers clear (R391). -/
def applyVerifySet (r : VerifyReq) (s : State) : State :=
  match tget s.verifs r.index with
  | some v => { s with verifs := tset s.verifs r.index (Verif.fresh r v.group s.sys.ord true) }
  | none => s

/-- VERIFY_CLEAR (R392). -/
def execVerifyClear (h : Hdr) (index target : Nat) (s : State) : Host.Outcome State Fault Refusal :=
  serve (.verifyClear h index target) 0x0A21 .operator .run h nullHandle (fun s => chk do
    need (index < 64) .badParam
    let due ← get! .badParam (dueOf s target)
    need (tget s.verifs index).isSome .conflict
    okay (posReply s due 0) (schedQ ⟨due, 0, nullHandle, 0x300 + index, .verifyClear h index target, 0⟩ s)) s

/-- A verification goes (R392). -/
def applyVerifyClear (index : Nat) (s : State) : State := { s with verifs := tdel s.verifs index }

/-- The air delay (R388): the delay less the latency of the programme's weave. -/
def airDelay (s : State) (v : Verif) : Int :=
  let d := ((compSvc s v.req.prog).bind fun x => x.weave.bind fun w => weaveAt s w).elim 0 fun w => w.depth + 1
  v.delay - 48 * d

/-- The VERIFY_STATUS reply (R392). -/
def verifyBytes (s : State) (index : Nat) : List Byte :=
  match tget s.verifs index with
  | some v =>
    if v.live then
      byte index ++ byte v.st ++ byte (flagBits [v.lastFormed, bit v.req.flags 0]) ++ byte (v.lags.length + v.low) ++ handleBytes v.req.prog
        ++ leBytes 2 v.rho ++ zeros 2 ++ leSigned 4 v.delay ++ leSigned 4 (airDelay s v) ++ leSigned 4 v.lag ++ leCount 4 v.formed
        ++ leCount 4 v.notFormed ++ leBytes 8 v.last ++ leBytes 8 (now s)
    else byte index ++ byte 0xFF ++ zeros 38 ++ leBytes 8 (now s)
  | none => byte index ++ byte 0xFF ++ zeros 38 ++ leBytes 8 (now s)

/-- VERIFY_STATUS (R392). -/
def execVerifyStatus (h : Hdr) (index : Nat) (s : State) : Host.Outcome State Fault Refusal :=
  serve (.verifyStatus h index) 0x0A22 .operator .fw h nullHandle (fun s => chk do
    need (index < 64) .badParam
    okay (verifyBytes s index) s) s

end Sys2Proof.Machine
end

