-- ==== Sys2Proof/Machine/Wire.lean ====
section
/-! DEFINITION. What output streams and ports carry: the samples of a source, the words made of them (R402, R423), and the levels of a TDM frame with its clocks
(R395-R398, R403). -/

namespace Sys2Proof.Machine

/-! Sources. -/

/-- The status byte of an audio component, or of a follow set's current source. (log 104: DEDUCED) -/
def audioByte (s : State) (h : Handle) : Nat :=
  if hClass h = 7 then ((followAt s (hIndex h)).bind fun f => f.srcs.head?).elim 2 fun x => compStatus s x.req.comp else compStatus s h

/-- A sample of an audio source by channel: zero where it produced none for the pick, a set's as its sources make it; a source of one channel has it in both (R348, R402,
R423). (log 120: DESIGN CHOICE) -/
def audioSample (s : State) (h : Handle) (rate x ch : Nat) : Int :=
  let b := audioByte s h
  match (if hClass h = 7 ∧ rate = 1 then followAt s (hIndex h) else none) with
  | some f => followSample f x (if bit b 2 then ch else 0)
  | none => if hClass h ≠ 7 ∧ b = 2 then 0 else (Config.audio h.toNat rate x (if bit b 2 then ch else 0)).toInt

/-- The channels of a channel setting, each a sample over a divisor (R402, R423): STEREO, L, R or the mean of both. -/
def chanVals (chan : Nat) (f : Nat → Int) : List (Int × Nat) :=
  match chan with
  | 0 => [(f 0, 1), (f 1, 1)]
  | 1 => [(f 0, 1)]
  | 2 => [(f 1, 1)]
  | _ => [(f 0 + f 1, 2)]

/-- A 32-bit sample as a word of `bits` bits, rounded and saturated (R402, R423). -/
def wordOf (bits : Nat) (v : Int × Nat) : Int := clampBits bits (roundDiv v.1 ((2 ^ (32 - bits) * v.2 : Nat) : Int))

/-- The bits of a word, the most significant first. -/
def bitsOf (n : Nat) (v : Nat) : List Bool := (List.range n).map fun k => v.testBit (n - 1 - k)

/-! Frames. -/

/-- The periods of a frame (R395). -/
def frameB (c : TdmCfg) : Nat := c.n * c.w

/-- The frame rate in kHz (R394). -/
def frameKHz (c : TdmCfg) : Nat := nth [32, 48, 96] c.rate 48

/-- The bits of a slot's w that its word takes (R397). -/
def wordPeriods (c : TdmCfg) : Nat := min c.word c.w

/-- The word an input port reads in slot `k` of a frame (R397): left-justified in 32 bits, from its first periods. A period with no level given reads 0. -/
def slotWord (c : TdmCfg) (bits : List Bool) (k : Nat) : BitVec 32 :=
  let m := wordPeriods c
  let l := (bits.drop (c.o + k * c.w)).take m
  BitVec.ofNat 32 ((l ++ List.replicate (m - l.length) false).foldl (fun v b => 2 * v + flag b) 0 * 2 ^ (32 - m))

/-- The words of a frame's enabled slots, compacted (R397, R410). -/
def frameWords (c : TdmCfg) (bits : List Bool) : List (BitVec 32) :=
  ((List.range c.n).filter fun k => c.mask.testBit k).map (slotWord c bits)

/-- The words of a frame that was not received (R408, R409): zero. -/
def noWords (c : TdmCfg) : List (BitVec 32) := ((List.range c.n).filter fun k => c.mask.testBit k).map fun _ => 0#32

/-- The level of a period that no slot drives (R394, R403). -/
def idleLevel (c : TdmCfg) : Option Bool := if bit c.flags 3 then none else some false

/-- The levels of a slot's w periods (R397, R403): the word's most significant bits, then zeros; an unassigned slot idles. -/
def slotLevels (c : TdmCfg) (sent : List (Nat × Nat)) (k : Nat) : List (Option Bool) :=
  match tget sent k with
  | some v =>
    let m := wordPeriods c
    ((bitsOf c.word v).take m).map some ++ List.replicate (c.w - m) (some false)
  | none => List.replicate c.w (idleLevel c)

/-- The levels that a frame's slots give its B periods and the o after them, with what the frame before has left over: those of this frame and those that are left (R397). -/
def frameLevels (c : TdmCfg) (sent : List (Nat × Nat)) (carry : List (Option Bool)) : List (Option Bool) × List (Option Bool) :=
  let l := (carry ++ List.replicate c.o (idleLevel c)).take c.o ++ (List.range c.n).flatMap (slotLevels c sent)
  (l.take (frameB c), l.drop (frameB c))

/-- The levels of an idle data pin over a frame (R408). -/
def idleFrame (c : TdmCfg) : List (Option Bool) := List.replicate (frameB c) (idleLevel c)

/-! Master clocks (R398). -/

/-- The edges of the PLL output in a frame. -/
def frameEdges (c : TdmCfg) : Nat := nth [98304, 65536, 32768] c.rate 65536

/-- The divider N + F / 2²⁴ in 2⁻²⁴: N = ⌊E / B⌋ and F = round((E / B − N) × 2²⁴), halves upward. -/
def divider (c : TdmCfg) : Nat := (2 * frameEdges c * 2 ^ 24 + frameB c) / (2 * frameB c)

/-- The PLL edge of BCLK transition `k` of a frame, counted from the frame's first edge. -/
def bclkEdge (c : TdmCfg) (k : Nat) : Nat := (2 * (k * divider c) + 2 ^ 25) / (2 * 2 ^ 25)

end Sys2Proof.Machine
end

