-- ==== Sys2Proof/Machine/Tdm.lean ====
section
/-! DEFINITION. TDM audio ports (R394-R418): settings, slave operation with its slips, output streams and alignment groups. -/

namespace Sys2Proof.Machine

/-- A TDM port. -/
def tdmAt (s : State) (k : Nat) : TdmPort := nth s.tdm k TdmPort.reset

/-- Changes a TDM port. -/
def tmodT (k : Nat) (f : TdmPort → TdmPort) (s : State) : State := { s with tdm := lmod s.tdm k f }

/-- The settings of a port as they will stand at a boundary: those of a change accepted for it or before it. (log 99: DEDUCED) -/
def tdmCfgAt (s : State) (k due : Nat) : TdmCfg :=
  match pendOf s (fixedHandle 9 k) 70 with
  | some p => if p.due ≤ due then (match p.cmd with
    | .tdmPortConfig _ _ c _ => c
    | _ => (tdmAt s k).cfg) else (tdmAt s k).cfg
  | none => (tdmAt s k).cfg

/-- The code of a port state (R416). -/
def TdmState.code : TdmState → Nat
  | .off => 0 | .running => 1 | .syncing => 2 | .clockLost => 3 | .rateFault => 4 | .pllHold => 5

/-- The port whose pins a slave takes its clock from (R405). -/
def clkOwner (c : TdmCfg) (k : Nat) : Nat := if c.clk < 8 then c.clk else k

/-- The body of EV_TDM_PORT (R418). -/
def tdmBody (s : State) (k code prev : Nat) : List Byte :=
  handleBytes (fixedHandle 9 k) ++ byte code ++ byte prev ++ zeros 2 ++ leSigned 4 ((tdmAt s k).rate.getD (-2147483648)) ++ leBytes 8 (now s)

/-- An output port sends a frame's levels (R403, R404): none of them where it may not drive; and what falls into the next frame. -/
def TdmPort.put (p : TdmPort) (l carry : List (Option Bool)) : TdmPort :=
  { p with out := if p.cfg.dir ≠ 1 then [] else if p.driving then l else l.map fun _ => none, carry := carry }

/-- A frame of an input port with no frame received for it (R408-R410). -/
def TdmPort.absent (p : TdmPort) : TdmPort := { p with frames := ⟨1#8, noWords p.cfg⟩ :: p.frames }

/-- A port goes to a state with its event (R408, R409); an input port holds its first frames as positions without one (R406). (log 100: DEDUCED) -/
def tdmGo (k : Nat) (st : TdmState) (code : Nat) (s : State) : State :=
  let prev := (tdmAt s k).st.code
  let s := tmodT k (fun p =>
    let fresh := st == .running && p.cfg.role == 1
    let p := { p with st := st, good := 0, fill := if fresh then 4 else p.fill, may := true, rate := if st = .clockLost then none else p.rate
                      fifo := if fresh && p.cfg.dir == 2 then List.replicate 4 ⟨1#8, noWords p.cfg⟩ else p.fifo }
    if st = .running ∨ st = .rateFault then p else p.put (idleFrame p.cfg) []) s
  ev 0x0B01 (tdmBody s k code prev) s

/-- The state a port takes at a boundary with its settings (R99, R394, R414): OFF, RUNNING or PLL_HOLD on a master, SYNCING on a slave. (log 103: DEDUCED) -/
def tdmStart (s : State) (p : TdmPort) : TdmPort :=
  { p with st := if p.cfg.dir = 0 then .off else if p.cfg.role = 1 then .syncing else if s.clk.audio then .running else .pllHold
           fill := 0, rate := none, good := 0, may := true, fifo := [], dropNext := false, lastIn := [], frames := [], ring := [], sent := []
           out := [], carry := [] }

/-! Streams and groups. -/

/-- A stream. -/
def streamAt (s : State) (h : Handle) : Option Stream := if hClass h = 8 then tget s.streams (hIndex h) else none

/-- The TDM stream request of a stream, where it is one. -/
def Stream.tdm (x : Stream) : Option TdmStreamReq := match x.kind with
  | .tdm r _ _ => some r
  | .eth _ => none

/-- The TDM streams of a port with their indices. -/
def tdmStreams (s : State) (k : Nat) : List (Nat × TdmStreamReq) :=
  s.streams.filterMap fun x => x.2.tdm.bind fun r => if hIndex r.port = k then some (x.1, r) else none

/-- A stream's handle. -/
def streamH (s : State) (i : Nat) : Handle := handleOf s 8 i

/-- A stream is released at or before a boundary. -/
def goneBy (s : State) (h : Handle) (due : Nat) : Bool := (pendOf s h 10).any fun p => p.due ≤ due

/-- The slots a stream occupies (R402). -/
def streamSlots (r : TdmStreamReq) : List Nat := if r.chan = 0 then [r.slotA, r.slotB] else [r.slotA]

/-- The slots of a port that its streams occupy. -/
def slotsUsed (s : State) (k due : Nat) : List Nat :=
  (tdmStreams s k).flatMap fun x => if goneBy s (streamH s x.1) due then [] else streamSlots x.2

/-- An alignment group. -/
def alignAt (s : State) (h : Handle) : Option Align := if hClass h = 0x0A then tget s.aligns (hIndex h) else none

/-- Changes an alignment group. -/
def gpmod (i : Nat) (f : Align → Align) (s : State) : State := { s with aligns := tmod s.aligns i f }

/-- The pace a stream asks of a group (R411): GRID, or PORT with its pace port. (log 100: DEDUCED) -/
def paceOf (s : State) (h : Handle) (due : Nat) : Nat × Nat :=
  match (streamAt s h).bind Stream.tdm with
  | some r => let c := tdmCfgAt s (hIndex r.port) due; if c.role = 1 then (2, clkOwner c (hIndex r.port)) else (1, 0)
  | none => (1, 0)

/-- The members a group will have at a boundary, in order of joining: changes accepted count. -/
def membersAt (s : State) (g : Handle) (due : Nat) : List Handle :=
  let now_ := ((alignAt s g).elim [] fun a => a.members.map (·.1))
  let leaves := fun (h : Handle) => s.sched.any fun p => p.due ≤ due && p.obj == h && (p.kind == 10 || (p.kind == 72 && match p.cmd with
    | .alignRemove _ _ _ _ => true
    | _ => false))
  let joins := s.sched.filterMap fun p => match p.cmd with
    | .alignAdd _ gr h _ => if gr = g ∧ p.kind = 72 then some h else none
    | _ => none
  (now_.filter fun h => !leaves h) ++ joins

/-- A stream leaves the group it is in (R411, R413). -/
def leaveGroup (h : Handle) (s : State) : State :=
  match (streamAt s h).bind (·.group) with
  | some g =>
    let s := gpmod g (fun a =>
      let m := a.members.filter fun x => x.1 ≠ h
      { a with members := m, pace := if m.isEmpty then 0 else a.pace, port := if m.isEmpty then 0 else a.port }) s
    { s with streams := tmod s.streams (hIndex h) fun x => { x with group := none } }
  | none => s

/-- A stream joins a group (R411, R412): the first member fixes the pace, and a slave port takes the group's fill. -/
def joinGroup (g h : Handle) (s : State) : State :=
  let (pace, port) := paceOf s h s.sys.ord
  let s := gpmod (hIndex g) (fun a => { a with pace := pace, port := port, members := a.members ++ [(h, 0, 0, 0, 0)] }) s
  let s := { s with streams := tmod s.streams (hIndex h) fun x => { x with group := some (hIndex g) } }
  match (streamAt s h).bind Stream.tdm with
  | some r => if pace = 2 ∧ (tdmAt s port).cfg.dir = 1 then tmodT (hIndex r.port) (fun p => { p with fill := (tdmAt s port).fill }) s else s
  | none => s

/-- An ALIGN_ADD falls due (R411): it is discarded where its group has gone, the stream is in a group or the pace is broken. -/
def applyAlignAdd (hd : Hdr) (g h : Handle) (s : State) : State :=
  match alignAt s g, streamAt s h with
  | some a, some x =>
    if x.group.isNone && a.members.length < 64 && (a.pace == 0 || (a.pace, a.port) == paceOf s h s.sys.ord) then joinGroup g h s
    else ev 0x0106 (droppedBody h 0x0B21 hd s.tb.pick) s
  | _, _ => ev 0x0106 (droppedBody h 0x0B21 hd s.tb.pick) s

/-- An ALIGN_REMOVE falls due (R413). -/
def applyAlignRemove (hd : Hdr) (g h : Handle) (s : State) : State :=
  if (streamAt s h).any fun x => x.group == some (hIndex g) then leaveGroup h s else ev 0x0106 (droppedBody h 0x0B22 hd s.tb.pick) s

/-- An alignment group goes; its streams run on outside any group (R413). -/
def freeAlign (h : Handle) (s : State) : State :=
  let s := { s with streams := s.streams.map fun (x : Nat × Stream) => if x.2.group = some (hIndex h) then (x.1, { x.2 with group := none }) else x }
  unissue h { s with aligns := tdel s.aligns (hIndex h) }

/-- An output stream goes (R402, R438). -/
def freeStream (h : Handle) (s : State) : State :=
  let s := leaveGroup h s
  unissue h { s with streams := tdel s.streams (hIndex h) }

/-- The positions at which a stream underruns, among those of all streams that do. -/
def missOf (l : List (Handle × List Nat)) (h : Handle) : List Nat := ((l.find? fun x => x.1 == h).map (·.2)).getD []

/-- The positions at which a group's members act on an underrun (R412): those at which one of them does. -/
def groupMiss (l : List (Handle × List Nat)) (a : Align) : List Nat := (a.members.flatMap fun m => missOf l m.1).eraseDups

/-- The positions at which its group makes a stream hold: those of the others' underruns (R412). -/
def holdsOf (s : State) (l : List (Handle × List Nat)) (h : Handle) : List Nat :=
  match ((streamAt s h).bind (·.group)).bind fun g => tget s.aligns g with
  | some a => (groupMiss l a).filter fun j => !(missOf l h).contains j
  | none => []

/-- Streams underrun at positions of the pick, or in one frame of a PORT group (R412, R426): each group counts the frames it holds in, a member its underruns and the
holds that those of others make; an Ethernet stream repeats there. (log 101: DEDUCED) -/
def underrun (l : List (Handle × List Nat)) (s : State) : State :=
  { s with
    aligns := s.aligns.map fun (x : Nat × Align) =>
      let all := groupMiss l x.2
      (x.1, { x.2 with holds := x.2.holds + all.length
                       members := x.2.members.map fun (m : Handle × Nat × Nat × Nat × Nat) =>
                         let own := missOf l m.1
                         (m.1, m.2.1, m.2.2.1, m.2.2.2.1 + (all.filter fun j => !own.contains j).length, m.2.2.2.2 + own.length) })
    streams := s.streams.map fun (x : Nat × Stream) =>
      match x.2.kind with
      | .eth e =>
        let h := handleOf s 8 x.1
        let held := holdsOf s l h
        (x.1, { x.2 with kind := .eth { e with holds := e.holds + held.length, heldAt := e.heldAt ++ missOf l h ++ held } })
      | .tdm _ _ _ => x }

/-- A PORT group slips with its pace port (R412): 1 a drop, 2 a repeat. (log 100: DEDUCED) -/
def groupSlip (port slip : Nat) (s : State) : State :=
  if slip = 0 then s
  else { s with aligns := s.aligns.map fun (x : Nat × Align) =>
    if x.2.pace = 2 ∧ x.2.port = port then
      (x.1, { x.2 with drops := x.2.drops + flag (slip == 1), repeats := x.2.repeats + flag (slip == 2)
                       members := x.2.members.map fun (m : Handle × Nat × Nat × Nat × Nat) => (m.1, m.2.1 + flag (slip == 1), m.2.2.1 + flag (slip == 2), m.2.2.2) })
    else x }

/-! Slave frames. -/

/-- The ports clocked from a port's pins: itself and those that borrow them (R405), but for those that are OFF. -/
def clocked (s : State) (k : Nat) : List Nat :=
  (List.range 8).filter fun j => let p := tdmAt s j; p.st != .off && p.cfg.role == 1 && clkOwner p.cfg j == k

/-- A port carries a member of an alignment group. -/
def carries (s : State) (k : Nat) : Bool := (tdmStreams s k).any fun x => (tget s.streams x.1).any fun y => y.group.isSome

/-- The slip rule of an output port on its fill (R406). (log 100: DEDUCED) -/
def slipOf (f : Nat) : Nat := if 6 < f then 1 else if f = 1 then 2 else 0

/-- The slip a running output port makes in this frame (R406, R412): a port that carries group members makes that of its pace port. (log 100: DEDUCED) -/
def slipFor (s : State) (k due : Nat) : Nat :=
  let p := tdmAt s k
  let m := clkOwner p.cfg k
  if carries s k ∧ (tdmAt s m).cfg.dir = 1 then slipOf ((tdmAt s m).fill + due) else slipOf (p.fill + due)

/-- How an output port fills a frame (R406, R407): with the next samples due, with those of the frame before as it slips, or so as it underruns. -/
inductive Sent where
  | next | again | under
  deriving DecidableEq, Repr

/-- A running output port takes the samples of a frame (R406, R407): `slip` is its decision, `ready` says that they have been handed over. (log 120: DESIGN CHOICE) -/
def TdmPort.send (p : TdmPort) (due slip : Nat) (ready : Bool) : TdmPort × Sent :=
  let f := p.fill + due
  if slip = 2 then ({ p with fill := f, repeated := p.repeated + 1 }, .again)
  else
    let f := if slip = 1 then f - 1 else f
    let p := { p with dropped := p.dropped + flag (slip == 1) }
    if f = 0 then ({ p with fill := 0, underruns := p.underruns + 1 }, .under)
    else if ready then ({ p with fill := f - 1 }, .next)
    else ({ p with fill := f - 1, underruns := p.underruns + 1 }, .under)

/-- A grid position comes on a running input port (R406, R410): the oldest frame is read, after one is discarded, or the last is read again. (log 100: DEDUCED) -/
def TdmPort.read (p : TdmPort) : TdmPort :=
  let take := fun (p : TdmPort) => match p.fifo with
    | x :: l => { p with fifo := l, fill := l.length, frames := x :: p.frames, lastIn := x.words }
    | [] => p
  if 6 < p.fill ∧ p.may = true then
    take { p with fifo := match p.fifo.drop 1 with
                            | x :: l => ⟨x.flag ||| 4#8, x.words⟩ :: l
                            | [] => []
                  dropped := p.dropped + 1, may := false }
  else if p.fifo = [] ∨ (p.fill < 2 ∧ p.may = true) then
    { p with frames := ⟨2#8, if p.lastIn.isEmpty then noWords p.cfg else p.lastIn⟩ :: p.frames, repeated := p.repeated + 1, may := false }
  else take p

/-- Grid positions come on an input port (R406, R408): read where it is RUNNING, ABSENT otherwise. -/
def TdmPort.positions (p : TdmPort) (n : Nat) : TdmPort :=
  (List.range n).foldl (fun p _ => if p.st = .running then p.read else p.absent) { p with pos := p.pos + n }

/-- A running input port receives a frame (R406-R408): one of a wrong length, or one too many, is discarded. (log 100: DEDUCED) -/
def TdmPort.receive (p : TdmPort) (due : Nat) (good : Bool) (words : List (BitVec 32)) : TdmPort :=
  let p := { p.positions due with may := true }
  if !good then { p with dropNext := true }
  else if 16 ≤ p.fill then { p with overruns := p.overruns + 1, dropNext := true }
  else
    let l := p.fifo ++ [⟨if p.dropNext then 4#8 else 0#8, words⟩]
    { p with fifo := l, fill := l.length, dropNext := false }

/-- A glitch (R408, R418): counted; the event under NOTIFY for the first after 1,000 picks without one. (log 100: DEDUCED) -/
def glitch (k : Nat) (s : State) : State :=
  let p := tdmAt s k
  let tell := bit p.cfg.flags 4 && p.glitchOrd.all fun o => o + 1000 ≤ s.sys.ord
  let s := tmodT k (fun p => { p with glitches := p.glitches + 1, glitchOrd := some s.sys.ord }) s
  if tell then ev 0x0B01 (tdmBody s k 7 1) s else s

/-- The first position of the present pick on a port's grid. -/
def portBase (s : State) (c : TdmCfg) : Nat := frameKHz c / 8 * gridOf s s.sys.ord

/-- The sample of a dent stream at a position of a port's grid, by channel (R401). -/
def dentSample (base : Nat) (buf prev : List (Int × Int)) (x ch : Nat) : Int :=
  let v := if base ≤ x then nth buf (x - base) (0, 0) else nth prev (prev.length - (base - x)) (0, 0)
  if ch = 0 then v.1 else v.2

/-- The words of a stream's slots at a position of its port's grid (R32, R402): of a stream that is not ACTIVE zeros, or none where the port tri-states. (log 120: DESIGN CHOICE) -/
def streamWords (s : State) (c : TdmCfg) (i : Nat) (x : Stream) (at_ : Nat) : List (Nat × Nat) :=
  match x.kind with
  | .tdm r buf prev =>
    if (objOf s (streamH s i)).any (fun o => o.st == .active) then
      let f := fun (ch : Nat) => if hClass r.src = 3 then dentSample (portBase s c) buf prev at_ ch * 2 ^ r.shift else audioSample s r.src c.rate at_ ch
      (streamSlots r).zip ((chanVals r.chan f).map fun v => (wordOf c.word v % 2 ^ c.word).toNat)
    else if bit c.flags 3 then [] else (streamSlots r).map fun k => (k, 0)
  | .eth _ => []

/-- The words of a port's assigned slots at a position of its grid. -/
def portWords (s : State) (k at_ : Nat) : List (Nat × Nat) :=
  (s.streams.filter fun x => x.2.tdm.any fun r => hIndex r.port == k).flatMap fun x => streamWords s (tdmAt s k).cfg x.1 x.2 at_

/-- The streams of a port that are ACTIVE: those that underrun with it (R32, R407). -/
def liveOn (s : State) (k : Nat) : List Handle :=
  ((tdmStreams s k).map fun x => streamH s x.1).filter fun h => (objOf s h).any fun o => o.st == .active

/-- A frame at FSYNC on an output port that is RUNNING (R406, R407): its levels, and the streams that underrun in it. -/
def frameOut (due : Nat) (ready : Bool) (slip k : Nat) (s : State) : List Handle × State :=
  let live := liveOn s k
  let p := tdmAt s k
  let (q, how) := ({ p with pos := p.pos + due } : TdmPort).send due slip (ready || live.isEmpty)
  let sent := if how = .next then portWords s k (portBase s p.cfg + q.pos - (q.fill + 1)) else q.sent
  let (l, carry) := frameLevels q.cfg sent q.carry
  (if how = .under then live else [], tmodT k (fun _ => { q with sent := sent }.put l carry) s)

/-- A frame at FSYNC on one port (R406-R408), of the levels given. `slip` is the decision of a running output port. The streams that underrun in it, and the state. -/
def frameOn (periods : Nat) (rate : Int) (due : Nat) (missing : List Nat) (bits : List (Nat × List Bool)) (slip k : Nat) (s : State) :
    List Handle × State :=
  let p := tdmAt s k
  let pass := fun (s : State) => tmodT k (fun p => if p.cfg.dir = 2 then p.positions due else { p with pos := p.pos + due }) s
  match p.st with
  | .syncing =>
    let s := pass s
    ([], if periods ≠ (frameB p.cfg) then tmodT k (fun p => { p with good := 0 }) s
      else if p.good + 1 < 2 then tmodT k (fun p => { p with good := p.good + 1 }) s
      else
        let s := tmodT k (fun p => { p with rate := some rate }) s
        if rate.natAbs ≤ 20000 then tdmGo k .running 1 s else tdmGo k .rateFault 3 s)
  | .running =>
    let good := periods == (frameB p.cfg)
    let s := if good then s else glitch k s
    if p.cfg.dir = 2 then ([], tmodT k (fun p => p.receive due good (frameWords p.cfg ((tget bits k).getD []))) s)
    else frameOut due (!missing.contains k) slip k s
  | .rateFault =>
    let zero := (tdmStreams s k).flatMap fun x => (streamSlots x.2).map fun n => (n, 0)
    ([], tmodT k (fun p => let f := frameLevels p.cfg zero p.carry; p.put f.1 f.2) (pass s))
  | _ => ([], s)

/-- TDM_FRAME (R405-R408, R412): an active FSYNC on the pins of a slave port after `periods` BCLK periods; `due` grid positions have come
since the frame before, or since the pick began; `rate` is the rate measured, and `lines` the ports whose samples have not been handed over and the levels
that each input port sampled in the frame, with the o periods after it. (log 101: DEDUCED) -/
def execTdmFrame (port : Fin 8) (periods : Nat) (rate : Int) (due : Nat) (lines : FrameLines) (s : State) :
    Host.Outcome State Fault Refusal :=
  let ks := clocked s port.val
  let slips := ks.map fun k => (k, if (tdmAt s k).st = .running ∧ (tdmAt s k).cfg.dir = 1 then slipFor s k due else 0)
  let g := ((slips.find? fun x => carries s x.1 && x.2 != 0).map (·.2)).getD 0
  let (hs, s) := slips.foldl (fun (a : List Handle × State) x =>
    let (l, s) := frameOn periods rate due lines.missing lines.bits x.2 x.1 a.2
    (a.1 ++ l, s)) ([], groupSlip port.val g s)
  .next (if hs.isEmpty then s else underrun (hs.map fun h => (h, [0])) s)

/-- TDM_CLOCK_LOST (R408). -/
def execTdmClockLost (port : Fin 8) (s : State) : Host.Outcome State Fault Refusal :=
  .next ((clocked s port.val).foldl (fun s k =>
    let st := (tdmAt s k).st
    if st = .syncing ∨ st = .running ∨ st = .rateFault then tdmGo k .clockLost 2 s else s) s)

/-- TDM_CLOCK_RETURN (R408). -/
def execTdmClockReturn (port : Fin 8) (s : State) : Host.Outcome State Fault Refusal :=
  .next ((clocked s port.val).foldl (fun s k =>
    if (tdmAt s k).st = .clockLost then tmodT k (fun p => { p with st := .syncing, good := 0 }) s else s) s)

/-- TDM_RATE_OK (R408): the rate has lain within ±2,000 ppm for 100 ms. -/
def execTdmRateOk (port : Fin 8) (rate : Int) (s : State) : Host.Outcome State Fault Refusal :=
  .next ((clocked s port.val).foldl (fun s k =>
    if (tdmAt s k).st = .rateFault then tdmGo k .running 4 (tmodT k (fun p => { p with rate := some rate }) s) else s) s)

/-! At pick boundaries. -/

/-- The rates measured at a boundary (R408): a running port beyond ±2,000 ppm mutes. -/
def ratesBoundary (rates : List (Nat × Int)) (s : State) : State :=
  rates.foldl (fun s r => (clocked s r.1).foldl (fun s k =>
    let st := (tdmAt s k).st
    if st = .clockLost then s
    else
      let s := tmodT k (fun p => { p with rate := some r.2 }) s
      if st = .running ∧ 20000 < r.2.natAbs then tdmGo k .rateFault 3 s else s) s) s

/-- The master ports at a boundary after the audio PLL has lost lock, or has locked again (R99, R409). -/
def pllBoundary (s : State) : State :=
  (List.range 8).foldl (fun s k =>
    let p := tdmAt s k
    if p.cfg.role ≠ 0 then s
    else if p.st = .running ∧ s.clk.audio = false then tdmGo k .pllHold 5 s
    else if p.st = .pllHold ∧ s.clk.audio = true then tdmGo k .running 6 s
    else s) s

/-- The positions of the pick that ends on a port's grid (R399). -/
def pickFrames (s : State) (c : TdmCfg) : Nat := (frameKHz c * (8 - stepQ s) / 8).toNat

/-- A pick ends on a port: PLL_HOLD is counted, the positions still to come on a slave pass, and the frames of an input port enter the ring (R409, R410). `bits` are the
levels a master sampled. (log 101: DEDUCED) -/
def TdmPort.pickEnd (n : Nat) (bits : List (List Bool)) (p : TdmPort) : TdmPort :=
  let p := { p with held := p.held + flag (p.st == .pllHold) }
  if p.st = .off then p
  else if p.cfg.dir = 2 then
    let p := if p.cfg.role = 1 then p.positions (n - p.pos)
             else { p with frames := ((List.range n).map fun j => if p.st = .running then (⟨0#8, frameWords p.cfg (nth bits j [])⟩ : InFrame)
                                                                  else ⟨1#8, noWords p.cfg⟩).reverse }
    { p with ring := (p.frames :: p.ring).take 15, frames := [], pos := 0 }
  else { p with fill := if p.st = .running ∧ p.cfg.role = 1 then p.fill + (n - p.pos) else p.fill, pos := 0 }

/-- The last position up to `j` that is not among the missing. (log 101: DEDUCED) -/
def heldUp (bad : List Nat) : Nat → Option Nat
  | 0 => if bad.contains 0 then none else some 0
  | j + 1 => if bad.contains (j + 1) then heldUp bad j else some (j + 1)

/-- The words a running master sends in frame `j` of the pick that ends (R402, R407, R412): a slot repeats where its port underruns or its group holds. -/
def masterWords (s : State) (l : List (Handle × List Nat)) (k j : Nat) : List (Nat × Nat) :=
  let p := tdmAt s k
  (s.streams.filter fun x => x.2.tdm.any fun r => hIndex r.port == k).flatMap fun x =>
    let h := streamH s x.1
    let at48 := missOf l h ++ holdsOf s l h
    match heldUp ((List.range (j + 1)).filter fun f => at48.contains (f * 48 / frameKHz p.cfg)) j with
    | some f => streamWords s p.cfg x.1 x.2 (portBase s p.cfg + f)
    | none => (x.2.tdm.elim [] streamSlots).filterMap fun n => (tget p.sent n).map fun v => (n, v)

/-- The last frame of the pick that ends on a running master output port (R397-R402). -/
def masterOut (l : List (Handle × List Nat)) (s : State) (k : Nat) : State :=
  let p := tdmAt s k
  let n := pickFrames s p.cfg
  if p.cfg.role = 0 ∧ p.cfg.dir = 1 ∧ p.st = .running ∧ 2 ≤ n then
    let before := (frameLevels p.cfg (masterWords s l k (n - 2)) []).2
    let sent := masterWords s l k (n - 1)
    let f := frameLevels p.cfg sent before
    tmodT k (fun p => { p with sent := sent }.put f.1 f.2) s
  else s

/-- A pick ends on every port; the samples that dent streams send in the next pick are at hand (R401). `l` are the underruns of the pick. -/
def tdmEnd (l : List (Handle × List Nat)) (bits : List (Nat × List (List Bool))) (s : State) : State :=
  let s := (List.range 8).foldl (masterOut l) s
  { s with
    tdm := s.tdm.zipIdx.map fun p => p.1.pickEnd (pickFrames s p.1.cfg) ((tget bits p.2).getD [])
    streams := s.streams.map fun x => match x.2.kind with
      | .tdm r buf _ => if hClass r.src = 3 then (x.1, { x.2 with kind := .tdm r ((dentAt s (hIndex r.src)).elim [] (·.wordsPrev)) buf }) else x
      | .eth _ => x }

/-- The frames of the pick that ends in which a running master output port lacks samples of a stream that is ACTIVE (R407). -/
def portMiss (l : List StreamMeas) (s : State) (k : Nat) : List Nat :=
  let p := tdmAt s k
  if p.cfg.role = 0 ∧ p.cfg.dir = 1 ∧ p.st = .running then
    let live := liveOn s k
    ((l.filter fun m => live.contains (streamH s m.stream)).flatMap fun m => m.miss.filter fun j => decide (j < pickFrames s p.cfg)).eraseDups
  else []

/-- The streams on master ports that underrun in the pick that ends, with their positions at 48 kHz (R407, R412). (log 101: DEDUCED) -/
def masterMiss (l : List StreamMeas) (s : State) : List (Handle × List Nat) :=
  (List.range 8).flatMap fun k =>
    let u := portMiss l s k
    if u.isEmpty then [] else (liveOn s k).map fun h => (h, u.map fun j => j * 48 / frameKHz (tdmAt s k).cfg)

/-- Master ports count their underruns of the pick that ends (R407). (log 101: DEDUCED) -/
def masterUnder (l : List StreamMeas) (s : State) : State :=
  (List.range 8).foldl (fun t k => tmodT k (fun p => { p with underruns := p.underruns + (portMiss l s k).length }) t) s

/-- D9 comes on: every port takes up its settings (R394). -/
def tdmOn (s : State) : State := { s with tdm := s.tdm.map (tdmStart s) }

/-- D9 goes off (R394). (log 103: DEDUCED) -/
def tdmOff (s : State) : State :=
  { s with tdm := s.tdm.map fun p => { tdmStart s { p with cfg := { p.cfg with dir := 0 } } with cfg := p.cfg } }

/-! Commands. -/

/-- The ranges and the framing rules of a TDM_PORT_CONFIG (R394, R395, R410). -/
def tdmCfgOk (c : TdmCfg) : Bool :=
  c.dir ≤ 2 && c.role ≤ 1 && c.rate ≤ 2 && inR 1 c.n 32 && inR 8 c.w 32 && [16, 20, 24, 32].contains c.word && c.o ≤ 31 && decide (c.o < (frameB c)) &&
  only c.flags 5 && (c.clk < 8 || c.clk == 0xFF) && (c.role == 1 || c.clk == 0xFF) && decide ((frameKHz c) * (frameB c) ≤ 49152) &&
  (!bit c.flags 0 || (frameB c) % 2 == 0) && c.mask < 2 ^ c.n && (c.dir == 2 || c.mask == 0)

/-- The conflicts of a TDM_PORT_CONFIG (R405, R411, R414). (log 99: DEDUCED) -/
def tdmCfgFits (s : State) (k due : Nat) (c : TdmCfg) : Bool :=
  let old := tdmCfgAt s k due
  let used := slotsUsed s k due
  let lends := (List.range 8).any fun j => j != k && (tdmCfgAt s j due).role == 1 && (tdmCfgAt s j due).clk == k
  let lender := tdmCfgAt s c.clk due
  let member := (tdmStreams s k).any fun x => (List.range 32).any fun g => (membersAt s (handleOf s 0x0A g) due).contains (streamH s x.1)
  (c.dir == 1 || used.isEmpty) && used.all (fun n => n < c.n) &&
  (c.dir == 2 || s.verifs.all fun v => !(v.2.req.kind == 0 && hIndex v.2.req.ref == k)) &&
  (c.clk == 0xFF || (c.clk != k && lender.role == 1 && lender.clk == 0xFF && lender.rate == c.rate && (frameB lender) == (frameB c))) &&
  (!lends || (c.rate == old.rate && (frameB c) == (frameB old) && c.role == old.role && c.clk == old.clk)) &&
  (!member || (c.role == old.role && c.clk == old.clk && c.rate == old.rate))

/-- TDM_PORT_CONFIG (R414): its settings are held in CONFIG (R394). -/
def execTdmPortConfig (h : Hdr) (port : Handle) (c : TdmCfg) (target : Nat) (s : State) : Host.Outcome State Fault Refusal :=
  serve (.tdmPortConfig h port c target) 0x0B01 .operator .ctl h port (fun s => chkRec 0 s do
    need (tdmCfgOk c) .badParam
    let due ← get! .badParam (dueOf s target)
    let _ ← objIs s port 9
    cfgOk s
    need (tdmCfgFits s (hIndex port) due c) .conflict
    okay (posReply s due 0) (sched ⟨due, 0, port, 70, .tdmPortConfig h port c target, 0⟩ s)) s

/-- A TDM_PORT_CONFIG takes effect (R414): counters clear; with D9 off the port only holds its settings. -/
def applyTdmConfig (port : Handle) (c : TdmCfg) (s : State) : State :=
  let s := tmodT (hIndex port) (fun p => { TdmPort.reset with cfg := c, driving := p.driving }) s
  let s := if domOn s 9 then tmodT (hIndex port) (tdmStart s) s else s
  let st : OState := if c.dir = 0 then .idle else .active
  omod port (fun o => if o.st = .suspended then { o with prior := st } else { o with st := st }) s

/-- The TDM_PORT_STATUS reply (R416). -/
def tdmBytes (s : State) (h : Handle) : List Byte :=
  let k := hIndex h
  let p := tdmAt s k
  let c := p.cfg
  let lends := (List.range 8).any fun j => j != k && (tdmAt s j).cfg.role == 1 && (tdmAt s j).cfg.clk == k
  let drives := p.driving && p.st != .off && (c.dir == 1 || c.role == 0)
  let slots := if c.dir = 2 then c.mask else (slotsUsed s k s.sys.ord).foldl (fun m n => m ||| 2 ^ n) 0
  handleBytes h ++ byte (stCode s h) ++ byte p.st.code ++ byte (flagBits [drives, (pendOf s h 70).isSome, lends, bit c.flags 4])
    ++ byte (if c.role = 0 then 0 else p.fill) ++ leSigned 4 (if c.role = 0 then -2147483648 else p.rate.getD (-2147483648))
    ++ leCount 4 p.dropped ++ leCount 4 p.repeated ++ leCount 4 p.underruns ++ leCount 4 p.overruns ++ leCount 4 p.glitches
    ++ leCount 4 p.held ++ leBytes 4 slots ++ leBytes 8 (now s)

/-- TDM_PORT_STATUS (R416). -/
def execTdmPortStatus (h : Hdr) (port : Handle) (s : State) : Host.Outcome State Fault Refusal :=
  serve (.tdmPortStatus h port) 0x0B02 .operator .fw h port (fun s => chk do
    let _ ← objIs s port 9
    okay (tdmBytes s port) s) s

/-- The latency of an audio source in µs (R42, R348): of a weave's component D + 1 ms; a follow set adds 1 ms and its hold. (log 102: DEDUCED) -/
def audioLatency (s : State) (h : Handle) : Nat :=
  if hClass h = 7 then
    match followAt s (hIndex h) with
    | some f =>
      let c := (f.srcs.head?.map (·.req.comp)).getD nullHandle
      let d := ((compSvc s c).bind fun x => x.weave.bind fun w => weaveAt s w).elim 0 fun w => w.depth + 1
      1000 * (d + 1) + (2 * f.hold * 1000 + 48) / 96
    | none => 0
  else 1000 * ((compSvc s h).bind fun x => x.weave.bind fun w => weaveAt s w).elim 0 fun w => w.depth + 1

/-- A source of an output stream (R402, R421): issued, of class 3, 6 or 7. -/
def sourceIs (s : State) (h : Handle) : Chk Obj := do
  need (hClass h == 3 || hClass h == 6 || hClass h == 7) .badHandle
  objIs s h (hClass h)

/-- A component is an audio component, and any other source is what its class says (R402). -/
def sourceSuits (s : State) (h : Handle) : Bool := hClass h != 6 || audioComp s h

/-- TDM_STREAM_CREATE (R402, R415). A dent may feed any number of streams (R19). (log 154: DESIGN CHOICE) -/
def execTdmStreamCreate (h : Hdr) (r : TdmStreamReq) (target : Nat) (s : State) : Host.Outcome State Fault Refusal :=
  serve (.tdmStreamCreate h r target) 0x0B10 .operator .run h r.port (fun s => chk do
    need (r.chan ≤ 3 && r.slotA < 32 && (if r.chan = 0 then r.slotB < 32 && r.slotB != r.slotA else r.slotB == 0xFF) && r.shift ≤ 15) .badParam
    let due ← get! .badParam (dueOf s target)
    let _ ← objIs s r.port 9
    let o ← sourceIs s r.src
    let c := tdmCfgAt s (hIndex r.port) due
    let dent := dentAt s (hIndex r.src)
    need (sourceSuits s r.src && (if hClass r.src = 3 then dent.any fun x => rateS x.rate == (frameKHz c) && c.rate != 0 else r.shift == 0)) .badParam
    need ((streamSlots r).all fun n => n < c.n || c.dir != 1) .badParam
    pendingOk o due false
    need (c.dir == 1 && (streamSlots r).all fun n => !(slotsUsed s (hIndex r.port) due).contains n) .conflict
    need (hClass r.src == 3 || outputsOf s r.src < 8) .noResource
    let (hd, t) ← get! .noResource (issue 8 .pending [r.src] [] due s)
    let lat := if hClass r.src = 3 then 2000 else audioLatency s r.src + (if c.rate = 1 then 0 else 1000)
    okay (handleBytes hd ++ posReply s due 0 ++ zeros 2 ++ leBytes 4 lat)
      (sched ⟨due, 0, hd, 20, .tdmStreamCreate h r target, 0⟩ { t with streams := tset t.streams (hIndex hd) ⟨.tdm r [] [], none⟩ })) s

/-- A TDM stream that a command names (check 9). -/
def tdmStreamIs (s : State) (h : Handle) : Chk Obj := do
  let o ← objIs s h 8
  need ((streamAt s h).any fun x => x.tdm.isSome) .badHandle
  pure o

/-- TDM_STREAM_RELEASE (R413). -/
def execTdmStreamRelease (h : Hdr) (stream : Handle) (target : Nat) (s : State) : Host.Outcome State Fault Refusal :=
  serve (.tdmStreamRelease h stream target) 0x0B11 .operator .run h stream (fun s => chk do
    let due ← get! .badParam (dueOf s target)
    let o ← tdmStreamIs s stream
    pendingOk o due true
    okay (posReply s due 0) (sched ⟨due, 0, stream, 10, .tdmStreamRelease h stream target, 0⟩ s)) s

/-- ALIGN_CREATE (R411, R413). -/
def execAlignCreate (h : Hdr) (target : Nat) (s : State) : Host.Outcome State Fault Refusal :=
  serve (.alignCreate h target) 0x0B20 .operator .run h nullHandle (fun s => chk do
    let due ← get! .badParam (dueOf s target)
    let (hd, t) ← get! .noResource (issue 0x0A .pending [] [] due s)
    okay (handleBytes hd ++ leBytes 8 (pickAt s due))
      (sched ⟨due, 0, hd, 20, .alignCreate h target, 0⟩ { t with aligns := tset t.aligns (hIndex hd) ⟨0, 0, [], 0, 0, 0⟩ })) s

/-- ALIGN_ADD (R411, R413). -/
def execAlignAdd (h : Hdr) (group stream : Handle) (target : Nat) (s : State) : Host.Outcome State Fault Refusal :=
  serve (.alignAdd h group stream target) 0x0B21 .operator .run h group (fun s => chk do
    let due ← get! .badParam (dueOf s target)
    let g ← objIs s group 0x0A
    let o ← objIs s stream 8
    pendingOk g due false
    pendingOk o due false
    let m := membersAt (unsched stream 72 s) group due
    need ((streamAt s stream).any (·.group.isNone) && m.head?.all fun x => paceOf s x due == paceOf s stream due) .conflict
    need (m.length < 64) .noResource
    okay (posReply s due 0) (sched ⟨due, 0, stream, 72, .alignAdd h group stream target, 0⟩ s)) s

/-- ALIGN_REMOVE (R413): the stream is in the group, or is to be. -/
def execAlignRemove (h : Hdr) (group stream : Handle) (target : Nat) (s : State) : Host.Outcome State Fault Refusal :=
  serve (.alignRemove h group stream target) 0x0B22 .operator .run h group (fun s => chk do
    let due ← get! .badParam (dueOf s target)
    let g ← objIs s group 0x0A
    let o ← objIs s stream 8
    pendingOk g due false
    pendingOk o due false
    need ((membersAt s group due).contains stream) .conflict
    okay (posReply s due 0) (sched ⟨due, 0, stream, 72, .alignRemove h group stream target, 0⟩ s)) s

/-- ALIGN_RELEASE (R413). -/
def execAlignRelease (h : Hdr) (group : Handle) (target : Nat) (s : State) : Host.Outcome State Fault Refusal :=
  serve (.alignRelease h group target) 0x0B23 .operator .run h group (fun s => chk do
    let due ← get! .badParam (dueOf s target)
    let g ← objIs s group 0x0A
    pendingOk g due true
    okay (posReply s due 0) (sched ⟨due, 0, group, 10, .alignRelease h group target, 0⟩ s)) s

/-- The ALIGN_STATUS reply (R417). -/
def alignBytes (h : Handle) (a : Align) : List Byte :=
  let ms := sortBy (fun m => m.1.toNat) a.members
  handleBytes h ++ byte a.pace ++ byte ms.length ++ zeros 2 ++ handleBytes (if a.pace = 2 then fixedHandle 9 a.port else nullHandle)
    ++ leCount 4 a.drops ++ leCount 4 a.repeats ++ leCount 4 a.holds

/-- ALIGN_STATUS (R417). -/
def execAlignStatus (h : Hdr) (group : Handle) (s : State) : Host.Outcome State Fault Refusal :=
  serve (.alignStatus h group) 0x0B24 .operator .fw h group (fun s => chk do
    let _ ← objNow s group 0x0A
    let a ← get! .badHandle (alignAt s group)
    okay (alignBytes group a ++ leBytes 8 (now s) ++ (sortBy (fun m => m.1.toNat) a.members).flatMap fun m =>
      handleBytes m.1 ++ leCount 4 m.2.1 ++ leCount 4 m.2.2.1 ++ leCount 4 m.2.2.2.1 ++ leCount 4 m.2.2.2.2) s) s

end Sys2Proof.Machine
end

