-- ==== Sys2Proof/Machine/Eth.lean ====
section
/-! DEFINITION. Ethernet stream outputs (R419-R442): ports, streams, the datagrams of each pick, bandwidth accounting and the commands. -/

namespace Sys2Proof.Machine

/-- Changes an Ethernet port. -/
def epmod (p : Nat) (f : EthPort → EthPort) (s : State) : State := { s with eth := lmod s.eth p f }

/-- The Ethernet stream of a stream, where it is one. -/
def Stream.ether (x : Stream) : Option EthStream := match x.kind with
  | .eth e => some e
  | .tdm _ _ _ => none

/-- The Ethernet streams with their indices. -/
def ethStreams (s : State) : List (Nat × EthStream) := s.streams.filterMap fun x => x.2.ether.map fun e => (x.1, e)

/-- Changes an Ethernet stream. -/
def emod (i : Nat) (f : EthStream → EthStream) (s : State) : State :=
  { s with streams := tmod s.streams i fun x => match x.kind with
    | .eth e => { x with kind := .eth (f e) }
    | .tdm _ _ _ => x }

/-- The module is paired and does not own (R404, R435, R606). -/
def shadowed (s : State) : Bool := s.pair.st != .unpaired && !s.pair.owner

/-- The largest payload of an LSC fragment (R428). -/
def fragMax (mtu : Nat) (v6 : Bool) : Nat := mtu - (if v6 then 40 else 20) - 8 - 40

/-- The datagrams of a pick payload (R423, R427, R428). -/
def fragCount (kind len mtu : Nat) (v6 : Bool) : Nat :=
  if kind = 1 then 1 else max 1 ((len + fragMax mtu v6 - 1) / fragMax mtu v6)

/-- The channels of a channel setting (R423). -/
def channels (c : Nat) : Nat := if c = 0 then 2 else 1

/-- The bytes of a pick payload of `n` samples per channel, but for records (R423, R429, R430, R432). -/
def payLen (r : EthReq) (n : Nat) : Nat :=
  match r.kind with
  | 1 => 3 * channels r.chan * n
  | 2 => 4 + 4 * channels r.chan * n
  | 5 => ((if r.chan = 0 then 9 else 5) * n + 3) / 4 * 4
  | 6 => 12 + (if (r.sources.head?.map hIndex).getD 0 < 6 then 4 else 2) * n
  | _ => 0

/-- The samples per channel of a full pick (R427). -/
def fullSamples (s : State) (r : EthReq) : Nat :=
  match r.kind with
  | 1 => 48
  | 2 => 48
  | 5 => ((r.sources.head?.bind fun h => dentAt s (hIndex h)).map fun x => rateS x.rate).getD 0
  | 6 => 98304
  | _ => 0

/-- The bytes of a full pick (R437). -/
def fullLen (s : State) (r : EthReq) : Nat := if r.kind = 3 ∨ r.kind = 4 then r.budget else payLen r (fullSamples s r)

/-- The bytes of RTP or LSC header. -/
def headLen (kind : Nat) : Nat := if kind = 1 then 12 else 40

/-- The wire load of a stream on a port, bits per pick (R437). -/
def wireLoad (s : State) (c : EthCfg) (r : EthReq) : Nat :=
  let v6 := bit r.flags 1
  let n := fragCount r.kind (fullLen s r) c.mtu v6
  (fullLen s r + n * (8 + (if v6 then 40 else 20) + 14 + (if bit c.flags 2 then 4 else 0) + 4 + 20 + headLen r.kind)) * 8

/-- The payload load of a stream on a port, bits per pick (R437). -/
def payLoad (s : State) (c : EthCfg) (r : EthReq) : Nat :=
  (fullLen s r + fragCount r.kind (fullLen s r) c.mtu (bit r.flags 1) * headLen r.kind) * 8

/-- The settings of a port as they will stand at a boundary. (log 99: DEDUCED) -/
def ethCfgAt (s : State) (p due : Nat) : EthCfg :=
  match pendOf s (fixedHandle 0x0D p) 71 with
  | some x => if x.due ≤ due then (match x.cmd with
    | .ethPortConfig _ _ c _ => c
    | _ => (ethPort s p).cfg) else (ethPort s p).cfg
  | none => (ethPort s p).cfg

/-- The requests of a port's streams. -/
def onPort (l : List EthReq) (p : Nat) : List EthReq := l.filter fun r => bit r.ports p

/-- A sum of loads. -/
def sumOf {α : Type} (f : α → Nat) (l : List α) : Nat := l.foldl (fun n a => n + f a) 0

/-- The limits of R437 hold for streams on ports with the given settings. (log 99: DEDUCED) -/
def ethFits (s : State) (c : Nat → EthCfg) (l : List EthReq) : Bool :=
  [0, 1].all (fun p =>
    let slow := bit (c p).flags 1
    sumOf (wireLoad s (c p)) (onPort l p) ≤ (if slow then 950000 else 9500000) &&
    sumOf (wireLoad s (c p)) ((onPort l p).filter fun r => r.kind == 1) ≤ (if slow then 400000 else 4000000)) &&
  sumOf (fun p => sumOf (payLoad s (c p)) (onPort l p)) [0, 1] ≤ 16000000

/-- The requests of the streams that stand at a boundary. (log 99: DEDUCED) -/
def ethReqs (s : State) (due : Nat) : List EthReq :=
  (ethStreams s).filterMap fun x => if goneBy s (streamH s x.1) due then none else some x.2.req

/-! Headers. -/

/-- The RTP header of the packet of a pick (R423-R425). -/
def rtpHeader (r : EthReq) (pick : Nat) (marker : Bool) : List Byte :=
  byte 0x80 ++ byte (128 * flag marker + r.ptype) ++ beBytes 2 (pick + r.seqOff) ++ beBytes 4 (48 * pick + r.tsOff) ++ beBytes 4 r.ssrc

/-- The status field of an LSC header (R427). -/
def lscStatus (susp renum held dropped first : Bool) (label : Nat) (q : Int) : Nat :=
  flagBits [susp, q != 0, renum, held, dropped, first] + 256 * (label % 4) + 4096 * (q % 16).toNat

/-- The LSC header of fragment `k` of a pick payload (R427, R428), whose first fragment has the sequence number `seq`. -/
def lscHeader (h : Handle) (r : EthReq) (seq pick len mtu status samples k : Nat) : List Byte :=
  let v6 := bit r.flags 1
  let n := fragCount r.kind len mtu v6
  let off := k * fragMax mtu v6
  leBytes 2 0x4C53 ++ byte 1 ++ byte r.kind ++ handleBytes h ++ leBytes 4 (seq + k) ++ leBytes 8 pick ++ leBytes 4 len ++ leBytes 4 off
    ++ leBytes 2 k ++ leBytes 2 n ++ leBytes 2 status ++ leBytes 2 (min (fragMax mtu v6) (len - off)) ++ leBytes 4 samples

/-- The link and IP headers of a stream's datagrams on a port (R419, R420, R423, R427, R439): IPv4 packets carry DF. -/
def netHead (c : EthCfg) (r : EthReq) : NetHead :=
  let v6 := bit r.flags 1
  { tag := if bit c.flags 2 then some (c.vlan, c.pcp) else none, v6 := v6, df := !v6, dscp := if r.kind = 1 then c.dMedia else c.dLsc
    src := if v6 then c.addr6 else c.addr4, dst := if v6 then r.dest else r.dest / 2 ^ 96, sport := r.sport, dport := r.dport }

/-! The datagrams of a pick. -/

/-- The body of EV_ETH_LINK (R442). -/
def linkBody (p new old pick : Nat) : List Byte :=
  handleBytes (fixedHandle 0x0D p) ++ byte new ++ byte old ++ zeros 2 ++ leBytes 8 pick

/-- The link of a port takes a state; a change queues EV_ETH_LINK (R436). (log 104: DEDUCED) -/
def setLink (p new : Nat) (s : State) : State :=
  let old := (ethPort s p).link
  if old = new then s
  else ev 0x0C01 (linkBody p new old (now s)) (epmod p (fun e => { e with link := new, resume := s.sys.ord + 1 }) s)

/-- EV_ETH_STREAM (R442): under NOTIFY, where none of its kind has come in the last 1,000 picks. -/
def tellEth (i code : Nat) (last : Option Nat) (e : EthStream) (s : State) : State :=
  if bit e.req.flags 3 && last.all (fun o => o + 1000 ≤ s.sys.ord) then
    ev 0x0C10 (handleBytes (streamH s i) ++ byte code ++ zeros 3 ++ leBytes 8 s.tb.pick) s
  else s

/-- A stream is at work: its object is ACTIVE. -/
def streamLive (s : State) (i : Nat) : Bool := (objOf s (streamH s i)).any fun o => o.st == .active

/-- The samples of 48 kHz that were not handed over in time to a stream of kind 1 or 2 that is ACTIVE in the pick that ends (R426). -/
def ethMiss (s : State) (m : StreamMeas) : List Nat :=
  match (tget s.streams m.stream).bind Stream.ether with
  | some e => if e.req.kind ≤ 2 ∧ streamLive s m.stream = true then m.miss.filter fun j => decide ((j : Int) < 48 - 6 * stepQ s) else []
  | none => []

/-- The streams on the grid that underrun in the pick that ends, with their positions at 48 kHz (R407, R412, R426). -/
def gridMiss (l : List StreamMeas) (s : State) : List (Handle × List Nat) :=
  masterMiss l s ++ ((l.map fun m => (streamH s m.stream, ethMiss s m)).filter fun x => !x.2.isEmpty)

/-- What a stream engine reports of an Ethernet stream of kind 1 or 2 (R426, R441, R442): late packets, and the underruns counted. -/
def ethUnder (s : State) (m : StreamMeas) : State :=
  match (tget s.streams m.stream).bind Stream.ether with
  | some e =>
    if e.req.kind ≤ 2 ∧ streamLive s m.stream = true then
      let s := [0, 1].foldl (fun s p => if bit e.req.ports p ∧ e.req.kind = 1 then epmod p (fun x => { x with late := x.late + m.late }) s else s) s
      let n := (ethMiss s m).length
      if n = 0 then s
      else emod m.stream (fun e => { e with under := e.under + n, lastUnder := some s.sys.ord }) (tellEth m.stream 1 e.lastUnder e s)
    else s
  | none => s

/-- The records sent in a pick (R429, R431): what the budget holds, or a single longer one; and those left. (log 104: DEDUCED) -/
def drain (budget : Nat) : Nat → List (List Byte) → List (List Byte) × List (List Byte)
  | _, [] => ([], [])
  | used, b :: l =>
    if used + b.length ≤ budget then let (x, y) := drain budget (used + b.length) l; (b :: x, y)
    else if used = 0 then ([b], l)
    else ([], b :: l)

/-- Records formed in a pick enter the queue of 4 MiB (R431). (log 104: DEDUCED) -/
def enqueue (i : Nat) (l : List (List Byte)) (s : State) : State :=
  l.foldl (fun s b =>
    match (tget s.streams i).bind Stream.ether with
    | some e =>
      if sumOf List.length e.queue + b.length ≤ 4194304 then emod i (fun e => { e with queue := e.queue ++ [b] }) s
      else
        let s := tellEth i 2 e.lastDrop e s
        emod i (fun e => { e with dropped := e.dropped + 1, dropNext := true, lastDrop := some s.sys.ord }) s
    | none => s) s

/-- The blocks of LSC_MEAS formed in a pick (R429): one per source whose second is complete, in ascending handle. -/
def measBlocks (s : State) (r : EthReq) (done : List Handle) : List (List Byte) :=
  let l := done.filter fun h => if bit r.flags 2 then (objOf s h).any fun o => o.st == .active else r.sources.contains h
  (sortBy BitVec.toNat l).map (measBytes s)

/-- The side-data records of a stream's sources formed in a pick (R429), source by source. -/
def sideRecords (s : State) (r : EthReq) : List (List Byte) := r.sources.flatMap fun h => ((compAt s (hIndex h)).map (·.recs)).getD []

/-! I/Q payloads (R430, R432). -/

/-- A 32-bit value of a dent as its format has it (R430), and whether it was saturated. -/
def dentWord (r : EthReq) (v : Int) : Int × Bool :=
  if r.chan = 0 then (v, false)
  else
    let x := roundDiv (v * 2 ^ r.shift) (2 ^ 16)
    (clampBits 16 x, clampBits 16 x != x)

/-- The pick payload of LSC_DENT_IQ (R430): the dent's samples of its last complete pick, their flag bytes, and zeros up to four bytes. -/
def dentPay (r : EthReq) (x : Dent) : List Byte :=
  let w := if r.chan = 0 then 4 else 2
  let l := x.words.map fun v => (dentWord r v.1, dentWord r v.2)
  let fl := (x.ring.zip l).map fun y => if y.2.1.2 || y.2.2.2 then y.1 ||| 0x20#8 else y.1
  let b := (l.flatMap fun v => leSigned w v.1.1 ++ leSigned w v.2.1) ++ fl
  b ++ zeros ((4 - b.length % 4) % 4)

/-- The pick payload of LSC_WARP_IQ (R432): its block, then the lane words of the pick that ends, `n` of them; no words stand for zeros. (log 155: DEDUCED) -/
def warpPay (s : State) (r : EthReq) (w : Nat) (marks : LaneFlags) (words : List (Int × Int)) (n : Nat) : List Byte :=
  let x := warpAt s w
  let z := (marks.zero.map fun y => (y.1, min y.2 n)).filter fun y => y.1 < y.2
  let ends := fun (v : Nat) => if z.isEmpty then 0xFFFFFFFF else v
  let fit := fun (v : Int) => roundDiv v (2 ^ r.shift)
  let sat := words.any fun v => clampBits 16 (fit v.1) != fit v.1 || clampBits 16 (fit v.2) != fit v.2
  let out := fun (v : Int × Int) => leSigned 2 (clampBits 16 (fit v.1)) ++ if w < 6 then leSigned 2 (clampBits 16 (fit v.2)) else []
  leBytes 4 (ends (z.foldl (fun m y => min m y.1) n)) ++ leBytes 4 (ends (z.foldl (fun m y => max m y.2) 0 - 1))
    ++ byte (flagBits [marks.ov, marks.pd, sat, bit x.news 0, bit x.news 1]) ++ byte x.gain ++ zeros 2
    ++ if words.isEmpty then zeros ((if w < 6 then 4 else 2) * n) else words.flatMap out

/-- A stream of I/Q at the end of a pick (R422): the payload formed in the pick before is the one it has sent in this pick, and that of this pick is formed. -/
def iqEnd (s : State) (marks : Nat → LaneFlags) (words : Nat → List (Int × Int)) (n : Nat) (x : Nat × Stream) : Nat × Stream :=
  match x.2.kind with
  | .eth e =>
    let src := e.req.sources.headD nullHandle
    let on := (objOf s src).any fun o => o.st == .active
    let new := if e.req.kind = 5 then (dentAt s (hIndex src)).elim [] (dentPay e.req) else warpPay s e.req (hIndex src) (marks (hIndex src)) (words (hIndex src)) n
    if 5 ≤ e.req.kind then (x.1, { x.2 with kind := .eth { e with pay := if e.fed then e.ready else [], ready := new, fed := on } }) else x
  | .tdm _ _ _ => x

/-! Audio payloads (R423, R426, R429). -/

/-- The words of a stream's channels over `n` positions from the present pick's first, and those of the last: a position at which it repeats has those before it. -/
def audioWords (s : State) (e : EthStream) (bits n : Nat) : List Int × List Int :=
  let src := e.req.sources.headD nullHandle
  (List.range n).foldl (fun (a : List Int × List Int) j =>
    let v := if e.heldAt.contains j then a.2 else (chanVals e.req.chan fun ch => audioSample s src 1 (audioPos s s.sys.ord j) ch).map (wordOf bits)
    (a.1 ++ v, v)) ([], if e.last.isEmpty then List.replicate (channels e.req.chan) 0 else e.last)

/-- The pick payload of a stream of kind 1 or 2 with the words of its channels (R423, R429). -/
def audioPay (s : State) (e : EthStream) (words : List Int) : List Byte :=
  if e.req.kind = 1 then words.flatMap fun v => beBytes 3 (v % 2 ^ 24).toNat
  else byte (channels e.req.chan) ++ byte (audioByte s (e.req.sources.headD nullHandle)) ++ zeros 2 ++ words.flatMap (leSigned 4)

/-- A copy of a pick's datagrams on a port (R420, R434, R436): sent, or discarded and counted. (log 104: DEDUCED) -/
def sendCopy (i p n : Nat) (e : EthStream) (s : State) : State :=
  let x := ethPort s p
  if x.link = 0 ∨ s.sys.ord < x.resume then epmod p (fun x => { x with discLink := x.discLink + n }) s
  else if nth e.unres p false then epmod p (fun x => { x with discUnres := x.discUnres + n }) s
  else emod i (fun e => { e with sent := e.sent + n }) (epmod p (fun x => { x with sent := x.sent + n }) s)

/-- The UDP payloads of the datagrams a stream forms on a port in the present pick, in the order of their fragments (R423, R427, R428). -/
def datagrams (s : State) (i p len samples : Nat) (susp : Bool) (q : Int) (pay : List Byte) (e : EthStream) : List (List Byte) :=
  let c := (ethPort s p).cfg
  let v6 := bit e.req.flags 1
  if e.req.kind = 1 then [rtpHeader e.req s.tb.pick (e.first || e.marker == 1) ++ pay]
  else (List.range (fragCount e.req.kind len c.mtu v6)).map fun k =>
    lscHeader (streamH s i) e.req (nth e.seqs p 0) (pickOf s (if 5 ≤ e.req.kind then s.sys.ord - 1 else s.sys.ord)) len c.mtu
      (lscStatus susp (e.marker == 1) (!e.heldAt.isEmpty) e.dropNext e.first s.tb.label q) samples k ++ (pay.drop (k * fragMax c.mtu v6)).take (fragMax c.mtu v6)

/-- The datagrams of a stream in the pick that ends (R422-R435): those of I/Q carry the pick before, in which the stream may have been suspended. (log 120: DESIGN CHOICE) -/
def ethEmit (i : Nat) (s : State) : State :=
  match (tget s.streams i).bind Stream.ether, objAt s 8 i with
  | some e, some o =>
    let late := 5 ≤ e.req.kind
    if o.st = .pending ∨ domOn s 9 = false ∨ (late ∧ o.due = s.sys.ord) then s
    else
      let susp := o.st == .suspended || (late && e.pay.isEmpty)
      let q := if late then e.prevQ else stepQ s
      let samples := (((fullSamples s e.req : Nat) : Int) * (8 - q) / 8).toNat
      let (recs, rest) := if susp then ([], e.queue) else drain e.req.budget 0 e.queue
      let len := if susp ∧ e.req.kind ≠ 1 then 0 else if e.req.kind = 3 ∨ e.req.kind = 4 then sumOf List.length recs else payLen e.req samples
      let (words, last) := if 3 ≤ e.req.kind then ([], e.last)
        else if susp then (List.replicate (channels e.req.chan * samples) 0, []) else audioWords s e (if e.req.kind = 1 then 24 else 32) samples
      let pay := if susp && e.req.kind != 1 then [] else if late then e.pay else if 3 ≤ e.req.kind then recs.flatten else audioPay s e words
      let ports := [0, 1].filter fun p => bit e.req.ports p
      let count := fun p => fragCount e.req.kind len (ethPort s p).cfg.mtu (bit e.req.flags 1)
      let out := ports.map fun p => (p, netHead (ethPort s p).cfg e.req, datagrams s i p len (if susp then 0 else samples) susp q pay e)
      let s := emod i (fun e => { e with queue := rest, prevQ := stepQ s, heldAt := [], last := last, pay := pay }) s
      if shadowed s && !bit e.req.flags 0 then s
      else
        let s := ports.foldl (fun s p => sendCopy i p (count p) e s) s
        emod i (fun e => { e with first := false, marker := e.marker - 1, dropNext := false, out := out
                                  seqs := e.seqs.zipIdx.map fun x => if ports.contains x.2 then (x.1 + count x.2) % 2 ^ 32 else x.1 }) s
  | _, _ => s

/-- The end of a pick on the Ethernet side: what the engines report, the pick's datagrams, those of AES67 first and then those of kind 2 (R422), then the records formed in it. -/
def ethEnd (l : List StreamMeas) (done : List Handle) (s : State) : State :=
  let s := l.foldl ethUnder s
  let ids := (sortBy (fun (x : Nat × EthStream) => if x.2.req.kind ≤ 2 then x.2.req.kind else 3) (ethStreams s)).map (·.1)
  let s := ids.foldl (fun s i => ethEmit i s) s
  let s := (ethStreams s).foldl (fun s x =>
    if streamLive s x.1 then
      if x.2.req.kind = 3 then enqueue x.1 (sideRecords s x.2.req) s
      else if x.2.req.kind = 4 then enqueue x.1 (measBlocks s x.2.req done) s
      else s
    else s) s
  { s with comps := s.comps.map fun c => (c.1, { c.2 with recs := [] }) }

/-- The end of a pick for output streams (R407, R412, R426): the underruns on the grid, the Ethernet streams, the TDM ports. -/
def streamsEnd (l : List StreamMeas) (done : List Handle) (bits : List (Nat × List (List Bool))) (s : State) : State :=
  let miss := gridMiss l s
  let s := masterUnder l s
  let s := if miss.isEmpty then s else underrun miss s
  tdmEnd miss bits (ethEnd l done s)

/-- PICK# is renumbered at this boundary (R425, R427): the first packet of every stream after it says so. -/
def renumberStreams (s : State) : State :=
  (ethStreams s).foldl (fun s x => emod x.1 (fun e => { e with marker := if 5 ≤ e.req.kind then 2 else 1 }) s) s

/-- OWNER becomes set (R435): every stream is sent from this pick, with FIRST and its sequence from 0. -/
def ownerStreams (s : State) : State :=
  (ethStreams s).foldl (fun s x => emod x.1 (fun e => { e with first := true, seqs := [0, 0] }) s) s

/-! Events of the ports. -/

/-- A destination that needs no resolution (R420): multicast. -/
def multicast (a : IpAddr) : Bool := if a.v6 then a.a / 2 ^ 120 == 255 else inR 224 (a.a / 2 ^ 24) 239

/-- The destination of a stream. -/
def ethDest (r : EthReq) : IpAddr := if bit r.flags 1 then ⟨true, r.dest⟩ else ⟨false, r.dest / 2 ^ 96⟩

/-- A destination's resolution on a port has an outcome (R420). -/
def setResolved (p : Nat) (a : IpAddr) (ok : Bool) (s : State) : State :=
  (ethStreams s).foldl (fun s x =>
    if ethDest x.2.req == a then emod x.1 (fun e => { e with unres := lmod e.unres p fun _ => !ok }) s else s) s

/-- ETH_FRAME_RECEIVE (R420): PTP, resolutions and echo requests are processed; any other frame is discarded and counted. -/
def execEthFrameReceive (port : Fin 2) (f : EthFrame) (s : State) : Host.Outcome State Fault Refusal :=
  if ethUp s port.val then
    match f with
    | .ptp => .next s
    | .echo => .next s
    | .resolved a => .next (setResolved port.val a true s)
    | .other => .next (epmod port.val (fun e => { e with ignored := e.ignored + 1 }) s)
  else .next s

/-- ARP_REFRESH (R420): every 60 s unicast destinations are resolved again; `failed` are those that do not resolve. -/
def execArpRefresh (failed : List (Nat × IpAddr)) (s : State) : Host.Outcome State Fault Refusal :=
  .next ((ethStreams s).foldl (fun s x =>
    let a := ethDest x.2.req
    if multicast a then s
    else emod x.1 (fun e => { e with unres := [0, 1].map fun p => bit e.req.ports p && (!ethUp s p || failed.contains (p, a)) }) s) s)

/-! Commands. -/

/-- The ranges of an ETH_PORT_CONFIG (R439): an enabled family has an address and a prefix. -/
def ethCfgOk (c : EthCfg) : Bool :=
  only c.flags 6 && c.pcp ≤ 7 && (if bit c.flags 2 then inR 1 c.vlan 4094 else c.vlan == 0) && inR 1280 c.mtu 9000 && c.pfx4 ≤ 32 && c.pfx6 ≤ 128 &&
  (!bit c.flags 3 || (c.addr4 != 0 && c.pfx4 != 0)) && (!bit c.flags 4 || (c.addr6 != 0 && c.pfx6 != 0)) &&
  c.dMedia < 64 && c.dPtp < 64 && c.dLsc < 64 && c.cport != 0

/-- A stream's port and address family are there with the settings (R439, R440). -/
def familyOn (c : EthCfg) (r : EthReq) : Bool := bit c.flags 0 && bit c.flags (if bit r.flags 1 then 4 else 3)

/-- The conflicts of an ETH_PORT_CONFIG with the streams on the port (R433, R437, R439). -/
def ethCfgFits (s : State) (p due : Nat) (c : EthCfg) : Bool :=
  let old := ethCfgAt s p due
  let l := ethReqs s due
  (onPort l p).all (fun r => familyOn c r && (if bit r.flags 1 then c.addr6 == old.addr6 else c.addr4 == old.addr4) &&
    (r.kind != 6 || !bit c.flags 1)) &&
  ethFits s (fun k => if k = p then c else ethCfgAt s k due) l

/-- ETH_PORT_CONFIG (R439): its settings are held in CONFIG. -/
def execEthPortConfig (h : Hdr) (port : Handle) (c : EthCfg) (target : Nat) (s : State) : Host.Outcome State Fault Refusal :=
  serve (.ethPortConfig h port c target) 0x0C01 .installer .ctl h port (fun s => chkRec 0 s do
    need (ethCfgOk c) .badParam
    let due ← get! .badParam (dueOf s target)
    let _ ← objIs s port 0x0D
    cfgOk s
    need (ethCfgFits s (hIndex port) due c) .conflict
    okay (posReply s due 0) (sched ⟨due, 0, port, 71, .ethPortConfig h port c target, 0⟩ s)) s

/-- An ETH_PORT_CONFIG takes effect (R436, R439, R441): the link starts down, and the counters run from here. -/
def applyEthConfig (port : Handle) (c : EthCfg) (s : State) : State :=
  let p := hIndex port
  let s := setLink p 0 s
  let s := epmod p (fun e => { EthPort.reset with cfg := c, resume := e.resume }) s
  let st : OState := if bit c.flags 0 then .active else .idle
  omod port (fun o => if o.st = .suspended then { o with prior := st } else { o with st := st }) s

/-- D9 goes off: the links are down (R419). (log 104: DEDUCED) -/
def ethOff (s : State) : State := setLink 1 0 (setLink 0 0 s)

/-- The ETH_PORT_STATUS reply (R441). (log 13: DESIGN CHOICE) -/
def ethPortBytes (s : State) (h : Handle) : List Byte :=
  let p := hIndex h
  let e := ethPort s p
  let l := onPort ((ethStreams s).map (·.2.req)) p
  let aes := sumOf (wireLoad s e.cfg) (l.filter fun r => r.kind == 1)
  handleBytes h ++ byte (stCode s h) ++ byte e.link ++ beBytes 6 (Config.mac (if p = 1 then 1 else 0)).toNat
    ++ leBytes 4 (sumOf (wireLoad s e.cfg) l) ++ leBytes 4 (if bit e.cfg.flags 1 then aes else aes / 10) ++ leBytes 4 (sumOf (payLoad s e.cfg) l)
    ++ leBytes 4 l.length ++ zeros 4 ++ leCount 8 e.sent ++ leCount 4 e.discLink ++ leCount 4 e.discUnres ++ leCount 4 e.late
    ++ leCount 4 e.ignored ++ leBytes 8 (now s)

/-- ETH_PORT_STATUS (R441). -/
def execEthPortStatus (h : Hdr) (port : Handle) (s : State) : Host.Outcome State Fault Refusal :=
  serve (.ethPortStatus h port) 0x0C02 .operator .fw h port (fun s => chk do
    let _ ← objIs s port 0x0D
    okay (ethPortBytes s port) s) s

/-- The settings of an ETH_STREAM_CREATE suit its kind (R421-R432, R440). -/
def ethReqOk (r : EthReq) : Bool :=
  inR 1 r.kind 6 && inR 1 r.ports 3 && only r.flags 4 && (r.kind == 1 || !bit r.flags 0) && (r.kind == 4 || !bit r.flags 2) && r.n ≤ 64 &&
  (r.n != 0 || bit r.flags 2) && r.chan ≤ (if r.kind ≤ 2 then 3 else if r.kind = 5 then 1 else 0) &&
  r.shift ≤ (if r.kind = 5 ∧ r.chan = 1 then 15 else if r.kind = 6 then 10 else 0) &&
  (if r.kind = 1 then inR 96 r.ptype 127 else r.ptype == 0) && (bit r.flags 1 || r.dest % 2 ^ 96 == 0) &&
  (if r.kind = 3 ∨ r.kind = 4 then inR 512 r.budget 1048576 else r.budget == 0) && (r.kind == 3 || r.kind == 4 || r.n == 1)

/-- The class and the handle of a source of a kind (check 9, R421). -/
def ethSource (s : State) (kind : Nat) (h : Handle) : Chk Obj := do
  let l := nth [[6, 7], [6, 7], [6], [3, 4, 6], [3], [2]] (kind - 1) []
  need (l.contains (hClass h)) .badHandle
  objIs s h (hClass h)

/-- A component suits the kind it is a source of (R421). (log 104: DEDUCED) -/
def ethSuits (s : State) (kind : Nat) (h : Handle) : Bool := hClass h != 6 || (audioComp s h != (kind == 3))

/-- ETH_STREAM_CREATE (R421, R433, R437, R440). (log 154: DESIGN CHOICE) -/
def execEthStreamCreate (h : Hdr) (r : EthReq) (target : Nat) (s : State) : Host.Outcome State Fault Refusal :=
  serve (.ethStreamCreate h r target) 0x0C10 .operator .run h nullHandle (fun s =>
    if r.sources.length ≠ r.n then .fail .badLength
    else chk do
      need (ethReqOk r) .badParam
      let due ← get! .badParam (dueOf s target)
      let os ← r.sources.mapM (ethSource s r.kind)
      need (r.sources.all (ethSuits s r.kind)) .badParam
      os.forM fun o => pendingOk o due false
      let c := fun p => ethCfgAt s p due
      need ([0, 1].all fun p => !bit r.ports p || familyOn (c p) r) .conflict
      need (r.sources.all fun x => (hClass x != 6 && hClass x != 7) || outputsOf s x < 8) .noResource
      need (r.kind != 6 || (((ethReqs s due).filter fun x => x.kind == 6).length < 2 && [0, 1].all fun p => !bit r.ports p || !bit (c p).flags 1))
        .noResource
      need (ethFits s c (ethReqs s due ++ [r])) .noResource
      let (hd, t) ← get! .noResource (issue 8 .pending r.sources [] due s)
      let e : EthStream := { req := r, unres := [0, 1].map fun p => bit r.ports p && !multicast (ethDest r), under := 0, holds := 0, dropped := 0
                             queue := [], dropNext := false, sent := 0, seqs := [0, 0], first := true, marker := 0, lastUnder := none
                             lastDrop := none, prevQ := 0, heldAt := [], last := [], out := [], pay := [], ready := [], fed := false }
      let load := fun p => if bit r.ports p then wireLoad s (c p) r else 0
      okay (handleBytes hd ++ posReply s due 0 ++ zeros 2 ++ leBytes 4 (load 0) ++ leBytes 4 (load 1)
          ++ leBytes 4 (if r.kind ≤ 2 then audioLatency s (r.sources.headD nullHandle) else 0))
        (sched ⟨due, 0, hd, 20, .ethStreamCreate h r target, 0⟩ { t with streams := tset t.streams (hIndex hd) ⟨.eth e, none⟩ })) s

/-- An Ethernet stream that a command names (check 9). -/
def ethStreamIs (s : State) (h : Handle) : Chk (Obj × EthStream) := do
  let o ← objIs s h 8
  let e ← get! .badHandle ((streamAt s h).bind Stream.ether)
  pure (o, e)

/-- ETH_STREAM_RELEASE (R438). -/
def execEthStreamRelease (h : Hdr) (stream : Handle) (target : Nat) (s : State) : Host.Outcome State Fault Refusal :=
  serve (.ethStreamRelease h stream target) 0x0C11 .operator .run h stream (fun s => chk do
    let due ← get! .badParam (dueOf s target)
    let (o, _) ← ethStreamIs s stream
    pendingOk o due true
    okay (posReply s due 0) (sched ⟨due, 0, stream, 10, .ethStreamRelease h stream target, 0⟩ s)) s

/-- The ETH_STREAM_STATUS reply (R441). -/
def ethStreamBytes (s : State) (h : Handle) (o : Obj) (e : EthStream) : List Byte :=
  let g := ((streamAt s h).bind (·.group)).elim nullHandle fun i => handleOf s 0x0A i
  let sending := !shadowed s || bit e.req.flags 0
  handleBytes h ++ byte o.st.code ++ byte e.req.kind ++ byte e.req.ports
    ++ byte (flagBits [sending, bit e.req.flags 0, e.unres.any id, bit e.req.flags 3]) ++ handleBytes g ++ leCount 4 e.under ++ leCount 4 e.holds
    ++ leCount 4 e.dropped ++ leBytes 4 (sumOf List.length e.queue) ++ zeros 4 ++ leCount 8 e.sent ++ leBytes 8 (now s)

/-- ETH_STREAM_STATUS (R441). -/
def execEthStreamStatus (h : Hdr) (stream : Handle) (s : State) : Host.Outcome State Fault Refusal :=
  serve (.ethStreamStatus h stream) 0x0C12 .operator .fw h stream (fun s => chk do
    let (o, e) ← ethStreamIs s stream
    need (o.st != .pending) .notReady
    okay (ethStreamBytes s stream o e) s) s

end Sys2Proof.Machine
end

