-- ==== Sys2Proof/Machine/System.lean ====
section
/-! DEFINITION. The system commands (R2, R462-R464, R478-R480, R482): identity, status, mode and domain requests, and the event queue. -/

namespace Sys2Proof.Machine

/-- The module is paired as R606 counts it: a PAIR record with ENABLE is in force. -/
def pairOn (s : State) : Bool := bit s.pair.cfg.flags 0

/-- The flags byte of IDENT (R5). -/
def identFlags (s : State) : List Bool :=
  [s.fw.running != 0xFF, s.rtc.osf, s.recs.recs.any fun r => r.st == .conflict, s.fw.locked, pairOn s && s.pair.link, s.pair.owner]

/-- The device ID IDENT reports: 0 where no intact CONFIG record exists (R3). -/
def deviceId (s : State) : Nat := if (recAt s 0).st == .absent then 0 else s.ident.deviceId

/-- The 16 bytes of IDENT (R2). -/
def identBytes (s : State) : List Byte :=
  leBytes 2 0xAED0 ++ leBytes 2 0x7440 ++ byte s.ident.variant ++ byte s.ident.stepping ++ leBytes 2 s.ident.bootRom ++ leBytes 4 s.ident.serial
    ++ leBytes 2 (deviceId s) ++ byte s.sys.mode.code ++ byte (flagBits (identFlags s))

/-- SYS_IDENT (R2). -/
def execSysIdent (h : Hdr) (s : State) : Host.Outcome State Fault Refusal :=
  serve (.sysIdent h) 0x0101 .anonymous .all h nullHandle (fun s => chk (okay (identBytes s) s)) s

/-- The pending mode change, with its mode. -/
def modePend (s : State) : Option (Pend × Nat) :=
  (pendOf s nullHandle 2).bind fun p => match p.cmd with
    | .sysModeSet _ m _ => some (p, m)
    | _ => none

/-- The up time in s (R478): picks since D2 came on, on top of the time before that, which is free; free while no pick exists to
count. (log 18: DESIGN CHOICE) -/
def upTime (s : State) : Nat := if domOn s 2 then (s.sys.upBase + s.sys.ord) / 1000 else (draw s).toNat

/-- The SYS_STATUS reply (R478). -/
def sysStatusBytes (s : State) : List Byte :=
  let p := modePend s
  let f := identFlags s
  byte s.sys.mode.code
    ++ byte (flagBits [nth f 0 false, p.isSome, (pendOf s nullHandle 3).isSome, nth f 2 false, nth f 1 false, nth f 4 false, nth f 5 false, nth f 3 false])
    ++ leBytes 2 s.sys.domains.toNat ++ byte (p.elim 0xFF (·.2)) ++ byte s.fw.running ++ byte s.sys.cause.code ++ zeros 1
    ++ leBytes 4 (if s.fw.running = 0xFF then 0 else s.fw.runVersion) ++ leCount 4 s.sys.bootCount
    ++ leBytes 8 (p.elim 0 fun x => pickAt s x.1.due) ++ leBytes 2 s.sys.vmain ++ leSigned 2 s.sys.temp ++ leCount 4 (upTime s) ++ leBytes 8 (now s)

/-- SYS_STATUS (R478). -/
def execSysStatus (h : Hdr) (s : State) : Host.Outcome State Fault Refusal :=
  serve (.sysStatus h) 0x0102 .operator .all h nullHandle (fun s => chk (okay (sysStatusBytes s) (drawn s))) s

/-- The modes SYS_MODE_SET moves between (R590). -/
def modeMove (a b : Nat) : Bool := a == b || (inR 3 a 6 && inR 3 b 5)

/-- SYS_MODE_SET (R479): a request for the mode in force cancels a pending change. -/
def execSysModeSet (h : Hdr) (mode target : Nat) (s : State) : Host.Outcome State Fault Refusal :=
  serve (.sysModeSet h mode target) 0x0103 .operator .ctl h nullHandle (fun s => chk do
    need (inR 3 mode 5) .badParam
    let due ← get! .badParam (dueOf s target)
    need (modeMove s.sys.mode.code mode) .conflict
    okay (posReply s due 0)
      (if mode = s.sys.mode.code then unsched nullHandle 2 s else schedQ ⟨due, 0, nullHandle, 2, .sysModeSet h mode target, 0⟩ s)) s

/-- The domains a mode lets SYS_DOMAIN_SET switch (R587). -/
def switchable : Mode → BitVec 10
  | .survey => 0b0011111000#10
  | .watch => 0b0011111000#10
  | .probe => 0b0010111000#10
  | _ => 0#10

/-- The domains a domain requires (R23). -/
def requires (d : Nat) : List Nat := if d < 2 then [] else if d = 2 then [1] else if d = 8 then [2, 9] else [2]

/-- A set of domains keeps R23: each that is on has every domain it requires. -/
def domainsOk (v : BitVec 10) : Bool := (List.range 10).all fun d => !v.getLsbD d || (requires d).all fun r => v.getLsbD r

/-- The domains a switch really switches on and off: those not in the state named (R480, R588). -/
def switched (s : State) (on off : Nat) : BitVec 10 × BitVec 10 :=
  (BitVec.ofNat 10 on &&& ~~~ s.sys.domains, BitVec.ofNat 10 off &&& s.sys.domains)

/-- SYS_DOMAIN_SET (R480, R588). -/
def execSysDomainSet (h : Hdr) (on off target : Nat) (s : State) : Host.Outcome State Fault Refusal :=
  serve (.sysDomainSet h on off target) 0x0104 .installer .ctl h nullHandle (fun s => chk do
    need (on % 4 == 0 && on < 1024 && off % 4 == 0 && off < 1024 && on &&& off == 0 && (on != 0 || off != 0)) .badParam
    let due ← get! .badParam (dueOf s target)
    let (a, b) := switched s on off
    need ((a ||| b) &&& ~~~ switchable s.sys.mode == 0#10 && domainsOk ((s.sys.domains ||| a) &&& ~~~ b)) .conflict
    okay (posReply s due 0) (schedQ ⟨due, 0, nullHandle, 3, .sysDomainSet h on off target, 0⟩ s)) s

/-! The event queue. -/

/-- The entries that fit in a payload, oldest first, each padded to 4 bytes (R462, R472). -/
def eventsFit : Nat → Nat → List Event → List (List Byte)
  | 0, _, _ => []
  | _, _, [] => []
  | n + 1, room, e :: l =>
    let b := padTo 4 (eventBytes e)
    if b.length ≤ room then b :: eventsFit n (room - b.length) l else []

/-- SYS_EVENT_READ (R462): acknowledges, then reads. -/
def execSysEventRead (h : Hdr) (ack max : Nat) (s : State) : Host.Outcome State Fault Refusal :=
  serve (.sysEventRead h ack max) 0x0110 .operator .fw h nullHandle (fun s => chk do
    need (max ≤ 64 && (ack == 0 || seqLe ack s.proto.newestSeq)) .badParam
    let l := if ack = 0 then s.proto.events else s.proto.events.filter fun e => !seqLe e.seq ack
    let bs := eventsFit max (payloadLimit s h.via - 8) l
    okay (byte bs.length ++ byte (flag (decide (bs.length < l.length))) ++ leBytes 2 l.length ++ leBytes 4 ((l.getLast?.map (·.seq)).getD 0)
      ++ bs.flatten) { s with proto := { s.proto with events := l } }) s

/-- SYS_EVENT_NOTIFY (R463): its setting is held in CONFIG. -/
def execSysEventNotify (h : Hdr) (c : NotifyCfg) (s : State) : Host.Outcome State Fault Refusal :=
  serve (.sysEventNotify h c) 0x0111 .operator .fw h nullHandle (fun s => chkRec 0 s do
    need (only c.mask 3 && only c.flags 1 && (bit c.flags 0 || c.addr % 2 ^ 96 == 0)) .badParam
    need ((c.eth == nullHandle && !bit c.mask 2) || (hClass c.eth == 0x0D && (objOf s c.eth).isSome)) .badHandle
    cfgOk s
    let p := (ethPort s (hIndex c.eth)).cfg
    need (!bit c.mask 2 || (bit p.flags 0 && bit p.flags (if bit c.flags 0 then 4 else 3))) .conflict
    let arm := bit c.mask 1 && !bit s.proto.notify.mask 1 && !s.proto.events.isEmpty
    okay [] (cfgTouch (roleOf s h) { s with proto := { s.proto with notify := c }, mb := { s.mb with attn := s.mb.attn || arm } })) s

/-- The SYS_PROTO_STATUS reply (R464). -/
def protoBytes (s : State) : List Byte :=
  let p := s.proto
  leBytes 2 p.events.length ++ byte p.udp.length ++ byte p.notify.mask ++ leBytes 4 ((p.events.head?.map (·.seq)).getD 0)
    ++ leBytes 4 ((p.events.getLast?.map (·.seq)).getD 0) ++ leCount 4 p.discardedEv ++ leCount 4 p.spiTaken ++ leCount 4 p.spiDiscarded
    ++ leCount 4 p.mbTaken ++ leCount 4 p.mbDiscarded ++ leCount 4 p.udpTaken ++ leCount 4 p.udpRefused ++ leCount 4 p.repeats
    ++ leCount 4 p.badCrc ++ leBytes 8 (now s)

/-- SYS_PROTO_STATUS (R464). -/
def execSysProtoStatus (h : Hdr) (s : State) : Host.Outcome State Fault Refusal :=
  serve (.sysProtoStatus h) 0x0112 .operator .fw h nullHandle (fun s => chk (okay (protoBytes s) s)) s

/-- SYS_EVENT_COUNT (R482). -/
def execSysEventCount (h : Hdr) (s : State) : Host.Outcome State Fault Refusal :=
  serve (.sysEventCount h) 0x0113 .anonymous .fw h nullHandle (fun s => chk (okay (leBytes 2 s.proto.events.length ++ zeros 2) s)) s

/-! Mode and domain events. -/

/-- The body of EV_MODE_CHANGE (R600). -/
def modeBody (s : State) (prev : Mode) (cause : Nat) (faulted : BitVec 10) : List Byte :=
  byte s.sys.mode.code ++ byte prev.code ++ byte cause ++ zeros 1 ++ leBytes 2 s.sys.domains.toNat ++ leBytes 2 faulted.toNat ++ leBytes 8 (now s)

end Sys2Proof.Machine
end

