-- ==== Sys2Proof/Machine/Pb.lean ====
section
/-! DEFINITION. The peripheral bus (R516-R530): transfers, arbitration, recovery, and the commands that configure and use it. -/

namespace Sys2Proof.Machine

/-- Changes the peripheral bus. -/
def pbmod (f : Pb → Pb) (s : State) : State := { s with pb := f s.pb }

/-- The code of a PB state (R528). -/
def PbState.code : PbState → Nat
  | .off => 0 | .idle => 1 | .waitFree => 2 | .busy => 3 | .reset => 4 | .recovering => 5 | .sdaStuck => 6 | .sclStuck => 7

/-- The body of EV_PB_FAULT (R530). -/
def pbBody (s : State) (x : Option PbXfer) (cause state : Nat) : List Byte :=
  handleBytes (x.elim nullHandle (·.req.periph)) ++ byte cause ++ byte state ++ byte (x.elim 0 (·.hdr.tag)) ++ byte (x.elim 0xFF (·.hdr.sess))
    ++ leBytes 8 (now s)

/-- EV_PB_FAULT, with the state after the event. -/
def pbFault (x : Option PbXfer) (cause : Nat) (s : State) : State := ev 0x0107 (pbBody s x cause s.pb.state.code) s

/-- The controller goes to rest (R523): IDLE, WAIT_FREE with a transfer due, or OFF while disabled. -/
def pbRest (s : State) : State :=
  pbmod (fun b => { b with state := if !b.enable then .off else if b.queue.isEmpty then .idle else .waitFree }) s

/-- A read form of a transfer (R522). -/
def readForm (r : PbReq) : Bool := 1 ≤ r.r && (r.w == 0 || (r.w ≤ 2 && bit r.flags 0))

/-- A peripheral is ACTIVE while a transfer to it is queued or running (R517). -/
def periphState (h : Handle) (s : State) : State :=
  omod h (fun o => { o with st := if s.pb.queue.any fun x => x.req.periph == h then .active else .idle }) s

/-- A held transfer ends with its reply: it leaves the queue (R519). -/
def pbEnd (x : PbXfer) (c : Status) (payload : List Byte) (s : State) : State :=
  let s := pbmod (fun b => { b with queue := b.queue.erase x, done := b.done + flag (c == .ok) }) s
  answer 0x0123 .operator x.hdr x.req.periph c payload (periphState x.req.periph s)

/-- The running transfer ends with a status and the controller goes to a state. -/
def pbAbort (c : Status) (st : PbState) (s : State) : State :=
  let s := pbmod (fun b => { b with state := st }) s
  match s.pb.queue with
  | x :: _ => pbEnd x c [] s
  | [] => s

/-- A transfer in the queue whose 250 ms have passed ends at the first moment at which no attempt of it runs (R519). -/
def pbLate (s : State) : State :=
  match s.pb.queue with
  | x :: _ => if x.late && s.pb.state != .busy then pbEnd x .timeout [] s else s
  | [] => s

/-- The bytes a transaction drives, by the START that comes before them (R518): the address with its direction, the bytes to write, and their check byte. -/
def pbDriven (p : Periph) (r : PbReq) : List (List Byte) :=
  let wr := byte (2 * p.addr) ++ r.data
  let rd := byte (2 * p.addr + 1)
  if r.r = 0 then [if bit p.flags 0 && r.w != 0 then wr ++ [pec wr] else wr] else if r.w = 0 then [rd] else [wr, rd]

/-- The check byte due after the bytes read (R518): over the transaction from its first START, or from the new START where REPEATED_START is clear. -/
def pbCheck (p : Periph) (r : PbReq) (d : List Byte) : Byte :=
  let l := pbDriven p r
  pec ((if bit r.flags 0 then l.flatten else l.getLastD []) ++ d)

/-- Driven bytes with their acknowledges, `n` of which come: what stands on the bus, and the acknowledges left; none after a NACK. -/
def pbBytes : List Byte → Nat → List PbItem × Option Nat
  | [], n => ([], some n)
  | b :: _, 0 => ([.sent b false], none)
  | b :: l, n + 1 => let (x, m) := pbBytes l n; (.sent b true :: x, m)

/-- The bytes read (R518): all but the last are acknowledged, and with PEC the last too, the check byte then being NACKed. -/
def pbReads (pecOn : Bool) (check : Byte) : List Byte → List PbItem
  | [] => []
  | [b] => if pecOn then [.got b true, .got check false] else [.got b false]
  | b :: l => .got b true :: pbReads pecOn check l

/-- A completed transaction as it stood on the bus (R518): a NACK by the target is followed by a STOP. -/
def pbWire (p : Periph) (r : PbReq) (d : PbDone) : List PbItem :=
  let reads := pbReads (bit p.flags 0) d.check ((d.data ++ zeros r.r).take r.r)
  match pbDriven p r with
  | [a] => let (x, m) := pbBytes a d.acks; .start :: x ++ (if m.isSome then reads else []) ++ [.stop]
  | [a, b] =>
    let (x, m) := pbBytes a d.acks
    match m with
    | none => .start :: x ++ [.stop]
    | some n =>
      let (y, m) := pbBytes b n
      .start :: x ++ (if bit r.flags 0 then [] else [.stop]) ++ [.start] ++ y ++ (if m.isSome then reads else []) ++ [.stop]
  | _ => []

/-- The result of a transaction (R518, R527): 0 OK, 1 NACK_ADDR, 2 NACK_DATA, 3 PEC_FAIL. -/
def pbResult (p : Periph) (r : PbReq) (d : PbDone) : Nat :=
  let l := pbDriven p r
  if d.acks < l.flatten.length then (if d.acks = 0 ∨ (l.length = 2 ∧ d.acks = (l.headD []).length) then 1 else 2)
  else if bit p.flags 0 && r.r != 0 && d.check != pbCheck p r ((d.data ++ zeros r.r).take r.r) then 3
  else 0

/-- The peripheral a transfer is for. -/
def periphAt (s : State) (h : Handle) : Periph := (tget s.periphs (hIndex h)).getD ⟨0, 0, 0⟩

/-- The reply of a completed transaction (R527). -/
def pbReply (s : State) (x : PbXfer) (d : PbDone) : List Byte :=
  let k := pbResult (periphAt s x.req.periph) x.req d
  let l := if k = 1 ∨ k = 2 then [] else d.data
  byte k ++ byte (min x.req.w (d.acks - 1)) ++ leCount 1 x.retries ++ zeros 1 ++ leBytes 4 d.us ++ (l ++ zeros x.req.r).take x.req.r

/-- PB_CONFIG (R525): at p + 2, held in CONFIG. -/
def execPbConfig (h : Hdr) (flags stretch : Nat) (s : State) : Host.Outcome State Fault Refusal :=
  serve (.pbConfig h flags stretch) 0x0120 .installer .ctl h nullHandle (fun s => chkRec 0 s do
    need (only flags 4 && inR 1 stretch 50) .badParam
    cfgOk s
    let b := s.pb
    need (b.queue.isEmpty || (bit flags 0 == b.enable && bit flags 1 == b.fast && stretch == b.stretch)) .conflict
    okay [] (schedQ ⟨s.sys.ord + 2, 0, nullHandle, 74, .pbConfig h flags stretch, 0⟩ s)) s

/-- A PB_CONFIG takes effect (R512, R525). (log 105: DEDUCED) -/
def applyPbConfig (flags stretch : Nat) (s : State) : State :=
  let on := bit flags 0
  let s := pbmod (fun b => { b with enable := on, fast := bit flags 1, stretch := stretch }) s
  let s := { s with mb := { s.mb with pecReq := bit flags 2, rtcOpen := bit flags 3 } }
  if !on && s.pb.state != .busy then pbmod (fun b => { b with state := .off }) s
  else if on && s.pb.state == .off then pbRest s else s

/-- PB_PERIPH_CREATE (R526): the peripheral is issued at acceptance. (log 156: DESIGN CHOICE) -/
def execPbPeriphCreate (h : Hdr) (p : Periph) (s : State) : Host.Outcome State Fault Refusal :=
  serve (.pbPeriphCreate h p) 0x0121 .installer .ctl h nullHandle (fun s => chk do
    need (inR 0x08 p.addr 0x77 && only p.flags 1 && p.stretch ≤ 50) .badParam
    need (s.periphs.all fun x => x.2.addr != p.addr) .conflict
    let (hd, t) ← get! .noResource (issue 0x0E .idle [] [] s.sys.ord s)
    okay (handleBytes hd) { t with periphs := tset t.periphs (hIndex hd) p }) s

/-- PB_PERIPH_RELEASE (R526): it goes at acceptance. (log 156: DESIGN CHOICE) -/
def execPbPeriphRelease (h : Hdr) (periph : Handle) (s : State) : Host.Outcome State Fault Refusal :=
  serve (.pbPeriphRelease h periph) 0x0122 .installer .ctl h periph (fun s => chk do
    let _ ← objIs s periph 0x0E
    need (s.pb.queue.all fun x => x.req.periph != periph) .conflict
    okay [] (unissue periph { s with periphs := tdel s.periphs (hIndex periph) })) s

/-- PB_TRANSFER (R518, R519, R522, R523, R527): its reply comes when the transaction ends. (log 105: DEDUCED) -/
def execPbTransfer (h : Hdr) (r : PbReq) (s : State) : Host.Outcome State Fault Refusal :=
  serve (.pbTransfer h r) 0x0123 .operator .ctl h r.periph (fun s =>
    let checks : Chk Unit := do
      need (r.data.length == r.w) .badLength
      need (r.w ≤ 32 && r.r ≤ 32 && only r.flags 1) .badParam
      let _ ← objIs s r.periph 0x0E
      need (s.pb.enable && s.pb.state != .sclStuck && s.pb.state != .sdaStuck) .notReady
      need (!shadowed s || readForm r) .conflict
      need (s.pb.queue.length < 4) .noResource
    match checks with
    | .error c => .fail c
    | .ok _ =>
      let s := pbmod (fun b => { b with queue := b.queue ++ [⟨h, r, 0, false⟩], state := if b.state = .idle then .waitFree else b.state }) s
      .hold (periphState r.periph s)) s

/-- The PB_STATUS reply (R528). -/
def pbStatusBytes (s : State) : List Byte :=
  let b := s.pb
  byte b.state.code ++ byte (flagBits [!shadowed s, b.fast, b.resetLow, s.mb.pecReq, s.mb.rtcOpen]) ++ leBytes 2 s.periphs.length
    ++ leCount 4 b.done ++ leCount 2 b.arb ++ leCount 2 b.arbCond ++ leCount 2 b.nacks ++ leCount 2 b.stretches ++ leCount 2 b.sclStucks
    ++ leCount 2 b.sdaStucks ++ leCount 2 b.recovered ++ leCount 1 s.mb.timeouts ++ leCount 1 s.mb.pecFails ++ leBytes 8 (now s)

/-- PB_STATUS (R528). -/
def execPbStatus (h : Hdr) (s : State) : Host.Outcome State Fault Refusal :=
  serve (.pbStatus h) 0x0124 .operator .fw h nullHandle (fun s => chk (okay (pbStatusBytes s) s)) s

/-! Events of the bus. -/

/-- PB is served: firmware runs and it is enabled (R516). (log 105: DEDUCED) -/
def pbServed (s : State) : Bool := running s && s.pb.state != .off

/-- PB_BUS_FREE (R522, R523): the transfer due starts; one a module without OWNER may no longer make ends with S_CONFLICT in its turn. -/
def execPbBusFree (s : State) : Host.Outcome State Fault Refusal :=
  if pbServed s && s.pb.state == .waitFree then
    match s.pb.queue with
    | x :: _ =>
      if shadowed s && !readForm x.req then .next (pbRest (pbEnd x .conflict [] s))
      else .next (pbmod (fun b => { b with state := .busy }) s)
    | [] => .next (pbRest s)
  else .next s

/-- PB_TRANSFER_DONE (R518, R527): STOP has been made; the result goes into the reply under S_OK. -/
def execPbTransferDone (r : PbDone) (s : State) : Host.Outcome State Fault Refusal :=
  match s.pb.state, s.pb.queue with
  | .busy, x :: _ =>
    let p := periphAt s x.req.periph
    let k := pbResult p x.req r
    let s := pbmod (fun b => { b with nacks := b.nacks + flag (k == 1 || k == 2), wire := pbWire p x.req r }) s
    .next (pbLate (pbRest (pbEnd x .ok (pbReply s x r) s)))
  | _, _ => .next s

/-- PB_ARB_LOST (R520): the whole transaction is retried after a random delay, within the limit of R519. (log 105: DEDUCED) -/
def execPbArbLost (s : State) : Host.Outcome State Fault Refusal :=
  match s.pb.state, s.pb.queue with
  | .busy, x :: l =>
    let s := drawn (pbmod (fun b => { b with arb := b.arb + 1, state := .waitFree, queue := { x with retries := x.retries + 1 } :: l
                                             backoff := (draw s).toNat % 1001 }) s)
    if x.late then .next (pbRest (pbLate s)) else .next s
  | _, _ => .next s

/-- PB_ARB_LOST_COND (R521): the transfer is aborted without retry. -/
def execPbArbLostCond (s : State) : Host.Outcome State Fault Refusal :=
  if s.pb.state = .busy then
    let x := s.pb.queue.head?
    let s := pbAbort .busError .idle (pbmod (fun b => { b with arbCond := b.arbCond + 1 }) s)
    .next (pbLate (pbRest (pbFault x 1 s)))
  else .next s

/-- PB_STRETCH_TIMEOUT (R523): a stretch exceeds its limit. -/
def execPbStretchTimeout (s : State) : Host.Outcome State Fault Refusal :=
  if s.pb.state = .busy then
    let x := s.pb.queue.head?
    .next (pbFault x 4 (pbAbort .busError .reset (pbmod (fun b => { b with stretches := b.stretches + 1 }) s)))
  else .next s

/-- PB_BUS_RELEASED (R523): SCL is high in RESET, or has been for 1 ms in SCL_STUCK. -/
def execPbBusReleased (sdaLow : Bool) (s : State) : Host.Outcome State Fault Refusal :=
  match s.pb.state with
  | .reset => .next (if sdaLow then pbmod (fun b => { b with state := .recovering }) s else pbLate (pbRest s))
  | .sclStuck =>
    if sdaLow then .next (pbmod (fun b => { b with state := .recovering }) s)
    else .next (pbLate (pbRest (pbFault none 6 (pbmod (fun b => { b with state := .idle, recovered := b.recovered + 1 }) s))))
  | _ => .next s

/-- PB_SCL_STUCK (R523): SCL low for more than 25 ms outside a stretch, in any state but SCL_STUCK. -/
def execPbSclStuck (s : State) : Host.Outcome State Fault Refusal :=
  if pbServed s && s.pb.state != .sclStuck then
    let x := if s.pb.state = .busy then s.pb.queue.head? else none
    let s := pbmod (fun b => { b with sclStucks := b.sclStucks + 1, resetLow := !shadowed s }) s
    let s := if x.isSome then pbAbort .busError .sclStuck s else pbmod (fun b => { b with state := .sclStuck }) s
    .next (pbFault x 2 s)
  else .next s

/-- PB_SDA_STUCK (R523): SDA low for more than 35 ms with SCL high. (log 105: DEDUCED) -/
def execPbSdaStuck (s : State) : Host.Outcome State Fault Refusal :=
  if s.pb.state = .idle ∨ s.pb.state = .waitFree then
    .next (pbFault none 3 (pbmod (fun b => { b with state := .recovering, sdaStucks := b.sdaStucks + 1, stuckRep := false }) s))
  else .next s

/-- PB_RECOVERY_DONE (R523): the owner's pulses end with SDA released or still low. -/
def execPbRecoveryDone (released : Bool) (s : State) : Host.Outcome State Fault Refusal :=
  if s.pb.state = .recovering ∧ shadowed s = false then
    if released then
      .next (pbLate (pbRest (pbFault none 6 (pbmod (fun b => { b with state := .idle, recovered := b.recovered + 1, stuckRep := false }) s))))
    else
      let told := s.pb.stuckRep
      let s := pbmod (fun b => { b with state := .sdaStuck, sdaStucks := b.sdaStucks + 1, stuckRep := true, resetLow := true }) s
      .next (if told then s else pbFault none 5 s)
  else .next s

/-- PB_SDA_RETRY (R523): 100 ms in SDA_STUCK. -/
def execPbSdaRetry (s : State) : Host.Outcome State Fault Refusal :=
  if s.pb.state = .sdaStuck then .next (pbmod (fun b => { b with state := .recovering }) s) else .next s

/-- PB_TRANSFER_TIMEOUT (R519): 250 ms have passed since the oldest transfer not yet late was accepted. -/
def execPbTransferTimeout (s : State) : Host.Outcome State Fault Refusal :=
  match s.pb.queue.find? fun x => !x.late with
  | some x =>
    if s.pb.state = .busy ∧ s.pb.queue.head? = some x then
      .next (pbmod (fun b => { b with queue := b.queue.map fun y => if y = x then { y with late := true } else y }) s)
    else
      let s := pbEnd x .timeout [] s
      .next (if s.pb.state = .waitFree then pbRest s else s)
  | none => .next s

/-- PB_BOTH_LINES_HIGH (R523): a module without OWNER leaves RECOVERING or SDA_STUCK. -/
def execPbBothLinesHigh (s : State) : Host.Outcome State Fault Refusal :=
  if shadowed s ∧ (s.pb.state = .recovering ∨ s.pb.state = .sdaStuck) then
    .next (pbLate (pbRest (pbmod (fun b => { b with state := .idle, stuckRep := false }) s)))
  else .next s

end Sys2Proof.Machine
end

