-- ==== Sys2Proof/Machine/Records.lean ====
section
/-! DEFINITION. MRAM records (R561-R575): when a copy is intact, how a write runs, what recovery finds, the CONFIG and CAL bodies, and the
record commands whose effect is the record alone. -/

namespace Sys2Proof.Machine

/-- A CONFIG or CAL item (R572). -/
structure RecItem where
  kind  : Nat
  index : Nat
  value : List Byte
  deriving DecidableEq, Repr

/-- An item as it is laid out (R572). -/
def itemBytes (x : RecItem) : List Byte := byte x.index ++ byte x.kind ++ leBytes 2 x.value.length ++ padTo 4 x.value

/-- A body of items: 4 zero bytes when it holds none (R572). -/
def itemsBody (l : List RecItem) : List Byte := if l.isEmpty then zeros 4 else l.flatMap itemBytes

/-- The items of a body; the value of an item lies whole within it (R572). -/
def readItems : Nat → List Byte → List RecItem
  | 0, _ => []
  | n + 1, b =>
    if b.length < 4 ∨ b = zeros 4 then []
    else
      let k := fu b 2 2
      if b.length < 4 + k then []
      else ⟨fu b 1 1, fu b 0 1, (b.drop 4).take k⟩ :: readItems n (b.drop (4 + (k + 3) / 4 * 4))

/-- The items of a record's body. -/
def items (b : List Byte) : List RecItem := readItems (b.length / 4) b

/-- Changes the records. -/
def recmod (f : Records → Records) (s : State) : State := { s with recs := f s.recs }

/-- Changes one record. -/
def rec1 (i : Nat) (f : Record → Record) (s : State) : State := recmod (fun r => { r with recs := lmod r.recs i f }) s

/-- The body lengths of a record (R562). -/
def bodyLen (i n : Nat) : Bool :=
  match i with
  | 0 => inR 4 n 65508
  | 1 => inR 4 n 65508
  | 2 => inR 4 n 4068
  | 3 => n == 108
  | _ => n == 36

/-- A copy is intact in the area of record `i` (R564). -/
def intact (i : Nat) (c : Copy) : Bool :=
  c.type == i && bodyLen i c.length && c.format == 1 && c.seq != 0 && c.body.length == c.length
    && c.crc == copyCrc c.type c.writer c.format c.length c.seq c.rtc c.body && c.commit == c.crc ^^^ 0xA55A7440

/-- Sequence `a` is later than `b` (R564). -/
def seqLater (a b : Nat) : Bool := inR 1 ((a + 2 ^ 32 - b % 2 ^ 32) % 2 ^ 32) (2 ^ 31 - 1)

/-- A copy of a record by its number. -/
def Record.copy (r : Record) (k : Nat) : Copy := if k = 1 then r.c1 else r.c0

/-- The number of the copy in force: none when ABSENT; copy 0 in CONFLICT (R569). -/
def Record.force (r : Record) : Option Nat :=
  match r.st with
  | .absent => none
  | .copy1 => some 1
  | _ => some 0

/-- The body in force of a record, none when it is ABSENT. (log 30: DEDUCED) -/
def bodyOf (s : State) (i : Nat) : Option (List Byte) := (recAt s i).force.map fun k => ((recAt s i).copy k).body

/-- What recovery finds in a record, with the event code it owes (R569, R571). -/
def recovered (i : Nat) (r : Record) : Record :=
  match intact i r.c0, intact i r.c1 with
  | false, false => { r with st := .absent, owed := 4 }
  | true, false => { r with st := .copy0, owed := 3 }
  | false, true => { r with st := .copy1, owed := 3 }
  | true, true =>
    if seqLater r.c1.seq r.c0.seq then { r with st := .copy1, owed := 0 }
    else if seqLater r.c0.seq r.c1.seq || r.c0.body == r.c1.body then { r with st := .copy0, owed := 0 }
    else { r with st := .conflict, owed := 1 }

/-- Recovery at a reset that leaves BACKUP: every record is examined and its counters since reset are cleared (R569, R575). -/
def recoverAll (s : State) : State :=
  recmod (fun r => { r with recs := r.recs.mapIdx fun i x => recovered i { x with writes := 0, failed := 0, refusals := 0 } }) s

/-- The body of EV_CFG_CONFLICT (R571). -/
def cfgBody (s : State) (i code pick : Nat) : List Byte :=
  handleBytes (fixedHandle 0x0B i) ++ byte code ++ byte ((recAt s i).force.getD 0xFF) ++ zeros 2 ++ leBytes 8 pick

/-! Writing. -/

/-- The sequence after `n`; 0 is never one (R565). -/
def seqUp (n : Nat) : Nat := if (n + 1) % 2 ^ 32 = 0 then 1 else (n + 1) % 2 ^ 32

/-- The copy a write goes to and its sequence (R565); RECORD_RESOLVE writes the copy it does not keep (R570). -/
def writeTarget (r : Record) (j : WriteJob) : Nat × Nat :=
  match j.cmd with
  | some (.recordResolve _ _ keep) => (1 - keep, seqUp (r.copy keep).seq)
  | _ => match r.force with
    | some k => (1 - k, seqUp (r.copy k).seq)
    | none => (0, 1)

/-- The MRAM controller starts the oldest write when none runs; none starts after PFAIL (R565, R568). -/
def beginWrite (s : State) : State :=
  match s.recs.jobs with
  | j :: l =>
    if j.target.isSome || s.sys.pfail then s
    else
      let (k, q) := writeTarget (recAt s j.recIx) j
      recmod (fun r => { r with jobs := { j with target := some k, seq := q, rtc := s.rtc.count.toNat } :: l }) s
  | [] => s

/-- A record write is requested (R565). -/
def writeRec (i : Nat) (body : List Byte) (writer : Nat) (cmd : Option Instr) (s : State) : State :=
  beginWrite (recmod (fun r => { r with jobs := r.jobs ++ [⟨i, body, writer, cmd, none, 0, 0, false⟩] }) s)

/-- The copy a running write makes. (log 28: DESIGN CHOICE) -/
def jobCopy (j : WriteJob) : Copy := mkCopy j.recIx j.writer j.seq j.rtc j.body

/-- A copy is stored. (log 28: DESIGN CHOICE) -/
def storeCopy (i k : Nat) (c : Copy) (s : State) : State :=
  rec1 i (fun r => if k = 1 then { r with c1 := c } else { r with c0 := c }) s

/-- The running write is read back intact: its copy is in force (R565). -/
def writeGood (j : WriteJob) (k : Nat) (s : State) : State :=
  let s := storeCopy j.recIx k (jobCopy j) s
  rec1 j.recIx (fun r => { r with st := if k = 1 then .copy1 else .copy0, writes := r.writes + 1 }) s

/-- The target stands not intact after both attempts, its commit word free but for that; the copy in force stays (R565). (log 28: DESIGN CHOICE) -/
def writeBad (j : WriteJob) (k : Nat) (s : State) : State :=
  let c := jobCopy j
  let s := storeCopy j.recIx k { c with commit := c.commit ^^^ ((draw s).toNat % (2 ^ 32 - 1) + 1) } (drawn s)
  rec1 j.recIx (fun r => { r with failed := r.failed + 1 }) s

/-- The write that runs leaves the queue and the next begins. -/
def nextWrite (s : State) : State := beginWrite (recmod (fun r => { r with jobs := r.jobs.drop 1 }) s)

/-- A write begun completes at a reset; those not begun are lost with what they would have written (R568). -/
def finishWrites (s : State) : State :=
  let s := match s.recs.jobs with
    | j :: _ => match j.target with
      | some k => writeGood j k s
      | none => s
    | [] => s
  recmod (fun r => { r with jobs := [], cfgDirty := none, trimSeg := [] }) s

/-! The bodies. -/

/-- The CONFIG item of a port's tuner: presets 1 to 31, then the preset in force (R572). -/
def tunerItem (t : Tuner) : List Byte :=
  ((List.range 31).flatMap fun k => presetBytes ((tget t.presets (k + 1)).getD ⟨0, 0, 0, 0, 0, 0⟩)) ++ byte t.inForce

/-- The CONFIG item of a warp (R572). (log 26: DEDUCED) -/
def warpItem (s : State) (w : Nat) : List Byte :=
  let x := warpAt s w
  handleBytes (routeOf s w) ++ tuneBytes (if x.lo.isSome then x.req else { x.req with freq := 0 }) ++ byte x.gain ++ agcBytes x.agc

/-- One item for each object of a kind. -/
def each (kind n : Nat) (f : Nat → List Byte) : List RecItem := (List.range n).map fun k => ⟨kind, k, f k⟩

/-- Every setting in force that CONFIG holds (R566, R572). (log 26: DEDUCED, 33: DEDUCED) -/
def configItems (s : State) : List RecItem :=
  let b := s.pb
  [⟨0x01, 0, leBytes 2 s.ident.deviceId⟩, ⟨0x02, 0, tbBytes s.tb.cfg⟩]
    ++ each 0x03 4 (fun k => byte (portAt s k).loop ++ byte (flag (portAt s k).shared) ++ zeros 2)
    ++ each 0x04 4 (fun k => byte (portAt s k).feed.flags ++ byte (portAt s k).feed.limit ++ zeros 2)
    ++ each 0x05 4 (fun k => tunerItem (nth s.tuners k Tuner.reset))
    ++ each 0x06 8 (warpItem s)
    ++ [⟨0x07, 0, calBytes s.calib.cfg⟩, ⟨0x08, 0, timeBytes s.time.cfg⟩]
    ++ each 0x09 2 (fun k => ethBytes (ethPort s k).cfg)
    ++ each 0x0A 8 (fun k => tdmCfgBytes (tdmAt s k).cfg)
    ++ [⟨0x0B, 0, byte (flagBits [b.enable, b.fast, s.mb.pecReq, s.mb.rtcOpen]) ++ zeros 1 ++ leBytes 2 b.stretch ++ zeros 4⟩
       , ⟨0x0C, 0, notifyBytes s.proto.notify⟩
       , ⟨0x0D, 0, leSigned 1 s.rtc.trim ++ leBytes 2 s.rtc.vsw ++ leBytes 2 s.rtc.lowThr ++ leBytes 4 s.rtc.dayOff⟩]

/-- The write of CONFIG at a pick-0 boundary (R566). -/
def writeConfig (s : State) : State :=
  match s.recs.cfgDirty with
  | some role => writeRec 0 (itemsBody (configItems s)) role none (recmod (fun r => { r with cfgDirty := none }) s)
  | none => s

/-- The factory part of CAL: the items of kinds 0x20 to 0x25 (R572). (log 33: DEDUCED) -/
def factoryPart (s : State) : List RecItem := (items ((bodyOf s 1).getD [])).filter fun x => inR 0x20 x.kind 0x25

/-- The snapshot of the calibration table and of the hop profiles (R195, R572): the VALID entries, and the profiles of every synthesiser that
holds any. (log 33: DEDUCED) -/
def snapItems (s : State) : List RecItem :=
  let es := s.calib.table.filter (·.valid)
  (if es.isEmpty then [] else [⟨0x30, 0, es.flatMap entryBytes⟩])
    ++ (s.syn.mapIdx fun k y => (⟨0x31, k, (List.range 64).flatMap fun j => profileBytes ((tget y.profiles j).getD noProfile)⟩ : RecItem)).filter
        fun x => ((synAt s x.index).profiles).any fun p => p.2.valid

/-- The CAL body with a factory part and the present snapshot (R195, R575). (log 33: DEDUCED) -/
def calBodyWith (f : List RecItem) (s : State) : List Byte := itemsBody (f ++ snapItems s)

/-- The LIMITS in effect: every value at or below its hardware ceiling (R121, R574). -/
def clipLimits (l : Limits) : Limits :=
  ⟨min l.allowance 1000, l.ports.map fun p => ⟨min p.feed 350, min p.probe (-80), p.flags⟩⟩

/-- The LIMITS record in effect after recovery; none where it is ABSENT (R562). -/
def limitsOf (s : State) : Option Limits := (bodyOf s 4).map fun b => clipLimits (readLimits b 0)

/-! The commands. -/

/-- The record of a handle. -/
def recIs (s : State) (h : Handle) : Chk Nat := do
  handleOk s h 0x0B
  .ok (hIndex h)

/-- The RECORD_STATUS reply (R575). -/
def recordStatusBytes (s : State) (i : Nat) : List Byte :=
  let r := recAt s i
  let f := r.force.map r.copy
  let waits := (s.recs.jobs.any fun j => j.recIx == i && j.target.isNone) || (i == 0 && s.recs.cfgDirty.isSome)
  let runs := s.recs.jobs.any fun j => j.recIx == i && j.target.isSome
  let st : Nat := match r.st with | .absent => 0 | .copy0 => 1 | .copy1 => 2 | .conflict => 3
  handleBytes (fixedHandle 0x0B i) ++ byte st ++ byte (flagBits [intact i r.c0, intact i r.c1, waits, runs]) ++ byte (f.elim 0 (·.writer))
    ++ zeros 1 ++ leBytes 4 r.c0.seq ++ leBytes 4 r.c1.seq ++ leBytes 4 (f.elim 0 (·.length)) ++ leCount 4 r.writes
    ++ leBytes 8 (f.elim 0 (·.rtc)) ++ leCount 2 r.failed ++ leCount 2 r.refusals ++ zeros 4 ++ leBytes 8 (now s)

/-- RECORD_STATUS (R575). -/
def execRecordStatus (h : Hdr) (rec : Handle) (s : State) : Host.Outcome State Fault Refusal :=
  serve (.recordStatus h rec) 0x0E01 .operator .all h rec (fun s => chk do
    let i ← recIs s rec
    okay (recordStatusBytes s i) s) s

/-- The header of a copy as stored (R563). -/
def copyHeader (c : Copy) : List Byte :=
  byte c.type ++ byte c.writer ++ leBytes 2 c.format ++ leBytes 4 c.length ++ leBytes 4 c.seq ++ leBytes 4 c.crc ++ leBytes 8 c.rtc

/-- The area of a record copy after its header (R561). -/
def copyArea (i : Nat) : Nat := if i < 2 then 65512 else 4072

/-- `n` bytes no rule states, one draw each. (log 29: DESIGN CHOICE) -/
def freeBytes (s : State) (n : Nat) : List Byte := (List.range n).map fun k => (Config.freeWord (s.sys.free + k)).setWidth 8

/-- The state after `n` draws. (log 7: DESIGN CHOICE) -/
def drawnBy (n : Nat) (s : State) : State := { s with sys := { s.sys with free := s.sys.free + n } }

/-- How many bytes of a copy's area lie after its commit word. (log 29: DESIGN CHOICE) -/
def copyRest (i : Nat) (c : Copy) : Nat := copyArea i - (c.body.length + 4)

/-- The area of a copy after its header as stored: the body, the commit word, then bytes no rule states. (log 29: DESIGN CHOICE) -/
def copyBytes (s : State) (i : Nat) (c : Copy) : List Byte := c.body ++ leBytes 4 c.commit ++ freeBytes s (copyRest i c)

/-- ROLEKEYS with every key as 32 zero bytes (R573). -/
def hideKeys (b : List Byte) : List Byte :=
  b.mapIdx fun k x => if k < 108 ∧ 4 ≤ k % 36 then 0#8 else x

/-- RECORD_READ (R575). (log 29: DESIGN CHOICE, 127: DEDUCED) -/
def execRecordRead (h : Hdr) (rec : Handle) (copy len offset : Nat) (s : State) : Host.Outcome State Fault Refusal :=
  serve (.recordRead h rec copy len offset) 0x0E02 .installer .all h rec (fun s => chk do
    need (copy ≤ 1 || copy == 0xFF) .badParam
    let i ← recIs s rec
    need (offset + len ≤ copyArea i) .badParam
    let r := recAt s i
    let k ← if copy = 0xFF then get! .notReady r.force else .ok copy
    let c := r.copy k
    let b := copyBytes s i c
    let b := if i = 3 then hideKeys b else b
    okay (copyHeader c ++ (b.drop offset).take len) (drawnBy (copyRest i c) s)) s

/-- RECORD_RESOLVE (R570): the kept copy is written to the other. (log 27: DEDUCED) -/
def execRecordResolve (h : Hdr) (rec : Handle) (keep : Nat) (s : State) : Host.Outcome State Fault Refusal :=
  serve (.recordResolve h rec keep) 0x0E03 .installer .all h rec (fun s =>
    let go : Chk (Nat × Copy) := do
      need (keep ≤ 1) .badParam
      let i ← recIs s rec
      let r := recAt s i
      need (r.st == .conflict) .conflict
      need (intact i (r.copy keep)) .badParam
      .ok (i, r.copy keep)
    match go with
    | .error c => .fail c
    | .ok (i, c) => .hold (writeRec i c.body c.writer (some (.recordResolve h rec keep)) s)) s

/-- The ranges of a LIMITS body (R574): steps of 25 mA, the probe ceiling from -280, reserved flag bits zero; a value above its ceiling is
limited, not refused. -/
def limitsOk (l : Limits) : Bool :=
  25 ≤ l.allowance && l.allowance % 25 == 0 && l.ports.length == 4
    && l.ports.all fun p => 25 ≤ p.feed && p.feed % 25 == 0 && (-280 : Int) ≤ p.probe && only p.flags 1

/-- LIMITS_WRITE (R574, R581). -/
def execLimitsWrite (h : Hdr) (l : Limits) (s : State) : Host.Outcome State Fault Refusal :=
  serve (.limitsWrite h l) 0x0E04 .maker .all h nullHandle (fun s =>
    if !limitsOk l then .fail .badParam
    else if s.fw.locked then .fail .conflict
    else if inConflict s 4 then .bad .conflict (refuseRec 4 s)
    else .hold (writeRec 4 (limitsBytes l) 3 (some (.limitsWrite h l)) s)) s

/-- TRIM_WRITE (R575, R581): segments in order; the last one writes CAL. (log 31: DEDUCED) -/
def execTrimWrite (h : Hdr) (offset total flags : Nat) (data : List Byte) (s : State) : Host.Outcome State Fault Refusal :=
  serve (.trimWrite h offset total flags data) 0x0E05 .maker .all h nullHandle (fun s =>
    let seg := if offset = 0 then [] else s.recs.trimSeg
    let all := seg ++ data
    if !(inR 4 total 49152 && only flags 1) then .fail .badParam
    else if offset ≠ seg.length ∨ all.length > total ∨ (bit flags 0 = true ∧ all.length ≠ total) then
      .bad .badParam (recmod (fun r => { r with trimSeg := [] }) s)
    else if s.fw.locked then .fail .conflict
    else if bit flags 0 && inConflict s 1 then .bad .conflict (refuseRec 1 s)
    else if bit flags 0 then
      let body := calBodyWith ((items all).filter fun x => inR 0x20 x.kind 0x25) s
      if body.length > 65508 then .fail .badParam
      else .hold (writeRec 1 body 3 (some (.trimWrite h offset total flags data)) (recmod (fun r => { r with trimSeg := [] }) s))
    else .done .ok [] (recmod (fun r => { r with trimSeg := all }) s)) s

/-- The bookkeeping of a snapshot: what is written is the table as it stands (R195). (log 32: DEDUCED) -/
def snapTaken (s : State) : State :=
  { s with calib := { s.calib with lastSnap := s.sys.ord, dirty := false }
           warps := s.warps.map fun w => { w with cal := { w.cal with changed := false } } }

/-- The CAL body of a snapshot, written by the role given (R195). (log 32: DEDUCED) -/
def snapshot (writer : Nat) (cmd : Option Instr) (s : State) : State :=
  writeRec 1 (calBodyWith (factoryPart s) s) writer cmd (snapTaken s)

/-- CAL_SNAPSHOT (R199): the reply comes when the copy is committed. -/
def execCalSnapshot (h : Hdr) (s : State) : Host.Outcome State Fault Refusal :=
  serve (.calSnapshot h) 0x1005 .installer .ctl h nullHandle (fun s =>
    if inConflict s 1 then .bad .conflict (refuseRec 1 s) else .hold (snapshot (roleOf s h) (some (.calSnapshot h)) s)) s

/-- The snapshot interval has passed (R195): a snapshot is taken where the table has changed; one that falls due while CAL is in CONFLICT is
skipped and counted (R567). (log 32: DEDUCED) -/
def execCalSnapshotTimer (s : State) : Host.Outcome State Fault Refusal :=
  .next (if !running s || !s.calib.dirty || s.sys.ord < s.calib.lastSnap + s.calib.cfg.interval * 1000 then s
    else if inConflict s 1 then refuseRec 1 { s with calib := { s.calib with skipped := s.calib.skipped + 1 } }
    else snapshot 0x0F none s)

end Sys2Proof.Machine
end

