-- ==== Sys2Proof/Machine/Auth.lean ====
section
/-! DEFINITION. Role keys, sessions and the audit log (R549-R560). -/

namespace Sys2Proof.Machine

/-- Changes what sessions hold. -/
def authmod (f : Auth → Auth) (s : State) : State := { s with auth := f s.auth }

/-- The handle of a session. -/
def sessHandle (k : Nat) (x : Sess) : Handle := mkHandle 0x0C k x.gen

/-- A session returns to FREE. -/
def freeSess (k : Nat) (s : State) : State :=
  match tget s.auth.sess k with
  | some x => unissue (sessHandle k x) (authmod (fun a => { a with sess := tdel a.sess k }) s)
  | none => s

/-- Every session that satisfies `p` returns to FREE. -/
def freeWhere (p : Nat → Sess → Bool) (s : State) : State :=
  s.auth.sess.foldl (fun (s : State) (x : Nat × Sess) => if p x.1 x.2 then freeSess x.1 s else s) s

/-- The sessions bound to an Ethernet port close (R555). -/
def freeUdpSess (p : Nat) (s : State) : State :=
  freeWhere (fun _ x => match x.via with | .udp q _ _ => q.val == p | _ => false) s

/-! Role keys. -/

/-- The entry of a role in the ROLEKEYS body (R573). (log 30: DEDUCED) -/
def keyEntry (b : List Byte) (role : Nat) : List Byte := (b.drop (36 * (role - 1))).take 36

/-- The key of a role: from ROLEKEYS, or for the maker from the fuses while it is ABSENT (R562, R573). (log 30: DEDUCED) -/
def keyOf (s : State) (role : Nat) : Option (List Byte) :=
  match bodyOf s 3 with
  | some b => let e := keyEntry b role; if bit (fu e 0 1) 0 then some (e.drop 4) else none
  | none => if role = 3 then some s.fw.makerFuse else none

/-- An entry with a key; 32 zero bytes remove it (R551, R573). -/
def keyBytes (key : List Byte) : List Byte :=
  if key.all (· == 0#8) then zeros 36 else byte 1 ++ zeros 3 ++ key

/-- The ROLEKEYS body with one key written; from an ABSENT record it starts with the maker's fused key alone. -/
def keysWith (s : State) (role : Nat) (key : List Byte) : List Byte :=
  let b := (bodyOf s 3).getD (zeros 72 ++ keyBytes s.fw.makerFuse)
  [1, 2, 3].flatMap fun r => if r = role then keyBytes key else keyEntry b r

/-- ROLEKEY_SET (R551). -/
def execRolekeySet (h : Hdr) (role : Nat) (key : List Byte) (s : State) : Host.Outcome State Fault Refusal :=
  serve (.rolekeySet h role key) 0x0210 .keys .all h nullHandle (fun s =>
    let r := roleOf s h
    if key.length ≠ 32 then .fail .badLength
    else if inR 1 role 3 = false ∨ (role = 3 ∧ key.all (· == 0#8) = true) then .fail .badParam
    else if (r = 2 ∧ role = 3) ∨ (r = 3 ∧ role = 1) then .fail .noRight
    else if inConflict s 3 then .bad .conflict (refuseRec 3 s)
    else .hold (writeRec 3 (keysWith s role key) r (some (.rolekeySet h role key)) s)) s

/-- A key has been written: the sessions opened for its role close, proven or not, but for the one that wrote it (R551). (log 121: DEDUCED) -/
def keyWritten (h : Hdr) (role : Nat) (s : State) : State := freeWhere (fun k x => x.role == role && k != h.sess) s

/-! Sessions. -/

/-- The session to take over when all are in use: the OPENED one opened longest ago (R552). -/
def oldestOpened (s : State) : Option Nat :=
  ((s.auth.sess.filter fun x => !x.2.proven).foldl (fun (b : Option (Nat × Sess)) x =>
    match b with
    | some y => if x.2.opened < y.2.opened then some x else some y
    | none => some x) none).map (·.1)

/-- SESSION_OPEN (R552, R554). -/
def execSessionOpen (h : Hdr) (role : Nat) (s : State) : Host.Outcome State Fault Refusal :=
  serve (.sessionOpen h role) 0x0201 .anonymous .all h nullHandle (fun s => chk do
    need (inR 1 role 3) .badParam
    need (!s.auth.waiting) .notReady
    let t := if s.auth.sess.length < 8 then s else (oldestOpened s).elim s fun k => freeSess k s
    let (hd, t) ← get! .noResource (issue 0x0C .idle [] [] s.sys.ord t)
    let nonce := (draw t).toNat
    let x : Sess := ⟨false, role, h.via, hGen hd, nonce, t.auth.openings, t.sys.ord⟩
    okay (handleBytes hd ++ leBytes 16 nonce)
      (authmod (fun a => { a with sess := tset a.sess (hIndex hd) x, openings := a.openings + 1 }) (drawn t))) s

/-- The proof a session expects (R553). -/
def proofOf (s : State) (x : Sess) (key : List Byte) : List Byte :=
  hmac key (leBytes 16 x.nonce ++ leBytes 4 s.ident.serial ++ byte x.role)

/-- A proof fails: the session named returns to FREE only where it is OPENED and the packet came on its binding; the wait starts (R553, R554). (log 34: DEDUCED) -/
def proofFails (h : Hdr) (k : Nat) (x : Sess) (s : State) : State :=
  let s := if !x.proven ∧ x.via = h.via then freeSess k s else s
  authmod (fun a => { a with failures := a.failures + 1, waiting := true, failedAt := if domOn s 2 then s.sys.ord else 0 }) s

/-- The time since a boundary count can have come to `n` ms; where no pick exists to count, or none existed then, the row says so. (log 18: DESIGN CHOICE) -/
def spentMs (s : State) (since n : Nat) : Bool := !domOn s 2 || since == 0 || since + n ≤ s.sys.ord

/-- The wait of R554 after the present count of failures, in ms. -/
def backoffMs (s : State) : Nat := 1000 * 2 ^ min 6 (s.auth.failures - 1)

/-- SESSION_PROVE (R553, R554): an OPENED session that has lasted no more than 10 s has a nonce no older. (log 34: DEDUCED) -/
def execSessionProve (h : Hdr) (sess : Handle) (proof : List Byte) (s : State) : Host.Outcome State Fault Refusal :=
  serve (.sessionProve h sess proof) 0x0202 .anonymous .all h sess (fun s =>
    if proof.length ≠ 32 then .fail .badLength
    else match objIs s sess 0x0C, tget s.auth.sess (hIndex sess) with
    | .ok _, some x =>
      let fresh := !domOn s 2 || x.named == 0 || s.sys.ord ≤ x.named + 10000
      let good := !x.proven && decide (x.via = h.via) && fresh && (keyOf s x.role).any fun k => proof == proofOf s x k
      if good then
        let y := { x with proven := true, named := s.sys.ord }
        .done .ok (byte (hIndex sess) ++ byte x.role ++ leBytes 2 900)
          (authmod (fun a => { a with sess := tset a.sess (hIndex sess) y, failures := 0, waiting := false }) s)
      else .bad .noRight (proofFails h (hIndex sess) x s)
    | _, _ => .fail .badHandle) s

/-- SESSION_CLOSE (R555). -/
def execSessionClose (h : Hdr) (s : State) : Host.Outcome State Fault Refusal :=
  serve (.sessionClose h) 0x0203 .session .all h nullHandle (fun s => .done .ok [] (freeSess h.sess s)) s

/-- The idle time of a session in s; free where it was last named before D2 came on, when no pick exists to count. (log 18: DESIGN CHOICE) -/
def sessIdle (s : State) (x : Sess) : Nat :=
  if domOn s 2 && x.named != 0 then (s.sys.ord - x.named) / 1000 else (draw s).toNat

/-- The SESSION_STATUS reply (R556). -/
def sessionStatusBytes (s : State) : List Byte :=
  leBytes 8 (now s) ++ (List.range 8).flatMap fun k =>
    match tget s.auth.sess k with
    | some x => byte (1 + flag x.proven) ++ byte x.role ++ byte (viaCode x.via) ++ byte x.gen ++ leCount 4 (sessIdle s x)
    | none => zeros 8

/-- SESSION_STATUS (R556). -/
def execSessionStatus (h : Hdr) (s : State) : Host.Outcome State Fault Refusal :=
  serve (.sessionStatus h) 0x0204 .operator .all h nullHandle (fun s => chk (okay (sessionStatusBytes s) (drawn s))) s

/-- 10 s in OPENED (R555). -/
def execSessionOpenExpiry (k : Fin 8) (s : State) : Host.Outcome State Fault Refusal :=
  .next (freeWhere (fun j x => j == k.val && !x.proven && spentMs s x.named 10000) s)

/-- 900 s in PROVEN with no packet of the session (R555). -/
def execSessionIdleTimeout (k : Fin 8) (s : State) : Host.Outcome State Fault Refusal :=
  .next (freeWhere (fun j x => j == k.val && x.proven && spentMs s x.named 900000) s)

/-- The wait of R554 ends. -/
def execProveBackoffEnd (s : State) : Host.Outcome State Fault Refusal :=
  .next (if spentMs s s.auth.failedAt (backoffMs s) then authmod (fun a => { a with waiting := false }) s else s)

/-! The audit log. -/

/-- An audit entry as it is laid out (R559). -/
def auditBytes (e : AuditEntry) : List Byte :=
  leBytes 4 e.number ++ handleBytes e.obj ++ leBytes 8 e.rtc ++ leBytes 8 e.pick ++ leBytes 2 e.op ++ leBytes 2 e.status ++ byte e.role
    ++ byte e.via ++ byte e.sess ++ byte (flag e.osf)

/-- AUDIT_READ (R560): as many whole entries as the transport's payload holds (R472). -/
def execAuditRead (h : Hdr) (start max : Nat) (s : State) : Host.Outcome State Fault Refusal :=
  serve (.auditRead h start max) 0x0220 .installer .all h nullHandle (fun s => chk do
    need (inR 1 max 127) .badParam
    let es := ((s.audit.entries.filter fun e => start ≤ e.number).take max).take ((payloadLimit s h.via - 16) / 32)
    okay (leBytes 4 ((s.audit.entries.head?.map (·.number)).getD 0) ++ leBytes 4 s.audit.next ++ leCount 4 s.audit.overflow
      ++ byte es.length ++ zeros 3 ++ es.flatMap auditBytes) s) s

/-- AUDIT_CLEAR (R560): its own entry is then number 1. -/
def execAuditClear (h : Hdr) (confirm : Nat) (s : State) : Host.Outcome State Fault Refusal :=
  serve (.auditClear h confirm) 0x0221 .maker .all h nullHandle (fun s => chk do
    need (confirm == 0x7440C1EA) .badParam
    okay [] { s with audit := ⟨[], 1, 0⟩ }) s

end Sys2Proof.Machine
end

