-- ==== Sys2Proof/Machine/Fw.lean ====
section
/-! DEFINITION. Firmware images, their verification, the load commands, key slots and the lifecycle lock (R576-R582). -/

namespace Sys2Proof.Machine

/-- Changes the firmware store. -/
def fwmod (f : Firmware → Firmware) (s : State) : State := { s with fw := f s.fw }

/-- The image of a source: 0 slot 0, 1 slot 1, 2 DIRECT (R579). -/
def Firmware.image (f : Firmware) (k : Nat) : FwImage := if k = 0 then f.slot0 else if k = 1 then f.slot1 else f.direct

/-- Changes the image of a source. -/
def Firmware.setImage (f : Firmware) (k : Nat) (x : FwImage) : Firmware :=
  if k = 0 then { f with slot0 := x } else if k = 1 then { f with slot1 := x } else { f with direct := x }

/-- No image. -/
def noImage : FwImage := ⟨[], 2⟩

/-- The firmware version of an image, from its header (R577). -/
def fwVersion (b : List Byte) : Nat := fu b 8 4

/-- The rollback version of an image (R577). -/
def fwRollback (b : List Byte) : Nat := fu b 7 1

/-- The header is well formed (R577, R578). (log 35: DEDUCED) -/
def fwHeaderOk (b : List Byte) : Bool :=
  256 ≤ b.length && fu b 0 4 == 0x57464C4D && fu b 4 2 == 1 && fu b 7 1 ≤ 63 && inR 1 (fu b 12 4) 3145472 && b.length == 256 + fu b 12 4
    && fz b 20 4 && fz b 120 136

/-- The result code of verifying an image (R578, R582). (log 35: DEDUCED, 42: DEDUCED) -/
def fwVerify (f : Firmware) (b : List Byte) : Nat :=
  let k := nth f.keys (fu b 6 1) ⟨false, false, []⟩
  if b.isEmpty then 2
  else if !fwHeaderOk b then 3
  else if !k.present || k.revoked then 4
  else if fwRollback b < f.counter then 7
  else if sha256 (b.drop 256) != (b.drop 24).take 32 then 5
  else if ecdsaOk k.key (sha256 (b.take 56)) ((b.drop 56).take 64) then 1 else 6

/-- A source is verified: its result is recorded. (log 42: DEDUCED) -/
def verifySource (k : Nat) (f : Firmware) : Firmware :=
  let x := f.image k
  f.setImage k { x with result := fwVerify f x.bytes }

/-- The fields FW_STATUS gives for a slot (R582). -/
def slotStatus (x : FwImage) : List Byte :=
  if x.bytes.isEmpty then zeros 6 ++ byte x.result ++ zeros 1
  else leBytes 4 (fwVersion x.bytes) ++ byte (fwRollback x.bytes) ++ byte (fu x.bytes 6 1) ++ byte x.result ++ zeros 1

/-- The FW_STATUS reply (R582). -/
def fwStatusBytes (s : State) : List Byte :=
  let f := s.fw
  let on := f.loadState != 0
  byte f.running ++ byte f.preferred ++ byte f.counter ++ byte (flagBits (f.keys.map (·.present) ++ f.keys.map (·.revoked)))
    ++ leBytes 4 (if f.running = 0xFF then 0 else f.runVersion) ++ slotStatus f.slot0 ++ slotStatus f.slot1 ++ byte f.loadState
    ++ byte f.loadTarget ++ byte f.loadResult ++ byte (flag f.locked) ++ leBytes 4 (if on then f.loadBytes.length else 0)
    ++ leBytes 4 (if on then f.loadLen else 0) ++ zeros 4 ++ leBytes 8 (now s)

/-- FW_STATUS (R582). -/
def execFwStatus (h : Hdr) (s : State) : Host.Outcome State Fault Refusal :=
  serve (.fwStatus h) 0x0E10 .operator .all h nullHandle (fun s => chk (okay (fwStatusBytes s) s)) s

/-- The largest parameter length of a command on a transport (R443, R453). -/
def paramLimit (s : State) : Via → Nat
  | .udp p a _ => min 4096 ((ethPort s p).cfg.mtu - (if a.v6 then 40 else 20) - 8 - 12)
  | _ => 4096

/-- FW_LOAD_BEGIN (R579): the load in progress is discarded and the target marked empty. -/
def execFwLoadBegin (h : Hdr) (target len : Nat) (s : State) : Host.Outcome State Fault Refusal :=
  serve (.fwLoadBegin h target len) 0x0E11 .installer .all h nullHandle (fun s => chk do
    need (target ≤ 2 && inR 257 len 3145728) .badParam
    need (target != 2 || s.sys.mode == .dormant) .wrongMode
    need (!(target < 2 && s.fw.running == target)) .conflict
    okay (leBytes 2 (paramLimit s h.via - 4) ++ zeros 2 ++ leBytes 4 len)
      (fwmod (fun f => { f.setImage target noImage with loadState := 1, loadTarget := target, loadLen := len, loadBytes := [] }) s)) s

/-- FW_LOAD_DATA (R579): segments in order, none beyond the length. (log 31: DEDUCED) -/
def execFwLoadData (h : Hdr) (offset : Nat) (data : List Byte) (s : State) : Host.Outcome State Fault Refusal :=
  serve (.fwLoadData h offset data) 0x0E12 .installer .all h nullHandle (fun s => chk do
    need (s.fw.loadState == 1) .notReady
    let b := s.fw.loadBytes ++ data
    need (offset == s.fw.loadBytes.length && b.length ≤ s.fw.loadLen) .badParam
    okay (leBytes 4 b.length) (fwmod (fun f => { f with loadBytes := b }) s)) s

/-- FW_LOAD_END (R579): the image is verified and stands in its slot with its result. (log 35: DEDUCED) -/
def execFwLoadEnd (h : Hdr) (s : State) : Host.Outcome State Fault Refusal :=
  serve (.fwLoadEnd h) 0x0E13 .installer .all h nullHandle (fun s =>
    let f := s.fw
    if f.loadState ≠ 1 ∨ f.loadBytes.length ≠ f.loadLen then .fail .notReady
    else
      let b := f.loadBytes
      let r := fwVerify f b
      let s := fwmod (fun f => { f.setImage f.loadTarget ⟨b, r⟩ with loadState := if r = 1 then 2 else 0, loadResult := r }) s
      if r = 1 then .done .ok (leBytes 4 (fwVersion b) ++ byte (fwRollback b) ++ byte (fu b 6 1) ++ zeros 2) s
      else .bad (if r = 7 then .conflict else .badParam) s) s

/-- FW_KEY_WRITE (R580, R581). (log 36: DEDUCED) -/
def execFwKeyWrite (h : Hdr) (slot flags : Nat) (key : List Byte) (s : State) : Host.Outcome State Fault Refusal :=
  serve (.fwKeyWrite h slot flags key) 0x0E15 .maker .all h nullHandle (fun s => chk do
    need (key.length == 64) .badLength
    let revoke := bit flags 0
    need (slot ≤ 3 && only flags 1 && (if revoke then key.all (· == 0#8) else onCurve key)) .badParam
    let k := nth s.fw.keys slot ⟨false, false, []⟩
    let set := fun (x : FwKey) => fwmod (fun f => { f with keys := lmod f.keys slot fun _ => x }) s
    if revoke then
      let other := (List.range 4).any fun j => j != slot && (nth s.fw.keys j ⟨false, false, []⟩).present
        && !(nth s.fw.keys j ⟨false, false, []⟩).revoked
      need (k.present && other) .conflict
      okay [] (set { k with revoked := true })
    else
      need (!s.fw.locked && slot != 0 && !k.present) .conflict
      okay [] (set ⟨true, false, key⟩)) s

/-- LIFECYCLE_LOCK (R581). -/
def execLifecycleLock (h : Hdr) (confirm : Nat) (s : State) : Host.Outcome State Fault Refusal :=
  serve (.lifecycleLock h confirm) 0x0E16 .maker .all h nullHandle (fun s => chk do
    need (confirm == 0x744010CC) .badParam
    need (!s.fw.locked) .conflict
    okay [] (fwmod (fun f => { f with locked := true }) s)) s

end Sys2Proof.Machine
end

