-- ==== Sys2Proof/Machine/Timebase.lean ====
section
/-! DEFINITION. The timebase (R45-R72): sources and their qualification, the state machine, slews, steps and renumberings, phase trims, and
the timebase commands and events. -/

namespace Sys2Proof.Machine

/-- Changes the timebase. -/
def tbmod (f : Timebase → Timebase) (s : State) : State := { s with tb := f s.tb }

/-- ⌈a / b⌉ for b > 0. -/
def ceilI (a b : Int) : Int := -((-a) / b)

/-- The number nearest to a / b, a tie rounded toward zero (R60). -/
def nearTie0 (a b : Int) : Int := if 0 ≤ a then ceilI (2 * a - b) (2 * b) else -(ceilI (-2 * a - b) (2 * b))

/-! Sources. -/

/-- The place of an input among the qualifications (R50). -/
def inputIx : TbInput → Nat
  | .refIn => 0
  | .ppsIn => 1
  | .pickIn => 2
  | .ptp p => 3 + p.val

/-- The inputs a source depends on (R49). -/
def srcInputs : Nat → List Nat
  | 1 => [0, 1]
  | 2 => [0, 2]
  | 3 => [3]
  | 4 => [4]
  | _ => []

/-- A source is enabled in TB_CONFIG (R49, R51, R69). -/
def srcEnabled (c : TbCfg) (k : Nat) : Bool :=
  match k with
  | 1 => bit c.sources 0 && !bit c.sources 2
  | 2 => bit c.sources 0 && bit c.sources 2
  | 3 => bit c.sources 1 && c.ptpPort == 0
  | 4 => bit c.sources 1 && c.ptpPort == 1
  | _ => false

/-- A source is enabled and qualified. (log 53: DEDUCED) -/
def srcReady (s : State) (k : Nat) : Bool := srcEnabled s.tb.cfg k && (srcInputs k).all fun i => nth s.tb.qual i false

/-- The boundary since which a source has been qualified. (log 53: DEDUCED) -/
def srcSince (s : State) (k : Nat) : Nat := (srcInputs k).foldl (fun n i => max n (nth s.tb.qualAt i 0)) 0

/-- The priority of a source (R49). -/
def srcPrio (k : Nat) : Nat := if k = 0 then 3 else if k < 3 then 1 else 2

/-- PTP is the selected source. -/
def onPtp (s : State) : Bool := s.tb.source == 3 || s.tb.source == 4

/-- The highest-priority source that is ready, where it has been qualified for 1 s (R52). -/
def srcBest (s : State) : Option Nat :=
  match [1, 2, 3, 4].find? (srcReady s) with
  | some k => if srcSince s k + 1000 ≤ s.sys.ord then some k else none
  | none => none

/-! States. -/

/-- The code of a timebase state (R70). -/
def TbState.code : TbState → Nat
  | .freerun => 0 | .acqFreq => 1 | .acqPhase => 2 | .locked => 3 | .holdover => 4

/-- A transition, with the source it leaves selected; it is reported (R53, R72). (log 49: DEDUCED) -/
def tbGo (st : TbState) (src : Nat) (s : State) : State :=
  let old := s.tb.state.code
  let s := tbmod (fun t => { t with state := st, source := src, changes := t.changes + flag (src != t.source) }) s
  ev 0x0301 (byte st.code ++ byte old ++ byte src ++ byte s.tb.label ++ leBytes 8 s.tb.pick) s

/-- The mean of the control word over the last second (R54). (log 50: DEDUCED) -/
def meanWord (t : Timebase) : Int := if t.words.isEmpty then t.word else tdivI t.words.sum t.words.length

/-- The selected source is lost (R53, R54): the control word is frozen at its mean over the second before. (log 50: DEDUCED) -/
def tbLost (s : State) : State :=
  let fresh := fun (t : Timebase) => { t with e := 0, es := 0, freq := 0, slewRem := 0, plan := none }
  let hold := fun (w : Int) (s : State) =>
    tbGo .holdover 0 (tbmod (fun t => { fresh t with word := w, holdOrd := s.sys.ord, holdTemp := s.sys.temp }) s)
  match s.tb.state with
  | .acqFreq => if s.tb.everLocked then hold s.tb.wordBefore s
      else tbGo .freerun 0 (tbmod (fun t => { fresh t with word := t.wordBefore }) s)
  | .acqPhase => hold (meanWord s.tb) s
  | .locked => hold (meanWord s.tb) s
  | _ => s

/-- Frequency acquisition begins on a source (R53), from the control word in force: the factory word in FREERUN, the frozen one in HOLDOVER, the
present one in LOCKED. -/
def tbAcquire (k : Nat) (s : State) : State := tbGo .acqFreq k (tbmod (fun t => { t with wordBefore := t.word }) s)

/-! Decisions. -/

/-- The whole seconds of an offset in ns; the remainder lies in (−0.5 s, +0.5 s] (R57). (log 50: DEDUCED) -/
def wholeSeconds (e : Int) : Int := ceilI (e - 500000000) 1000000000

/-- The step a module decides on for the remainder `e`, as of the end of the present pick (R60): k, and the plan. (log 47: DEDUCED) -/
def stepPlan (s : State) (total e : Int) : Int × StepPlan :=
  let k := nearTie0 e 125000
  let q := (k + 3) % 8 - 3
  let m := (k - q) / 8
  let sec := 1000 * ceilI ((s.tb.pick + 1) * 1000000 + e + 2000000) 1000000000
  let b := sec - 1 - m
  (k, ⟨s.sys.ord + (b - s.tb.pick).toNat, total, e - k * 125000, q, m⟩)

/-- A STEP announcement (R604). -/
def announceStep (k q m : Int) (effect : Nat) (s : State) : State :=
  announce 7 nullHandle effect (leSigned 4 k ++ leSigned 1 q ++ zeros 3 ++ leSigned 8 m) s

/-- The number of picks to the first second boundary at or after the boundary `n` ahead. (log 48: DEDUCED) -/
def toSecond (s : State) (n : Nat) : Nat := (s.tb.pick + n + 999) / 1000 * 1000 - s.tb.pick

/-- A renumbering by whole seconds is decided (R57). (log 48: DEDUCED) -/
def planSeconds (total es : Int) (s : State) : State :=
  if es = 0 ∨ s.sys.mode = .mirror then s
  else
    let s := tbmod (fun t => { t with secs := some ⟨s.sys.ord + 3, es, total⟩ }) s
    let n := toSecond s 3
    if s.tb.plan.any fun p => p.due + 1 == s.sys.ord + n then s else announceStep 0 0 (1000 * es) (s.tb.pick + n - 1) s

/-- The decision on entry to ACQ_PHASE (R56, R57): slew, or step once and slew the residual; whole seconds by renumbering; the label. In
MIRROR the module makes no step of its own (R612). (log 47: DEDUCED) -/
def tbDecide (total : Int) (s : State) : State :=
  let whole := wholeSeconds total
  let e := total - whole * 1000000000
  let es := if onPtp s then whole else 0
  let total := e + es * 1000000000
  let first := onPtp s && !s.tb.ptpDecided && s.tb.label != 2
  let s := tbmod (fun t => { t with e := e, es := es, labelDue := if first then some (s.sys.ord + 3) else t.labelDue
                                    ptpDecided := t.ptpDecided || onPtp s }) s
  if e.natAbs ≤ s.tb.cfg.threshold ∨ bit s.tb.cfg.flags 0 = false then
    planSeconds total es (tbmod (fun t => { t with slewRem := e * 100, plan := none }) s)
  else if s.sys.mode = .mirror then s
  else
    let (k, p) := stepPlan s total e
    let s := planSeconds total es (tbmod (fun t => { t with slewRem := 0, plan := some p }) s)
    let both := s.tb.secs.any fun c => p.due + 1 == s.sys.ord + toSecond s (c.from_ - s.sys.ord)
    announceStep k p.q (p.m + if both then 1000 * es else 0) (pickAt s p.due) s

/-! Events of the timebase. While D2 is off there is no timebase. -/

/-- An effect on a timebase that runs. -/
def withD2 (f : State → State) (s : State) : Host.Outcome State Fault Refusal := .next (if domOn s 2 then f s else s)

/-- A PTP message on the port and in the domain of TB_CONFIG (R50, R51). -/
def execPtpMessage (port : Fin 2) (domain : Nat) (m : PtpMsg) (s : State) : Host.Outcome State Fault Refusal :=
  withD2 (fun s =>
    if port.val = s.tb.cfg.ptpPort ∧ domain = s.tb.cfg.ptpDomain then
      match m with
      | .announce b => tbmod (fun t => { t with ptpBest := t.ptpBest.set port b, exchanges := if b then t.exchanges else t.exchanges.set port 0 }) s
      | .sync => s
      | .exchange => if nth s.tb.ptpBest port false then tbmod (fun t => { t with exchanges := lmod t.exchanges port (· + 1) }) s else s
    else s) s

/-- An input meets its condition (R50); PTP only with a master chosen and 16 exchanges completed. -/
def execSourceQualified (i : TbInput) (s : State) : Host.Outcome State Fault Refusal :=
  withD2 (fun s =>
    let ok := match i with
      | .ptp p => p.val == s.tb.cfg.ptpPort && nth s.tb.ptpBest p false && nth s.tb.exchanges p 0 ≥ 16
      | _ => true
    if ok && !nth s.tb.qual (inputIx i) false then
      tbmod (fun t => { t with qual := t.qual.set (inputIx i) true, qualAt := t.qualAt.set (inputIx i) s.sys.ord }) s
    else s) s

/-- An input is no longer qualified; a PTP master is chosen anew. -/
def disqualify (i : Nat) (s : State) : State :=
  tbmod (fun t => { t with qual := t.qual.set i false
                           ptpBest := if i < 3 then t.ptpBest else t.ptpBest.set (i - 3) false
                           exchanges := if i < 3 then t.exchanges else t.exchanges.set (i - 3) 0 }) s

/-- An input is lost (R50); where the selected source depends on it the timebase enters HOLDOVER (R53), and the control word at that moment ends
the second whose mean is frozen (R54). -/
def execSourceLost (i : TbInput) (word : Int) (s : State) : Host.Outcome State Fault Refusal :=
  withD2 (fun s =>
    let t := disqualify (inputIx i) s
    if (srcInputs s.tb.source).contains (inputIx i) then tbLost (tbmod (fun t => { t with words := (word :: t.words).take 1000 }) t) else t) s

/-- A source is selected in FREERUN or HOLDOVER (R52). -/
def execSourceSelect (code : Nat) (s : State) : Host.Outcome State Fault Refusal :=
  withD2 (fun s =>
    if (s.tb.state = .freerun ∨ s.tb.state = .holdover) ∧ srcBest s = some code then tbAcquire code s else s) s

/-- A higher-priority source displaces the present one in LOCKED (R52, R53). -/
def execSourceDisplace (code : Nat) (s : State) : Host.Outcome State Fault Refusal :=
  withD2 (fun s =>
    if s.tb.state = .locked ∧ bit s.tb.cfg.flags 1 = true ∧ srcPrio code < srcPrio s.tb.source ∧ srcReady s code = true
        ∧ srcSince s code + s.tb.cfg.holdOff * 1000 ≤ s.sys.ord then tbAcquire code s else s) s

/-- A phase error as measured, with the compensation of R65: that of the phase input moves its edges back, and PTP's asymmetry is part of the
path. (log 51: DEDUCED) -/
def compensated (s : State) (e : Int) : Int :=
  if onPtp s then e - s.tb.cfg.asym else if s.tb.source = 0 then e else e + tdivI s.tb.cfg.comp 100

/-- The frequency criterion of R55 is met (R53). -/
def execFreqAcquired (e : Int) (s : State) : Host.Outcome State Fault Refusal :=
  withD2 (fun s => if s.tb.state = .acqFreq then tbDecide (compensated s e) (tbGo .acqPhase s.tb.source s) else s) s

/-- The lock window in ns (R53). (log 51: DEDUCED) -/
def lockWindow (s : State) : Nat := if onPtp s then 1000 else 100

/-- |e| has stayed within the lock window for 10 s with no slew remaining (R53). -/
def execTimebaseLocked (s : State) : Host.Outcome State Fault Refusal :=
  withD2 (fun s =>
    if s.tb.state = .acqPhase ∧ s.tb.slewRem = 0 ∧ s.tb.plan = none ∧ s.tb.e.natAbs ≤ lockWindow s then
      tbGo .locked s.tb.source (tbmod (fun t => { t with everLocked := true }) s)
    else s) s

/-- In LOCKED |e| has exceeded the step threshold for 2 s (R53). -/
def execPhaseErrorExceeded (e : Int) (s : State) : Host.Outcome State Fault Refusal :=
  withD2 (fun s =>
    let e := compensated s e
    let r := e - wholeSeconds e * 1000000000
    if s.tb.state = .locked ∧ s.tb.cfg.threshold < r.natAbs then tbDecide e (tbGo .acqPhase s.tb.source s) else s) s

/-- While LOCKED on PTP whole seconds have held for 2 s (R57): the state does not change. -/
def execPtpSecondsPersist (es : Int) (s : State) : Host.Outcome State Fault Refusal :=
  withD2 (fun s =>
    if s.tb.state = .locked ∧ onPtp s = true ∧ s.tb.secs = none then planSeconds (s.tb.e + es * 1000000000) es s else s) s

/-- The millisecond within the second that an edge of a phase input stands for (R49, R65): a PPS_IN edge begins a second; a PICK_IN edge does where its pulse is
high for 400 ns or more, and otherwise follows the edge before; none before the first marker. -/
def edgeMs (pick : Bool) (width : Nat) (before : Option Nat) : Option Nat :=
  if !pick || 400 ≤ width then some 0 else before.map fun m => (m + 1) % 1000

/-- An edge of PPS_IN or PICK_IN with the width of its pulse in ns and its offset in ps from the nearest of the module's boundaries, that of the present pick or
the next (R65): compensated, it gives the PICK_IN offset, and, where it belongs to the selected source, the phase offset of R55 against the boundary
with the same millisecond. (log 51: DEDUCED) -/
def execPhaseInputEdge (pick : Bool) (width : Nat) (offset : Int) (s : State) : Host.Outcome State Fault Refusal :=
  withD2 (fun s =>
    let x := offset - s.tb.cfg.comp * 10
    let ms := edgeMs pick width s.tb.pickMs
    let s := if pick then tbmod (fun t => { t with pickInSum := t.pickInSum + x, pickInCount := t.pickInCount + 1, pickMs := ms }) s else s
    match ms with
    | some m =>
      let here := (s.tb.pick + flag (offset < 0)) % 1000
      let away : Int := (m + 1500 - here : Nat) % 1000 - 500
      if s.tb.source = (if pick then 2 else 1) then tbmod (fun t => { t with e := away * 1000000 + tdivI (-x) 1000 }) s else s
    | none => s) s

/-! The pick boundary. -/

/-- What the timebase compares in the pick that ends, the control word it ends with, and the slew made in it (R54, R55, R58). (log 47: DEDUCED) -/
def tbEnd (m : Option TbMeas) (s : State) : State :=
  let s := match m with
    | some m => if s.tb.source = 0 then s else
        tbmod (fun t => { t with e := compensated s m.e, es := if onPtp s then m.es else 0, freq := m.freq, word := m.word }) s
    | none => s
  let r := s.tb.slewRem
  let c : Int := s.tb.cfg.slew
  tbmod (fun t => { t with slewRem := if r > c then r - c else if r < -c then r + c else 0, words := (t.word :: t.words).take 1000 }) s

/-- A slew has brought |e| within the lock window in the pick that ended, where it was not before it (R53): ACQ_PHASE goes on. (log 49: DEDUCED) -/
def slewReached (before : Timebase) (s : State) : State :=
  if s.tb.state = .acqPhase ∧ before.state = .acqPhase ∧ before.slewRem ≠ 0 ∧ lockWindow s < before.e.natAbs ∧ s.tb.e.natAbs ≤ lockWindow s
  then tbGo .acqPhase s.tb.source s else s

/-- The steps announced up to the pick that ends have been made. (log 50: DEDUCED) -/
def dropSteps (s : State) : State :=
  { s with pair := { s.pair with held := s.pair.held.filter fun a => !(a.kind == 7 && a.effect ≤ s.tb.pick) } }

/-- The pending TB_SET_SECONDS due at the boundary that ends the present pick. (log 48: DEDUCED) -/
def setSecondsDue (s : State) : Option (Pend × Nat) :=
  (s.sched.find? fun p => p.kind == 23 && p.due == s.sys.ord + 1).bind fun p => match p.cmd with
    | .tbSetSeconds _ _ n => some (p, n)
    | _ => none

/-- The runs that some 2,100 boundaries back still need. -/
def keepRuns (o : Nat) (l : List PickRun) : List PickRun := l.take ((l.filter fun r => o ≤ r.ord + 2100).length + 1)

/-- The next pick begins: its number (R45-R48, R57, R60), the label, and EV_TIMEBASE_STEP in it; the step moves the phase of the reed's
taps (R207). A setting by TB_SET_SECONDS that has been accepted is made whatever the label is by then; the label PTP stays (R46, R57). (log 48: DEDUCED, 136: DESIGN CHOICE) -/
def tbAdvance (s : State) : State :=
  let old := s.tb.pick + 1
  let step := stepNow s
  let pend := setSecondsDue s
  let n1 : Int := old + (step.elim 0 (·.m))
  let second := n1 % 1000 = 0
  let secs := if second then s.tb.secs.filter fun c => c.from_ ≤ s.sys.ord + 1 else none
  let n2 := n1 + secs.elim 0 fun c => 1000 * c.es
  let labelled := second && s.tb.labelDue.any (· ≤ s.sys.ord + 1)
  let ptp := s.tb.label = 2 || labelled
  let set := pend.map (·.2)
  let new : Nat := match set with
    | some n => 1000 * n
    | none => n2.toNat
  let bare := step.any (·.bare)
  let moved := step.isSome || secs.isSome || set.isSome
  let host := !ptp && (set.isSome || bare)
  let q := step.elim 0 (·.q)
  let cause := if step.isSome && !bare then 1 else if set.isSome || (bare && !ptp) then 2 else 3
  let offset := match step with
    | some x => if x.bare then 0 else x.offset
    | none => if set.isSome then 0 else secs.elim 0 (·.offset)
  let resid := step.elim 0 fun x => if x.bare then 0 else x.resid
  let body := leBytes 8 old ++ leBytes 8 new
    ++ leSigned 8 offset ++ leSigned 4 resid ++ leSigned 1 q ++ byte cause ++ zeros 2
  let s := dropSteps s
  let s := tbmod (fun t => { t with
    pick := new, label := if labelled then 2 else if host then 1 else t.label
    labelDue := if labelled then none else t.labelDue
    plan := if step.isSome then none else t.plan, secs := if secs.isSome then none else t.secs
    slewRem := if step.isSome && !bare then resid * 100 else t.slewRem, steps := t.steps + flag moved
    runs := if q = 0 ∧ new = old then t.runs else keepRuns (s.sys.ord + 1) (⟨s.sys.ord + 1, new, (t.grid s.sys.ord + 8 - q).toNat⟩ :: t.runs) }) s
  let s := { s with sys := { s.sys with ord := s.sys.ord + 1 }
                    reed := { s.reed with offset := s.reed.offset - 12288 * q - 98304 * ((new : Int) - old) } }
  let s := match pend with
    | some (p, _) => { s with sched := s.sched.filter fun x => !(x.kind == 23 && x.due == p.due) }
    | none => s
  let s := if moved then ev 0x0302 body s else s
  if step.isSome && !bare && s.tb.state == .acqPhase then tbGo .acqPhase s.tb.source s else s

/-! The timing outputs (R64). -/

/-- PPS_OUT and PICK_OUT at a boundary: PPS_OUT rises at a pick 0 and stays high for 10 ms; PICK_OUT is high for 600 ns at a pick 0 and for 200 ns at any
other; a disabled output idles low (R64). -/
def timingOut (s : State) : State :=
  let f := s.tb.cfg.flags
  let zero := s.tb.pick % 1000 = 0
  tbmod (fun t => { t with
    ppsLeft := if !bit f 3 then 0 else if zero then 10 else t.ppsLeft - 1
    pickPulse := if !bit f 2 then 0 else if zero then 600 else 200 }) s

/-- REF_OUT carries 10 MHz: the timebase runs and the output is enabled (R64). -/
def refOut (s : State) : Bool := domOn s 2 && bit s.tb.cfg.flags 4

/-- The PICK_IN offset of the second that ends (R65), formed at pick 0. (log 51: DEDUCED) -/
def pickInEnd (s : State) : State :=
  if s.tb.pick % 1000 = 0 then
    tbmod (fun t => { t with pickInMean := if t.pickInCount = 0 then none else some (tdivI t.pickInSum t.pickInCount)
                             pickInSum := 0, pickInCount := 0 }) s
  else s

/-! Phase trims. -/

/-- The limit of a cumulative trim (R66). (log 52: DEDUCED) -/
def trimTop (obj : Nat) : Int := if obj = 0 then 500000 else 5086

/-- The position a movement of `n` steps from `a` ends at, in converter periods (R66, R67): 32 periods a step; for the pick, while the slew
runs, no faster than 10 ppm less the slew rate. (log 52: DEDUCED) -/
def moveEnd (s : State) (obj a n : Nat) : Nat :=
  let c := s.tb.cfg.slew
  if obj ≠ 0 ∨ s.tb.slewRem = 0 ∨ c ≤ 385 then a + 32 * n
  else
    let t := (s.sys.ord + (s.tb.slewRem.natAbs + c - 1) / c) * 98304
    if c ≥ 1000 then max a t + 32 * n
    else
      let den := 10 * (1000 - c)
      let k := (t - a) * den / 196608
      if n ≤ k then a + (n * 196608 + den - 1) / den else max a t + 32 * (n - k)

/-- The moves of an object. (log 52: DEDUCED) -/
def movesOf (s : State) (obj : Nat) : List TrimMove := s.tb.moves.filter fun m => m.obj == obj

/-- At a slew of 10 ppm the pick phase waits until the slew ends (R67). -/
def moveWaits (s : State) (obj : Nat) : Bool := obj == 0 && s.tb.slewRem != 0 && decide (1000 ≤ s.tb.cfg.slew)

/-- Movements that come due start, in the order of their target picks, one of an object at a time (R66-R68). (log 52: DEDUCED) -/
def movesStart (s : State) : State :=
  let go := fun (l : List TrimMove) (m : TrimMove) =>
    if m.due ≤ s.sys.ord && !(l.any fun x => x.obj == m.obj) && (m.running || !moveWaits s m.obj) then l ++ [{ m with running := true }] else l ++ [m]
  tbmod (fun t => { t with moves := t.moves.foldl go [] }) s

/-- The start of a movement due at the boundary `due`, where the movements `l` before it are done one after another (R67, R68). (log 52: DEDUCED) -/
def moveFrom (s : State) (obj due : Nat) (l : List TrimMove) : Nat :=
  let slew := if moveWaits s obj then (s.sys.ord + (s.tb.slewRem.natAbs + s.tb.cfg.slew - 1) / s.tb.cfg.slew) * 98304 else 0
  l.foldl (fun n m => max n (moveEnd s obj m.start m.steps.natAbs)) (max (due * 98304) slew)

/-- A movement takes its place among those of its object in the order of the target picks; those after it start no sooner than it ends (R68). (log 52: DEDUCED) -/
def moveInsert (s : State) (m : TrimMove) (l : List TrimMove) : List TrimMove :=
  let before := l.filter fun x => x.obj != m.obj || x.running || x.due ≤ m.due
  let after := l.filter fun x => !(x.obj != m.obj || x.running || x.due ≤ m.due)
  after.foldl (fun l x => l ++ [{ x with start := moveFrom s x.obj x.due (l.filter fun y => y.obj == x.obj) }]) (before ++ [m])

/-- A phase movement ends, and a waiting one of the same object starts (R66, R68). -/
def execPhaseStepComplete (obj : Option (Fin 8)) (s : State) : Host.Outcome State Fault Refusal :=
  withD2 (fun s =>
    let k := obj.elim 0 fun w => w.val + 1
    match (movesOf s k).head? with
    | some m =>
      if m.running then
        movesStart (tbmod (fun t => { t with trims := lmod t.trims k (· + m.steps), moves := t.moves.eraseP fun x => x.obj == k }) s)
      else s
    | none => s) s

/-- TB_PHASE_STEP (R66, R68). (log 52: DEDUCED) -/
def execTbPhaseStep (h : Hdr) (obj : Handle) (target : Nat) (steps : Int) (s : State) : Host.Outcome State Fault Refusal :=
  serve (.tbPhaseStep h obj target steps) 0x0303 .installer .ctl h obj (fun s => chk do
    need (inI (-5086) steps 5086 && steps != 0) .badParam
    let due ← get! .badParam (dueOf s target)
    if obj != nullHandle then discard (objIs s obj 2)
    let k := if obj = nullHandle then 0 else hIndex obj + 1
    let base := (movesOf s k).foldl (fun (n : Int) m => n + m.steps) (nth s.tb.trims k 0)
    let final := max (-(trimTop k)) (min (trimTop k) (base + steps))
    let start := moveFrom s k due ((movesOf s k).filter fun m => m.running || m.due ≤ due)
    let move : TrimMove := ⟨k, false, due, start, final - base⟩
    let t := if final = base then s else tbmod (fun t => { t with moves := moveInsert s move t.moves }) s
    .ok (if final = base + steps then .ok else .limited,
      leBytes 8 (pickAt s (start / 98304)) ++ leBytes 4 (start % 98304) ++ leSigned 4 final, t)) s

/-! Commands. -/

/-- The checks of TB_CONFIG's fields (R69). -/
def tbOk (c : TbCfg) : Bool :=
  only c.sources 3 && c.ptpPort < 2 && c.ptpDomain < 128 && only c.flags 5 && inR 100 c.threshold 1000000 && 10 ≤ c.slew
    && inR 1 c.holdOff 600 && c.comp ≤ 1000000 && inI (-100000) c.asym 100000

/-- A TB_CONFIG as it takes effect (R58). (log 50: DEDUCED) -/
def tbClip (c : TbCfg) : TbCfg := { c with slew := min c.slew 1000 }

/-- TB_CONFIG (R69): at pick p + 2. -/
def execTbConfig (h : Hdr) (c : TbCfg) (s : State) : Host.Outcome State Fault Refusal :=
  serve (.tbConfig h c) 0x0301 .installer .ctl h nullHandle (fun s => chkRec 0 s do
    need (tbOk c) .badParam
    cfgOk s
    .ok (if c.slew ≤ 1000 then .ok else .limited, [], schedQ ⟨s.sys.ord + 2, 0, nullHandle, 21, .tbConfig h (tbClip c), 0⟩ s)) s

/-- A TB_CONFIG takes effect (R69): a source newly enabled counts as qualified from now, one no longer enabled as lost. A change of the PTP
port or domain begins PTP's qualification anew. (log 53: DEDUCED) -/
def applyTbConfig (c : TbCfg) (s : State) : State :=
  let old := s.tb.cfg
  let s := if old.ptpPort = c.ptpPort ∧ old.ptpDomain = c.ptpDomain then s else disqualify 4 (disqualify 3 s)
  let new := [1, 2, 3, 4].filter fun k => srcEnabled c k && !srcEnabled old k
  let at_ := (new.flatMap srcInputs).foldl (fun l i => l.set i s.sys.ord) s.tb.qualAt
  let s := tbmod (fun t => { t with cfg := c, qualAt := at_ }) s
  if s.tb.source ≠ 0 ∧ srcReady s s.tb.source = false then tbLost s else s

/-- TB_SET_SECONDS (R48). A secondary renumbers by STEP (R612). (log 48: DEDUCED, 132: DEDUCED) -/
def execTbSetSeconds (h : Hdr) (target secs : Nat) (s : State) : Host.Outcome State Fault Refusal :=
  serve (.tbSetSeconds h target secs) 0x0304 .installer .ctl h nullHandle (fun s => chk do
    need (1000 * (secs + 1) ≤ 2 ^ 64) .badParam
    let due ← get! .badParam (dueOf s target)
    need (pickAt s due % 1000 == 0) .badParam
    need (s.tb.label != 2) .wrongMode
    okay (posReply s due 0) (announceStep 0 0 (1000 * secs - pickAt s due) (pickAt s due - 1)
      (schedQ ⟨due, 0, nullHandle, 23, .tbSetSeconds h target secs, 0⟩ s))) s

/-- The number of the scheduled step pick, the module's own or one the owner has announced, or 0 (R70, R612). -/
def stepPending (s : State) : Nat :=
  match (if s.sys.mode = .mirror ∨ s.pair.st = .solo then s.pair.held.find? fun a => a.kind == 7 && (fs a.body 0 4 != 0 || fs a.body 8 8 == 0) else none) with
  | some a => a.effect
  | none => s.tb.plan.elim 0 fun p => pickAt s p.due

/-- The TB_STATUS reply (R70). (log 49: DEDUCED) -/
def tbStatusBytes (s : State) : List Byte :=
  let t := s.tb
  byte t.state.code ++ byte t.source ++ byte t.label
    ++ byte (flagBits [nth t.qual 0 false, nth t.qual 1 false, nth t.qual 2 false, nth t.qual 3 false || nth t.qual 4 false])
    ++ leBytes 8 (now s) ++ leSigned 8 t.e ++ leSigned 4 t.freq ++ leSigned 4 (tdivI t.slewRem 100)
    ++ leCount 4 (if t.state = .holdover then (s.sys.ord - t.holdOrd) / 1000 else 0) ++ leCount 2 t.steps ++ leCount 2 t.changes
    ++ leSigned 4 (nth t.trims 0 0) ++ leSigned 4 (t.pickInMean.getD (-2147483648))
    ++ leBytes 8 (stepPending s)

/-- TB_STATUS (R70). -/
def execTbStatus (h : Hdr) (s : State) : Host.Outcome State Fault Refusal :=
  serve (.tbStatus h) 0x0302 .operator .fw h nullHandle (fun s => chk (okay (tbStatusBytes s) s)) s

end Sys2Proof.Machine
end

