-- ==== Sys2Proof/Machine/Clocks.lean ====
section
/-! DEFINITION. The core clock and the audio PLL (R76-R83, R98-R100, R102): spread settings, loss of the MDLL, of the TCXO and of the audio
PLL. -/

namespace Sys2Proof.Machine

/-- Changes the clock tree. -/
def ckmod (f : Clocks → Clocks) (s : State) : State := { s with clk := f s.clk }

/-- A measurement of the backup ring oscillator against the TCXO (R80, R100): a free frequency within 600 MHz ± 3 %. (log 122: DESIGN CHOICE) -/
def measureRing (s : State) : State := ckmod (fun c => { c with ringKHz := 582000 + (draw s).toNat % 36001 }) (drawn s)

/-- The body of EV_CLOCK_DEGRADED and EV_CLOCK_RESTORED (R102). -/
def clkBody (s : State) (cause weaves pick : Nat) : List Byte :=
  byte cause ++ zeros 1 ++ leBytes 2 weaves ++ leBytes 4 (loadOf s) ++ leBytes 8 pick

/-- The spread settings (R77). -/
def spreadOk (mode amount : Nat) : Bool :=
  (mode == 0 && amount == 0) || (mode == 1 && amount ≤ 20) || (mode == 2 && amount ≤ 10)

/-- CLK_CONFIG (R79): checked against the limit it would give, DEGRADED or not. -/
def execClkConfig (h : Hdr) (mode amount target : Nat) (s : State) : Host.Outcome State Fault Refusal :=
  serve (.clkConfig h mode amount target) 0x0310 .installer .ctl h nullHandle (fun s => chk do
    need (spreadOk mode amount) .badParam
    let due ← get! .badParam (dueOf s target)
    need (loadOf s ≤ fullLimit mode amount) .conflict
    okay (posReply s due 0 ++ leBytes 4 (fullLimit mode amount)) (schedQ ⟨due, 0, nullHandle, 24, .clkConfig h mode amount target, 0⟩ s)) s

/-- A spread setting takes effect, or is held until the core clock is NORMAL (R79). -/
def applyClkConfig (mode amount : Nat) (s : State) : State :=
  ckmod (fun c => if c.state = .normal then { c with mode := mode, amount := amount, held := none } else { c with held := some (mode, amount) }) s

/-- A spread setting is pending. -/
def spreadPend (s : State) : Bool := s.clk.held.isSome || (pendOf s nullHandle 24).isSome

/-- The CLK_STATUS reply (R100). -/
def clkStatusBytes (s : State) : List Byte :=
  let c := s.clk
  byte c.state.code ++ byte c.mode ++ byte c.amount ++ byte (flagBits [c.mdll, c.audio, spreadPend s]) ++ leBytes 4 (coreBudget s)
    ++ leBytes 4 (admLimit s) ++ leBytes 4 (loadOf s) ++ leBytes 4 c.ringKHz ++ leCount 2 c.retries ++ leCount 2 c.degrades ++ leBytes 8 (now s)

/-- CLK_STATUS (R100). -/
def execClkStatus (h : Hdr) (s : State) : Host.Outcome State Fault Refusal :=
  serve (.clkStatus h) 0x0311 .operator .fw h nullHandle (fun s => chk (okay (clkStatusBytes s) s)) s

/-- The core clock enters DEGRADED (R81). (log 54: DEDUCED) -/
def degrade (s : State) : State :=
  ckmod (fun c => { c with state := .degraded, mdll := false, retries := 0, degrades := c.degrades + 1 }) s

/-- The MDLL is out of lock (R80-R82): misses of this pick and the next do not count; the shedding and the event come at the next
boundary. (log 54: DEDUCED) -/
def execMdllUnlock (s : State) : Host.Outcome State Fault Refusal :=
  withD2 (fun s =>
    if s.clk.mdll = false then s
    else match s.clk.state with
      | .normal =>
        let s := ckmod (fun c => { c with shedDue := true }) (degrade s)
        { s with weaves := s.weaves.map fun x => (x.1, { x.2 with exempt := s.sys.ord + 1 }) }
      | .returning => degrade s
      | _ => s) s

/-- The MDLL is locked (R76, R81). -/
def execMdllLock (s : State) : Host.Outcome State Fault Refusal :=
  withD2 (ckmod fun c => match c.state with
    | .degraded => { c with mdll := true, state := .returning }
    | .normal => { c with mdll := true }
    | _ => c) s

/-- The retry timer expires in DEGRADED (R81): the MDLL begins to acquire again. -/
def execMdllRetryTimer (s : State) : Host.Outcome State Fault Refusal :=
  withD2 (ckmod fun c => if c.state = .degraded then { c with retries := c.retries + 1 } else c) s

/-- The TCXO has stopped (R81): every warp is suspended with its domain left powered, and only a reset leaves FAULT. (log 54: DEDUCED, 137: DESIGN CHOICE) -/
def execTcxoFail (s : State) : Host.Outcome State Fault Refusal :=
  withD2 (fun s =>
    if s.clk.state = .fault then s
    else
      let (_, s) := sweep [] 0 (ckmod (fun c => { c with state := .fault, mdll := false }) s)
      ev 0x0310 (clkBody s 3 0 s.tb.pick) s) s

/-- The audio PLL is out of lock (R99): the master ports hold from the next boundary. (log 54: DEDUCED) -/
def execAudioPllUnlock (s : State) : Host.Outcome State Fault Refusal :=
  withD2 (fun s =>
    if s.clk.audio then ev 0x0310 (clkBody s 2 0 (s.tb.pick + 1)) (ckmod (fun c => { c with audio := false, audioHold := true }) s) else s) s

/-- The audio PLL is locked again (R99): the master ports restart at the next boundary. -/
def execAudioPllLock (s : State) : Host.Outcome State Fault Refusal :=
  withD2 (ckmod fun c => { c with audio := true }) s

/-- The audio PLL at a pick boundary (R99). (log 54: DEDUCED) -/
def audioBoundary (s : State) : State :=
  let s := pllBoundary s
  if s.clk.audio && s.clk.audioHold then ev 0x0311 (clkBody s 2 0 s.tb.pick) (ckmod (fun c => { c with audioHold := false }) s) else s

/-- The core clock at a pick boundary (R81-R83): the shedding of the first boundary since the switch to the ring, which a module in MIRROR
leaves to its owner (R612), then the return. (log 54: DEDUCED) -/
def coreBoundary (s : State) : State :=
  let s := if s.clk.shedDue then
      let s := ckmod (fun c => { c with shedDue := false }) s
      let n := s.clk.shedOrder.length
      let s := if s.clk.state = .degraded ∧ mirroring s = false then shedLoop 512 s else s
      ev 0x0310 (clkBody s 1 (s.clk.shedOrder.length - n) s.tb.pick) s
    else s
  if s.clk.state = .returning then
    let s := ckmod (fun c => { c with state := .normal, mode := (c.held.getD (c.mode, c.amount)).1, amount := (c.held.getD (c.mode, c.amount)).2
                                      held := none }) s
    let shed := fun (s : State) => (s.reg.objs.filter fun o => o.cls == 4 && o.shed).length
    let n := shed s
    let s := if mirroring s = true then ckmod (fun c => { c with shedOrder := stillShed s }) s else readmitAll s
    ev 0x0311 (clkBody s 1 (n - shed s) s.tb.pick) s
  else s

end Sys2Proof.Machine
end

