-- ==== Sys2Proof/Machine/Ports.lean ====
section
/-! DEFINITION. Aerial ports, the heddle matrix and DC feeds (R104-R129): loop modes, routes, the feed state machine with its faults and
ceilings. -/

namespace Sys2Proof.Machine

/-- The handle of an aerial port. -/
def portH (p : Nat) : Handle := fixedHandle 1 p

/-- Changes a port's feed. -/
def feedMod (p : Nat) (f : Feed → Feed) (s : State) : State := pmod p (fun x => { x with feed := f x.feed }) s

/-- The LIMITS in effect: the hardware ceilings where the record is ABSENT (R121, R562). -/
def limitsNow (s : State) : Limits := s.recs.limits.getD limitsReset

/-- The LIMITS of a port. -/
def portLimit (s : State) (p : Nat) : PortLimit := nth (limitsNow s).ports p ⟨350, -80, 0⟩

/-! Events and faults. -/

/-- The code of a feed state (R128). -/
def FeedState.code : FeedState → Nat
  | .off => 0 | .starting => 1 | .on => 2 | .foldback => 3 | .retryWait => 4 | .latched => 5 | .hold => 6

/-- The body of EV_FEED_STATE and EV_PORT_FAULT (R129). -/
def portBody (s : State) (p code detail : Nat) : List Byte :=
  let f := (portAt s p).feed
  handleBytes (portH p) ++ byte code ++ byte detail ++ leBytes 2 f.ma ++ leBytes 2 f.mv ++ byte f.episodes ++ zeros 1 ++ leBytes 8 (now s)

/-- A feed changes state (R116). (log 62: DEDUCED) -/
def feedGo (p : Nat) (st : FeedState) (s : State) : State :=
  let old := (portAt s p).feed.state
  let s := feedMod p (fun f => { f with state := st, queued := f.queued && st == .hold, vfeed := f.vfeed && st == .hold, since := s.sys.ord }) s
  ev 0x0401 (portBody s p st.code old.code) s

/-- The detail of EV_PORT_FAULT (R129). -/
def faultDetail (x : Nat × Nat × Nat) (raised : Bool) : Nat := flag raised + 2 * x.2.1 + 16 * x.2.2

/-- Raises a fault (code, source, cause); it is reported once (R129). -/
def faultRaise (p : Nat) (x : Nat × Nat × Nat) (s : State) : State :=
  if (portAt s p).faults.contains x then s
  else ev 0x0402 (portBody s p x.1 (faultDetail x true)) (pmod p (fun a => { a with faults := a.faults ++ [x] }) s)

/-- Clears the faults a test picks out. -/
def faultClear (p : Nat) (b : Nat × Nat × Nat → Bool) (s : State) : State :=
  let l := (portAt s p).faults.filter b
  let s := pmod p (fun a => { a with faults := a.faults.filter fun x => !b x }) s
  l.foldl (fun s x => ev 0x0402 (portBody s p x.1 (faultDetail x false)) s) s

/-- The feed's own faults: those not of RF measurement. -/
def feedFault (x : Nat × Nat × Nat) : Bool := x.2.1 == 0

/-- BACKFEED is raised on a port (R119). -/
def backfed (s : State) (p : Nat) : Bool := (portAt s p).faults.contains (4, 0, 2)

/-! Feeds. -/

/-- The set voltage in mV. -/
def setMv (flags : Nat) : Nat := if bit flags 1 then 12000 else 5000

/-- A feed waits its turn to start, in HOLD or, where it was enabled while D6 was off, in OFF (R120). (log 140: DEDUCED) -/
def Feed.waits (f : Feed) : Bool := f.queued && (f.state == .hold || f.state == .off)

/-- The lowest port whose feed waits its turn starts (R120). (log 140: DEDUCED) -/
def feedTurn (s : State) : State :=
  match (List.range 4).find? fun p => (portAt s p).feed.waits with
  | some p =>
    let was := (portAt s p).feed.vfeed
    let s := feedGo p .starting s
    if was then faultClear p (· == (4, 0, 3)) s else s
  | none => s

/-- The enabled feeds begin to start when D6 has come on (R120, R593), but for those that wait for VFEED (R116). (log 140: DEDUCED) -/
def feedsOn (s : State) : State :=
  feedTurn ((List.range 4).foldl (fun s p => feedMod p (fun f => { f with queued := bit f.flags 0 && !f.vfeed, total := 0 }) s) s)

/-- D6 is switched off (R116): every feed but one that is OFF goes to HOLD; one that waits for VFEED waits for it still. (log 62: DEDUCED) -/
def feedsOff (s : State) : State :=
  (List.range 4).foldl (fun s p =>
    let f := (portAt s p).feed
    feedMod p (fun f => { f with queued := false }) (if f.state = .off ∨ f.state = .hold then s else feedGo p .hold s)) s

/-- A limit brought to a port's ceiling, in 25 mA. (log 59: DEDUCED) -/
def ceilLimit (s : State) (p limit : Nat) : Nat := min limit ((portLimit s p).feed / 25)

/-- The limit another port's enabled feed may take, in 25 mA: in force, or pending, whichever is more. (log 60: DEDUCED) -/
def otherLimit (s : State) (p : Nat) : Nat :=
  let f := (portAt s p).feed
  let pend := match pendOf s (portH p) 35 with
    | some x => match x.cmd with
      | .feedSet _ _ flags limit _ => if bit flags 0 then limit else 0
      | _ => 0
    | none => 0
  max (if bit f.flags 0 then f.limit else 0) pend

/-- The allowance left to a port's feed, in 25 mA (R123). (log 60: DEDUCED) -/
def allowance (s : State) (p : Nat) : Nat :=
  (limitsNow s).allowance / 25 - (((List.range 4).filter fun k => k != p).map (otherLimit s)).sum

/-- FEED_SET (R119, R123, R124, R126). (log 60: DEDUCED) -/
def execFeedSet (h : Hdr) (port : Handle) (flags limit target : Nat) (s : State) : Host.Outcome State Fault Refusal :=
  serve (.feedSet h port flags limit target) 0x0410 .installer .ctl h port (fun s => chkRec 0 s do
    need (only flags 4 && inR 1 limit 14) .badParam
    let due ← get! .badParam (dueOf s target)
    let _ ← objIs s port 1
    let p := hIndex port
    need (!(bit flags 1 && bit (portLimit s p).flags 0)) .badParam
    need (!(bit flags 0 && backfed s p)) .conflict
    cfgOk s
    need (!bit flags 0 || 0 < allowance s p) .noResource
    let l := if bit flags 0 then min (ceilLimit s p limit) (allowance s p) else ceilLimit s p limit
    .ok (if l = limit then .ok else .limited, posReply s due 0 ++ leBytes 2 (25 * l),
      sched ⟨due, 0, port, 35, .feedSet h port flags l target, 0⟩ s)) s

/-- What the enabled feeds of the other ports leave of the sum of limits, in 25 mA (R121, R124). -/
def sumLeft (s : State) (p : Nat) : Nat :=
  (limitsNow s).allowance / 25 - (((List.range 4).filter fun k => k != p && bit (portAt s k).feed.flags 0).map fun k => (portAt s k).feed.limit).sum

/-- A FEED_SET takes effect (R40, R116, R126): within the LIMITS then in effect and what the other feeds leave of their sum (R121, R124); where
that is less than 25 mA the feed is not enabled. While D6 is off only the settings change. (log 62: DEDUCED) -/
def applyFeedSet (p flags limit : Nat) (s : State) : State :=
  let fl := if bit flags 1 && bit (portLimit s p).flags 0 then flags - 2 else flags
  let on := bit fl 0 && 0 < sumLeft s p
  let fl := if bit fl 0 && !on then fl - 1 else fl
  let l := if on then min (ceilLimit s p limit) (sumLeft s p) else ceilLimit s p limit
  let s := feedMod p (fun f => { f with flags := fl, limit := l, queued := f.queued && on }) s
  let f := (portAt s p).feed
  if on then (if f.state = .off ∧ f.queued = false ∧ domOn s 6 = true then feedGo p .starting s else s)
  else if f.state = .off then s
  else faultClear p feedFault (feedGo p .off s)

/-- FEED_RESET (R119, R127): at pick p + 2. (log 141: DESIGN CHOICE) -/
def execFeedReset (h : Hdr) (port : Handle) (s : State) : Host.Outcome State Fault Refusal :=
  serve (.feedReset h port) 0x0411 .installer .ctl h port (fun s => chk do
    let _ ← objIs s port 1
    need ((portAt s (hIndex port)).feed.state == .latched) .wrongMode
    need (!backfed s (hIndex port)) .conflict
    okay [] (schedQ ⟨s.sys.ord + 2, 0, port, 38, .feedReset h port, 0⟩ s)) s

/-- A FEED_RESET takes effect (R116). (log 23: DESIGN CHOICE) -/
def applyFeedReset (p : Nat) (s : State) : State :=
  if (portAt s p).feed.state = .latched then
    faultClear p feedFault (feedGo p .starting (feedMod p (fun f => { f with episodes := 0 }) s))
  else s

/-- New LIMITS bring the settings in force within them (R124): port by port in ascending order, each within what the others leave of the
allowance; a feed left with less than 25 mA is disabled. (log 61: DEDUCED) -/
def lowerFeeds (s : State) : State :=
  (List.range 4).foldl (fun s p =>
    let f := (portAt s p).feed
    let below := (((List.range p).filter fun k => bit (portAt s k).feed.flags 0).map fun k => (portAt s k).feed.limit).sum
    let left := (limitsNow s).allowance / 25 - below
    let l := if bit f.flags 0 then min (ceilLimit s p f.limit) left else ceilLimit s p f.limit
    let fl := if bit f.flags 1 && bit (portLimit s p).flags 0 then f.flags - 2 else f.flags
    if l = f.limit ∧ fl = f.flags then s
    else if bit fl 0 = true ∧ l = 0 then
      let s := applyFeedSet p (fl - 1) f.limit s
      if f.state = .off then ev 0x0401 (portBody s p 0 0) s else s
    else
      let s := feedMod p (fun f => { f with limit := l, flags := fl }) s
      ev 0x0401 (portBody s p f.state.code f.state.code) s) s

/-! Feed events: each has its effect in the states the table names (R116-R120). -/

/-- A feed event with what is measured at it. -/
def feedEvent (p : Fin 4) (m : FeedMeas) (b : Feed → Bool) (f : State → State) (s : State) : Host.Outcome State Fault Refusal :=
  .next (if domOn s 6 && b (portAt s p).feed then f (feedMod p (fun x => { x with ma := m.ma, mv := m.mv }) s) else s)

/-- The ramp is complete (R116). -/
def execFeedRampComplete (p : Fin 4) (m : FeedMeas) (s : State) : Host.Outcome State Fault Refusal :=
  feedEvent p m (fun f => f.state == .starting) (feedGo p .on) s

/-- The current has been beyond the limit for 10 µs (R116): an episode is counted, up to 4 (R128). -/
def execFeedOvercurrent (p : Fin 4) (m : FeedMeas) (s : State) : Host.Outcome State Fault Refusal :=
  feedEvent p m (fun f => f.state == .starting || f.state == .on)
    (fun s => feedGo p .foldback (feedMod p (fun f => { f with episodes := min 4 (f.episodes + 1), total := f.total + 1 }) s)) s

/-- The output is back at 90 % of the set voltage within the fold window (R116). -/
def execFeedFoldRecovered (p : Fin 4) (m : FeedMeas) (s : State) : Host.Outcome State Fault Refusal :=
  feedEvent p m (fun f => f.state == .foldback && 10 * m.mv ≥ 9 * setMv f.flags) (feedGo p .on) s

/-- The fold window ends (R116, R117). -/
def execFeedFoldWindowEnd (p : Fin 4) (m : FeedMeas) (s : State) : Host.Outcome State Fault Refusal :=
  feedEvent p m (fun f => f.state == .foldback) (fun s =>
    let f := (portAt s p).feed
    faultRaise p (if m.mv < 1000 then (2, 0, 0) else (4, 0, 1))
      (feedGo p (if f.episodes < 4 ∧ bit f.flags 2 = true then .retryWait else .latched) s)) s

/-- The retry timer expires (R116). -/
def execFeedRetryTimer (p : Fin 4) (m : FeedMeas) (s : State) : Host.Outcome State Fault Refusal :=
  feedEvent p m (fun f => f.state == .retryWait && decide (f.since + 1000 ≤ s.sys.ord)) (feedGo p .starting) s

/-- The output is above its limit for 10 µs (R116). -/
def execFeedOvervoltage (p : Fin 4) (m : FeedMeas) (s : State) : Host.Outcome State Fault Refusal :=
  feedEvent p m (fun f => (f.state == .starting || f.state == .on || f.state == .foldback) && m.mv > (if bit f.flags 1 then 13500 else 5600))
    (fun s => faultRaise p (4, 0, 2) (feedGo p .latched s)) s

/-- VFEED is outside 11.4 V to 14.6 V for 1 ms (R116). -/
def execVfeedFault (s : State) : Host.Outcome State Fault Refusal :=
  .next (if domOn s 6 then
    (List.range 4).foldl (fun s p =>
      match (portAt s p).feed.state with
      | .off => s
      | .latched => s
      | .hold => feedMod p (fun f => { f with queued := false, vfeed := true }) s
      | _ => feedMod p (fun f => { f with vfeed := true }) (faultRaise p (4, 0, 3) (feedGo p .hold s))) s
    else s)

/-- VFEED is within 12.0 V to 14.0 V for 100 ms (R116): the feeds it held start in turn. -/
def execVfeedReturn (s : State) : Host.Outcome State Fault Refusal :=
  .next (if domOn s 6 then
    feedTurn ((List.range 4).foldl (fun s p => feedMod p (fun f => { f with queued := f.queued || (f.state == .hold && f.vfeed) }) s) s)
    else s)

/-- 10 ms after the last start the next feed in turn starts (R120). -/
def execFeedStartStagger (p : Fin 4) (m : FeedMeas) (s : State) : Host.Outcome State Fault Refusal :=
  feedEvent p m (fun f => f.waits) feedTurn s

/-- 60 s of ON clear the episode count (R116). -/
def execFeedEpisodeClear (p : Fin 4) (s : State) : Host.Outcome State Fault Refusal :=
  .next (if (portAt s p).feed.state = .on ∧ (portAt s p).feed.since + 60000 ≤ s.sys.ord then feedMod p (fun f => { f with episodes := 0 }) s else s)

/-- 1 s of ON clears SHORT and OVERCURRENT (R117). -/
def execFeedFaultClear (p : Fin 4) (m : FeedMeas) (s : State) : Host.Outcome State Fault Refusal :=
  feedEvent p m (fun f => f.state == .on && decide (f.since + 1000 ≤ s.sys.ord)) (faultClear p fun x => x == (2, 0, 0) || x == (4, 0, 1)) s

/-- The current is below 5 mA for 100 ms (R118). -/
def execFeedOpenDetect (p : Fin 4) (m : FeedMeas) (s : State) : Host.Outcome State Fault Refusal :=
  feedEvent p m (fun f => f.state == .on && bit f.flags 3 && m.ma < 50) (faultRaise p (1, 0, 0)) s

/-- The current is at or above 7 mA for 100 ms (R118). -/
def execFeedOpenClear (p : Fin 4) (m : FeedMeas) (s : State) : Host.Outcome State Fault Refusal :=
  feedEvent p m (fun _ => m.ma ≥ 70) (faultClear p (· == (1, 0, 0))) s

/-- The feed drives nothing, and the port's DC voltage is measured (R119). (log 62: DEDUCED) -/
def Feed.idle (f : Feed) : Bool := f.state == .off || f.state == .latched || f.state == .hold

/-- DC above 1.0 V for 10 ms on a port whose feed drives nothing (R119). -/
def execPortBackfeedDetect (p : Fin 4) (m : FeedMeas) (s : State) : Host.Outcome State Fault Refusal :=
  feedEvent p m (fun f => f.idle && m.mv > 1000) (faultRaise p (4, 0, 2)) s

/-- DC below 0.5 V for 10 ms (R119). -/
def execPortBackfeedClear (p : Fin 4) (m : FeedMeas) (s : State) : Host.Outcome State Fault Refusal :=
  feedEvent p m (fun f => f.idle && m.mv < 500) (faultClear p (· == (4, 0, 2))) s

/-- What the feeds measured in the pick that ends (R114). -/
def feedsEnd (l : List FeedMeas) (s : State) : State :=
  if domOn s 6 then (l.zipIdx.take 4).foldl (fun s x => feedMod x.2 (fun f => { f with ma := x.1.ma, mv := x.1.mv }) s) s else s

/-! Ports and routes. -/

/-- PORT_CONFIG (R125). -/
def execPortConfig (h : Hdr) (port : Handle) (loop flags target : Nat) (s : State) : Host.Outcome State Fault Refusal :=
  serve (.portConfig h port loop flags target) 0x0401 .installer .ctl h port (fun s => chkRec 0 s do
    need (loop < 2 && only flags 1) .badParam
    let due ← get! .badParam (dueOf s target)
    let _ ← objIs s port 1
    cfgOk s
    okay (posReply s due 0) (sched ⟨due, 0, port, 34, .portConfig h port loop flags target, 0⟩ s)) s

/-- The warps routed from a port (R19, R20). -/
def warpsOf (s : State) (p : Nat) : List Nat := (List.range 8).filter fun w => routeOf s w == portH p

/-- A route, preset or loop mode change falls on the present boundary: the blanking of a warp is no shed (R184). -/
def spoilShed (w : Nat) (s : State) : State := cmod w (fun c => { c with spoil := true }) s

/-- A PORT_CONFIG takes effect (R40, R108): a change of the loop mode marks every warp routed from the port. -/
def applyPortConfig (p loop flags : Nat) (s : State) : State :=
  let change := (portAt s p).loop != loop && domOn s 6
  let s := pmod p (fun x => { x with loop := loop, shared := bit flags 0 }) s
  if change then (warpsOf s p).foldl (fun s w => if domOn s (hostDomain 2 w) then spoilShed w (blank w 100 s) else s) s else s

/-- A change of a port's loop mode is pending (R128). -/
def loopPend (s : State) (p : Nat) : Bool := (pendOf s (portH p) 34).any fun x => match x.cmd with
  | .portConfig _ _ loop _ _ => loop != (portAt s p).loop
  | _ => false

/-- The PORT_STATUS reply (R128). -/
def portStatusBytes (s : State) (p : Nat) : List Byte :=
  let x := portAt s p
  let f := x.feed
  let fault := fun (c : Nat) => x.faults.any fun y => y.1 == c
  handleBytes (portH p) ++ byte (stCode s (portH p)) ++ byte (flagBits [x.shared, x.loop == 1 || !domOn s 6, loopPend s p])
    ++ byte f.state.code ++ byte f.flags ++ leBytes 2 (25 * f.limit) ++ leBytes 2 f.mv ++ leBytes 2 f.ma
    ++ byte (flagBits [fault 1, fault 2, fault 3, fault 4]) ++ byte f.episodes
    ++ byte (flagBits ((List.range 8).map fun w => routeOf s w == portH p)) ++ zeros 1 ++ leBytes 2 (portLimit s p).feed
    ++ leCount 4 f.total ++ leBytes 8 (now s)

/-- PORT_STATUS (R128). -/
def execPortStatus (h : Hdr) (port : Handle) (s : State) : Host.Outcome State Fault Refusal :=
  serve (.portStatus h port) 0x0402 .operator .fw h port (fun s => chk do
    let _ ← objNow s port 1
    okay (portStatusBytes s (hIndex port)) s) s

/-- HEDDLE_ROUTE (R110, R113, R358). -/
def execHeddleRoute (h : Hdr) (warp port : Handle) (target : Nat) (s : State) : Host.Outcome State Fault Refusal :=
  serve (.heddleRoute h warp port target) 0x0420 .operator .ctl h warp (fun s => chkRec 0 s do
    let due ← get! .badParam (dueOf s target)
    let _ ← objIs s warp 2
    if port != nullHandle then discard (objIs s port 1)
    need (!isHop s (hIndex warp)) .conflict
    need (!(port == nullHandle && liveDents s (hIndex warp))) .conflict
    cfgOk s
    okay (posReply s due 0) (schedQ ⟨due, 0, warp, 33, .heddleRoute h warp port target, 0⟩ s)) s

/-- A route change takes effect (R29, R40, R111, R112): a SUSPENDED warp whose domain is on and whose new input is available is
IDLE at once; one that has no input any more resumes with the next pass. A warp whose domain is off takes up the route with its domain.
The estimate of the fine DC loop is to be loaded (R166). -/
def applyRoute (w : Nat) (port : Handle) (s : State) : State :=
  let h := fixedHandle 2 w
  if routeOf s w = port then s
  else
    let live := stCode s h != 3
    let wake := domOn s (hostDomain 2 w) && !live && port != nullHandle && available s port && s.clk.state != .fault
    let s := omod h (fun o => { o with inputs := if port = nullHandle then [] else [port], relIn := false }) s
    let s := if wake then omod h (fun o => { o with st := .idle, cause := .none }) s else s
    if live || wake then calDrop w (spoilShed w (wmod w (fun x => { x with reload := true }) (blank w 20 s))) else s

/-- Ports and warps are IDLE or ACTIVE as R105 and R173 say, or will be so when they resume. -/
def alignFixed (s : State) : State :=
  let on := fun (o : Obj) =>
    if o.cls = 1 then some (!(warpsOf s o.idx).isEmpty || (portAt s o.idx).feed.state != .off)
    else if o.cls = 2 then some (!o.inputs.isEmpty) else none
  let fix := fun (o : Obj) => match on o with
    | some b =>
      let st : OState := if b then .active else .idle
      if o.st = .suspended then { o with prior := st } else { o with st := st }
    | none => o
  { s with reg := { s.reg with objs := s.reg.objs.map fix } }

end Sys2Proof.Machine
end

