-- ==== Sys2Proof/Machine/Tuner.lean ====
section
/-! DEFINITION. Aerial tuners, the probe transmitter, return-loss measurement and the coexistence wires (R130-R153). -/

namespace Sys2Proof.Machine

/-- Changes a port's tuner. -/
def tunmod (p : Nat) (f : Tuner → Tuner) (s : State) : State := { s with tuners := lmod s.tuners p f }

/-- A port's tuner. -/
def tunerAt (s : State) (p : Nat) : Tuner := nth s.tuners p Tuner.reset

/-- Changes the probe. -/
def prmod (f : Probe → Probe) (s : State) : State := { s with probe := f s.probe }

/-! Presets. -/

/-- Preset 0: through, always VALID (R131). -/
def presetThrough : Preset := ⟨0, 0, 0, 1, 0, 0xFFFF⟩

/-- A preset of a tuner (R131). (log 63: DEDUCED) -/
def presetOf (t : Tuner) (n : Nat) : Preset := if n = 0 then presetThrough else (tget t.presets n).getD ⟨0, 0, 0, 0, 0, 0⟩

/-- The tuner of a port as the CONFIG record holds it, with the operations counted in MRAM (R131, R470). -/
def tunerHeld (s : State) (p : Nat) : Tuner :=
  let t := { Tuner.reset with ops := (tunerAt s p).ops, wear := (tunerAt s p).wear }
  match (items ((bodyOf s 0).getD [])).find? fun x => x.kind == 5 && x.index == p with
  | some x =>
    if x.value.length = 373 then
      { t with presets := (List.range 31).map fun k => (k + 1, readPreset x.value (12 * k)), inForce := fu x.value 372 1 }
    else t
  | none => t

/-- The tuner that answers for a port: where no firmware runs, from CONFIG (R470). -/
def tunerNow (s : State) (p : Nat) : Tuner := if running s then tunerAt s p else tunerHeld s p

/-- TUNER_PRESET_WRITE (R131, R151). -/
def execTunerPresetWrite (h : Hdr) (port : Handle) (num : Nat) (p : Preset) (s : State) : Host.Outcome State Fault Refusal :=
  serve (.tunerPresetWrite h port num p) 0x1101 .installer .ctl h port (fun s => chkRec 0 s do
    need (inR 1 num 31 && p.c1 < 128 && p.c2 < 128 && p.l < 5 && only p.flags 1) .badParam
    let _ ← objIs s port 1
    need ((tunerAt s (hIndex port)).inForce != num) .conflict
    cfgOk s
    okay [] (cfgTouch (roleOf s h) (tunmod (hIndex port) (fun t => { t with presets := tset t.presets num p }) s))) s

/-- TUNER_PRESET_READ (R151, R470). -/
def execTunerPresetRead (h : Hdr) (port : Handle) (num : Nat) (s : State) : Host.Outcome State Fault Refusal :=
  serve (.tunerPresetRead h port num) 0x1102 .operator .all h port (fun s => chk do
    need (num < 32) .badParam
    handleOk s port 1
    okay (presetBytes (presetOf (tunerNow s (hIndex port)) num)) s) s

/-- A probe session is pending or active on a port. -/
def probes (s : State) (p : Nat) : Bool := s.probe.state != .idle && s.probe.req.port == portH p

/-- TUNER_SELECT (R131, R133, R134). A change that replaces one that waits for grant does not wait yet. (log 63: DEDUCED, 143: DESIGN CHOICE) -/
def execTunerSelect (h : Hdr) (port : Handle) (num flags target : Nat) (s : State) : Host.Outcome State Fault Refusal :=
  serve (.tunerSelect h port num flags target) 0x1103 .installer .sw h port (fun s => chkRec 0 s do
    need (num < 32 && only flags 1) .badParam
    let due ← get! .badParam (dueOf s target)
    let _ ← objIs s port 1
    let p := hIndex port
    need (bit (presetOf (tunerAt s p) num).flags 0) .conflict
    need ((tunerAt s p).lastOrd.all fun n => n + 100 ≤ due) .conflict
    need (!probes s p) .conflict
    cfgOk s
    okay (posReply s due 0) (sched ⟨due, 0, port, 27, .tunerSelect h port num flags target, 0⟩ (tunmod p (fun t => { t with waiting := false }) s))) s

/-- The settings of the elements C1, C2 and L of a preset (R130). (log 63: DEDUCED) -/
def elements (p : Preset) : List Nat := [p.c1, p.c2, p.l]

/-- The largest operation count of any element of a port (R133). (log 63: DEDUCED) -/
def mostOps (t : Tuner) : Nat := t.ops.foldl max 0

/-- A preset comes into force (R132, R133): the elements that change are counted and the warps of the port marked. (log 63: DEDUCED) -/
def applyPreset (p num role : Nat) (s : State) : State :=
  let t := tunerAt s p
  let (a, b) := (elements (presetOf t t.inForce), elements (presetOf t num))
  let s := tunmod p (fun t => { t with inForce := num, lastOrd := some s.sys.ord, lastPick := s.tb.pick, request := false, priority := false
                                       waiting := false, ops := List.zipWith (· + ·) t.ops (List.zipWith (fun x y => flag (x != y)) a b) }) s
  let s := cfgTouch role s
  if a = b then s
  else
    let s := (warpsOf s p).foldl (fun s w => if domOn s (hostDomain 2 w) then spoilShed w (blank w 50 s) else s) s
    let n := mostOps (tunerAt s p)
    if 900000000 ≤ n ∧ t.wear = false then
      ev 0x1101 (handleBytes (portH p) ++ leBytes 8 n ++ leBytes 8 s.tb.pick) (tunmod p (fun t => { t with wear := true }) s)
    else s

/-- The pending preset changes at a boundary, at step 5 (R149, R150): on a SHARED port a change asks for grant from the boundary after its
acceptance and waits for it up to five boundaries past its target. (log 143: DESIGN CHOICE) -/
def presetsDue (s : State) : State :=
  (List.range 4).foldl (fun s p =>
    match pendOf s (portH p) 27 with
    | some x =>
      match x.cmd with
      | .tunerSelect h _ num flags _ =>
        let s := if (portAt s p).shared then tunmod p (fun t => { t with request := true, priority := bit flags 0 }) s else s
        let free := fun (s : State) => tunmod p (fun t => { t with request := false, priority := false, waiting := false }) (unsched (portH p) 27 s)
        let drop := fun (s : State) => ev 0x0106 (droppedBody (portH p) 0x1103 h s.tb.pick) (free s)
        if s.sys.ord < x.due then s
        else if stCode s (portH p) = 3 then drop s
        else if !(portAt s p).shared || s.probe.gnt then applyPreset p num x.role (free s)
        else if x.due + 5 ≤ s.sys.ord then drop s
        else tunmod p (fun t => { t with waiting := true }) s
      | _ => s
    | none => s) s

/-- The TUNER_STATUS reply (R151, R470). (log 143: DESIGN CHOICE) -/
def tunerStatusBytes (s : State) (p : Nat) : List Byte :=
  let t := tunerNow s p
  let num := match (pendOf s (portH p) 27).map (·.cmd) with
    | some (.tunerSelect _ _ n _ _) => some n
    | _ => none
  handleBytes (portH p) ++ byte t.inForce ++ byte (flagBits [num.isSome, t.waiting, t.wear]) ++ byte (num.getD 0xFF) ++ zeros 1
    ++ leBytes 8 (mostOps t) ++ leBytes 8 t.lastPick

/-- TUNER_STATUS (R151). -/
def execTunerStatus (h : Hdr) (port : Handle) (s : State) : Host.Outcome State Fault Refusal :=
  serve (.tunerStatus h port) 0x1104 .operator .all h port (fun s => chk do
    handleOk s port 1
    okay (tunerStatusBytes s (hIndex port)) s) s

/-! The probe. -/

/-- The code of a probe state (R151). -/
def ProbeState.code : ProbeState → Nat
  | .idle => 0 | .waiting => 1 | .radiating => 2 | .held => 3

/-- EV_PROBE_STATE (R153). -/
def tellProbe (st : ProbeState) (cause : Nat) (c : Status) (s : State) : State :=
  ev 0x1110 (handleBytes s.probe.req.port ++ byte st.code ++ byte cause ++ leBytes 2 c.code ++ leBytes 8 s.tb.pick) s

/-- The frequency of the session's present point. -/
def probeFreq (s : State) : Nat := nth s.probe.req.freqs s.probe.point (s.probe.req.freqs.headD 0)

/-- SYN6 is locked at the first point's frequency. -/
def probeTuned (s : State) : Bool := locked s 6 && (synAt s 6).freq == s.probe.req.freqs.headD 0

/-- The probe is ready (R143): SYN6 is locked, no level calibration runs, and none must be run before this start. -/
def probeReady (s : State) : Bool := probeTuned s && !s.probe.calibrating && !probeCalDue s

/-- The mode changes; EV_MODE_CHANGE carries a cause (R590, R600). -/
def modeGo (m : Mode) (cause : Nat) (s : State) : State :=
  let old := s.sys.mode
  let s := { s with sys := { s.sys with mode := m } }
  announce 9 nullHandle s.tb.pick (byte m.code ++ leBytes 2 s.sys.domains.toNat ++ zeros 1) (ev 0x0103 (modeBody s old cause 0) s)

/-- A passive measurement is pending or running, or the result of an active one is still to come (R136). -/
def measuring (s : State) : Bool := s.probe.measPort.isSome || s.probe.measOwed.isSome

/-- PROBE_START (R134, R136, R141, R144, R145, R591). -/
def execProbeStart (h : Hdr) (r : ProbeReq) (s : State) : Host.Outcome State Fault Refusal :=
  serve (.probeStart h r) 0x1110 .installer .wp h r.port (fun s =>
    if r.freqs.length ≠ r.points then .fail .badLength
    else chk do
      need (decide (-280 ≤ r.level) && inR 1 r.points 64 && only r.flags 2 && (r.points == 1 || r.duration == 0)
        && (!bit r.flags 1 || inR 10 r.threshold 200) && r.freqs.all synRange) .badParam
      let due ← get! .badParam (dueOf s r.target)
      let _ ← objIs s r.port 1
      need (modePend s).isNone .conflict
      need (domOn s 6) .notReady
      need (s.probe.state == .idle && !measuring s && (pendOf s r.port 27).isNone) .conflict
      let level := min r.level (portLimit s (hIndex r.port)).probe
      let s := prmod (fun p => { p with state := .waiting, req := { r with level := level }, level := level, due := due, start := 0
                                        startOrd := s.sys.ord, point := 0, losses := 0, lowCount := 0, lostNow := [], openNow := [], stopAt := none
                                        limited := false }) s
      let ready := probeReady s && s.probe.gnt
      .ok (if level ≠ r.level then .limited else if ready then .ok else .queued, posReply s due 0, s)) s

/-- A session, or the start of one, is over: the output is gated off and the request released (R149). A measurement all of whose points have
passed owes its result (R138). (log 66: DEDUCED) -/
def probeOver (cause : Nat) (c : Status) (s : State) : State :=
  let p := s.probe
  let whole := bit p.req.flags 1 && (p.state == .radiating || p.state == .held) && p.startOrd + p.req.points ≤ s.sys.ord
  let s := tellProbe .idle cause c s
  prmod (fun p => { p with state := .idle, calibrating := false, stopAt := none, coexReq := false, coexPrio := false, lowCount := 0
                           measOwed := if whole then some (hIndex p.req.port) else p.measOwed }) s

/-- The end of a session that is not itself a mode change by the host: back to WATCH (R144). -/
def probeEnd (cause : Nat) (c : Status) (s : State) : State := modeGo .watch 2 (probeOver cause c s)

/-- PROBE_STOP (R146): at boundary p + 1. -/
def execProbeStop (h : Hdr) (s : State) : Host.Outcome State Fault Refusal :=
  serve (.probeStop h) 0x1111 .installer .pr h nullHandle (fun s => chk (okay [] (prmod (fun p => { p with stopAt := some (s.sys.ord + 1) }) s))) s

/-- The grant is lost at the point of the present pick (R137). (log 142: DESIGN CHOICE) -/
def pointLost (s : State) : State :=
  match pointNow s with
  | some k => prmod (fun p => { p with lostNow := p.lostNow ++ [k] }) s
  | none => s

/-- The radiation is gated off because COEX_GNT is low (R142, R147); `n` is 1 where it is found low at a boundary and 0 where it falls within a pick. (log 65: DEDUCED) -/
def probeHeld (n : Nat) (s : State) : State :=
  tellProbe .held 4 .ok (prmod (fun p => { p with state := .held, losses := p.losses + 1, lowCount := n }) (pointLost s))

/-- COEX_GNT falls (R142, R147). -/
def execCoexGntFall (s : State) : Host.Outcome State Fault Refusal :=
  let s := prmod (fun p => { p with gnt := false }) s
  .next (if s.probe.state = .radiating then probeHeld 0 s else s)

/-- COEX_GNT has been low for 100 consecutive boundaries (R147). -/
def execProbeGrantTimeout (s : State) : Host.Outcome State Fault Refusal :=
  .next (if s.probe.state = .held ∧ 100 ≤ s.probe.lowCount then probeEnd 7 .timeout s else s)

/-- No boundary by t + 5 has let the session start (R145). -/
def execProbeStartTimeout (s : State) : Host.Outcome State Fault Refusal :=
  .next (if s.probe.state = .waiting ∧ s.probe.due + 5 ≤ s.sys.ord then probeOver 6 .notReady s else s)

/-- How many picks a session lasts; none until PROBE_STOP (R146). -/
def probeLength (r : ProbeReq) : Option Nat := if 1 < r.points then some r.points else if r.duration = 0 then none else some r.duration

/-- The present boundary is the end of a session: its duration, or its last point, has passed (R146). -/
def probeEnds (s : State) : Bool := (probeLength s.probe.req).any fun n => s.probe.startOrd + n ≤ s.sys.ord

/-- A session's duration has passed, or its last point (R146). -/
def execProbeDurationEnd (s : State) : Host.Outcome State Fault Refusal :=
  .next (if (s.probe.state == .radiating || s.probe.state == .held) && probeEnds s then
    probeEnd 2 .ok s else s)

/-- The level calibration is complete (R143). -/
def execProbeLevelCalDone (s : State) : Host.Outcome State Fault Refusal :=
  .next (if s.probe.calibrating then
    prmod (fun p => { p with calibrating := false, levelCal := true, calTemp := p.temp.value.getD p.calTemp }) s else s)

/-- The closed loop corrects the level while the probe radiates (R142, R143). -/
def execProbeLevelLoop (level : Int) (s : State) : Host.Outcome State Fault Refusal :=
  .next (if probeGate s then prmod (fun p => { p with measured := level }) s else s)

/-- The limiter cuts the drive of an output that radiates (R141, R142). -/
def execProbeLimiter (s : State) : Host.Outcome State Fault Refusal :=
  .next (if probeGate s then prmod (fun p => { p with limited := true }) s else s)

/-- COEX_REQ and COEX_PRIO: the OR of the requests (R149). -/
def coex (s : State) : Bool × Bool :=
  (s.probe.coexReq || s.tuners.any (·.request), s.probe.coexPrio || s.tuners.any (·.priority))

/-- A start that waits, at a boundary (R143, R145): the request is raised and SYN6 retuned at the first; a level calibration begins at any at which one
is due. -/
def probeWait (s : State) : State :=
  let p := s.probe
  if p.state = .waiting ∧ domOn s 6 = true then
    let first := p.coexReq = false
    let s := prmod (fun p => { p with coexReq := true, coexPrio := bit p.req.flags 0 }) s
    if probeTuned s then (if p.calibrating then s else probeLocked s) else if first then retune 6 (p.req.freqs.headD 0) 0xFF s else s
  else s

/-- A session that runs, at a boundary before its end (R146, R147): the next point of a sweep, and the grant. -/
def probeRun (s : State) : State :=
  let p := s.probe
  if (p.state = .radiating ∨ p.state = .held) ∧ probeEnds s = false then
    let s := if 1 < p.req.points then
        let k := s.sys.ord - p.startOrd
        let s := prmod (fun p => { p with point := min k (p.req.points - 1) }) s
        if 0 < k ∧ k < p.req.points then retune 6 (probeFreq s) 0xFF s else s
      else s
    if p.state = .held then
      if p.gnt then tellProbe .radiating 5 .ok (prmod (fun p => { p with state := .radiating, lowCount := 0 }) s)
      else prmod (fun p => { p with lowCount := p.lowCount + 1 }) (pointLost s)
    else if p.gnt then s else probeHeld 1 s
  else s

/-- Step 2 of a boundary for the probe (R144-R147): a stop, or the start of radiation; whether the mode changed. -/
def probeStep (s : State) : State :=
  let p := s.probe
  if p.stopAt = some s.sys.ord then { probeOver 3 .ok s with sys := { s.sys with mode := .watch } }
  else if p.state = .waiting ∧ p.due ≤ s.sys.ord ∧ s.sys.ord ≤ p.due + 5 ∧ s.sys.mode = .watch ∧ probeReady s = true ∧ p.gnt = true then
    let s := prmod (fun p => { p with state := .radiating, start := s.tb.pick, startOrd := s.sys.ord, point := 0 }) s
    tellProbe .radiating 1 .ok { s with sys := { s.sys with mode := .probe } }
  else s

/-- The mode leaves WATCH or PROBE by SYS_MODE_SET (R590, R591): a session ends, a start that waits is abandoned. (log 66: DEDUCED) -/
def probeMode (s : State) : State := if s.probe.state = .idle then s else probeOver 8 .ok s

/-- D6 goes off (R593): the probe is gated off, SYN6 stops, a measurement is abandoned, and the request lines fall. (log 66: DEDUCED) -/
def probeOff (s : State) : State :=
  let s := if s.probe.state = .radiating ∨ s.probe.state = .held then { probeOver 2 .ok s with sys := { s.sys with mode := .watch } } else s
  let s := { s with tuners := s.tuners.map fun t => { t with request := false, priority := false, waiting := false } }
  synOff 6 (prmod (fun p => { p with levelCal := false, calibrating := false, coexReq := false, coexPrio := false, measPort := none
                                     measOwed := none, measActive := false }) s)

/-- D6 comes on: the probe's sensor begins again (R174), and the first radiation will need a level calibration (R143). -/
def probeOn (t : Int) (s : State) : State := readProbeTemp t (prmod (fun p => { p with temp := p.temp.on, levelCal := false }) s)

/-- The samples of a warp carry PROBE_DISTURBED in the present pick (R148). -/
def disturbed (s : State) (w : Nat) : Bool :=
  (s.probe.state == .radiating || s.probe.state == .held) && routeOf s w == s.probe.req.port &&
    (if w < 6 then (warpAt s w).lo.any fun lo => inI (-40960000) ((probeFreq s : Int) - lo) 40960000
     else inR 9000 (probeFreq s) 32000000)

/-- The PROBE_STATUS reply (R151, R470). -/
def probeStatusBytes (s : State) : List Byte :=
  let p := s.probe
  if !running s then byte 0 ++ zeros 27
  else if p.state = .idle then
    byte 0 ++ byte (flagBits [locked s 6, p.gnt, p.calibrating, (coex s).1]) ++ zeros 2 ++ handleBytes nullHandle ++ zeros 20
  else
    byte p.state.code ++ byte (flagBits [locked s 6, p.gnt, p.calibrating, (coex s).1]) ++ byte p.point ++ byte p.req.points
      ++ handleBytes p.req.port ++ leBytes 4 (probeFreq s) ++ leSigned 2 p.level ++ leSigned 2 p.measured ++ leBytes 8 p.start
      ++ leCount 2 p.losses ++ zeros 2

/-- PROBE_STATUS (R151). -/
def execProbeStatus (h : Hdr) (s : State) : Host.Outcome State Fault Refusal :=
  serve (.probeStatus h) 0x1112 .operator .all h nullHandle (fun s => chk (okay (probeStatusBytes s) s)) s

/-! Return loss. -/

/-- MISMATCH_MEASURE (R136, R151): passive. (log 64: DEDUCED, 65: DEDUCED) -/
def execMismatchMeasure (h : Hdr) (port : Handle) (points threshold target : Nat) (freqs : List Nat) (s : State) :
    Host.Outcome State Fault Refusal :=
  serve (.mismatchMeasure h port points threshold target freqs) 0x1120 .operator .sw h port (fun s =>
    if freqs.length ≠ points then .fail .badLength
    else chk do
      need (inR 1 points 16 && inR 10 threshold 200 && freqs.all synRange) .badParam
      let due ← get! .badParam (dueOf s target)
      let _ ← objIs s port 1
      need (domOn s 6) .notReady
      need (s.probe.state == .idle && !measuring s) .conflict
      okay (posReply s due 0) (prmod (fun p => { p with measPort := some (hIndex port), measDue := due, measFreqs := freqs
                                                        measThr := threshold, measActive := false, openNow := [] }) s)) s

/-- A passive measurement at a boundary (R137): one point per pick from its target. (log 64: DEDUCED) -/
def measRun (s : State) : State :=
  let p := s.probe
  match p.measPort with
  | some k =>
    let n := s.sys.ord - p.measDue
    if p.measDue ≤ s.sys.ord ∧ n < p.measFreqs.length then
      retune 6 (nth p.measFreqs n 0) 0xFF
        (prmod (fun p => { p with measActive := true, measPreset := if n = 0 then (tunerAt s k).inForce else p.measPreset }) s)
    else s
  | none => s

/-- A point as it is held (R135, R137, R152): CLIPPED beyond 30 dB; GRANT_LOST of an active point whose radiation was gated off, LOW_INCIDENT of a passive
one, UNLOCKED where SYN6 was not locked; VALID only with none of the three. -/
def pointHeld (x : LossPoint) (freq : Nat) (active lost low unlocked : Bool) : LossPoint :=
  let clip := decide (300 < x.loss)
  let (g, l, u) := (active && (lost || bit x.flags 1), !active && low, unlocked || bit x.flags 4)
  { x with freq := freq, loss := min x.loss 300, flags := flagBits [bit x.flags 0 && !(g || l || u), g, l, clip || bit x.flags 3, u] }

/-- Adjacent entries differ by at most 1 MHz. -/
def closeBy : List Nat → Bool
  | a :: b :: l => ((a : Int) - b).natAbs ≤ 1000000 && closeBy (b :: l)
  | _ => true

/-- The reflection phase unwrapped along a list of points, in units of 360°/256, from the phase `at_` on: each is the value nearest to the one before it. (log 64: DEDUCED) -/
def unwrap (at_ : Int) : List LossPoint → List (Int × Int)
  | [] => []
  | x :: l =>
    let p := at_ + (x.phase - at_ + 128) % 256 - 128
    ((x.freq : Int), p) :: unwrap p l

/-- The straight line of least squares through (frequency, phase) points at 0 Hz, as a numerator and a denominator, in units of 360°/256 (R138). (log 64: DEDUCED) -/
def fitAtZero (l : List (Int × Int)) : Int × Int :=
  let sum := fun (f : Int × Int → Int) => (l.map f).sum
  let (sx, sy, sxx, sxy) := (sum (·.1), sum (·.2), sum fun p => p.1 * p.1, sum fun p => p.1 * p.2)
  (sy * sxx - sx * sxy, (l.length : Int) * sxx - sx * sx)

/-- The fitted phase at 0 Hz modulo 360° lies within 45° of `at_` (in units of 360°/256); through points all at one frequency no line is fitted, and
the free value of the present draw stands for its phase. (log 64: DEDUCED) -/
def phaseNear (fit : Int × Int) (free : Nat) (at_ : Int) : Bool :=
  let (n, d) : Int × Int := if fit.2 = 0 then (free % 256, 1) else fit
  (n - (at_ - 32) * d) % (256 * d) ≤ 64 * d

/-- The classification of a measurement (R138); `free` is a free value for the phase that no fit gives. (log 64: DEDUCED) -/
def classify (active : Bool) (l : List LossPoint) (thr free : Nat) : Nat :=
  let v := l.filter fun x => bit x.flags 0
  if v.isEmpty then 0
  else if active && v.length ≥ 8 && closeBy (v.map (·.freq)) && v.all fun x => x.loss ≤ 10 then
    let fit := fitAtZero (unwrap 0 v)
    if phaseNear fit free 0 then 3 else if phaseNear fit free 128 then 4 else 2
  else if v.any fun x => x.loss < thr then 2
  else 1

/-- A measurement is complete (R138, R139): the faults it raises or clears, and EV_MISMATCH_DONE. (log 64: DEDUCED) -/
def lossDone (p mode cls thr preset pick : Nat) (l : List LossPoint) (s : State) : State :=
  let v := l.filter fun x => bit x.flags 0
  let s := tunmod p (fun t => { t with result := some ⟨mode, cls, preset, pick, l⟩ }) s
  let s := if !v.isEmpty && v.all fun x => thr + 10 ≤ x.loss then faultClear p (fun x => x.2.1 == 1) s else s
  let s := match cls with
    | 2 => faultRaise p (3, 1, 0) s
    | 3 => faultRaise p (1, 1, 0) s
    | 4 => faultRaise p (2, 1, 0) s
    | _ => s
  ev 0x1120 (handleBytes (portH p) ++ byte mode ++ byte cls ++ byte v.length ++ zeros 1 ++ leBytes 8 pick) s

/-- The points of a return-loss measurement have been evaluated (R138, R139): that of the session that ended, or the passive one whose points
have all passed. `low` are the entries of the list whose incident level was too low (R135). (log 64: DEDUCED, 142: DESIGN CHOICE) -/
def execMismatchComplete (points : List LossPoint) (low : List Nat) (s : State) : Host.Outcome State Fault Refusal :=
  let p := s.probe
  match p.measOwed, p.measPort with
  | some k, _ =>
    let l := (p.req.freqs.zipIdx).map fun f => pointHeld (nth points f.2 ⟨f.1, 0, 0, 0⟩) f.1 true (p.lostNow.contains f.2) false (p.openNow.contains f.2)
    let free := (draw s).toNat
    let s := drawn (prmod (fun p => { p with measOwed := none }) s)
    .next (lossDone k 1 (classify true l p.req.threshold free) p.req.threshold (tunerAt s k).inForce
      (pickAt s (p.startOrd + p.req.points - 1)) l s)
  | none, some k =>
    if p.measActive && p.measDue + p.measFreqs.length ≤ s.sys.ord then
      let l := (p.measFreqs.zipIdx).map fun f => pointHeld (nth points f.2 ⟨f.1, 0, 0, 0⟩) f.1 false false (low.contains f.2) (p.openNow.contains f.2)
      let s := prmod (fun p => { p with measPort := none, measActive := false }) s
      .next (lossDone k 2 (classify false l p.measThr 0) p.measThr p.measPreset (pickAt s (p.measDue + p.measFreqs.length - 1)) l s)
    else .next s
  | none, none => .next s

/-- A point as it is laid out (R152). -/
def pointBytes (x : LossPoint) : List Byte := leBytes 4 x.freq ++ leBytes 2 x.loss ++ byte x.flags ++ byte x.phase

/-- The MISMATCH_READ reply (R152, R470). -/
def mismatchBytes (s : State) (p : Nat) : List Byte :=
  match (if running s then (tunerAt s p).result else none) with
  | some r => handleBytes (portH p) ++ byte r.mode ++ byte r.cls ++ byte r.points.length ++ byte r.preset ++ leBytes 8 r.pick ++ r.points.flatMap pointBytes
  | none => handleBytes (portH p) ++ zeros 12

/-- MISMATCH_READ (R152). -/
def execMismatchRead (h : Hdr) (port : Handle) (s : State) : Host.Outcome State Fault Refusal :=
  serve (.mismatchRead h port) 0x1121 .operator .all h port (fun s => chk do
    handleOk s port 1
    okay (mismatchBytes s (hIndex port)) s) s

/-- New LIMITS lower the level of a session in force (R124). -/
def lowerProbe (s : State) : State :=
  if s.probe.state = .idle then s
  else prmod (fun p => { p with level := min p.level (portLimit s (hIndex p.req.port)).probe }) s

end Sys2Proof.Machine
end

