-- ==== Sys2Proof/Machine/Apply.lean ====
section
/-! DEFINITION. How a pending change takes effect at its boundary or named sample (R36-R41): which change is discarded, what each change
does, releases and what depends on them (R29), and the items of CONFIG as changes (R570, R572). -/

namespace Sys2Proof.Machine

/-- A change is one the module scheduled of its own accord (R501). (log 24: DEDUCED) -/
def ownChange (p : Pend) : Bool := (hdrOf p.cmd).all fun h => h.via == .self && h.sess == 0xFE

/-- EV_CHANGE_DROPPED for a change (R40, R501). (log 22: DEDUCED) -/
def tellDropped (p : Pend) (s : State) : State :=
  ev 0x0106 (droppedBody p.obj (if ownChange p then 0 else opOf p.cmd) ((hdrOf p.cmd).getD (selfHdr 0)) s.tb.pick) s

/-- A change that takes effect on a SUSPENDED object all the same (R40). (log 22: DEDUCED, 23: DESIGN CHOICE) -/
def keeps (s : State) (p : Pend) (o : Obj) : Bool :=
  match p.cmd with
  | .dentSet _ _ c _ => bit c.flags 1 && available s c.warp
  | .weaveStart _ _ _ => o.shed && (weaveAt s o.idx).any (·.readmit)
  | .portConfig _ _ _ _ _ => true
  | .feedSet _ _ _ _ _ => true
  | .heddleRoute _ _ _ _ => true
  | .warpTune _ _ _ _ => true
  | .warpGain _ _ _ _ => true
  | .warpAgc _ _ _ => true
  | .serviceRelease _ _ _ => svcReleased o
  | _ => p.kind == 10

/-- A change is discarded (R40, R324): its object is gone, or SUSPENDED and the change is not among those that apply all the same; a
creation whose input has gone (R644); a SERVICE_RELEASE whose service is in use again. (log 22: DEDUCED) -/
def discards (s : State) (p : Pend) : Bool :=
  if p.obj = nullHandle then false
  else match objOf s p.obj with
    | none => true
    | some o =>
      match o.st with
      | .pending => o.inputs.any fun h => (objOf s h).isNone
      | .suspended => !keeps s p o
      | _ => match p.cmd with
        | .serviceRelease _ _ _ => true
        | _ => false

/-- An object goes to FREE with what it holds; the handles released. -/
def release (h : Handle) (s : State) : List Handle × State :=
  match hClass h with
  | 3 => ([h], freeDent h s)
  | 4 => ([h], freeWeave h (forget h s))
  | 5 => freeService (hIndex h) s
  | 7 => freeFollow h s
  | 8 => ([h], freeStream h s)
  | 0x0A => ([h], freeAlign h s)
  | 0x0E => ([h], { unissue h s with periphs := tdel s.periphs (hIndex h) })
  | _ => ([], s)

/-- What was held for a change from its acceptance and is not needed once it has been discarded. -/
def undoHeld (p : Pend) (s : State) : State :=
  match p.cmd with
  | .measThreshold _ h t => { s with thrs := s.thrs.filter fun x => x.live || !(x.obj = h && x.req.code == t.code) }
  | .followSet _ h _ _ _ => fmod (hIndex h) (fun f => { f with charged := f.srcs.length }) s
  | _ => s

/-- A change is discarded (R40, R644). (log 22: DEDUCED) -/
def discardPend (p : Pend) (s : State) : State :=
  tellDropped p (undoHeld p (if p.kind = 20 then (release p.obj s).2 else s))

/-- A dent that was SUSPENDED is rebound (R29, R218, R225): ACTIVE again where its domain is on, from a sync reset at the sample of the move; with its domain
off it begins as that comes on. (log 23: DESIGN CHOICE) -/
def rebindDent (h : Handle) (c : DentChg) (s : State) : State :=
  let was := stCode s h
  let s := applyDentSet h c s
  if was = 3 ∧ domOn s 7 = true then
    omod h (fun o => { o with st := .active, cause := .none })
      (dmod (hIndex h) (fun x => x.begin_ c.sample) s)
  else s

/-- The device ID is set (R3, R617). -/
def setDeviceId (id : Nat) (s : State) : State := { s with ident := { s.ident with deviceId := id } }

/-- An object is created at its boundary; the handles released to make room for its services (R327). -/
def create (h : Handle) (s : State) : List Handle × State :=
  match hClass h with
  | 3 => ([], applyDentCreate h s)
  | 4 => weaveBorn (hIndex h) (applyWeaveCreate h s)
  | 7 => ([], applyFollowCreate h s)
  | _ => ([], omod h (fun o => { o with st := .active }) s)

/-- The effect of a change that releases nothing (R36). `at_` is the sample it takes effect at. -/
def effect (p : Pend) (at_ : Nat) (s : State) : State :=
  let h := p.obj
  let i := hIndex h
  let cfg := fun (t : State) => cfgTouch p.role t
  match p.cmd with
  | .deviceIdSet _ id => cfg (setDeviceId id s)
  | .sysEventNotify _ c => cfg { s with proto := { s.proto with notify := c } }
  | .tbConfig _ c => cfg (applyTbConfig c s)
  | .clkConfig _ m a _ => applyClkConfig m a s
  | .pbConfig _ f w => cfg (applyPbConfig f w s)
  | .portConfig _ _ loop f _ => cfg (applyPortConfig i loop f s)
  | .feedSet _ _ f l _ => cfg (applyFeedSet i f l s)
  | .feedReset _ _ => applyFeedReset i s
  | .heddleRoute _ _ q _ =>
    let t := applyRoute i q s
    cfg (if stCode s h = 3 ∧ stCode t h ≠ 3 then warpWake i t else t)
  | .warpTune _ _ r _ => cfg (applyTune i r s)
  | .warpGain hd _ g c => if ownChange p then applyGain i g c s else cfg (applyGain i g (if hd.via = .self then 5 else 1) s)
  | .warpAgc _ _ c => cfg (applyAgc i c s)
  | .calPolicy _ c => cfg (applyCalPolicy c s)
  | .timePolicy _ c => cfg (applyTimePolicy c s)
  | .limitsWrite _ l => lowerProbe (lowerFeeds (recmod (fun r => { r with limits := some (clipLimits l) }) s))
  | .tunerPresetWrite _ _ n q => cfg (tunmod i (fun t => { t with presets := tset t.presets n q }) s)
  | .rtcTrim _ t => cfg (rmod (fun r => { r with trim := t }) s)
  | .rtcConfig _ v l => cfg (rmod (fun r => { r with vsw := v, lowThr := l }) s)
  | .rtcWeekdaySet _ _ o => cfg (rmod (fun r => { r with dayOff := o }) s)
  | .dentSet _ _ c _ => rebindDent h { c with sample := at_ } s
  | .dentFlush _ _ _ _ => dmod i (fun x => x.sync at_) s
  | .dentBankSwap _ _ _ _ => if p.kind ≠ 44 ∧ fading s h = true then deferSwap h p.cmd s else applySwap h at_ (if p.kind = 44 then 2 else 1) s
  | .weaveStart _ _ _ => applyWeaveStart h s
  | .weaveStop _ _ _ => applyWeaveStop h s
  | .weaveSet _ _ q _ _ b => applyWeaveSet h q b s
  | .digDecodeSet _ _ _ _ l => applyDecode h l s
  | .followCommit _ _ e _ _ f => applyCommit h e at_ f s
  | .tdmPortConfig _ q c _ => cfg (applyTdmConfig q c s)
  | .ethPortConfig _ q c _ => cfg (applyEthConfig q c s)
  | .alignAdd hd g x _ => applyAlignAdd hd g x s
  | .alignRemove hd g x _ => applyAlignRemove hd g x s
  | .measWindow _ _ w => applyMeasWindow h w s
  | .measThreshold _ _ t => applyThreshold h t s
  | .audioMonSet _ _ c => applyAudioMon h c s
  | .loudnessReset _ _ _ => applyLoudReset h s
  | .verifySet _ r _ => applyVerifySet r s
  | .verifyClear _ k _ => applyVerifyClear k s
  | .surveyStart _ _ f _ l => applySurveyStart f l s
  | .rtcSet _ k v _ => applyRtcSet k v s
  | _ => s

/-- The disclosed delay at τ = 0 of each dent of a list (R215). (log 129: DEDUCED) -/
def delaysOf (s : State) (l : List Handle) : List (Option Nat) := l.map fun h => (dentAt s (hIndex h)).map (tauLess s)

/-- Every analogue weave with a dent whose disclosed delay has changed since `before` sets τ anew at the same sample (R258, R259). (log 129: DEDUCED) -/
def alignDelays (before : State) (sample : Nat) (s : State) : State :=
  s.weaves.foldl (fun s w => if delaysOf before w.2.dents = delaysOf s w.2.dents then s else setTaus w.1 sample s) s

/-- A change that has come due takes effect, or is discarded. -/
def takeEffect (p : Pend) (at_ : Nat) (s : State) : State :=
  let s := { s with sched := s.sched.filter fun q => q ≠ p }
  if discards s p then discardPend p s else alignDelays s at_ (effect p at_ s)

/-- The changes due at the present boundary that a step takes, in the order in which they were scheduled. (log 20: DEDUCED) -/
def dueNow (s : State) (f : Pend → Bool) : List Pend := s.sched.filter fun p => p.due ≤ s.sys.ord && f p

/-- The changes of a step of R39 at the present boundary. (log 20: DEDUCED) -/
def runStep (f : Pend → Bool) (s : State) : State := (dueNow s f).foldl (fun s p => takeEffect p p.sample s) s

/-- A change that releases objects or gives up what a follow set owns (step 4); the handles released. -/
def releaseEffect (p : Pend) (s : State) : List Handle × State :=
  let s := { s with sched := s.sched.filter fun q => q ≠ p }
  if discards s p then ([], discardPend p s)
  else match p.cmd with
  | .surveyStop _ => surveyStopNow 3 s
  | .followSet _ h _ _ l =>
    let (r, s) := followDrop h l s
    (r, applyFollowSet h l s)
  | .followPolicy _ h c => applyPolicy h c s
  | _ => release p.obj s

/-- A creation at its boundary (step 4); the handles released. -/
def createEffect (p : Pend) (s : State) : List Handle × State :=
  let s := { s with sched := s.sched.filter fun q => q ≠ p }
  if discards s p then ([], discardPend p s) else create p.obj s

/-- Changes one after another, with the handles they release. (log 20: DEDUCED) -/
def runAll (f : Pend → State → List Handle × State) (l : List Pend) (s : State) : List Handle × State :=
  l.foldl (fun a p => let (r, t) := f p a.2; (a.1 ++ r, t)) ([], s)

/-! What depends on an object. -/

/-- An object has come up: a dent begins with a sync reset, a weave with a flush, a warp makes the retune it was owed (R32, R218). -/
def wake (h : Handle) (s : State) : State :=
  match hClass h with
  | 2 => warpWake (hIndex h) s
  | 3 => dmod (hIndex h) (fun x => x.begin_ 0) s
  | 4 => if stCode s h = 2 then flushWeave (hIndex h) s else s
  | _ => s

/-- Suspension and resumption at the present boundary (R28-R33), after the changes of a step: `rel` are the objects released, `mode` the
domains a mode change has switched off. A warp that is suspended gives up its calibration step (R191). -/
def settle (rel : List Handle) (mode : BitVec 10) (s : State) : State :=
  let down := fun (s : State) => ((objsOf s 4).filter fun o => o.st == .suspended).map (·.idx)
  let before := down s
  let (up, s) := sweep rel mode (alignFixed s)
  let s := ((down s).filter fun i => !before.contains i).foldl (fun s i => haltWeave i s) s
  let s := ((objsOf s 2).filter fun o => o.st == .suspended).foldl (fun s o => calDrop o.idx s) s
  alignServices (up.foldl (fun s h => wake h s) s)

/-! CONFIG items (R570, R572). -/

/-- The changes that a CONFIG item stands for, due at `due`: as the named command would make them, without its handle and target; none for
an item that is not known or whose value fails that command's checks. A `kind` of 110 is a command that takes effect at acceptance. -/
def itemPends (s : State) (due : Nat) (hd : Hdr) (x : RecItem) : List Pend :=
  let v := x.value
  let p := fun (k : Nat) (o : Handle) (c : Instr) => (⟨due, 0, o, k, c, roleOf s hd⟩ : Pend)
  let on := fun (b : Bool) (l : List Pend) => if b then l else []
  let port := portH x.index
  let warp := fixedHandle 2 x.index
  match x.kind, v.length with
  | 0x01, 2 => on (fu v 0 2 < 1024) [p 110 nullHandle (.deviceIdSet hd (fu v 0 2))]
  | 0x02, 20 => on (tbOk (readTb v 0)) [p 21 nullHandle (.tbConfig hd (tbClip (readTb v 0)))]
  | 0x03, 4 => on (x.index < 4 && fu v 0 1 < 2 && only (fu v 1 1) 1) [p 34 port (.portConfig hd port (fu v 0 1) (fu v 1 1) 0)]
  | 0x04, 4 =>
    let (f, l) := (fu v 0 1, fu v 1 1)
    let top := ceilLimit s x.index l
    on (x.index < 4 && only f 4 && inR 1 l 14 && !(bit f 1 && bit (portLimit s x.index).flags 0)
        && (!bit f 0 || (0 < allowance s x.index && !backfed s x.index)))
      [p 35 port (.feedSet hd port f (if bit f 0 then min top (allowance s x.index) else top) 0)]
  | 0x05, 373 =>
    let ok := fun (q : Preset) => q.c1 < 128 && q.c2 < 128 && q.l < 5 && only q.flags 1
    let n := fu v 372 1
    on (decide (x.index < 4)) <|
      ((List.range 31).flatMap fun k => on (ok (readPreset v (12 * k))) [p 110 port (.tunerPresetWrite hd port (k + 1) (readPreset v (12 * k)))])
        ++ on (n < 32 && (n == 0 || bit (readPreset v (12 * (n - 1))).flags 0)) [p 27 port (.tunerSelect hd port n 0 0)]
  | 0x06, 41 =>
    let q := fh v 0
    let t := readTune v 4
    on (decide (x.index < 8)) <|
      on (q == nullHandle || (hClass q == 1 && hIndex q < 4 && hGen q == 1)) [p 33 warp (.heddleRoute hd warp q 0)]
        ++ on (x.index < 6 && t.freq != 0 && tuneOk t && dentsFit s x.index (placedLo t)) [p 30 warp (.warpTune hd warp t 0)]
        ++ on (fu v 24 1 ≤ gTop x.index) [p 31 warp (.warpGain hd warp (fu v 24 1) 1)]
        ++ on (agcOk x.index (readAgc v 25)) [p 36 warp (.warpAgc hd warp (readAgc v 25))]
  | 0x07, 8 =>
    let c := readCal v 0
    on (inR 5 c.dT 200 && only c.flags 5 && only c.hold 8 && inR 60 c.interval 3600) [p 37 nullHandle (.calPolicy hd c)]
  | 0x08, 16 => on (timeOk (readTime v 0)) [p 91 nullHandle (.timePolicy hd (readTime v 0))]
  | 0x09, 60 => on (x.index < 2 && ethCfgOk (readEth v 0) && ethCfgFits s x.index due (readEth v 0))
      [p 71 (fixedHandle 0x0D x.index) (.ethPortConfig hd (fixedHandle 0x0D x.index) (readEth v 0) 0)]
  | 0x0A, 20 => on (x.index < 8 && tdmCfgOk (readTdm v 0) && tdmCfgFits s x.index due (readTdm v 0))
      [p 70 (fixedHandle 9 x.index) (.tdmPortConfig hd (fixedHandle 9 x.index) (readTdm v 0) 0)]
  | 0x0B, 8 => on (only (fu v 0 1) 4 && inR 1 (fu v 2 2) 50) [p 74 nullHandle (.pbConfig hd (fu v 0 1) (fu v 2 2))]
  | 0x0C, 32 =>
    let c := readNotify v 0
    on (only c.mask 3 && only c.flags 1 && (bit c.flags 0 || c.addr % 2 ^ 96 == 0)
        && ((c.eth == nullHandle && !bit c.mask 2) || (hClass c.eth == 0x0D && hIndex c.eth < 2 && hGen c.eth == 1)))
      [p 110 nullHandle (.sysEventNotify hd c)]
  | 0x0D, 9 =>
    on (inI (-127) (fs v 0 1) 127) [p 110 nullHandle (.rtcTrim hd (fs v 0 1))]
      ++ on (inR 900 (fu v 1 2) 1050 && inR 2000 (fu v 3 2) 3300) [p 110 nullHandle (.rtcConfig hd (fu v 1 2) (fu v 3 2))]
      ++ on (fu v 5 4 < dayTicks) [p 110 nullHandle (.rtcWeekdaySet hd 0 (fu v 5 4))]
  | _, _ => []

/-- CONFIG is applied at firmware start (R572, R592): item by item, at once. The D0 settings are taken only with D0_RESET set (R535); of
the settings in D0 the record's low threshold alone is the firmware's own. A preset in force is in force at once. -/
def restore (x : RecItem) (s : State) : State :=
  (itemPends s s.sys.ord (selfHdr 0) x).foldl (fun s p =>
    match p.cmd with
    | .tunerSelect _ q n _ _ => tunmod (hIndex q) (fun t => { t with inForce := n }) s
    | .rtcTrim _ _ => if s.rtc.d0Reset then effect p 0 s else s
    | .rtcWeekdaySet _ _ _ => if s.rtc.d0Reset then effect p 0 s else s
    | .rtcConfig _ v l => rmod (fun r => { r with vsw := if r.d0Reset then v else r.vsw, lowThr := l }) s
    | _ => effect p 0 s) s

end Sys2Proof.Machine
end

