-- ==== Sys2Proof/Machine/RecordDone.lean ====
section
/-! DEFINITION. The end of a record write (R565, R566, R570): the copy that comes into force, the effect of the command that waited for it,
and its reply. -/

namespace Sys2Proof.Machine

/-- The settings of a record whose copy 1 has been kept apply at pick p + 2 (R570); where no pick exists, at the next firmware start. (log 27: DEDUCED) -/
def resolvedPends (i : Nat) (h : Hdr) (s : State) : State :=
  if !domOn s 2 then s
  else
    let due := s.sys.ord + 2
    let b := (bodyOf s i).getD []
    match i with
    | 0 => ((items b).flatMap (itemPends s due h)).foldl (fun s p => if p.kind = 110 then schedAlso p s else schedQ p s) s
    | 2 => schedQ ⟨due, 0, nullHandle, 28, .pairConfig h (readPair b 0) 0, 0⟩ s
    | 4 => schedQ ⟨due, 0, nullHandle, 76, .limitsWrite h (readLimits b 0), 0⟩ s
    | _ => s

/-- The LIMITS in effect become those given (R574). (log 61: DEDUCED) -/
def limitsInForce (l : Limits) (s : State) : State := recmod (fun r => { r with limits := some (clipLimits l) }) s

/-- The effect of a command whose record has been written, with its status (R566): RECORD_FAILED and the like stand elsewhere. (log 27: DEDUCED) -/
def writtenEffect (c : Instr) (s : State) : Status × State :=
  match c with
  | .rolekeySet h role _ => (.ok, keyWritten h role s)
  | .limitsWrite h l =>
    let s := limitsInForce l s
    (if clipLimits l = l then .ok else .limited,
      if domOn s 2 then schedQ ⟨s.sys.ord + 1, 0, nullHandle, 76, .limitsWrite h l, 0⟩ s else s)
  | .recordResolve h rec keep =>
    let i := hIndex rec
    let s := ev 0x0E01 (cfgBody s i 2 (now s)) s
    (.ok, if keep = 1 then resolvedPends i h s else s)
  | .pairConfig h p t => (.ok, if domOn s 2 then schedQ ⟨s.sys.ord + 1, 0, nullHandle, 28, .pairConfig h p t, 0⟩ s else s)
  | _ => (.ok, s)

/-- The body of EV_PAIR_STATE (R621). -/
def pairBody (new old cause partner pick : Nat) : List Byte :=
  byte new ++ byte old ++ byte cause ++ zeros 1 ++ leBytes 4 partner ++ leBytes 8 pick

/-- The code of a pair state (R619). -/
def PairState.code : PairState → Nat
  | .unpaired => 0 | .joining => 1 | .solo => 2 | .isolated => 3 | .primary => 4 | .syncing => 5 | .synced => 6

/-- What a failed write leaves to say (R565, R602): the table has still to be snapshot; a PAIR record that stays as it was is reported. (log 32: DEDUCED) -/
def failedEffect (j : WriteJob) (s : State) : State :=
  match j.recIx with
  | 1 => { s with calib := { s.calib with dirty := true } }
  | 2 => ev 0x0F01 (pairBody s.pair.st.code s.pair.st.code 0x0A s.pair.cfg.partner (now s)) s
  | _ => s

/-- The command that waited for a record write answers; PAIR_CONFIG answered when it was accepted (R566, R602). -/
def writeAnswer (c : Instr) (st : Status) (s : State) : State :=
  match c with
  | .pairConfig _ _ _ => s
  | .recordResolve h rec _ => answer 0x0E03 .installer h rec st [] s
  | _ => answer (opOf c) ((opRow (opOf c)).elim .anonymous (·.1)) ((hdrOf c).getD (selfHdr 0)) nullHandle st [] s

/-- RECORD_WRITE_COMPLETE (R565, R566): `ok` says that the target reads back intact. A first failure writes once more. -/
def execRecordWriteComplete (ok : Bool) (s : State) : Host.Outcome State Fault Refusal :=
  match s.recs.jobs with
  | [] => .next s
  | j :: l =>
    match j.target with
    | none => .next s
    | some k =>
      if ok then
        let s := writeGood j k s
        let s := match j.cmd with
          | some c =>
            let (st, t) := writtenEffect c s
            writeAnswer c st t
          | none => s
        .next (nextWrite s)
      else if j.second then
        let s := failedEffect j (writeBad j k s)
        .next (nextWrite (match j.cmd with
          | some c => writeAnswer c .timeout s
          | none => s))
      else .next (recmod (fun r => { r with jobs := { j with second := true } :: l }) s)

end Sys2Proof.Machine
end

