-- ==== Sys2Proof/Machine/Boot.lean ====
section
/-! DEFINITION. Resets, the boot ROM and the start of firmware (chapter 22, R465, R481, R569, R576-R579): what a reset keeps, how BACKUP is
left, which image runs, and what firmware does until READY. -/

namespace Sys2Proof.Machine

/-- Changes what chapter 22 holds. -/
def sysmod (f : Sys → Sys) (s : State) : State := { s with sys := f s.sys }

/-! Resets. -/

/-- The order of the causes of R598. -/
def ResetCause.rank : ResetCause → Nat
  | .fwLoad => 0 | .command => 1 | .watchdog => 2 | .resetN => 3 | .brownOut => 4 | .powerOn => 5

/-- The cause reported where two apply (R598). -/
def firstCause (a b : ResetCause) : ResetCause := if b.rank < a.rank then b else a

/-- What a reset leaves (R15, R465, R596): MRAM, fuses, D0, the identity and the DIRECT image `keep` says is kept; everything else is as
after reset, in BACKUP. -/
def resetState (keep : Bool) (s : State) : State :=
  let s := finishWrites s
  let r := State.reset
  let f := s.fw
  { r with
    pending := s.pending, ident := s.ident
    sys := { r.sys with mode := .backup, domains := 1, cause := s.sys.cause, bootCount := s.sys.bootCount, vmain := s.sys.vmain
                        temp := s.sys.temp, vmainGood := s.sys.vmainGood, resetN := s.sys.resetN, addr := s.sys.addr, boot := s.sys.boot
                        pinAddr := s.sys.pinAddr, pinBoot := s.sys.pinBoot, halt := s.sys.halt, source := s.sys.source, free := s.sys.free }
    proto := { r.proto with miso := s.proto.miso, sentUdp := s.proto.sentUdp }
    audit := s.audit, recs := { s.recs with jobs := [], cfgDirty := none, trimSeg := [] }
    fw := { f with direct := if keep then f.direct else noImage, running := 0xFF, runVersion := 0, chosen := none, loadState := 0
                   loadTarget := 0, loadResult := 0, loadLen := 0, loadBytes := [] }
    tuners := s.tuners.map fun t => { Tuner.reset with ops := t.ops, wear := t.wear }
    rtc := { s.rtc with lowThr := 2200, vbackup := 0, low := false, lowPrev := false, latched := 0, latch := [], marks := [] } }

/-- The module enters BACKUP (R595, R596). -/
def toBackup (c : ResetCause) (keep : Bool) (s : State) : State :=
  if s.sys.mode = .backup then sysmod (fun y => { y with cause := firstCause y.cause c }) s
  else resetState keep (sysmod (fun y => { y with cause := c, halt := false, source := none }) s)

/-- The device ID that CONFIG holds; 0 where it holds none (R3). -/
def configId (s : State) : Nat :=
  match (items ((bodyOf s 0).getD [])).find? fun x => x.kind == 1 && x.value.length == 2 with
  | some x => fu x.value 0 2
  | none => 0

/-- The PAIR record in force (R562, R602): where it is ABSENT, ENABLE is clear. (log 44: DEDUCED) -/
def pairRecord (s : State) : PairCfg := ((bodyOf s 2).map fun b => readPair b 0).getD pairCfgReset

/-- The images the boot ROM tries, in order; none where it stays in DORMANT (R578, R585, R586). (log 41: DEDUCED) -/
def bootOrder (s : State) : List Nat :=
  let f := s.fw
  if s.sys.halt then []
  else match s.sys.source with
    | some k => [k]
    | none => match s.sys.boot.val with
      | 0 => [f.preferred, 1 - f.preferred]
      | 2 => [0, 1]
      | _ => []

/-- BACKUP is left (R569, R585, R590): the straps are sampled, the boot count advances, the records are recovered; DORMANT, or LOADING at once
where the boot source says so. -/
def leaveBackup (s : State) : State :=
  if s.sys.mode = .backup ∧ s.sys.vmainGood = true ∧ s.sys.resetN = true then
    let s := recoverAll (sysmod (fun y => { y with mode := .dormant, domains := 3, bootCount := y.bootCount + 1, addr := y.pinAddr
                                                   boot := y.pinBoot, pfail := false }) s)
    let c := pairRecord s
    let s := recmod (fun r => { r with limits := limitsOf s })
      { s with ident := { s.ident with deviceId := configId s }, pair := { s.pair with cfg := c, owner := !bit c.flags 0 } }
    if (bootOrder s).isEmpty then s else sysmod (fun y => { y with mode := .loading }) s
  else s

/-- A reset from within, which ends at once where the supply is good and RESET_N is high (R596, R597). (log 38: DEDUCED) -/
def resetNow (c : ResetCause) (s : State) : State := leaveBackup (toBackup c false s)

/-- The reset that a SYS_RESET or FW_BOOT asked for begins (R481, R579, R586). -/
def resetAsked (s : State) : State :=
  match s.sys.resetReq with
  | some q =>
    let s := toBackup q.cause (q.source == some 2) s
    leaveBackup (sysmod (fun y => { y with halt := q.halt, source := q.source }) s)
  | none => s

/-- A reset asked for over UDP begins once its reply has been sent (R481). (log 40: DEDUCED) -/
def resetIfSent (s : State) : State :=
  match s.sys.resetReq with
  | some q => match q.via with
    | .udp p a sp =>
      if s.proto.udp.any fun x => x.2.port == p && x.2.addr == a && x.2.sport == sp && x.2.sent.isSome
          && (x.2.reply.any fun r => (r.op == 0x0105 || r.op == 0x0E14) && r.status == .ok) then resetAsked s else s
    | _ => s
  | none => s

/-- What `serve` answers, with the reset that a reply sent over UDP begins. (log 40: DEDUCED) -/
def thenReset (o : Host.Outcome State Fault Refusal) : Host.Outcome State Fault Refusal :=
  match o with
  | .next s => .next (resetIfSent s)
  | x => x

/-- A reset accepted (R481). (log 40: DEDUCED) -/
def askReset (c : ResetCause) (halt : Bool) (source : Option Nat) (h : Hdr) (s : State) : State :=
  sysmod (fun y => { y with resetReq := some ⟨c, halt, source, h.via⟩ }) s

/-- SYS_RESET (R481). -/
def execSysReset (h : Hdr) (kind confirm : Nat) (s : State) : Host.Outcome State Fault Refusal :=
  thenReset (serve (.sysReset h kind confirm) 0x0105 .installer .all h nullHandle (fun s => chk do
    need (inR 1 kind 2 && confirm == 0x7440A55A) .badParam
    okay [] (askReset .command (kind == 2) none h s)) s)

/-- FW_BOOT (R579): a source that holds no valid image is not ready. (log 41: DEDUCED) -/
def execFwBoot (h : Hdr) (source flags confirm : Nat) (s : State) : Host.Outcome State Fault Refusal :=
  thenReset (serve (.fwBoot h source flags confirm) 0x0E14 .installer .all h nullHandle (fun s => chk do
    need (source < 3 && only flags 1 && confirm == 0x7440B007) .badParam
    need ((s.fw.image source).result == 1 && !(s.fw.image source).bytes.isEmpty) .notReady
    let s := if bit flags 0 && source < 2 then fwmod (fun f => { f with preferred := source }) s else s
    okay [] (askReset .fwLoad false (some source) h s)) s)

/-- RESET_DEADLINE (R481): 100 ms after the reply became ready. (log 40: DEDUCED) -/
def execResetDeadline (s : State) : Host.Outcome State Fault Refusal := .next (resetAsked s)

/-- A port's link comes up or goes down (R436); replies that wait for it are sent (R466). -/
def execEthLinkChange (port : Fin 2) (up : Bool) (s : State) : Host.Outcome State Fault Refusal :=
  let c := (ethPort s port.val).cfg
  if domOn s 9 && bit c.flags 0 then
    let s := setLink port.val (if up then (if bit c.flags 1 then 2 else 1) else 0) s
    .next (if up then resetIfSent ((s.proto.udp.map (·.1)).foldl (fun s k => udpSend k s) s) else s)
  else .next s

/-- VMAIN_GOOD (R584, R590). (log 39: DESIGN CHOICE) -/
def execVmainGood (addr : Fin 8) (boot : Fin 4) (s : State) : Host.Outcome State Fault Refusal :=
  if s.sys.mode = .backup then
    .next (leaveBackup (sysmod (fun y => { y with vmainGood := true, pinAddr := addr, pinBoot := boot }) s))
  else .next s

/-- PFAIL (R584, R595): whether D1 retention holds until VMAIN is good again is not shown here, and with it the cause is free (R598). (log 39: DESIGN CHOICE) -/
def execPfail (s : State) : Host.Outcome State Fault Refusal :=
  let c : ResetCause := if (draw s).getLsbD 0 then .brownOut else .powerOn
  .next (sysmod (fun y => { y with vmainGood := false, pfail := true }) (toBackup c false (drawn s)))

/-- RESET_N is low (R585, R596): the module is held in BACKUP. -/
def execResetNAssert (s : State) : Host.Outcome State Fault Refusal :=
  .next (sysmod (fun y => { y with resetN := false }) (toBackup .resetN false s))

/-- RESET_N rises (R585, R596). -/
def execResetNRelease (addr : Fin 8) (boot : Fin 4) (s : State) : Host.Outcome State Fault Refusal :=
  if s.sys.resetN then .next s
  else .next (leaveBackup (sysmod (fun y => { y with resetN := true, pinAddr := addr, pinBoot := boot }) s))

/-- Firmware has been started: D2 is on (R592). -/
def started (s : State) : Bool := domOn s 2

/-- WATCHDOG_EXPIRY (R597): 100 consecutive picks without an acknowledgement, or 100 ms before the first boundary. -/
def execWatchdogExpiry (s : State) : Host.Outcome State Fault Refusal :=
  if started s && (100 ≤ s.sys.missedAck || s.sys.ord == 0) then .next (resetNow .watchdog s) else .next s

/-- RAIL_FAULT (R594): a rail of D3 to D8 takes its domain off at the next boundary; one of D1, D2 or D9 resets the module. (log 38: DEDUCED) -/
def execRailFault (d : Fin 10) (s : State) : Host.Outcome State Fault Refusal :=
  if !domOn s d || d.val == 0 then .next s
  else if d.val == 1 || d.val == 2 || d.val == 9 then .next (resetNow .brownOut s)
  else .next (sysmod (fun y => { y with faulted := y.faulted ||| (1#10 <<< d.val) }) s)

/-! From LOADING to READY. -/

/-- The first image that verifies, each that was tried keeping its result (R578). (log 42: DEDUCED) -/
def verifyOrder : List Nat → Firmware → Firmware
  | [], f => { f with chosen := none }
  | k :: l, f =>
    let g := verifySource k f
    if (g.image k).result = 1 then { g with chosen := some k } else verifyOrder l g

/-- FW_VERIFY_COMPLETE (R578, R590): an image verifies and is about to start, or the boot ROM stays in DORMANT. (log 41: DEDUCED, 42: DEDUCED) -/
def execFwVerifyComplete (s : State) : Host.Outcome State Fault Refusal :=
  if s.sys.mode = .loading ∧ s.fw.chosen.isNone = true ∧ started s = false then
    let s := fwmod (verifyOrder (bootOrder s)) s
    .next (if s.fw.chosen.isSome then s else sysmod (fun y => { y with mode := .dormant }) s)
  else .next s

/-- The n-byte pieces of a body. (log 33: DEDUCED) -/
def pieces (n : Nat) : Nat → List Byte → List (List Byte)
  | 0, _ => []
  | k + 1, b => if b.length < n then [] else b.take n :: pieces n k (b.drop n)

/-- A hop profile as it is laid out (R93). -/
def readProfile (b : List Byte) : Profile :=
  let fl := fu b 20 1
  ⟨fu b 0 4, fu b 4 1, fu b 5 1, fu b 8 4, fu b 12 1, fu b 13 1, fu b 14 1, fu b 15 1, fu b 16 4, bit fl 0, bit fl 1, fs b 22 2, fu b 24 8, 0⟩

/-- The entries of the items of a kind. (log 33: DEDUCED, 68: DEDUCED) -/
def entriesOf (k : Nat) (l : List RecItem) : List CalEntry :=
  (l.filter (·.kind == k)).flatMap fun x => (pieces 32 (x.value.length / 32) x.value).map entryOf

/-- Calibration and hop profiles are taken from CAL when the module leaves DORMANT (R93, R181, R195). -/
def loadCal (s : State) : State :=
  let l := items ((bodyOf s 1).getD [])
  let snap := (entriesOf 0x30 l).map fun e => { e with snap := true, factory := false }
  let fact := ((entriesOf 0x21 l).filter fun e => !snap.any fun x => x.warp == e.warp && x.gBand == e.gBand && x.loBand == e.loBand).map
    fun e => { e with factory := true, valid := false, snap := false }
  let prof := fun (k : Nat) => ((l.find? fun x => x.kind == 0x31 && x.index == k).map fun x =>
    ((pieces 32 64 x.value).mapIdx fun j b => (j, readProfile b)).filter fun y => y.2.valid).getD []
  { s with calib := { s.calib with table := snap ++ fact
                                   factory := (l.filter fun x => inR 0x20 x.kind 0x25).map fun x => (x.kind, x.index, x.value) }
           syn := s.syn.mapIdx fun k y => { y with profiles := prof k } }

/-- The fixed objects, issued with generation 1 (R13, R25): ports and warps are SUSPENDED while their domains are off. (log 123: DEDUCED) -/
def fixedObjects : List Obj :=
  [(1, OState.suspended), (2, OState.suspended), (9, OState.idle), (0x0B, OState.idle), (0x0D, OState.idle)].flatMap fun c =>
    (List.range (classSize c.1)).map fun i => ⟨c.1, i, 1, c.2, .idle, [], [], if c.2 = .suspended then .domainOff else .none, false, false, 0, 0, nullHandle⟩

/-- FIRMWARE_START (R465, R592): slots, sessions and queue are discarded, D2 is on, CAL is taken; READY comes with the boundary of pick 1. (log 12: DEDUCED, 18: DESIGN CHOICE, 42: DEDUCED, 44: DEDUCED, 45: DEDUCED, 106: DEDUCED, 122: DESIGN CHOICE) -/
def execFirmwareStart (s : State) : Host.Outcome State Fault Refusal :=
  match s.fw.chosen with
  | some k =>
    if s.sys.mode = .loading ∧ started s = false then
      let s := fwmod (fun f => { f with running := k, runVersion := fwVersion (f.image k).bytes }) s
      let s := measureRing (drawn (sysmod (fun y => { y with domains := 7, ord := 0, missedAck := 0, upBase := (draw s).toNat }) s))
      let en := bit s.pair.cfg.flags 0
      .next (loadCal { s with proto := { Proto.reset with miso := s.proto.miso, sentUdp := s.proto.sentUdp }
                              auth := { s.auth with sess := [] }, reg := ⟨fixedObjects, [], []⟩, clk := { s.clk with mdll := false }
                              pair := { s.pair with st := if en then .joining else .unpaired, owner := !en, join := if en then some 0 else none } })
    else .next s
  | none => .next s

/-- What records recovery owes, in the order of the records (R569, R571). -/
def tellRecovered (s : State) : State :=
  let s := (List.range 5).foldl (fun s i =>
    if (recAt s i).owed = 0 then s else ev 0x0E01 (cfgBody s i (recAt s i).owed 0) s) s
  recmod (fun r => { r with recs := r.recs.map fun x => { x with owed := 0 } }) s

/-- The events of the clock at firmware start (R542, R548). -/
def tellClock (s : State) : State :=
  let s := if s.rtc.epDown then ev 0x0D02 (supplyBody s 2 s.rtc.lastDur 0) s else s
  let s := if s.rtc.osf then ev 0x0D02 (supplyBody s 5 0 0) s else s
  let s := [0, 1].foldl (fun s k => if (alarmAt s k).down then ev 0x0D01 (alarmBody k (alarmAt s k).skipped true false 0) s else s) s
  rmod (fun r => { r with epDown := false, alarms := r.alarms.map fun a => { a with down := false } }) s

/-- The anti-rollback counter advances the first time an image with a later version reaches READY (R576). (log 43: DEDUCED) -/
def advanceCounter (s : State) : State :=
  match s.fw.chosen with
  | some k =>
    let v := fwRollback (s.fw.image k).bytes
    if s.fw.counter < v then auditPut nullHandle 0x0E14 0 0x0F 0 0xFF (fwmod (fun f => { f with counter := v }) s) else s
  | none => s

/-- READY is entered at a boundary (R461, R592): D9 is on, the events are queued in order, and CONFIG is applied. -/
def enterReady (s : State) : State :=
  let s := sysmod (fun y => { y with mode := .ready, domains := y.domains ||| 0x200#10 }) s
  let s := ev 0x0101 (byte s.sys.cause.code ++ byte Mode.ready.code ++ zeros 2 ++ leCount 4 s.sys.bootCount ++ zeros 8) s
  let s := tellClock (tellRecovered s)
  let s := ev 0x0103 (modeBody s .loading 4 0) s
  let l := items ((bodyOf s 0).getD [])
  let s := l.foldl (fun s x => restore x s) (tdmOn s)
  let s := rmod (fun r => { r with d0Reset := false }) (recmod (fun r => { r with cfgDirty := none }) s)
  alignFixed (advanceCounter s)

end Sys2Proof.Machine
end

