-- ==== Sys2Proof/Machine/Transport.lean ====
section
/-! DEFINITION. The transports (R443-R456, R465, R503-R515, R539): how SPI, UDP and MB take packets and give replies, and the checks a
packet passes before it is a command. -/

namespace Sys2Proof.Machine

/-- Changes the protocol. -/
def protomod (f : Proto → Proto) (s : State) : State := { s with proto := f s.proto }

/-- Changes the management bus. -/
def mbmod (f : Mb → Mb) (s : State) : State := { s with mb := f s.mb }

/-- What a header-only reply to a packet echoes (R451). -/
def busProg (b : List Byte) : Prog := ⟨fu b 2 2, fu b 6 1, fu b 7 1⟩

/-- No further packet is taken (R481, R604): a reset has been accepted, or the commands announced for one frame have reached their limit. -/
def closed (s : State) : Bool :=
  s.sys.resetReq.isSome || (announces s && (if s.pair.snapOut.isEmpty then 24576 else 16384) ≤ s.pair.outBytes)

/-- A packet is taken: it waits for the interpreter, in the order of taking (R446). -/
def take (v : Via) (b : List Byte) (s : State) : State := protomod (fun p => { p with queue := p.queue ++ [⟨v, b⟩] }) s

/-- The slot of a transport as a packet is taken in it: the held reply is discarded (R450, R508). -/
def Slot.take (b : List Byte) : Slot := ⟨some (busProg b), none, false, false, true⟩

/-- The source of a READ or a REPLY_GET: the bytes, and whether they are the slot's reply (R451, R456, R509). -/
def slotBytesOut (x : Slot) (s : State) : List Byte × Bool :=
  match x.reply with
  | some r => (replyBytes r x.delivered s, true)
  | none => (replyBytes (busyReply (if x.taken then x.prog else none)) false s, false)

/-- A reply held is sent again with REPEAT: counted (R456, R464). -/
def countRepeat (again : Bool) (s : State) : State := if again then protomod (fun p => { p with repeats := p.repeats + 1 }) s else s

/-! SPI. -/

/-- The status header on SPI_MISO (R449). -/
def spiHeader (s : State) : List Byte :=
  let x := s.proto.spi
  let n := s.proto.events.length
  byte 0xA5 ++ byte (flagBits [x.reply.isSome && !x.delivered, x.prog.isSome, n != 0, x.discarded]) ++ leBytes 2 n

/-- IRQ_N is low (R452). -/
def irqLow (s : State) : Bool :=
  (s.proto.spi.reply.isSome && !s.proto.spi.delivered) || (!s.proto.events.isEmpty && bit s.proto.notify.mask 0)

/-- A WRITE on SPI of a stated length with the bytes received (R449, R450). -/
def execSpiWrite (stated : Nat) (bytes : List Byte) (s : State) : Host.Outcome State Fault Refusal :=
  if s.sys.mode = .backup then .next s
  else
    let out := spiHeader s ++ zeros bytes.length
    let s1 := protomod (fun p => { p with miso := out }) s
    if bytes.length < stated || !inR 12 stated 4108 || s.proto.spi.prog.isSome || closed s then
      .next (protomod (fun p => { p with spi := { p.spi with discarded := true }, spiDiscarded := p.spiDiscarded + 1 }) s1)
    else
      let b := bytes.take stated
      .next (take .spi b (protomod (fun p => { p with spi := Slot.take b, spiTaken := p.spiTaken + 1 }) s1))

/-- A READ on SPI that clocks out a number of bytes after the header (R451, R456); a delivery begins the reset it answers for (R481). -/
def execSpiRead (clocked : Nat) (s : State) : Host.Outcome State Fault Refusal :=
  if s.sys.mode = .backup then .next s
  else
    let (b, held) := slotBytesOut s.proto.spi s
    let out := spiHeader s ++ (b ++ zeros clocked).take clocked
    let again := held && s.proto.spi.delivered
    let done := held && b.length ≤ clocked
    let s := countRepeat again (protomod (fun p => { p with miso := out, spi := { p.spi with delivered := p.spi.delivered || done } }) s)
    .next (if done && (s.sys.resetReq.any fun q => q.via == .spi) then resetAsked s else s)

/-- A status-only transaction on SPI (R449). -/
def execSpiStatusOnly (s : State) : Host.Outcome State Fault Refusal :=
  .next (if s.sys.mode = .backup then s else protomod (fun p => { p with miso := spiHeader s }) s)

/-! UDP. -/

/-- A header-only reply leaves at once, outside any slot (R454). -/
def sendHeader (p : Fin 2) (a : IpAddr) (sport : Nat) (g : Prog) (notTaken : Bool) (s : State) : State :=
  sendUdp p a sport (replyBytes ⟨g.op, .busy, g.tag, g.sess, [], true, false, notTaken⟩ false s) s

/-- A packet arrives that is not taken because no slot is free for it (R454, R481). -/
def refuseUdp (p : Fin 2) (a : IpAddr) (sport : Nat) (b : List Byte) (s : State) : State :=
  sendHeader p a sport (busProg b) true (protomod (fun x => { x with udpRefused := x.udpRefused + 1 }) s)

/-- A packet is taken in a UDP slot (R454). -/
def takeUdp (k : Nat) (p : Fin 2) (a : IpAddr) (sport : Nat) (b : List Byte) (s : State) : State :=
  take (.udp p a sport) b (protomod (fun x =>
    { x with udp := tset x.udp k ⟨p, a, sport, fu b 6 1, b, some (busProg b), none, none⟩, udpTaken := x.udpTaken + 1 }) s)

/-- UDP is served on a port for a source's address family (R439, R465). -/
def udpServed (s : State) (p : Fin 2) (a : IpAddr) : Bool :=
  running s && domOn s 9 && ethUp s p && bit (ethPort s p).cfg.flags 0 && bit (ethPort s p).cfg.flags (if a.v6 then 4 else 3)

/-- A datagram arrives at the command port of an Ethernet port (R453, R454): less than a header is discarded in silence. -/
def execUdpPacketArrival (port : Fin 2) (addr : IpAddr) (sport : Nat) (bytes : List Byte) (s : State) : Host.Outcome State Fault Refusal :=
  if !udpServed s port addr || bytes.length < 8 then .next s
  else .next (
    let tag := fu bytes 6 1
    match udpFind s port addr sport tag with
    | some k =>
      match tget s.proto.udp k with
      | some u =>
        match u.prog, u.reply with
        | some g, _ => sendHeader port addr sport g false s
        | none, some r =>
          if u.cmd = bytes ∧ u.cmd ≠ [] then countRepeat true (sendUdp port addr sport (replyBytes r true s) s)
          else if closed s then refuseUdp port addr sport bytes s
          else takeUdp k port addr sport bytes s
        | none, none => if closed s then refuseUdp port addr sport bytes s else takeUdp k port addr sport bytes s
      | none => s
    | none => if closed s || udpFree s ≥ 16 then refuseUdp port addr sport bytes s else takeUdp (udpFree s) port addr sport bytes s)

/-- A held reply goes 10 s after it was sent (R454). -/
def execUdpReplyExpiry (slot : Fin 16) (s : State) : Host.Outcome State Fault Refusal :=
  .next (if (tget s.proto.udp slot).any fun u => u.sent.any fun n => decide (n.2 + 10000 ≤ s.sys.ord) then protomod (fun p => { p with udp := tdel p.udp slot }) s else s)

/-! The management bus. -/

/-- The address byte of a write or a read phase (R503). -/
def mbAddr (s : State) (read : Bool) : List Byte := byte (2 * (0x48 + s.sys.addr.val) + flag read)

/-- Every MB transfer ends the one before it, and with it the freeze of the shadow (R539). -/
def mbTransfer (s : State) : State := mbmod (fun m => { m with shadow := none, out := [] }) s

/-- A read offers its data and its check byte (R511). (log 15: DEDUCED) -/
def offer (code : Nat) (d : List Byte) (s : State) : State :=
  mbmod (fun m => { m with out := d ++ [pec (mbAddr s false ++ byte code ++ mbAddr s true ++ d)] }) s

/-- MB is served in every mode but BACKUP (R503). -/
def onMb (f : State → State) (s : State) : Host.Outcome State Fault Refusal := .next (if s.sys.mode = .backup then s else f (mbTransfer s))

/-- The condition of attention: a reply ready on MB, or events with MB in the mask (R452, R513). -/
def attnCond (s : State) : Bool :=
  (s.proto.mb.reply.isSome && !s.proto.mb.delivered) || (!s.proto.events.isEmpty && bit s.proto.notify.mask 1)

/-- Attention is armed (R513). (log 16: DEDUCED) -/
def attnArmed (s : State) : Bool := s.mb.attn && attnCond s

/-- Attention is disarmed (R513). (log 16: DEDUCED) -/
def disarm (s : State) : State := mbmod (fun m => { m with attn := false }) s

/-- IDENT (R505). -/
def execMbIdent (s : State) : Host.Outcome State Fault Refusal := onMb (fun s => offer 0x01 (byte 16 ++ identBytes s) s) s

/-- The STATUS read (R506). -/
def mbStatusBytes (s : State) : List Byte :=
  let x := s.proto.mb
  let n := s.proto.events.length
  byte (flagBits [x.reply.isSome && !x.delivered, x.prog.isSome, n != 0, x.discarded, s.mb.segErr, s.mb.pecErr, attnArmed s])
    ++ byte s.sys.mode.code ++ leBytes 2 n

/-- STATUS (R506, R509, R513). -/
def execMbStatus (s : State) : Host.Outcome State Fault Refusal :=
  onMb (fun s => disarm (mbmod (fun m => { m with cursor := 0, segErr := false, pecErr := false }) (offer 0x02 (mbStatusBytes s) s))) s

/-- A write's check byte (R511): whether the write stands. (log 15: DEDUCED) -/
def pecOk (s : State) (code : Nat) (body : List Byte) (check : Option Byte) (extra : Bool) : Bool :=
  !extra && match check with
  | some c => c == pec (mbAddr s false ++ byte code ++ body)
  | none => !s.mb.pecReq

/-- A write that is ignored (R511). (log 15: DEDUCED) -/
def pecFail (s : State) : State := mbmod (fun m => { m with pecErr := true, pecFails := m.pecFails + 1 }) s

/-- A partial packet is discarded with SEG_ERROR (R507). (log 14: DEDUCED) -/
def segFail (s : State) : State := mbmod (fun m => { m with partialPkt := none, expect := 0, segErr := true }) s

/-- A packet on MB is discarded (R507, R508). -/
def mbDiscard (s : State) : State :=
  protomod (fun p => { p with mb := { p.mb with discarded := true }, mbDiscarded := p.mbDiscarded + 1 }) s

/-- A segment is accepted as the next of its packet (R507, R508): after the last one the packet is taken, or discarded when it is short or
nothing is taken. (log 14: DEDUCED) -/
def segTake (have_ : List Byte) (index : Nat) (last : Bool) (d : List Byte) (s : State) : State :=
  let b := have_ ++ d
  if b.length > 4108 then segFail s
  else if last then
    let s := mbmod (fun m => { m with partialPkt := none, expect := 0 }) s
    if b.length < 12 || closed s then mbDiscard s
    else take .mb b (mbmod (fun m => { m with cursor := 0 })
      (protomod (fun p => { p with mb := Slot.take b, mbTaken := p.mbTaken + 1 }) s))
  else mbmod (fun m => { m with partialPkt := some b, expect := index + 1 }) s

/-- A segment, by the rules of R507 in order. `ctl` is its control byte. (log 14: DEDUCED) -/
def mbSegment (ctl : Nat) (d : List Byte) (s : State) : State :=
  let first := bit ctl 0
  let last := bit ctl 1
  let index := ctl / 4 % 64
  if s.proto.mb.prog.isSome then
    let s := mbmod (fun m => { m with partialPkt := none, expect := 0, skipping := true }) s
    if s.proto.mb.discarded then s else mbDiscard s
  else if first then
    let s := mbmod (fun m => { m with skipping := false, partialPkt := none, expect := 0, segErr := m.segErr || m.partialPkt.isSome }) s
    if index ≠ 0 then segFail s else segTake [] 0 last d s
  else if s.mb.skipping then s
  else match s.mb.partialPkt with
    | some b => if index = s.mb.expect then segTake b index last d s else segFail s
    | none => segFail s

/-- CMD_PUT (R505, R507, R511): `data` is the control byte and 1 to 254 packet bytes; another count has no effect. (log 14: DEDUCED, 15: DEDUCED) -/
def execMbCmdPut (data : List Byte) (check : Option Byte) (extra : Bool) (s : State) : Host.Outcome State Fault Refusal :=
  onMb (fun s =>
    if !inR 2 data.length 255 then s
    else if pecOk s 0x10 (byte data.length ++ data) check extra then mbSegment (fu data 0 1) (data.drop 1) s
    else pecFail s) s

/-- REPLY_GET (R509, R510): `whole` says that the last byte of the segment has been transferred and the transfer has ended with a STOP or a
repeated START, `stop` that it ended with a STOP. -/
def execMbReplyGet (whole stop : Bool) (s : State) : Host.Outcome State Fault Refusal :=
  onMb (fun s =>
    let x := s.proto.mb
    let (b, held) := slotBytesOut x s
    let n := (b.length + 253) / 254
    let k := min s.mb.cursor (n - 1)
    let d := (b.drop (254 * k)).take 254
    let last := k + 1 == n
    let s := offer 0x11 (byte (d.length + 1) ++ byte (flagBits [k == 0, last] + 4 * k) ++ d) s
    let s := countRepeat (held && x.delivered && k == 0) s
    if whole && held && last && stop then
      let s := mbmod (fun m => { m with cursor := 0 }) (protomod (fun p => { p with mb := { p.mb with delivered := true } }) s)
      if s.sys.resetReq.any fun q => q.via == .mb then resetAsked s else s
    else if whole && s.mb.cursor < n then mbmod (fun m => { m with cursor := m.cursor + 1 }) s
    else s) s

/-- ATTN_ACK (R505, R511, R513). -/
def execMbAttnAck (check : Option Byte) (extra : Bool) (s : State) : Host.Outcome State Fault Refusal :=
  onMb (fun s => if pecOk s 0x18 [] check extra then disarm s else pecFail s) s

/-- The shadow freezes as the first data byte is sent (R539): the count, OSF and the weekday of one crystal cycle. -/
def freeze (ended : Bool) (f : Nat × Bool × Nat → List Byte) (code : Nat) (s : State) : State :=
  if s.mb.rtcOpen then
    let x := (s.rtc.count.toNat, s.rtc.osf, s.rtc.weekday)
    offer code (f x) (mbmod (fun m => { m with shadow := if ended then none else some x }) s)
  else s

/-- RTC_SNAP (R505, R539): `ended` says that the transfer has ended, so that the shadow is released. -/
def execMbRtcSnap (ended : Bool) (s : State) : Host.Outcome State Fault Refusal :=
  onMb (freeze ended (fun x => leBytes 7 x.1 ++ byte (flag x.2.1)) 0x30) s

/-- RTC_WEEKDAY (R505, R539). -/
def execMbRtcWeekday (ended : Bool) (s : State) : Host.Outcome State Fault Refusal :=
  onMb (freeze ended (fun x => byte x.2.2) 0x31) s

/-- A transfer with a code that is not assigned is NACKed and has no effect (R505). -/
def execMbUnassignedCode (_code : Byte) (s : State) : Host.Outcome State Fault Refusal := onMb id s

/-- A partial packet has had no further segment for 1 s (R507). -/
def execMbSegmentTimeout (s : State) : Host.Outcome State Fault Refusal := .next (if s.mb.partialPkt.isSome then segFail s else s)

/-- SCL on MB has been low for more than 25 ms (R515, R530). -/
def execMbStuckBus (s : State) : Host.Outcome State Fault Refusal :=
  onMb (fun s => ev 0x0107 (pbBody s none 7 0xFF) (mbmod (fun m => { m with timeouts := m.timeouts + 1 }) s)) s

/-- An attempt at an attention pulse (R514): `free` says that the bus stayed free for the 100 µs before it, `sclFell` that SCL fell during
the pulse. (log 16: DEDUCED) -/
def execAttnAttempt (free sclFell : Bool) (s : State) : Host.Outcome State Fault Refusal :=
  .next (if s.sys.mode ≠ .backup ∧ attnArmed s = true ∧ free = true ∧ sclFell = false then mbmod (fun m => { m with pulses := m.pulses + 1 }) s
    else s)

/-! The checks of a packet before it is a command (R447). -/

/-- The interpreter is held by a command that writes a record (R446, R583). -/
def busyRec (s : State) : Bool :=
  s.recs.jobs.any fun j => match j.cmd with
    | some (.pairConfig _ _ _) => false
    | some _ => true
    | none => false

/-- The header facts of a packet. -/
def hdrIn (v : Via) (b : List Byte) : Hdr := ⟨v, fu b 6 1, fu b 7 1, fu b 1 1 / 4 != 0⟩

/-- Checks 1 to 4 (R447): the first that fails, or the opcode's right and key. (log 9: DEDUCED) -/
def checkPacket (v : Via) (b : List Byte) (s : State) : Except Status (Right × Key) :=
  if b.length < 12 || fu b 4 2 + 12 != b.length || paramLimit s v < fu b 4 2 then .error .badLength
  else if withCrc (b.take (b.length - 4)) ≠ b then .error .badCrc
  else if fu b 0 1 ≠ 1 ∨ fu b 1 1 % 4 ≠ 0 then .error .badOpcode
  else match opRow (fu b 2 2) with
    | some x => .ok x
    | none => .error .badOpcode

/-- What the interpreter makes of a packet: a reply at once, or a command to run. -/
inductive Read where
  | reply (s : State)
  | run (i : Instr) (s : State)

/-- A packet fails before it is a command. -/
def refusePacket (v : Via) (b : List Byte) (r : Right) (c : Status) (s : State) : State :=
  let s := if c = .badCrc then protomod (fun p => { p with badCrc := p.badCrc + 1 }) s else s
  answer (fu b 2 2) r (hdrIn v b) nullHandle c [] s

/-- The interpreter takes up a packet (R447): checks 1 to 4, and check 7 after checks 5 and 6 where the parameter length is none the command
allows. (log 2: DESIGN CHOICE) -/
def interpret (t : Taken) (s : State) : Read :=
  let b := t.bytes
  match checkPacket t.via b s with
  | .error c => .reply (refusePacket t.via b .anonymous c s)
  | .ok (r, k) =>
    let h := hdrIn t.via b
    match decodeCmd h (fu b 2 2) ((b.drop 8).take (fu b 4 2)) with
    | some i => .run i s
    | none =>
      if !rightOk r h s then .reply (refusePacket t.via b r .noRight s)
      else .reply (refusePacket t.via b r ((k.refuses s.sys.mode).getD .badLength) (sessNamed h s))

/-- The packet taken first, where the interpreter is free for it. (log 2: DESIGN CHOICE) -/
def nextTaken (s : State) : Option (Taken × State) :=
  match s.proto.queue with
  | t :: l => if busyRec s || s.sys.mode == .backup then none else some (t, protomod (fun p => { p with queue := l }) s)
  | [] => none

end Sys2Proof.Machine
end

