-- ==== Sys2Proof/Machine/Pair.lean ====
section
/-! DEFINITION. The redundant pair (R601-R616, R619-R621) and farms (R617, R620): ownership, the pair states, the frames of the pair link, and what
the owner announces as the secondary applies it. -/

namespace Sys2Proof.Machine

/-- Changes the pair. -/
def pairmod (f : Pair → Pair) (s : State) : State := { s with pair := f s.pair }

/-! States and ownership. -/

/-- The pair state changes: EV_PAIR_STATE (R608, R621). -/
def pairGo (st : PairState) (cause : Nat) (s : State) : State :=
  ev 0x0F01 (pairBody st.code s.pair.st.code cause s.pair.cfg.partner (now s)) (pairmod (fun p => { p with st := st }) s)

/-- A change of state for which R608 names no cause: the cause reported is a free value. (log 109: DESIGN CHOICE) -/
def pairGoFree (st : PairState) (s : State) : State := pairGo st ((draw s).toNat % 256) (drawn s)

/-- The TDM pins are driven or released with OWN (R404, R606). -/
def driveTdm (b : Bool) (s : State) : State := { s with tdm := s.tdm.map fun p => { p with driving := b } }

/-- The module asserts OWN and becomes owner (R404, R435, R605). (log 110: DEDUCED) -/
def beOwner (s : State) : State :=
  ownerStreams (driveTdm true (pairmod (fun p => { p with owner := true, drive := true, ownLow := true, built := false, ready := false
                                                          mirrorAt := none, held := [], snapshot := false, snapBuf := [], rebuild := none }) s))

/-- The module releases OWN and its ownership (R606, R607). (log 110: DEDUCED) -/
def loseOwner (s : State) : State :=
  driveTdm false (pairmod (fun p => { p with owner := false, drive := false, ready := false, mirrorAt := none, out := [], outBytes := 0
                                             snapshot := false, snapOut := [], snapPos := 0, snapEnd := none }) s)

/-- A snapshot begins with the next frame (R608, R610). (log 112: DEDUCED) -/
def snapBegin (s : State) : State := pairmod (fun p => { p with snapshot := true, snapOut := [], snapPos := 0, snapEnd := none }) s

/-- Port maps inverse to each other (R602). -/
def mapsInverse (a b : List Nat) : Bool :=
  let inv := fun (x y : List Nat) => (List.range 4).all fun k => 4 ≤ nth x k 0xFF || nth y (nth x k 0xFF) 0xFF == k
  inv a b && inv b a

/-- The partners agree (R602). -/
def partnersAgree (f : PlFrame) (s : State) : Bool :=
  let c := s.pair.cfg
  c.id == f.pairId && c.partner == f.serial && f.names == s.ident.serial && c.position != f.position && mapsInverse c.map f.map
    && deviceId s != f.device

/-- The partner reports owner in its last frame. (log 110: DEDUCED) -/
def partnerOwns (s : State) : Bool := s.pair.partner.any fun q => bit q.flags 0

/-- What a frame changes in the pair state (R608). -/
def pairMeet (s : State) : State :=
  match s.pair.partner with
  | none => s
  | some q =>
    if q.agree then
      let s := pairmod (fun p => { p with mismatch := false }) s
      match s.pair.st with
      | .joining => if bit q.flags 0 || s.pair.cfg.position != 0 then s else snapBegin (pairGo .primary 1 (beOwner s))
      | .solo => snapBegin (pairGo .primary 1 s)
      | .isolated => pairGo .joining 1 (pairmod (fun p => { p with ready := false, mirrorAt := none, built := false }) s)
      | _ => s
    else if s.pair.st = .joining ∧ s.pair.mismatch = false then pairGo .joining 6 (pairmod (fun p => { p with mismatch := true }) s)
    else s

/-- The join wait of the module's position, in ms (R608). -/
def joinWait (s : State) : Nat := if s.pair.cfg.position = 0 then 2000 else 4000

/-- The join wait can have ended: its time in picks has passed since the boundary at which the record took effect, or since firmware start, 2 ms
before the first boundary (R592, R608). (log 159: DEDUCED) -/
def joinOver (s : State) : Bool := s.pair.join.any fun j => j + joinWait s ≤ s.sys.ord + (if j = 0 then 2 else 0)

/-- With the join wait over and the link down, OWN decides (R608). (log 159: DEDUCED) -/
def joinAlone (s : State) : State :=
  if s.pair.st = .joining ∧ s.pair.join.isNone = true ∧ s.pair.link = false then
    if s.pair.ownLow then pairGo .isolated 0x0B s else pairGo .solo 0x0B (beOwner s)
  else s

/-- JOIN_WAIT_END (R608): the join wait ends. -/
def execJoinWaitEnd (ownHeld : Bool) (s : State) : Host.Outcome State Fault Refusal :=
  .next (if s.pair.st = .joining ∧ joinOver s = true then joinAlone (pairmod (fun p => { p with join := none, ownLow := ownHeld }) s) else s)

/-- HEARTBEAT_MISS (R603, R608): at the third in succession the partner counts as lost. -/
def execHeartbeatMiss (s : State) : Host.Outcome State Fault Refusal :=
  if s.pair.st = .unpaired then .next s
  else
    let s := pairmod (fun p => { p with missRun := p.missRun + 1, misses := p.misses + 1, equalRun := 0, diffRun := 0, joinRun := 0, skewRun := 0 }) s
    if s.pair.missRun < 3 then .next s
    else match s.pair.st with
      | .primary => .next (pairGo .solo 2 (pairmod (fun p => { p with out := [], outBytes := 0, snapshot := false, snapOut := [], snapPos := 0, snapEnd := none }) s))
      | .syncing => .next (if s.pair.ownLow then pairGo .isolated 2 s else s)
      | .synced => .next (if s.pair.ownLow then pairGo .isolated 2 s else s)
      | _ => .next s

/-- PL_LINK_CHANGE (R603): the frames that follow an up link decide the state; a link lost after the join wait leaves it to OWN (R608). -/
def execPlLinkChange (up : Bool) (s : State) : Host.Outcome State Fault Refusal :=
  if domOn s 2 then
    .next (joinAlone (pairmod (fun p => { p with link := up, skew := if up then p.skew else none, mismatch := false, joinRun := 0, skewRun := 0, pickDiff := false }) s))
  else .next s

/-- OWN_HW_RELEASE (R5, R605, R606): two picks without acknowledgement release OWN, with it ownership and the pins it gates. (log 110: DEDUCED) -/
def execOwnHwRelease (s : State) : Host.Outcome State Fault Refusal :=
  if s.pair.drive && 2 ≤ s.sys.missedAck then .next (driveTdm false (pairmod (fun p => { p with owner := false, drive := false, ownLow := false }) s)) else .next s

/-- OWN_RELEASE (R608, R613): a secondary in MIRROR with no handover announced asserts OWN, and takes over at the next boundary; an ISOLATED
module outside MIRROR becomes SOLO. -/
def execOwnRelease (s : State) : Host.Outcome State Fault Refusal :=
  let p := s.pair
  if p.drive || p.st = .unpaired then .next s
  else if p.handover.isSome then .next (pairmod (fun p => { p with ownLow := false }) s)
  else match p.st with
    | .joining => .next (pairmod (fun p => { p with ownLow := false }) s)
    | st =>
      if s.sys.mode = .mirror then
        .next (pairmod (fun p => { p with drive := true, ownLow := true, takeDue := some (s.sys.ord + 1), takeIso := st == .isolated, fastTake := 0 }) s)
      else if st = .isolated then .next (pairGoFree .solo (beOwner s))
      else .next s

/-- FAILOVER_TDM_DRIVE (R613): the OUT ports drive, `ns` after the release was seen. -/
def execFailoverTdmDrive (ns : Nat) (s : State) : Host.Outcome State Fault Refusal :=
  if s.pair.takeDue.isSome then
    .next (pairmod (fun p => { p with fastTake := if p.fastTake = 0 then ns else p.fastTake })
      { s with tdm := s.tdm.map fun p => if p.cfg.dir = 1 then { p with driving := true } else p })
  else .next s

/-- The conditions of R609 as the module sees them now. -/
def joinable (s : State) : Bool :=
  s.pair.link && (s.pair.partner.any fun q => q.agree && q.label == s.tb.label) && s.pair.skew.any (inI (-1000) · 1000)

/-- MIRROR_JOIN (R609): the conditions have held for 1 s. A JOINING module whose partner owns is ready; the owner announces the boundary, and after an
alignment fault sends a new snapshot. (log 159: DEDUCED) -/
def execMirrorJoin (s : State) : Host.Outcome State Fault Refusal :=
  if !(joinable s && 1000 ≤ s.pair.joinRun) then .next s
  else match s.pair.st with
    | .joining => .next (if partnerOwns s then pairmod (fun p => { p with ready := true, fault := false }) s else s)
    | .syncing => .next (pairmod (fun p => { p with fault := false }) s)
    | .synced => .next (pairmod (fun p => { p with fault := false }) s)
    | .primary =>
      let s := if s.pair.fault then snapBegin (pairmod (fun p => { p with fault := false }) s) else s
      .next (if s.pair.partner.any fun q => q.state == 1 then
        announce 9 nullHandle (pickAt s (s.sys.ord + 2)) (byte 7 ++ leBytes 2 s.sys.domains.toNat ++ zeros 1) s else s)
    | _ => .next s

/-- MIRROR_SYNCED (R612): the valid maps have been equal in 1,000 consecutive picks. -/
def execMirrorSynced (s : State) : Host.Outcome State Fault Refusal :=
  .next (if s.pair.st = .syncing ∧ 1000 ≤ s.pair.equalRun then pairGo .synced 3 s else s)

/-- MIRROR_UNSYNCED (R608): they have differed in 100 consecutive picks. -/
def execMirrorUnsynced (s : State) : Host.Outcome State Fault Refusal :=
  .next (if s.pair.st = .synced ∧ 100 ≤ s.pair.diffRun then pairGo .syncing 4 s else s)

/-- ALIGN_FAULT (R608, R609): the skew has lain beyond ±10 µs in the frames of 1 s, or PICK# differed at a boundary. (log 159: DEDUCED) -/
def execAlignFault (s : State) : Host.Outcome State Fault Refusal :=
  let f := pairmod (fun p => { p with fault := true, equalRun := 0, pickDiff := false, skewRun := 0 })
  if !(s.pair.pickDiff || 1000 ≤ s.pair.skewRun) then .next s
  else match s.pair.st with
  | .primary => .next (f s)
  | .syncing => .next (f s)
  | .synced => .next (pairGo .syncing 5 (f s))
  | _ => .next s

/-! Commands. -/

/-- PAIR_CONFIG (R602, R616): the record is written at the target boundary. (log 111: DEDUCED) -/
def execPairConfig (h : Hdr) (c : PairCfg) (target : Nat) (s : State) : Host.Outcome State Fault Refusal :=
  serve (.pairConfig h c target) 0x0F01 .installer .ctl h nullHandle (fun s => chkRec 2 s do
    let used := c.map.filter fun x => x != 0xFF
    need (c.id != 0 && c.partner != s.ident.serial && used.eraseDups.length == used.length && used.all (· < 4) && c.position < 2 && only c.flags 1) .badParam
    let due ← get! .badParam (dueOf s target)
    need (!inConflict s 2) .conflict
    need (!s.pair.link || (s.pair.owner && !bit c.flags 0)) .conflict
    need (c.position == 0 || (List.range 4).all fun k => nth c.map k 0xFF == 0xFF || !bit (portAt s k).feed.flags 0) .conflict
    let t := schedQ ⟨due, 0, nullHandle, 25, .pairConfig h c target, 0⟩ s
    okay (posReply s due 0) (if bit c.flags 0 then t else announce 11 nullHandle (pickAt s due) [] t)) s

/-- The PAIR_STATUS reply (R619). -/
def pairStatusBytes (s : State) : List Byte :=
  let p := s.pair
  byte p.st.code ++ byte (flagBits [bit p.cfg.flags 0, p.owner, p.ownLow || p.drive, p.link, p.fault, p.handover.any (s.sys.ord < ·), p.snapshot])
    ++ byte p.cfg.position ++ byte (p.partner.elim 0xFF (·.state)) ++ leBytes 4 p.cfg.id ++ leBytes 4 p.cfg.partner
    ++ leBytes 2 (p.partner.elim 0xFFFF (·.device)) ++ leCount 1 p.missRun ++ zeros 1 ++ leCount 4 p.misses
    ++ leSigned 4 (if p.link then p.skew.getD (-2147483648) else -2147483648) ++ leBytes 4 p.delay ++ leBytes 2 p.mapDiff ++ leCount 2 p.failovers
    ++ leCount 4 p.diverged ++ zeros 4 ++ leBytes 8 (now s)

/-- PAIR_STATUS (R619). -/
def execPairStatus (h : Hdr) (s : State) : Host.Outcome State Fault Refusal :=
  serve (.pairStatus h) 0x0F02 .operator .fw h nullHandle (fun s => chk (okay (pairStatusBytes s) s)) s

/-- The owner can hand over, and on which grounds it cannot (R615). (log 111: DEDUCED) -/
def handoverOk (force : Bool) (s : State) : Chk Unit := do
  need (s.pair.link && s.pair.st == .primary && (force || s.pair.partner.any fun q => q.state == 6)) .notReady
  need (s.sys.mode != .probe) .conflict

/-- The owner takes up a handover: it is announced. -/
def handoverAt (due : Nat) (s : State) : State :=
  announce 10 nullHandle (pickAt s due) [] (pairmod (fun p => { p with handover := some due }) s)

/-- PAIR_HANDOVER (R615): on the secondary it is passed on as REQUEST. (log 111: DEDUCED) -/
def execPairHandover (h : Hdr) (flags target : Nat) (s : State) : Host.Outcome State Fault Refusal :=
  serve (.pairHandover h flags target) 0x0F03 .operator .fw h nullHandle (fun s => chk do
    need (only flags 1) .badParam
    if s.pair.st = .synced ∨ s.pair.st = .syncing then
      let due ← (if target = 0 then .ok (s.sys.ord + 3) else get! .badParam (dueOf s target))
      need (s.sys.ord + 3 ≤ due) .badParam
      need (s.pair.link && s.pair.st == .synced) .notReady
      need (s.pair.ownerMode != 6) .conflict
      let a : Ann := ⟨13, nullHandle, pickAt s due, byte flags ++ zeros 3 ++ leBytes 8 (pickAt s due)⟩
      okay (posReply s due 0) (pairmod (fun p => { p with out := p.out ++ [a] }) s)
    else
      let due ← get! .badParam (dueOf s target)
      handoverOk (bit flags 0) s
      okay (posReply s due 0) (handoverAt due s)) s

/-- DEVICE_ID_SET (R3, R617): at acceptance. -/
def execDeviceIdSet (h : Hdr) (id : Nat) (s : State) : Host.Outcome State Fault Refusal :=
  serve (.deviceIdSet h id) 0x0F10 .installer .ctl h nullHandle (fun s => chkRec 0 s do
    need (only id 10) .badParam
    cfgOk s
    okay [] (cfgTouch (roleOf s h) (setDeviceId id s))) s

/-- The FARM_STATUS reply (R620). -/
def farmBytes (s : State) : List Byte :=
  let p := s.pair
  leBytes 2 (deviceId s) ++ byte s.tb.label ++ byte s.tb.state.code ++ byte s.tb.source ++ byte p.st.code ++ zeros 2
    ++ leSigned 4 (s.tb.pickInMean.getD (-2147483648)) ++ leSigned 4 (if p.link then p.skew.getD (-2147483648) else -2147483648)
    ++ leBytes 4 (if p.st = .unpaired then 0 else p.cfg.partner) ++ leBytes 2 (p.partner.elim 0xFFFF (·.device)) ++ zeros 2 ++ leBytes 8 (now s)

/-- FARM_STATUS (R620). -/
def execFarmStatus (h : Hdr) (s : State) : Host.Outcome State Fault Refusal :=
  serve (.farmStatus h) 0x0F11 .operator .fw h nullHandle (fun s => chk (okay (farmBytes s) s)) s

/-! What the secondary applies. -/

/-- The next state of an outcome. -/
def nextOr (s : State) : Host.Outcome State Fault Refusal → State
  | .next t => t
  | _ => s

/-- A port of the owner as this module has it, by the port map (R602, R611). (log 114: DEDUCED) -/
def mapPort (s : State) (h : Handle) : Handle :=
  if hClass h ≠ 1 then h
  else match (List.range 4).find? fun k => nth s.pair.cfg.map k 0xFF == hIndex h with
    | some k => portH k
    | none => nullHandle

/-- A change of the owner whose own checks were made there is scheduled here. -/
def mirrorSched (i : Instr) (obj : Handle) (kind sample : Nat) (s : State) : State :=
  match (targetOf i).bind (dueOf s) with
  | some due => schedQ ⟨due, sample, obj, kind, i, 0⟩ s
  | none => s

/-- A command of the owner takes effect here too (R604, R610, R611): those on objects of the pools, and on the settings that follow the
owner. Mode and domain switches are followed at their boundary. (log 25: DEDUCED) -/
def mirrorRun (i : Instr) (s : State) : State :=
  match i with
  | .sysModeSet _ _ _ => mirrorSched i nullHandle 2 0 s
  | .sysDomainSet _ _ _ _ => mirrorSched i nullHandle 3 0 s
  | .followCommit _ set _ sample _ _ => mirrorSched i set 60 sample s
  | .heddleRoute h w q t => nextOr s (execHeddleRoute h w (mapPort s q) t s)
  | .pbConfig h f w => nextOr s (execPbConfig h f w s)
  | .pbPeriphCreate h p => nextOr s (execPbPeriphCreate h p s)
  | .pbPeriphRelease h p => nextOr s (execPbPeriphRelease h p s)
  | .warpTune h w r t => nextOr s (execWarpTune h w r t s)
  | .warpGain h w g t => nextOr s (execWarpGain h w g t s)
  | .warpAgc h w c => nextOr s (execWarpAgc h w c s)
  | .synDitherSet h k f v => nextOr s (execSynDitherSet h k f v s)
  | .calPolicy h c => nextOr s (execCalPolicy h c s)
  | .timePolicy h c => nextOr s (execTimePolicy h c s)
  | .dentCreate h r t => nextOr s (execDentCreate h r t s)
  | .dentSet h d c t => nextOr s (execDentSet h d c t s)
  | .dentBankLoad h d b => nextOr s (execDentBankLoad h d b s)
  | .dentBankSwap h d k t => nextOr s (execDentBankSwap h d k t s)
  | .dentFlush h d k t => nextOr s (execDentFlush h d k t s)
  | .dentRelease h d k t => nextOr s (execDentRelease h d k t s)
  | .weaveCreate h r t => nextOr s (execWeaveCreate h r t s)
  | .weaveStart h w t => nextOr s (execWeaveStart h w t s)
  | .weaveStop h w t => nextOr s (execWeaveStop h w t s)
  | .weaveRelease h w t => nextOr s (execWeaveRelease h w t s)
  | .weaveSet h w q m t b => nextOr s (execWeaveSet h w q m t b s)
  | .digDecodeSet h w n t l => nextOr s (execDigDecodeSet h w n t l s)
  | .serviceRelease h v t => nextOr s (execServiceRelease h v t s)
  | .followCreate h n g f d t l => nextOr s (execFollowCreate h n g f d t l s)
  | .followSet h x n t l => nextOr s (execFollowSet h x n t l s)
  | .followRelease h x t => nextOr s (execFollowRelease h x t s)
  | .followPolicy h x c => nextOr s (execFollowPolicy h x c s)
  | .measWindow h o w => nextOr s (execMeasWindow h o w s)
  | .measThreshold h o t => nextOr s (execMeasThreshold h o t s)
  | .loudnessReset h o t => nextOr s (execLoudnessReset h o t s)
  | .audioMonSet h o c => nextOr s (execAudioMonSet h o c s)
  | .verifySet h r t => nextOr s (execVerifySet h r t s)
  | .verifyClear h k t => nextOr s (execVerifyClear h k t s)
  | .tdmPortConfig h p c t => nextOr s (execTdmPortConfig h p c t s)
  | .tdmStreamCreate h r t => nextOr s (execTdmStreamCreate h r t s)
  | .tdmStreamRelease h x t => nextOr s (execTdmStreamRelease h x t s)
  | .alignCreate h t => nextOr s (execAlignCreate h t s)
  | .alignAdd h g x t => nextOr s (execAlignAdd h g x t s)
  | .alignRemove h g x t => nextOr s (execAlignRemove h g x t s)
  | .alignRelease h g t => nextOr s (execAlignRelease h g t s)
  | .ethStreamCreate h r t => nextOr s (execEthStreamCreate h r t s)
  | .ethStreamRelease h x t => nextOr s (execEthStreamRelease h x t s)
  | _ => s

/-- A command under the handle that its announcement names (R612). (log 25: DEDUCED) -/
def mirrorAs (obj : Handle) (i : Instr) (s : State) : State :=
  let t := mirrorRun i (pairmod (fun p => { p with applying := some (if creates (opOf i) then obj else nullHandle) }) s)
  pairmod (fun p => { p with applying := none }) t

/-- The command of a COMMAND body (R604). -/
def bodyCmd (b : List Byte) : Option Instr := decodeCmd ⟨.self, fu b 2 1, fu b 3 1, false⟩ (fu b 0 2) ((b.drop 8).take (fu b 4 2))

/-- Samples differ from the owner's (R604, R612): how many is a free value. (log 115: DESIGN CHOICE) -/
def diverge (s : State) : State := pairmod (fun p => { p with diverged := p.diverged + (draw s).toNat % 2 ^ 32 }) (drawn s)

/-- The declared bandwidth of a dent the owner created of its own accord, by its rate (R334, R355). (log 86: PRESUMED, 114: DEDUCED) -/
def ownBw (rate : Nat) : Nat := if rate = 4 then 256000 else if rate = 7 then 1536000 else if rate = 3 then 100000 else 10000

/-- A dent as its status says (R228, R604). (log 114: DEDUCED) -/
def issueDent (h : Handle) (b : List Byte) (s : State) : State :=
  let r : DentReq := ⟨fh b 8, fu b 5 1, fu b 40 1, if fu b 30 1 = 0 then 0 else 1, if fu b 31 1 = 0 then 0 else 1, fu b 16 8, ownBw (fu b 5 1), fu b 36 2⟩
  let s := issueAs h .active [r.warp] [] s.sys.ord s
  applyDentCreate h { s with dents := tset s.dents (hIndex h) (dentOf s r s.sys.ord) }

/-- The source entry of a follow set that a run-ahead weave on a dent serves (R355). (log 114: DEDUCED) -/
def aheadFor (s : State) (freq : Nat) : Option (Nat × Nat) :=
  (s.follows.flatMap fun f => [1, 2, 3].map fun n => (f.1, n)).find? fun x =>
    ((followAt s x.1).bind fun f => f.srcs[x.2]?).any fun e =>
      bit e.req.flags 0 && e.weave.isNone && (compSvc s e.req.comp).any fun v => v.freq * 1000000 == freq

/-- A weave as its status says (R252, R604): one that exists takes its group and whether it is shed, one still to be created is shed as it is (R248); a new one has its
type's defaults. (log 114: DEDUCED) -/
def issueWeave (h : Handle) (b : List Byte) (s : State) : State :=
  let i := hIndex h
  if (objOf s h).isSome then
    let shed := bit (fu b 9 1) 0
    vmod i (fun w => { w with group := fu b 6 1, shedCause := fu b 10 1 })
      (if shed then omod h (fun o =>
        if o.st = .pending then { o with shed := true }
        else { o with shed := true, cause := .shed, lost := nullHandle, prior := if o.st = .suspended then o.prior else o.st, st := .suspended }) s else s)
  else
    let dents := ((List.range 4).map fun k => fh b (32 + 4 * k)).filter fun d => d != nullHandle
    let type := fu b 5 1
    let x := (dents.head?.bind fun d => dentAt s (hIndex d))
    let k := if type = 1 then 2 else if type = 2 then 1 else if type = 3 then 3 else if x.any fun x => x.rate == 3 then 5 else 4
    let blk := if (costOf type 1 (defaultBlock k 1)).cycles = fu b 12 4 then defaultBlock k 1 else defaultBlock k 0
    let r : WeaveReq := ⟨type, dents.length, fu b 8 1, fu b 6 1, 1 + 2 * flag (bit (fu b 9 1) 5), 0, blk.length, dents, blk⟩
    let s := issueAs h .pending dents [] s.sys.ord s
    let d : Digital := { Digital.none with slots := List.replicate (slotsOf type blk) DecSlot.vacant }
    let s : State := { s with weaves := tset s.weaves i (newWeave s r (fu b 6 1)), cluster := { s.cluster with admitted := s.cluster.admitted + 1 } }
    let s : State := if type ≤ 2 then { s with ana := tset s.ana i Analogue.none } else { s with dig := tset s.dig i d }
    let s := match x.bind fun x => aheadFor s x.freq with
      | some (f, n) => srcMod f n (fun e => { e with weave := some i, dent := dents.head?.map hIndex }) s
      | none => s
    applyWeaveCreate h s

/-- A service as its status says (R342, R604): issued, or adopted by its weave. -/
def issueSvc (h : Handle) (b : List Byte) (s : State) : State :=
  let i := hIndex h
  let wh := fh b 16
  let w := hIndex wh
  let st := if weaveState s w = .pending then .active else weaveState s w
  let fl := fu b 6 1
  match svcAt s i with
  | some x =>
    let s := { s with svcs := tset s.svcs i { x with weave := some w, adopted := true, freq := fu b 20 4, last := s.tb.pick, lastOrd := s.sys.ord } }
    let s := omod h (fun o => { o with inputs := [wh], st := st, cause := .none, relIn := false }) s
    let s := (compsOf s i).foldl (fun s c => omod (handleOf s 6 c.1) (fun o => { o with st := st, cause := .none, relIn := false }) s) s
    ev 0x0810 (svcBody s h 2 x.ident 0) s
  | none =>
    let v : Service := { tech := fu b 5 1, ident := fu b 8 4, ecc := fu b 12 1, eid := fu b 14 2, identified := bit fl 0, tp := bit fl 1, ta := bit fl 2
                         data := bit fl 3, ca := bit fl 4, survey := bit fl 5, adopted := bit fl 6, rbds := bit (fu b 7 1) 7, pty := fu b 7 1 % 32
                         weave := if wh = nullHandle then none else some w, freq := fu b 20 4, raster := rasterOf (fu b 5 1), field := fu b 24 2
                         occ := 0xFF, links := [], labels := [], first := fu b 32 8, last := fu b 40 8, lastOrd := s.sys.ord }
    let s := issueAs h st (if wh = nullHandle then [] else [wh]) [] 0 s
    let s := if wh = nullHandle then omod h (fun o => { o with st := .suspended, cause := .released, relIn := true, lost := nullHandle }) s else s
    ev 0x0810 (svcBody s h 1 v.ident 0) { s with svcs := tset s.svcs i v }

/-- A component as its status says (R342, R604). -/
def issueCompAs (h : Handle) (b : List Byte) (s : State) : State :=
  let v := fh b 4
  let c : CompInfo := ⟨fu b 9 1, fu b 10 1, fu b 11 1, fu b 12 1, fu b 13 1, fu b 14 1 &&& 5, fu b 16 2, fu b 18 2⟩
  let st := ((objOf s v).map (·.st)).getD .suspended
  { issueAs h st [v] [] 0 s with comps := tset s.comps (hIndex h) ⟨hIndex v, c, [], fu b 20 4, []⟩ }

/-- An object is issued as announced (R604, R612). -/
def applyIssue (a : Ann) (s : State) : State :=
  match hClass a.obj with
  | 3 => if a.body.length < 48 ∨ (objOf s a.obj).isSome = true then s else issueDent a.obj a.body s
  | 4 => if a.body.length < 48 then s else issueWeave a.obj a.body s
  | 5 => if a.body.length < 48 then s else issueSvc a.obj a.body s
  | 6 => if a.body.length < 24 ∨ (objOf s a.obj).isSome = true then s else issueCompAs a.obj a.body s
  | _ => s

/-- An object is released as announced; the handles released. -/
def applyRelease (h : Handle) (s : State) : List Handle × State :=
  if (objOf s h).isNone then ([], s) else if hClass h = 6 then freeComp (hIndex h) s else release h s

/-- A scheduler decision as announced (R604, R612). -/
def applySched (a : Ann) (s : State) : State :=
  let i := hIndex a.obj
  match fu a.body 0 1 with
  | 1 => vmod i (fun w => { w with group := fu a.body 1 1 }) s
  | 2 => if isShed s i then s else shedWeave i (fu a.body 2 1) s
  | _ => vmod i (fun w => { w with shedCause := 0 }) (omod a.obj (fun o => { o with shed := false }) s)

/-- A decision on a follow set as announced: a commit, its abort, or an undo from the announced pick (R361, R604). -/
def applyFollow (a : Ann) (s : State) : State :=
  let i := hIndex a.obj
  let n := fu a.body 1 1
  let ord := max s.sys.ord (s.sys.ord + a.effect - s.tb.pick)
  match fu a.body 0 1 with
  | 0x10 => fmod i (fun f => { f with fade := f.fade.map fun e => { e with undo := some (ord, 0) } }) s
  | 3 => fmod i (fun f => if f.fade.any fun e => e.entry == n then { f with fade := none, aborts := f.aborts + 1 } else f) s
  | _ => schedQ ⟨max (s.sys.ord + 1) ord, fu a.body 2 2, a.obj, 60, .followCommit (selfHdr 2) a.obj n (fu a.body 2 2) a.effect (fu a.body 4 4), 0⟩ s

/-- A gain change as announced (R162, R604): one that has passed takes effect now. Its cause here is PAIR (R176). (log 115: DESIGN CHOICE) -/
def annGain (a : Ann) (s : State) : State :=
  let g := fu a.body 0 1
  if a.effect ≤ s.tb.pick then diverge (applyGain (hIndex a.obj) g 5 s)
  else schedQ ⟨s.sys.ord + (a.effect - s.tb.pick), 0, a.obj, 31, .warpGain (selfHdr 1) a.obj g 5, 0⟩ s

/-- An announcement waits for its point of effect. (log 24: DEDUCED) -/
def annHold (a : Ann) (s : State) : State := pairmod (fun p => { p with held := p.held ++ [a] }) s

/-- An announcement is received by a secondary whose objects follow the owner's: at its point of effect, or at once where that has passed
(R604). (log 115: DESIGN CHOICE) -/
def annApply (a : Ann) (s : State) : State :=
  let past := a.effect ≤ s.tb.pick
  match a.kind with
  | 1 => match bodyCmd a.body with
    | some i => mirrorAs a.obj i s
    | none => s
  | 2 => annGain a s
  | 3 => if past then diverge (applyIssue a s) else annHold a s
  | 4 => if past then
      let (rel, t) := applyRelease a.obj (diverge s)
      settle rel 0 t
    else annHold a s
  | 5 => if past then settle [] 0 (diverge (applySched a s)) else annHold a s
  | 6 => applyFollow a (if past then diverge s else s)
  | 8 => if past then s else annHold a s
  | _ => annHold a s

/-- A segment of the snapshot (R610). The first drops the announcements it supersedes; the last names the rebuild boundary. (log 112: DEDUCED) -/
def takeSegment (b : List Byte) (s : State) : State :=
  let first := fu b 0 4 = 0
  let data := b.drop 16
  let whole := fu b 0 4 + data.length = fu b 4 4
  pairmod (fun p => { p with
    snapshot := true, snapBuf := if first then data else p.snapBuf ++ data
    held := if first then p.held.filter fun a => a.kind == 7 || a.kind == 9 || a.kind == 11 else p.held
    rebuild := if whole then some (fu b 8 8) else if first then none else p.rebuild }) s

/-- One announcement of the owner (R604). -/
def takeAnn (mode : Nat) (s : State) (a : Ann) : State :=
  match a.kind with
  | 7 => annHold a s
  | 9 =>
    if fu a.body 0 1 = 7 then
      pairmod (fun p => { p with mirrorAt := some (max (s.sys.ord + 1) (s.sys.ord + a.effect - s.tb.pick)), ownerDoms := fu a.body 1 2, ownerMode := mode }) s
    else annHold a s
  | 10 => pairmod (fun p => { p with handover := some (max (s.sys.ord + 1) (s.sys.ord + a.effect - s.tb.pick)) }) s
  | 11 => annHold a s
  | 12 => takeSegment a.body s
  | 13 => s
  | _ => if s.pair.snapshot then annHold a s else if mirroring s || s.pair.st == .primary then annApply a s else s

/-- A REQUEST on the owner: it stands for a PAIR_HANDOVER (R604, R615). -/
def takeRequest (s : State) (a : Ann) : State :=
  if a.kind ≠ 13 then s
  else match handoverOk (bit (fu a.body 0 1) 0) s, dueOf s (fu a.body 4 8) with
    | .ok _, some due => handoverAt due s
    | _, _ => s

/-- An item of the owner's CONFIG that prevails here (R611), from the next boundary on. (log 113: DESIGN CHOICE) -/
def takeItem (s : State) (x : Nat × Nat × List Byte) : State :=
  if [0x06, 0x07, 0x08, 0x0A, 0x0B].contains x.1 then
    let v := if x.1 = 0x06 then handleBytes (mapPort s (fh x.2.2 0)) ++ x.2.2.drop 4 else x.2.2
    (itemPends s (s.sys.ord + 1) ⟨.self, 0, 0xFF, false⟩ ⟨x.1, x.2.1, v⟩).foldl (fun s p => schedQ p s) s
  else s

/-! Frames. -/

/-- A weave index delivered output that was not MISSED and held sync in the pick before (R603): the sync of its status byte, or of its weave where it is digital (R262). (log 118: DEDUCED) -/
def weaveValid (s : State) (x : Nat × Weave) : Bool :=
  weaveState s x.1 == .active && !x.2.lastMiss && (if x.2.type ≤ 2 then (tget s.ana x.1).any (fun a => if x.2.type = 2 then a.rds else a.carrier) else present s x.1)

/-- The valid map (R603). (log 118: DEDUCED) -/
def mapBytes (l : List Nat) : List Byte :=
  (List.range 64).flatMap fun k => byte (flagBits ((List.range 8).map fun j => l.contains (8 * k + j)))

/-- The weave indices whose bit of the map is 1. (log 118: DEDUCED) -/
def validMap (s : State) : List Nat := (s.weaves.filter (weaveValid s)).map (·.1)

/-- How many bits of two maps differ. -/
def mapDiffers (a b : List Byte) : Nat :=
  (List.zipWith (fun (x y : Byte) => ((List.range 8).filter fun k => x.getLsbD k != y.getLsbD k).length) a b).foldl (· + ·) 0

/-- PL_FRAME_RECEIVE (R603, R604, R608, R609, R612). (log 8: DESIGN CHOICE, 113: DESIGN CHOICE) -/
def execPlFrameReceive (f : PlFrame) (s : State) : Host.Outcome State Fault Refusal :=
  if s.pair.link && domOn s 2 then
    let q : Partner := ⟨f.state, f.serial, f.device, f.mode, f.flags, f.pick, partnersAgree f s, f.label⟩
    let d := mapDiffers (mapBytes f.valid) ((s.pair.own.drop 24).take 64)
    let shadow := s.pair.st = .syncing ∨ s.pair.st = .synced
    let same := q.pick == s.tb.pick
    let s := pairmod (fun p => { p with
      joinRun := if q.agree && q.label == s.tb.label && same && inI (-1000) f.skew 1000 then p.joinRun + 1 else 0
      skewRun := if inI (-10000) f.skew 10000 then 0 else p.skewRun + 1
      pickDiff := !same && !(p.held.any fun a => a.kind == 7)
      partner := some q, skew := some f.skew, delay := f.delay, missRun := 0, ownLow := p.drive || bit f.flags 0, mapDiff := d
      equalRun := if shadow then (if d = 0 then p.equalRun + 1 else 0) else 0
      diffRun := if shadow then (if d = 0 then 0 else p.diffRun + 1) else 0 }) s
    if s.pair.st = .unpaired then .next s
    else
      let old := s.pair.st = .primary ∧ s.pair.handover = some s.sys.ord
      let s := if q.agree then
          if s.pair.st = .primary ∧ ¬ old then f.anns.foldl takeRequest s
          else if s.pair.st = .joining ∨ shadow ∨ old then
            let s := f.anns.foldl (takeAnn f.mode) s
            if bit f.flags 0 then f.config.foldl takeItem s else s
          else s
        else s
      .next (pairMeet s)
  else .next s

/-- The status reply of an object (R604). -/
def statusBody (s : State) (h : Handle) : List Byte :=
  match objOf s h with
  | none => []
  | some o => match hClass h with
    | 3 => (dentAt s o.idx).elim [] (dentStatusBytes s o)
    | 4 => (weaveAt s o.idx).elim [] (weaveStatusBytes s o)
    | 5 => (svcAt s o.idx).elim [] (serviceBytes s o)
    | 6 => (compAt s o.idx).elim [] (componentBytes s o)
    | _ => []

/-- An announcement entry (R604). -/
def annBytes (a : Ann) : List Byte := leBytes 2 a.kind ++ leBytes 2 a.body.length ++ handleBytes a.obj ++ leBytes 8 a.effect ++ a.body

/-- The entries read from their bytes. -/
def readAnns : Nat → List Byte → List Ann
  | 0, _ => []
  | n + 1, b =>
    if b.length < 16 then []
    else ⟨fu b 0 2, fh b 4, fu b 8 8, (b.drop 16).take (fu b 2 2)⟩ :: readAnns n (b.drop (16 + fu b 2 2))

/-- The announcements that fit in a room, in order, and the rest (R603, R604). -/
def fitAnns : Nat → List Ann → List Ann × List Ann
  | _, [] => ([], [])
  | room, a :: l =>
    if 16 + a.body.length ≤ room then
      let (x, y) := fitAnns (room - (16 + a.body.length)) l
      (a :: x, y)
    else ([], a :: l)

/-- The header of the commands of a snapshot. -/
def snapHdr : Hdr := ⟨.self, 0, 0xFF, false⟩

/-- A command of the snapshot on an object; that of an object still PENDING names its boundary. -/
def snapCmd (s : State) (obj : Handle) (f : Nat → Instr) : Ann :=
  let e := match objOf s obj with
    | some o => if o.st = .pending then pickAt s o.due else s.tb.pick
    | none => s.tb.pick
  ⟨1, obj, e, commandBody (f e) e⟩

/-- The snapshot's entry of a bank whose taps the host has given. -/
def snapBank (s : State) (h : Handle) (k : Nat) (b : Bank) : List Ann :=
  if b.n = 0 ∨ b.dflt ≠ 0 then []
  else [snapCmd s h fun _ => .dentBankLoad snapHdr h ⟨k, 0, b.n, flag b.sym, if b.sym then 0 else b.delay, b.taps⟩]

/-- The snapshot's entries of a dent. -/
def snapDent (s : State) (x : Nat × Dent) : List Ann :=
  let h := handleOf s 3 x.1
  let y := x.2
  let code := fun (b : Bank) (d : Nat) => if y.d ≠ 2 then 0 else if b.dflt ≠ 0 then b.dflt else d
  let r : DentReq := ⟨fixedHandle 2 y.warp, y.rate, y.d, code y.bankA 1, code y.bankB 0, y.freq, y.bw, y.tau⟩
  [snapCmd s h fun e => .dentCreate snapHdr r e] ++ snapBank s h 0 y.bankA ++ snapBank s h 1 y.bankB
    ++ (if y.active = 1 then [snapCmd s h fun e => .dentBankSwap snapHdr h 0 e] else [])

/-- The snapshot's entries of a weave: its creation, and its status where it is shed. -/
def snapWeave (s : State) (x : Nat × Weave) : List Ann :=
  let h := handleOf s 4 x.1
  let w := x.2
  let st := (objOf s h).map fun o => if o.st = .suspended then o.prior else o.st
  let on := if st = some .pending then w.start else st == some .active
  let r : WeaveReq := ⟨w.type, w.dents.length, w.prio, w.group, flagBits [on, w.notify], w.optMask, w.block.length, w.dents, w.block⟩
  [snapCmd s h fun e => .weaveCreate snapHdr r e]
    ++ (if isShed s x.1 then [⟨3, h, s.tb.pick, statusBody s h⟩] else [])

/-- The snapshot's entry of the decoder slots of a weave. -/
def snapSlots (s : State) (x : Nat × Digital) : List Ann :=
  let l := (x.2.slots.map (·.comp)).filter fun c => c != nullHandle
  if l.isEmpty then [] else [snapCmd s (handleOf s 4 x.1) fun e => .digDecodeSet snapHdr (handleOf s 4 x.1) l.length e l]

/-- The snapshot's entries of a follow set. -/
def snapFollow (s : State) (x : Nat × Follow) : List Ann :=
  let h := handleOf s 7 x.1
  let f := x.2
  [snapCmd s h fun e => .followCreate snapHdr f.srcs.length f.group (flag f.notify) f.hold e (f.srcs.map (·.req))
   , snapCmd s h fun _ => .followPolicy snapHdr h f.cfg]

/-- The snapshot's entries of a stream. -/
def snapStream (s : State) (x : Nat × Stream) : List Ann :=
  let h := handleOf s 8 x.1
  [snapCmd s h fun e => match x.2.kind with
    | .tdm r _ _ => .tdmStreamCreate snapHdr r e
    | .eth y => .ethStreamCreate snapHdr y.req e]

/-- The snapshot's entries of an alignment group. -/
def snapAlign (s : State) (x : Nat × Align) : List Ann :=
  let h := handleOf s 0x0A x.1
  [snapCmd s h fun e => .alignCreate snapHdr e] ++ x.2.members.map fun m => snapCmd s h fun e => .alignAdd snapHdr h m.1 e

/-- The pending changes of the objects that stay. -/
def snapPends (s : State) : List Ann :=
  (s.sched.filter fun p => p.kind != 20 && hClass p.obj != 2 && p.obj != nullHandle).map fun p =>
    ⟨1, p.obj, pickAt s p.due, commandBody p.cmd (pickAt s p.due)⟩

/-- The snapshot as of the present boundary (R610): the phase offset O, then the entries that reproduce the objects and their settings. (log 112: DEDUCED) -/
def snapData (s : State) : List Byte :=
  leSigned 8 s.reed.offset ++ (s.dents.flatMap (snapDent s) ++ s.weaves.flatMap (snapWeave s)
    ++ (objsOf s 5).map (fun o => (⟨3, o.handle, s.tb.pick, statusBody s o.handle⟩ : Ann))
    ++ (objsOf s 6).map (fun o => (⟨3, o.handle, s.tb.pick, statusBody s o.handle⟩ : Ann))
    ++ s.dig.flatMap (snapSlots s) ++ s.follows.flatMap (snapFollow s) ++ s.streams.flatMap (snapStream s) ++ s.aligns.flatMap (snapAlign s)
    ++ s.periphs.map (fun x => snapCmd s (handleOf s 0x0E x.1) fun _ => .pbPeriphCreate snapHdr x.2)
    ++ (s.meas.filter fun x => x.2.w != 60).map (fun x => snapCmd s x.1 fun _ => .measWindow snapHdr x.1 x.2.w)
    ++ s.thrs.map (fun x => snapCmd s x.obj fun _ => .measThreshold snapHdr x.obj x.req)
    ++ s.louds.map (fun x => snapCmd s (handleOf s 6 x.1) fun _ => .audioMonSet snapHdr (handleOf s 6 x.1) x.2.mon)
    ++ s.verifs.map (fun x => snapCmd s nullHandle fun e => .verifySet snapHdr x.2.req e)
    ++ snapPends s).flatMap annBytes

/-- The snapshot to send in the present frame: its data are formed with its first segment. (log 112: DEDUCED) -/
def snapReady (s : State) : State :=
  if s.pair.snapshot ∧ s.pair.snapPos = 0 ∧ s.pair.snapOut.isEmpty = true ∧ s.pair.st = .primary then
    pairmod (fun p => { p with snapOut := snapData s }) s
  else s

/-- The frame of the present pick (R603, R604): while the housekeeping task acknowledges. (log 117: DEDUCED) -/
def sendFrame (s : State) : State :=
  if s.pair.st = .unpaired ∨ 2 ≤ s.sys.missedAck then pairmod (fun p => { p with own := [], outBytes := 0 }) s
  else
    let s := snapReady s
    let p := s.pair
    let all := p.out.map fun a => if a.kind = 3 ∧ a.body = [] then { a with body := statusBody s a.obj } else a
    let (now_, later) := fitAnns (if p.snapOut.isEmpty then 32768 else 24576) all
    let bs := now_.flatMap annBytes
    let n := min p.snapOut.length (32768 - bs.length - 32)
    let whole := n = p.snapOut.length
    let seg := if p.snapOut.isEmpty then [] else annBytes ⟨12, nullHandle, s.tb.pick, leBytes 4 p.snapPos
      ++ leBytes 4 (p.snapPos + p.snapOut.length) ++ leBytes 8 (if whole then s.tb.pick + 2 else 0) ++ p.snapOut.take n⟩
    let flags := flagBits [p.owner, s.clk.state == .degraded, s.tb.state == .locked, p.snapshot]
    let b := leBytes 2 0x504C ++ byte 1 ++ byte p.st.code ++ leBytes 8 s.tb.pick ++ leBytes 4 s.ident.serial ++ leBytes 2 (deviceId s)
      ++ byte s.sys.mode.code ++ byte flags ++ leBytes 4 (bs.length + seg.length) ++ mapBytes (validMap s) ++ bs ++ seg
    pairmod (fun p => { p with own := withCrc b, out := later, outBytes := 0, snapOut := p.snapOut.drop n
                               snapPos := if p.snapOut.isEmpty then p.snapPos else p.snapPos + n
                               snapEnd := if p.snapOut.isEmpty = false ∧ whole then some (s.sys.ord + 2) else p.snapEnd }) s

/-! At the pick boundary. -/

/-- The announcements held of a kind whose point of effect has come, in order. -/
def annsDue (k : Nat) (s : State) : List Ann := s.pair.held.filter fun a => a.kind == k && a.effect ≤ s.tb.pick

/-- They leave the list. -/
def annsDrop (k : Nat) (s : State) : State :=
  pairmod (fun p => { p with held := p.held.filter fun a => !(a.kind == k && a.effect ≤ s.tb.pick) }) s

/-- Announced releases at the present boundary; the handles released. -/
def annReleases (s : State) : List Handle × State :=
  let l := annsDue 4 s
  l.foldl (fun x a => let (r, t) := applyRelease a.obj x.2; (x.1 ++ r, t)) ([], annsDrop 4 s)

/-- Announced issues and scheduler decisions at the present boundary. -/
def annIssues (s : State) : State :=
  let (i, c) := (annsDue 3 s, annsDue 5 s)
  c.foldl (fun s a => applySched a s) (i.foldl (fun s a => applyIssue a s) (annsDrop 5 (annsDrop 3 s)))

/-- Announced retunes have been made (R612): one whose profile this module could not use lets samples differ. (log 115: DESIGN CHOICE) -/
def annTunes (s : State) : State :=
  let l := (annsDue 8 s).filter fun a => a.effect == s.tb.pick && (synAt s (fu a.body 0 1)).profile != fu a.body 1 1
  l.foldl (fun s _ => diverge s) (annsDrop 8 s)

/-- Every object that is not fixed goes to FREE (R610, R616); the handles released. (log 116: DEDUCED) -/
def releaseAll (s : State) : List Handle × State :=
  let hs := (s.reg.objs.filter fun o => !classFixed o.cls).map Obj.handle
  let rel := fun (a : List Handle × State) (h : Handle) => let (r, t) := applyRelease h a.2; (a.1 ++ r, t)
  let (r, t) := [7, 8, 0x0A, 4, 5, 6, 3, 0x0E].foldl (fun a c => (hs.filter fun h => hClass h == c).foldl rel a) ([], s)
  (r, { t with sched := t.sched.filter fun p => p.obj == nullHandle || classFixed (hClass p.obj), thrs := [], louds := [], verifs := []
               meas := t.meas.filter fun x => classFixed (hClass x.1), svcChg := [] })

/-- A command runs as if in the pick before, so that its target may be the present boundary (R610). -/
def asBefore (f : State → State) (s : State) : State :=
  let t := f { s with sys := { s.sys with ord := s.sys.ord - 1 }, tb := { s.tb with pick := s.tb.pick - 1 } }
  { t with sys := { t.sys with ord := s.sys.ord }, tb := { t.tb with pick := s.tb.pick } }

/-- An entry of the snapshot is applied (R610): banks and their order stand as they stood. -/
def snapApply (since : Nat) (s : State) (a : Ann) : State :=
  match a.kind with
  | 1 => match bodyCmd a.body with
    | some (.dentBankLoad _ h b) =>
      dmod (hIndex h) (fun x => match loadBank x b with
        | some k => if b.bank = 0 then { x with bankA := k } else { x with bankB := k }
        | none => x) s
    | some (.dentBankSwap h d k t) =>
      if a.effect ≤ since then dmod (hIndex d) (fun x => { x with active := 1 - x.active }) s else asBefore (mirrorAs a.obj (.dentBankSwap h d k t)) s
    | some i => asBefore (mirrorAs a.obj i) s
    | none => s
  | 3 => applyIssue a s
  | _ => s

/-- The rebuild of R610 at the boundary its last segment names: what is the module's own goes, the snapshot's objects come, then what was announced
since. The handles released. (log 112: DEDUCED) -/
def rebuildNow (s : State) : List Handle × State :=
  match s.pair.rebuild with
  | some r =>
    if s.tb.pick < r then ([], s)
    else
      let (rel, s) := releaseAll s
      let b := s.pair.snapBuf
      let s := { s with reed := { s.reed with offset := ofLeSigned (b.take 8) } }
      let held := s.pair.held
      let stay := fun (a : Ann) => a.kind == 7 || a.kind == 9 || a.kind == 11
      let s := pairmod (fun p => { p with snapshot := false, snapBuf := [], rebuild := none, built := true, held := held.filter stay }) s
      let s := (readAnns b.length (b.drop 8)).foldl (snapApply (r - 2)) s
      (rel, (held.filter fun a => !stay a).foldl (fun s a => asBefore (annApply a) s) s)
  | none => ([], s)

/-- The owner's snapshot is over at the boundary its last segment named. -/
def snapOver (s : State) : State :=
  if s.pair.snapEnd.any (· ≤ s.sys.ord) then pairmod (fun p => { p with snapshot := false, snapEnd := none, snapPos := 0 }) s else s

/-- Both partners report owner (R607): the DOWNSTREAM one gives way. (log 117: DEDUCED) -/
def dualOwner (s : State) : State :=
  let p := s.pair
  if p.owner ∧ p.st ≠ .unpaired ∧ p.cfg.position = 1 ∧ p.link = true ∧ (p.partner.any fun q => bit q.flags 0 && q.pick + 1 == s.tb.pick) = true then
    pairGo .joining 9 (loseOwner s)
  else s

/-- A PAIR record comes into force (R602, R608, R616). No command says what the OWN line carries then: where the module has not learned it, it is
free. (log 44: DEDUCED, 110: DEDUCED) -/
def pairInForce (c : PairCfg) (s : State) : State :=
  let s := pairmod (fun p => { p with cfg := c }) s
  if bit c.flags 0 then
    if s.pair.st ≠ .unpaired then s
    else if s.pair.ownLow || (draw s).getLsbD 0 then pairGoFree .joining (loseOwner (pairmod (fun p => { p with join := some s.sys.ord }) (drawn s)))
    else pairGoFree .solo (beOwner (drawn s))
  else if s.pair.st = .unpaired then s
  else pairGo .unpaired 8 (driveTdm true (pairmod (fun p => { p with owner := true, drive := false }) s))

/-- The mode that a module taking over enters (R613): the owner's last announced one, or WATCH for PROBE. (log 46: DESIGN CHOICE) -/
def takenMode (s : State) : Mode :=
  match s.pair.ownerMode with
  | 4 => .survey | 5 => .watch | 6 => .watch | _ => .ready

/-- EV_FAILOVER (R621). -/
def failBody (s : State) (cause detail : Nat) : List Byte :=
  byte cause ++ byte detail ++ byte s.sys.mode.code ++ zeros 1 ++ leBytes 4 s.pair.missRun ++ leBytes 8 s.tb.pick ++ leBytes 4 s.pair.fastTake ++ zeros 4

/-- The body of the EV_PAIR_STATE that follows EV_MODE_CHANGE. (log 109: DESIGN CHOICE) -/
def stateEvent (s : State) (st : PairState) (cause : Nat) : Nat × List Byte :=
  (0x0F01, pairBody st.code s.pair.st.code cause s.pair.cfg.partner s.tb.pick)

/-- What step 2 does for the pair: the state, whether the mode changed, and the events that follow EV_MODE_CHANGE. -/
abbrev PairTurn := State × Bool × List (Nat × List Byte)

/-- The take boundary of a failover (R613, R614). (log 46: DESIGN CHOICE) -/
def takeNow (s : State) : PairTurn :=
  let p := s.pair
  let detail := flagBits [p.st == .synced && !p.fault, p.takeIso]
  let e := stateEvent s .solo ((draw s).toNat % 256)
  let held := p.held
  let s := sysmod (fun y => { y with mode := takenMode s }) (beOwner (drawn s))
  let s := pairmod (fun p => { p with st := .solo, takeDue := none, failovers := p.failovers + 1, handover := none, held := held.filter fun a => s.tb.pick ≤ a.effect }) s
  (ev 0x0F02 (failBody s 1 detail) s, true, [e])

/-- The handover boundary (R615), on the old owner or on the new one, whose event is HITLESS where it was MIRROR_SYNCED with no ALIGN_FAULT
(R614). (log 159: DEDUCED) -/
def handNow (s : State) : PairTurn :=
  if s.pair.st = .primary then
    let e := stateEvent s .synced 7
    let (m, d) := (s.sys.mode.code, s.sys.domains.toNat)
    let s := pairmod (fun p => { p with owner := false, drive := false, ownLow := true, st := .synced, ownerMode := m, ownerDoms := d
                                        equalRun := 0, diffRun := 0, built := true, fastTake := 0 }) s
    let s := sysmod (fun y => { y with mode := .mirror }) (driveTdm false s)
    (ev 0x0F02 (failBody s 2 0) s, true, [e])
  else
    let e := stateEvent s .primary 7
    let held := s.pair.held
    let hitless := flag (s.pair.st == .synced && !s.pair.fault)
    let s := sysmod (fun y => { y with mode := takenMode s }) (beOwner s)
    let s := pairmod (fun p => { p with st := .primary, failovers := p.failovers + 1, fastTake := 0, held := held.filter fun a => a.kind != 7 }) s
    (ev 0x0F02 (failBody s 2 hitless) s, true, [e])

/-- The unpairing boundary on the owner (R616). (log 116: DEDUCED) -/
def unpairOwner (s : State) : PairTurn :=
  let e := stateEvent s .unpaired 8
  (driveTdm true (pairmod (fun p => { p with st := .unpaired, owner := true, drive := false, out := [], handover := none }) s), false, [e])

/-- The unpairing boundary on the secondary (R616), but for its objects. (log 116: DEDUCED) -/
def unpairSecond (s : State) : PairTurn :=
  let e := stateEvent s .unpaired 8
  let c := { s.pair.cfg with flags := 0 }
  let s := writeRec 2 (pairBytes c) 0x0F (some (.pairConfig ⟨.self, 0, 0xFF, false⟩ c 0)) s
  let was := s.sys.mode
  let s := sysmod (fun y => { y with mode := if was = .mirror then .ready else was }) s
  let s := { s with tdm := s.tdm.map fun p => tdmStart s { TdmPort.reset with cfg := { p.cfg with dir := 0 } } }
  (cfgTouch 0x0F (pairmod (fun p => { p with st := .unpaired, owner := true, drive := false, held := [], built := false, handover := none }) s)
    , was == .mirror, [e])

/-- MIRROR is entered (R609, R611). -/
def mirrorNow (s : State) : PairTurn :=
  let e := stateEvent s .syncing ((draw s).toNat % 256)
  (sysmod (fun y => { y with mode := .mirror })
    (pairmod (fun p => { p with st := .syncing, mirrorAt := none, ready := false, equalRun := 0, diffRun := 0, fault := false }) (drawn s)), s.sys.mode != .mirror, [e])

/-- Step 2 of a boundary for the pair: at most one of the changes of role. -/
def pairTurn (s : State) : PairTurn :=
  let p := s.pair
  if p.takeDue.isSome then takeNow s
  else if p.handover = some s.sys.ord ∧ (p.st = .primary ∨ p.st = .syncing ∨ p.st = .synced) then handNow s
  else if (annsDue 11 s).isEmpty = false ∧ p.owner = false ∧ p.st ≠ .unpaired then unpairSecond s
  else if p.st = .joining ∧ p.ready = true ∧ p.mirrorAt = some s.sys.ord ∧ (s.sys.mode = .ready ∨ s.sys.mode = .survey ∨ s.sys.mode = .watch ∨ s.sys.mode = .mirror) then mirrorNow s
  else (s, false, [])

/-- The PAIR_CONFIG due at the present boundary: its record is written, and with ENABLE clear the owner unpairs (R602, R616). (log 44: DEDUCED) -/
def pairCfgDue (s : State) : PairTurn :=
  match s.sched.find? fun p => p.kind == 25 && p.due ≤ s.sys.ord with
  | some p => match p.cmd with
    | .pairConfig _ c _ =>
      let s := { s with sched := s.sched.filter fun q => q ≠ p }
      let s := writeRec 2 (pairBytes c) p.role (some p.cmd) s
      if bit c.flags 0 = false ∧ s.pair.st ≠ .unpaired then unpairOwner s else (s, false, [])
    | _ => (s, false, [])
  | none => (s, false, [])

/-- The owner's modes and domains as announced, or as its commands set them, at the present boundary (R587, R604). -/
def ownerFollows (s : State) : State :=
  let high : Nat := 0xF8
  let s := (annsDue 9 s).foldl (fun s a => pairmod (fun p => { p with ownerMode := fu a.body 0 1, ownerDoms := fu a.body 1 2 }) s) (annsDrop 9 s)
  if s.sys.mode ≠ .mirror then s
  else
    let l := s.sched.filter fun p => (p.kind == 2 || p.kind == 3) && p.due ≤ s.sys.ord
    let s := { s with sched := s.sched.filter fun q => !((q.kind == 2 || q.kind == 3) && q.due ≤ s.sys.ord) }
    l.foldl (fun s x => match x.cmd with
      | .sysModeSet _ m _ => pairmod (fun p =>
          let d := if m = 3 then p.ownerDoms / 256 * 256 + p.ownerDoms % 8 else if p.ownerMode = 3 then p.ownerDoms ||| high else p.ownerDoms
          { p with ownerMode := m, ownerDoms := d }) s
      | .sysDomainSet _ on off _ => pairmod (fun p => { p with ownerDoms := (p.ownerDoms ||| on) - ((p.ownerDoms ||| on) &&& off) }) s
      | _ => s) s

end Sys2Proof.Machine
end

