-- ==== Sys2Proof/Machine/Boundary.lean ====
section
/-! DEFINITION. PICK_BOUNDARY (R36-R41, R45, R589, R593, R594): the end of the pick that ends, the next pick's number, and the changes of the boundary in
the order of R39, then those at named samples of the new pick. -/

namespace Sys2Proof.Machine

/-! The end of the pick. -/

/-- The intervals of a warp's lane words that the pick which ends has zeroed, of `len` converter samples (R181, R202). -/
def zeroOf (len : Nat) (w : Warp) : List (Nat × Nat) :=
  w.marks ++ (w.lossAt.elim [] fun a => [(a, len)]) ++ if w.cal.marking then [(0, len)] else []

/-- The words of a warp's lane over the pick that ends, of `len` converter samples, and the estimate of its fine DC loop at the end (R166, R201, R202). -/
def laneEnd (i : PickInputs) (len : Nat) (s : State) (w : Nat) : List (Int × Int) × (Int × Int) :=
  let x := warpAt s w
  if domOn s (hostDomain 2 w) then laneWords x.comp (decide (6 ≤ w)) (zeroOf len x) (nth i.conv w []) len x.dc else ([], x.dc)

/-- The converter count C at the start of the present pick (R207). -/
def convCount (s : State) : Int := 98304 * (s.tb.pick : Int) + s.reed.offset

/-- The marks of a warp go on into the next pick. -/
def marksEnd (len : Nat) (w : Warp) : Warp :=
  { w with marks := (w.marks.filter fun m => len < m.2).map (fun m => (m.1 - len, m.2 - len)), lossAt := w.lossAt.map fun _ => 0, news := 0 }

/-- A dent over the pick that ends (R201-R220): an ACTIVE dent runs through its samples. (log 120: DESIGN CHOICE) -/
def dentEnd (q : Int) (lane : Nat → List (Int × Int)) (marks : Nat → LaneFlags) (s : State) (x : Nat × Dent) : Nat × Dent :=
  if (objAt s 3 x.1).any fun o => o.st == .active then (x.1, dentPick x.2 (stepS x.2.rate q) lane marks (convCount s)) else x

/-- The reed at the end of a pick (R201-R220): the lanes with their DC loops, every dent's samples and flags, the saturation counter, the marks. -/
def reedEnd (i : PickInputs) (s : State) : State :=
  let q := stepQ s
  let len := (98304 * (8 - q) / 8).toNat
  let lanes := (List.range 8).map (laneEnd i len s)
  let marks := fun (w : Nat) => (⟨zeroOf len (warpAt s w), (warpAt s w).overload, disturbed s w⟩ : LaneFlags)
  let before := s.dents.foldl (fun n x => n + x.2.satur) 0
  let t := { s with dents := s.dents.map (dentEnd q (fun w => (nth lanes w ([], (0, 0))).1) marks s) }
  let more := t.dents.foldl (fun n x => n + x.2.satur) 0 - before
  let ws := (t.warps.zip lanes).map fun p => marksEnd len { p.1 with dc := p.2.2 }
  let t := { t with streams := t.streams.map (iqEnd t marks (fun w => (nth lanes w ([], (0, 0))).1) len) }
  { t with reed := { t.reed with satur := t.reed.satur + more }, warps := ws }

/-- What the warps and the sensors measured, and what follows of gain and calibration (R161-R165, R174, R179-R190). -/
def warpsEnd (i : PickInputs) (s : State) : State :=
  let s := i.warps.zipIdx.foldl (fun s m => measEnd m.2 m.1 s) s
  let s := synthsEnd (reedEnd i s)
  let s := if locked s 6 then s else pointOpen s
  let s := (List.range 8).foldl (fun s w => calEnd w ((i.cal.find? fun c => c.1 == w).map (·.2)) (agcEnd w s)) s
  let s := i.warps.zipIdx.foldl (fun s m => if domOn s (hostDomain 2 m.2) then readTemp m.2 m.1.temp s else s) s
  if domOn s 6 then readProbeTemp i.probeT s else s

/-- The evaluations at the end of a pick, before the boundary changes anything. -/
def pickEnd (i : PickInputs) (s : State) : State :=
  let s := sysmod (fun y => { y with vmain := i.vmain, temp := i.temp, missedAck := if i.ack then 0 else y.missedAck + 1 }) s
  let s := tbEnd i.tb (feedsEnd i.feeds (warpsEnd i s))
  let s := missesEnd (digEnd (anaEnd (spend i.spent s)))
  let s := heardEnd (timeEnd (surveyEnd (followsEnd i.ests s)))
  let (done, s) := measEndAll i.fields i.blocks s
  verifsEnd i.checks (streamsEnd i.streams done i.tdm s)

/-! Step 1, and what the clocks decide at the boundary. -/

/-- The new pick's number, the settings that take effect with it, and the clocks at the boundary (R45-R60, R69, R81, R99, R408). -/
def numberTurn (i : PickInputs) (before : Timebase) (s : State) : State :=
  let old := s.tb.pick
  let full := stepQ s == 0
  let s := slewReached before (tbAdvance s)
  let s := latchCount (if s.tb.pick = old + 1 ∧ full = true then s else renumberStreams s)
  let s := pairmod (fun p => { p with handover := p.handover.filter (s.sys.ord ≤ ·) }) (pbmod (fun b => { b with resetLow := false }) s)
  let s := runStep (·.kind == 76) (runStep (·.kind == 110) s)
  let s := runStep (·.kind == 24) (runStep (·.kind == 21) s)
  let s := coreBoundary (audioBoundary (ratesBoundary i.rates s))
  let s := timingOut s
  if s.sys.mode = .loading ∧ 2 ≤ s.sys.ord ∧ s.clk.mdll = true then enterReady s else s

/-! Steps 2 and 3. -/

/-- What step 2 has come to: the mode before, the cause of EV_MODE_CHANGE where the mode has changed, the events that follow it, the handles
released, and the owner's domains before the boundary. -/
structure Turn where
  prev  : Mode
  cause : Option Nat
  tail  : List (Nat × List Byte)
  rel   : List Handle
  doms  : Nat

/-- A change leaves the schedule. -/
def taken (p : Pend) (s : State) : State := { s with sched := s.sched.filter fun q => q ≠ p }

/-- The mode a SYS_MODE_SET names (R479). -/
def modeOf (m : Nat) : Mode := if m = 4 then .survey else if m = 5 then .watch else .ready

/-- MIRROR is entered: the survey and the probe session end, and the module's own mode and domain changes are discarded (R609, R611). -/
def mirrorEntry (s : State) : List Handle × State :=
  let (rel, s) := surveyStopNow 4 (probeMode s)
  let own := fun (p : Pend) => p.kind == 2 || p.kind == 3
  (rel, (s.sched.filter own).foldl (fun s p => tellDropped p s) { s with sched := s.sched.filter fun p => !own p })

/-- A SYS_MODE_SET reaches its boundary (R590, R591). -/
def hostMode (m : Nat) (s : State) : List Handle × State :=
  let s := probeMode s
  let (rel, s) := if s.sys.mode = .survey ∧ m ≠ 4 then surveyStopNow 4 s else ([], s)
  (rel, sysmod (fun y => { y with mode := modeOf m }) s)

/-- PAIR records that take effect at the boundary (R602). -/
def pairRecords (s : State) : State :=
  (dueNow s (·.kind == 28)).foldl (fun s p => match p.cmd with
    | .pairConfig _ c _ => pairInForce c (taken p s)
    | _ => taken p s) s

/-- Step 2: the pair, then the mode (R590, R606-R616). (log 37: DEDUCED) -/
def modeTurn (s : State) : Turn × State :=
  let prev := s.sys.mode
  let doms := s.pair.ownerDoms
  let (s, _, t1) := pairCfgDue (dualOwner (snapOver s))
  let (s, _, t2) := pairTurn (ownerFollows (pairRecords s))
  let tail := t1 ++ t2
  if s.sys.mode = .mirror then
    if prev = .mirror then (⟨prev, none, tail, [], doms⟩, s)
    else
      let (rel, s) := mirrorEntry s
      (⟨prev, some 3, tail, rel, doms⟩, s)
  else
    let c := if s.sys.mode = prev then none else some 3
    match (dueNow s (·.kind == 2)).head? with
    | some p =>
      match p.cmd with
      | .sysModeSet _ m _ =>
        let (rel, s) := hostMode m (taken p s)
        (⟨prev, if s.sys.mode = prev then none else some (c.getD 1), tail, rel, doms⟩, s)
      | _ => (⟨prev, c, tail, [], doms⟩, taken p s)
    | none =>
      let was := s.sys.mode
      let s := probeStep s
      (⟨prev, if s.sys.mode = was then c else some (c.getD 2), tail, [], doms⟩, s)

/-- D3 to D8, and D3 to D7. -/
def upper : BitVec 10 := 0x1F8#10

/-- The domains a mode change, or the owner's switches in MIRROR, have the module switch on and off (R587, R589, R611). (log 37: DEDUCED) -/
def modeDomains (t : Turn) (s : State) : BitVec 10 × BitVec 10 :=
  let m := s.sys.mode
  let own := BitVec.ofNat 10 s.pair.ownerDoms &&& 0xF8#10
  let was := BitVec.ofNat 10 t.doms &&& 0xF8#10
  if m = .ready then (0#10, if t.prev = .ready then 0#10 else upper)
  else if m = .mirror then
    if t.prev = .mirror then (own &&& ~~~ was, was &&& ~~~ own) else (own ||| 0x100#10, 0xF8#10 &&& ~~~ own)
  else if t.prev = .ready ∧ (m = .survey ∨ m = .watch) then (upper, 0#10)
  else if t.prev = .mirror then (0x100#10, 0#10)
  else (0#10, 0#10)

/-- The SYS_DOMAIN_SETs of the boundary, checked again against the new mode (R588): what they switch, and whether any part applies. -/
def hostDomains (s : State) : (BitVec 10 × BitVec 10 × Bool) × State :=
  (dueNow s (·.kind == 3)).foldl (fun (x : (BitVec 10 × BitVec 10 × Bool) × State) p =>
    match p.cmd with
    | .sysDomainSet _ on off _ =>
      let s := taken p x.2
      let (a, b) := switched s on off
      let ok := switchable s.sys.mode
      let s := if (a ||| b) &&& ~~~ ok = 0#10 then s else tellDropped p s
      ((x.1.1 ||| (a &&& ok), x.1.2.1 ||| (b &&& ok), x.1.2.2 || decide ((a ||| b) &&& ok ≠ 0#10)), s)
    | _ => (x.1, taken p x.2)) ((0#10, 0#10, false), s)

/-- What a domain does as it is switched on (R593). (log 37: DEDUCED) -/
def domainOn (i : PickInputs) (d : Nat) (s : State) : State :=
  let temp := fun (w : Nat) => (i.warps[w]?).elim 0 (·.temp)
  let wake := fun (l : List Nat) => l.foldl (fun s w => warpOn w (temp w) s) s
  match d with
  | 3 => wake [0, 1, 2]
  | 4 => wake [3, 4, 5]
  | 5 => wake [6, 7]
  | 6 => feedsOn (probeOn i.probeT s)
  | 7 => { s with reed := { s.reed with satur := 0 } }
  | 8 => { s with calib := { s.calib with inBeam := true }, cluster := { s.cluster with missedAll := 0 } }
  | _ => s

/-- The safe actions of a domain that goes off (R593), but for the probe's. -/
def domainOff (d : Nat) (s : State) : State :=
  let halt := fun (l : List Nat) => l.foldl (fun s w => warpOff w s) s
  match d with
  | 3 => halt [0, 1, 2]
  | 4 => halt [3, 4, 5]
  | 5 => halt [6, 7]
  | 6 => feedsOff s
  | 8 => { s with calib := { s.calib with inBeam := false }
                  cluster := { s.cluster with shuttles := [], ready := [], engines := [], jobs := [], stages := [], dead := [], prog := [], late := [] } }
  | _ => s

/-- The domains of a set, ascending. (log 37: DEDUCED) -/
def domainList (v : BitVec 10) : List Nat := (List.range 10).filter fun d => v.getLsbD d

/-- Step 3 (R39, R588, R589, R593, R594, R600): the switches, one EV_MODE_CHANGE for the mode change or the switch, and the objects suspended or
resumed. (log 37: DEDUCED) -/
def domainTurn (i : PickInputs) (t : Turn) (s : State) : State :=
  let (mon, moff) := modeDomains t s
  let ((hon, hoff, host), s) := hostDomains s
  let v := s.sys.domains
  let lost := s.sys.faulted &&& v
  let off := (moff ||| hoff ||| lost) &&& v
  let on := (mon ||| hon) &&& ~~~ v
  let up := on &&& BitVec.ofNat 10 i.rails
  let bad := on &&& ~~~ up
  let s := if off.getLsbD 6 then probeOff s else s
  let s := sysmod (fun y => { y with domains := (v ||| up) &&& ~~~ off, faulted := (y.faulted &&& ~~~ up) ||| bad }) s
  let cause := match t.cause with
    | some c => some c
    | none => if host then some 6 else if lost ≠ 0#10 then some 5 else if on ||| off ≠ 0#10 then some 3 else none
  let s := match cause with
    | some c => announce 9 nullHandle s.tb.pick (byte s.sys.mode.code ++ leBytes 2 s.sys.domains.toNat ++ zeros 1)
        (ev 0x0103 (modeBody s t.prev c (bad ||| lost)) s)
    | none => s
  let s := evs t.tail s
  let s := (domainList up).foldl (fun s d => domainOn i d s) s
  let s := (domainList off).reverse.foldl (fun s d => domainOff d s) s
  settle t.rel (if t.prev = s.sys.mode then 0#10 else moff &&& v &&& ~~~ lost) s

/-! Steps 4 to 9. -/

/-- The EV_INVENTORY_FULL of what has just been found or created. -/
def fullAfter (l : List SvcChange) (s : State) : State := tellFull ((l.head?.map fun c => handleOf s 4 c.weave).getD nullHandle) s

/-- Runs a function that releases objects after others have been. -/
def andRel (x : List Handle × State) (f : State → List Handle × State) : List Handle × State :=
  let (r, t) := f x.2
  (x.1 ++ r, t)

/-- Step 4: releases, then creations (R39); as the secondary unpairs here, every object it held in MIRROR goes first (R616). -/
def objectTurn (unpaired : Bool) (s : State) : State :=
  let gone := fun (k : Nat) => k == 10 || k == 62 || k == 81
  let a := rebuildNow s
  let a := if unpaired then andRel a releaseAll else a
  let a := andRel a fun s => runAll releaseEffect (dueNow s fun p => gone p.kind) s
  let a := a.2.follows.foldl (fun a f => andRel a (visitLeave f.1)) a
  let a := andRel a annReleases
  let due := a.2.svcChg.filter fun c => c.due ≤ a.2.sys.ord
  let a := andRel (a.1, digDue a.2) svcDue
  let a := (a.1, fullAfter due a.2)
  let new := (dueNow a.2 (·.kind == 20)).map (·.obj)
  let a := andRel a fun s => runAll createEffect (dueNow s (·.kind == 20)) s
  settle a.1 0 (annIssues (tellFull ((new.find? fun h => hClass h == 4).getD nullHandle) a.2))

/-- Step 5: routes, feeds, ports, then retunes, gain changes and presets (R39). -/
def frontTurn (s : State) : State :=
  let s := runStep (fun p => p.kind == 33 || p.kind == 34 || p.kind == 35 || p.kind == 38) s
  let s := runStep (·.kind == 80) (settle [] 0 s)
  let s := runStep (·.kind == 31) (runStep (·.kind == 30) s)
  let s := presetsDue (runStep (fun p => p.kind == 36 || p.kind == 37) s)
  let s := surveyPlace s
  let s := s.follows.foldl (fun s f => visitBegin f.1 s) s
  let s := measRun (probeRun (probeWait s))
  annTunes ((List.range 8).foldl (fun s w => calBoundary w s) s)

/-- The FOLLOW_SETs due on sets that are STEADY; on a set that is FADING or UNDOING one waits (R370). -/
def followSetsDue (s : State) : List Pend :=
  dueNow s fun p => p.kind == 61 && ((tget s.follows (hIndex p.obj)).all fun f => f.fade.isNone)

/-- Steps 6 to 8: dents, weaves, then the settings of follow sets and the following commits at sample 0, each step seeing what the one before it
suspends or resumes (R39, R370); the changes of a dent at one sample in the order of R223. -/
def dataTurn (s : State) : State :=
  let at0 := fun (a b : Nat) => runStep fun p => (p.kind == a || p.kind == b) && p.sample == 0
  let s := settle [] 0 (at0 43 43 (at0 42 44 (at0 41 41 (at0 40 40 (fadesAt 0 s)))))
  let s := settle [] 0 (shedMissed (runStep (·.kind == 52) (runStep (·.kind == 50) s)))
  let (rel, s) := runAll releaseEffect (followSetsDue s) s
  runStep (fun p => p.kind == 60 && p.sample == 0) (candsTurn (settle rel 0 s))

/-- A port's command address or port changes: the UDP slots keyed to it and the sessions bound to it go (R466, R555). -/
def portKey (c : EthCfg) : Nat × Nat × Nat × Nat := (c.flags % 32, c.cport, c.addr4, c.addr6)

/-- The Ethernet port settings of the boundary. -/
def ethTurn (s : State) : State :=
  (dueNow s (·.kind == 71)).foldl (fun s p =>
    let k := hIndex p.obj
    let old := portKey (ethPort s k).cfg
    let s := takeEffect p 0 s
    if portKey (ethPort s k).cfg = old then s
    else freeUdpSess k { s with proto := { s.proto with udp := s.proto.udp.filter fun u => u.2.port.val != k } }) s

/-- Step 9: streams, slots, groups, and the settings that follow (R39, R341, R538). -/
def outputTurn (s : State) : State :=
  let s := runStep (·.kind == 72) (ethTurn (runStep (·.kind == 70) s))
  let s := runStep (fun p => p.kind == 74 || p.kind == 91 || p.kind == 100 || p.kind == 102 || p.kind == 103) s
  let s := runStep (fun p => 0x200 ≤ p.kind) s
  let host := !(dueNow s (·.kind == 90)).isEmpty
  settleCount (timeDue host (runStep (·.kind == 90) s))

/-! Named samples. -/

/-- The samples of the new pick at a rate (R60). -/
def newLen (s : State) (rate : Nat) : Nat := stepS rate (stepQ s)

/-- The sample a change of the new pick takes effect at: beyond the end of a step pick, at its last (R62). -/
def sampleOf (s : State) (p : Pend) : Nat :=
  let rate := if p.kind = 60 then 1 else ((dentAt s (hIndex p.obj)).map (·.rate)).getD 1
  min p.sample (newLen s rate - 1)

/-- The instant of a change in the new pick, in 1/6144 ms, then its kind in the order of R223 (R39). (log 20: DEDUCED) -/
def sampleKey (s : State) (p : Pend) : Nat :=
  let rate := if p.kind = 60 then 1 else ((dentAt s (hIndex p.obj)).map (·.rate)).getD 1
  sampleOf s p * 6144 / rateS rate * 64 + if p.kind = 44 then 42 else p.kind % 64

/-- The changes at named samples of the new pick, in order. -/
def namedDue (s : State) : List Pend :=
  sortBy (sampleKey s) (dueNow s fun p => (inR 40 p.kind 44 || p.kind == 60) && p.sample != 0)

/-- The fades that end at sample `j` at 48 kHz, then the changes at named samples up to it. (log 20: DEDUCED) -/
def sampleTurn (s : State) (l : List Pend) (j : Nat) : State :=
  let here := fun (p : Pend) => 128 * (j - 1) * 64 + 64 ≤ sampleKey s p && sampleKey s p < 128 * j * 64 + 64
  (l.filter here).foldl (fun s p => takeEffect p (sampleOf s p) s) (fadesAt j s)

/-- The named samples of the new pick (R36, R39, R60-R62). (log 20: DEDUCED) -/
def samplesTurn (s : State) : State :=
  let l := namedDue s
  let n := newLen s 1
  let s := if s.follows.isEmpty then s else (List.range (n - 1)).foldl (fun t j => sampleTurn t (l.filter t.sched.contains) (j + 1)) s
  l.foldl (fun s p => if s.sched.contains p then takeEffect p (sampleOf s p) s else s) s

/-! The boundary. -/

/-- The first boundary (R47): pick 0 begins, and nothing is measured yet. -/
def firstBoundary (s : State) : State := latchCount (timingOut (sysmod (fun y => { y with ord := 1 }) s))

/-- A boundary between two picks. -/
def nextBoundary (i : PickInputs) (s : State) : State :=
  let s := numberTurn i s.tb (pickEnd i s)
  let was := s.pair
  let (t, s) := modeTurn s
  let left := !was.owner && was.st != .unpaired && s.pair.st == .unpaired && !t.tail.isEmpty
  let s := domainTurn i t s
  let s := objectTurn left s
  let s := alignDelays s 0 (frontTurn s)
  let s := outputTurn (dataTurn s)
  let s := loudStarts (pickInEnd (movesStart s))
  let s := s.follows.foldl (fun s f => hopWake f.1 s) s
  let s := if s.tb.pick % 1000 = 0 then writeConfig s else s
  sendFrame (settle [] 0 (samplesTurn s))

/-- PICK_BOUNDARY (R39, R45, R47). (log 8: DESIGN CHOICE, 119: DESIGN CHOICE, 122: DESIGN CHOICE) -/
def execPickBoundary (i : PickInputs) (s : State) : Host.Outcome State Fault Refusal :=
  if started s then
    let s := measureRing (prmod (fun p => { p with gnt := i.gnt }) (protomod (fun p => { p with sentUdp := [] }) s))
    .next (if s.sys.ord = 0 then firstBoundary s else nextBoundary i s)
  else .next s

end Sys2Proof.Machine
end

