-- ==== Sys2Proof/Machine/Dispatch.lean ====
section
/-! DEFINITION. The meaning of every command, one arm each. -/

namespace Sys2Proof.Machine

/-- The effect of a command on everything but the queue. -/
def exec (i : Instr) (s : State) : Host.Outcome State Fault Refusal :=
  match i with
  | .sysIdent h => Sys2Proof.Machine.execSysIdent h s
  | .sysStatus h => Sys2Proof.Machine.execSysStatus h s
  | .sysModeSet h mode target => Sys2Proof.Machine.execSysModeSet h mode target s
  | .sysDomainSet h on off target => Sys2Proof.Machine.execSysDomainSet h on off target s
  | .sysReset h kind confirm => Sys2Proof.Machine.execSysReset h kind confirm s
  | .sysEventRead h ack max => Sys2Proof.Machine.execSysEventRead h ack max s
  | .sysEventNotify h c => Sys2Proof.Machine.execSysEventNotify h c s
  | .sysProtoStatus h => Sys2Proof.Machine.execSysProtoStatus h s
  | .sysEventCount h => Sys2Proof.Machine.execSysEventCount h s
  | .pbConfig h flags stretch => Sys2Proof.Machine.execPbConfig h flags stretch s
  | .pbPeriphCreate h p => Sys2Proof.Machine.execPbPeriphCreate h p s
  | .pbPeriphRelease h periph => Sys2Proof.Machine.execPbPeriphRelease h periph s
  | .pbTransfer h r => Sys2Proof.Machine.execPbTransfer h r s
  | .pbStatus h => Sys2Proof.Machine.execPbStatus h s
  | .sessionOpen h role => Sys2Proof.Machine.execSessionOpen h role s
  | .sessionProve h sess proof => Sys2Proof.Machine.execSessionProve h sess proof s
  | .sessionClose h => Sys2Proof.Machine.execSessionClose h s
  | .sessionStatus h => Sys2Proof.Machine.execSessionStatus h s
  | .rolekeySet h role key => Sys2Proof.Machine.execRolekeySet h role key s
  | .auditRead h start max => Sys2Proof.Machine.execAuditRead h start max s
  | .auditClear h confirm => Sys2Proof.Machine.execAuditClear h confirm s
  | .tbConfig h c => Sys2Proof.Machine.execTbConfig h c s
  | .tbStatus h => Sys2Proof.Machine.execTbStatus h s
  | .tbPhaseStep h obj target steps => Sys2Proof.Machine.execTbPhaseStep h obj target steps s
  | .tbSetSeconds h target secs => Sys2Proof.Machine.execTbSetSeconds h target secs s
  | .clkConfig h mode amount target => Sys2Proof.Machine.execClkConfig h mode amount target s
  | .clkStatus h => Sys2Proof.Machine.execClkStatus h s
  | .portConfig h port loop flags target => Sys2Proof.Machine.execPortConfig h port loop flags target s
  | .portStatus h port => Sys2Proof.Machine.execPortStatus h port s
  | .feedSet h port flags limit target => Sys2Proof.Machine.execFeedSet h port flags limit target s
  | .feedReset h port => Sys2Proof.Machine.execFeedReset h port s
  | .heddleRoute h warp port target => Sys2Proof.Machine.execHeddleRoute h warp port target s
  | .warpTune h warp r target => Sys2Proof.Machine.execWarpTune h warp r target s
  | .warpGain h warp gain target => Sys2Proof.Machine.execWarpGain h warp gain target s
  | .warpAgc h warp c => Sys2Proof.Machine.execWarpAgc h warp c s
  | .warpStatus h warp => Sys2Proof.Machine.execWarpStatus h warp s
  | .synStatus h index => Sys2Proof.Machine.execSynStatus h index s
  | .synDitherSet h index flags seed => Sys2Proof.Machine.execSynDitherSet h index flags seed s
  | .synProfileStore h index num => Sys2Proof.Machine.execSynProfileStore h index num s
  | .synProfileRead h index num => Sys2Proof.Machine.execSynProfileRead h index num s
  | .synProfileClear h index num => Sys2Proof.Machine.execSynProfileClear h index num s
  | .dentCreate h r target => Sys2Proof.Machine.execDentCreate h r target s
  | .dentSet h dent c target => Sys2Proof.Machine.execDentSet h dent c target s
  | .dentBankLoad h dent b => Sys2Proof.Machine.execDentBankLoad h dent b s
  | .dentBankSwap h dent sample target => Sys2Proof.Machine.execDentBankSwap h dent sample target s
  | .dentFlush h dent sample target => Sys2Proof.Machine.execDentFlush h dent sample target s
  | .dentRelease h dent sample target => Sys2Proof.Machine.execDentRelease h dent sample target s
  | .dentStatus h dent => Sys2Proof.Machine.execDentStatus h dent s
  | .reedStatus h => Sys2Proof.Machine.execReedStatus h s
  | .dentBankRead h dent bank => Sys2Proof.Machine.execDentBankRead h dent bank s
  | .weaveCreate h r target => Sys2Proof.Machine.execWeaveCreate h r target s
  | .weaveStart h weave target => Sys2Proof.Machine.execWeaveStart h weave target s
  | .weaveStop h weave target => Sys2Proof.Machine.execWeaveStop h weave target s
  | .weaveRelease h weave target => Sys2Proof.Machine.execWeaveRelease h weave target s
  | .weaveSet h weave prio m target block => Sys2Proof.Machine.execWeaveSet h weave prio m target block s
  | .weaveStatus h weave => Sys2Proof.Machine.execWeaveStatus h weave s
  | .schedStatus h => Sys2Proof.Machine.execSchedStatus h s
  | .fmStatus h weave => Sys2Proof.Machine.execFmStatus h weave s
  | .amStatus h weave => Sys2Proof.Machine.execAmStatus h weave s
  | .fmAfRead h weave index => Sys2Proof.Machine.execFmAfRead h weave index s
  | .dabStatus h weave => Sys2Proof.Machine.execDabStatus h weave s
  | .dabSubchRead h weave id => Sys2Proof.Machine.execDabSubchRead h weave id s
  | .dabTiiRead h weave => Sys2Proof.Machine.execDabTiiRead h weave s
  | .drmStatus h weave => Sys2Proof.Machine.execDrmStatus h weave s
  | .digDecodeSet h weave n target comps => Sys2Proof.Machine.execDigDecodeSet h weave n target comps s
  | .surveyStart h n flags target entries => Sys2Proof.Machine.execSurveyStart h n flags target entries s
  | .surveyStop h => Sys2Proof.Machine.execSurveyStop h s
  | .surveyStatus h => Sys2Proof.Machine.execSurveyStatus h s
  | .serviceList h start => Sys2Proof.Machine.execServiceList h start s
  | .serviceRead h svc => Sys2Proof.Machine.execServiceRead h svc s
  | .componentRead h comp => Sys2Proof.Machine.execComponentRead h comp s
  | .labelRead h obj kind => Sys2Proof.Machine.execLabelRead h obj kind s
  | .linkRead h svc start => Sys2Proof.Machine.execLinkRead h svc start s
  | .serviceRelease h svc target => Sys2Proof.Machine.execServiceRelease h svc target s
  | .timePolicy h c => Sys2Proof.Machine.execTimePolicy h c s
  | .timeStatus h => Sys2Proof.Machine.execTimeStatus h s
  | .followCreate h n group flags hold target entries => Sys2Proof.Machine.execFollowCreate h n group flags hold target entries s
  | .followSet h set n target entries => Sys2Proof.Machine.execFollowSet h set n target entries s
  | .followCommit h set entry sample target fade => Sys2Proof.Machine.execFollowCommit h set entry sample target fade s
  | .followRelease h set target => Sys2Proof.Machine.execFollowRelease h set target s
  | .followStatus h set => Sys2Proof.Machine.execFollowStatus h set s
  | .followPolicy h set c => Sys2Proof.Machine.execFollowPolicy h set c s
  | .measRead h obj => Sys2Proof.Machine.execMeasRead h obj s
  | .measWindow h obj w => Sys2Proof.Machine.execMeasWindow h obj w s
  | .measThreshold h obj t => Sys2Proof.Machine.execMeasThreshold h obj t s
  | .loudnessRead h comp => Sys2Proof.Machine.execLoudnessRead h comp s
  | .loudnessReset h comp target => Sys2Proof.Machine.execLoudnessReset h comp target s
  | .audioMonSet h comp c => Sys2Proof.Machine.execAudioMonSet h comp c s
  | .verifySet h r target => Sys2Proof.Machine.execVerifySet h r target s
  | .verifyClear h index target => Sys2Proof.Machine.execVerifyClear h index target s
  | .verifyStatus h index => Sys2Proof.Machine.execVerifyStatus h index s
  | .tdmPortConfig h port c target => Sys2Proof.Machine.execTdmPortConfig h port c target s
  | .tdmPortStatus h port => Sys2Proof.Machine.execTdmPortStatus h port s
  | .tdmStreamCreate h r target => Sys2Proof.Machine.execTdmStreamCreate h r target s
  | .tdmStreamRelease h stream target => Sys2Proof.Machine.execTdmStreamRelease h stream target s
  | .alignCreate h target => Sys2Proof.Machine.execAlignCreate h target s
  | .alignAdd h group stream target => Sys2Proof.Machine.execAlignAdd h group stream target s
  | .alignRemove h group stream target => Sys2Proof.Machine.execAlignRemove h group stream target s
  | .alignRelease h group target => Sys2Proof.Machine.execAlignRelease h group target s
  | .alignStatus h group => Sys2Proof.Machine.execAlignStatus h group s
  | .ethPortConfig h port c target => Sys2Proof.Machine.execEthPortConfig h port c target s
  | .ethPortStatus h port => Sys2Proof.Machine.execEthPortStatus h port s
  | .ethStreamCreate h r target => Sys2Proof.Machine.execEthStreamCreate h r target s
  | .ethStreamRelease h stream target => Sys2Proof.Machine.execEthStreamRelease h stream target s
  | .ethStreamStatus h stream => Sys2Proof.Machine.execEthStreamStatus h stream s
  | .rtcRead h => Sys2Proof.Machine.execRtcRead h s
  | .rtcSet h kind value target => Sys2Proof.Machine.execRtcSet h kind value target s
  | .rtcTrim h trim => Sys2Proof.Machine.execRtcTrim h trim s
  | .rtcAlarmSet h alarm flags value => Sys2Proof.Machine.execRtcAlarmSet h alarm flags value s
  | .rtcStatus h => Sys2Proof.Machine.execRtcStatus h s
  | .rtcWeekdaySet h weekday offset => Sys2Proof.Machine.execRtcWeekdaySet h weekday offset s
  | .rtcConfig h vsw low => Sys2Proof.Machine.execRtcConfig h vsw low s
  | .dateToTicks h d => Sys2Proof.Machine.execDateToTicks h d s
  | .ticksToDate h count => Sys2Proof.Machine.execTicksToDate h count s
  | .recordStatus h rec => Sys2Proof.Machine.execRecordStatus h rec s
  | .recordRead h rec copy len offset => Sys2Proof.Machine.execRecordRead h rec copy len offset s
  | .recordResolve h rec keep => Sys2Proof.Machine.execRecordResolve h rec keep s
  | .limitsWrite h l => Sys2Proof.Machine.execLimitsWrite h l s
  | .trimWrite h offset total flags data => Sys2Proof.Machine.execTrimWrite h offset total flags data s
  | .fwStatus h => Sys2Proof.Machine.execFwStatus h s
  | .fwLoadBegin h target len => Sys2Proof.Machine.execFwLoadBegin h target len s
  | .fwLoadData h offset data => Sys2Proof.Machine.execFwLoadData h offset data s
  | .fwLoadEnd h => Sys2Proof.Machine.execFwLoadEnd h s
  | .fwBoot h source flags confirm => Sys2Proof.Machine.execFwBoot h source flags confirm s
  | .fwKeyWrite h slot flags key => Sys2Proof.Machine.execFwKeyWrite h slot flags key s
  | .lifecycleLock h confirm => Sys2Proof.Machine.execLifecycleLock h confirm s
  | .pairConfig h c target => Sys2Proof.Machine.execPairConfig h c target s
  | .pairStatus h => Sys2Proof.Machine.execPairStatus h s
  | .pairHandover h flags target => Sys2Proof.Machine.execPairHandover h flags target s
  | .deviceIdSet h id => Sys2Proof.Machine.execDeviceIdSet h id s
  | .farmStatus h => Sys2Proof.Machine.execFarmStatus h s
  | .calPolicy h c => Sys2Proof.Machine.execCalPolicy h c s
  | .calRequest h warp flags => Sys2Proof.Machine.execCalRequest h warp flags s
  | .calStatus h warp => Sys2Proof.Machine.execCalStatus h warp s
  | .calResultRead h warp gainBand loBand => Sys2Proof.Machine.execCalResultRead h warp gainBand loBand s
  | .calSnapshot h => Sys2Proof.Machine.execCalSnapshot h s
  | .tunerPresetWrite h port num p => Sys2Proof.Machine.execTunerPresetWrite h port num p s
  | .tunerPresetRead h port num => Sys2Proof.Machine.execTunerPresetRead h port num s
  | .tunerSelect h port num flags target => Sys2Proof.Machine.execTunerSelect h port num flags target s
  | .tunerStatus h port => Sys2Proof.Machine.execTunerStatus h port s
  | .probeStart h r => Sys2Proof.Machine.execProbeStart h r s
  | .probeStop h => Sys2Proof.Machine.execProbeStop h s
  | .probeStatus h => Sys2Proof.Machine.execProbeStatus h s
  | .mismatchMeasure h port points threshold target freqs => Sys2Proof.Machine.execMismatchMeasure h port points threshold target freqs s
  | .mismatchRead h port => Sys2Proof.Machine.execMismatchRead h port s
  | .spiWrite stated bytes => Sys2Proof.Machine.execSpiWrite stated bytes s
  | .spiRead clocked => Sys2Proof.Machine.execSpiRead clocked s
  | .spiStatusOnly => Sys2Proof.Machine.execSpiStatusOnly s
  | .udpPacketArrival port addr sport bytes => Sys2Proof.Machine.execUdpPacketArrival port addr sport bytes s
  | .udpReplyExpiry slot => Sys2Proof.Machine.execUdpReplyExpiry slot s
  | .mbIdent => Sys2Proof.Machine.execMbIdent s
  | .mbStatus => Sys2Proof.Machine.execMbStatus s
  | .mbCmdPut data check extra => Sys2Proof.Machine.execMbCmdPut data check extra s
  | .mbReplyGet whole stop => Sys2Proof.Machine.execMbReplyGet whole stop s
  | .mbAttnAck check extra => Sys2Proof.Machine.execMbAttnAck check extra s
  | .mbRtcSnap ended => Sys2Proof.Machine.execMbRtcSnap ended s
  | .mbRtcWeekday ended => Sys2Proof.Machine.execMbRtcWeekday ended s
  | .mbUnassignedCode code => Sys2Proof.Machine.execMbUnassignedCode code s
  | .mbSegmentTimeout => Sys2Proof.Machine.execMbSegmentTimeout s
  | .mbStuckBus => Sys2Proof.Machine.execMbStuckBus s
  | .attnAttempt free sclFell => Sys2Proof.Machine.execAttnAttempt free sclFell s
  | .resetDeadline => Sys2Proof.Machine.execResetDeadline s
  | .pickBoundary inputs => Sys2Proof.Machine.execPickBoundary inputs s
  | .ptpMessage port domain m => Sys2Proof.Machine.execPtpMessage port domain m s
  | .sourceQualified input => Sys2Proof.Machine.execSourceQualified input s
  | .sourceLost input word => Sys2Proof.Machine.execSourceLost input word s
  | .sourceSelect code => Sys2Proof.Machine.execSourceSelect code s
  | .sourceDisplace code => Sys2Proof.Machine.execSourceDisplace code s
  | .freqAcquired e => Sys2Proof.Machine.execFreqAcquired e s
  | .timebaseLocked => Sys2Proof.Machine.execTimebaseLocked s
  | .phaseErrorExceeded e => Sys2Proof.Machine.execPhaseErrorExceeded e s
  | .ptpSecondsPersist es => Sys2Proof.Machine.execPtpSecondsPersist es s
  | .phaseStepComplete obj => Sys2Proof.Machine.execPhaseStepComplete obj s
  | .mdllUnlock => Sys2Proof.Machine.execMdllUnlock s
  | .mdllLock => Sys2Proof.Machine.execMdllLock s
  | .mdllRetryTimer => Sys2Proof.Machine.execMdllRetryTimer s
  | .tcxoFail => Sys2Proof.Machine.execTcxoFail s
  | .audioPllUnlock => Sys2Proof.Machine.execAudioPllUnlock s
  | .audioPllLock => Sys2Proof.Machine.execAudioPllLock s
  | .synthUnlock k sample => Sys2Proof.Machine.execSynthUnlock k sample s
  | .synthLock k r => Sys2Proof.Machine.execSynthLock k r s
  | .bandSearchFailed k => Sys2Proof.Machine.execBandSearchFailed k s
  | .searchRepeatTimer k => Sys2Proof.Machine.execSearchRepeatTimer k s
  | .profileLockTimeout k => Sys2Proof.Machine.execProfileLockTimeout k s
  | .feedRampComplete p m => Sys2Proof.Machine.execFeedRampComplete p m s
  | .feedOvercurrent p m => Sys2Proof.Machine.execFeedOvercurrent p m s
  | .feedFoldRecovered p m => Sys2Proof.Machine.execFeedFoldRecovered p m s
  | .feedFoldWindowEnd p m => Sys2Proof.Machine.execFeedFoldWindowEnd p m s
  | .feedRetryTimer p m => Sys2Proof.Machine.execFeedRetryTimer p m s
  | .feedOvervoltage p m => Sys2Proof.Machine.execFeedOvervoltage p m s
  | .vfeedFault => Sys2Proof.Machine.execVfeedFault s
  | .vfeedReturn => Sys2Proof.Machine.execVfeedReturn s
  | .feedStartStagger p m => Sys2Proof.Machine.execFeedStartStagger p m s
  | .feedEpisodeClear p => Sys2Proof.Machine.execFeedEpisodeClear p s
  | .feedFaultClear p m => Sys2Proof.Machine.execFeedFaultClear p m s
  | .feedOpenDetect p m => Sys2Proof.Machine.execFeedOpenDetect p m s
  | .feedOpenClear p m => Sys2Proof.Machine.execFeedOpenClear p m s
  | .portBackfeedDetect p m => Sys2Proof.Machine.execPortBackfeedDetect p m s
  | .portBackfeedClear p m => Sys2Proof.Machine.execPortBackfeedClear p m s
  | .coexGntFall => Sys2Proof.Machine.execCoexGntFall s
  | .probeGrantTimeout => Sys2Proof.Machine.execProbeGrantTimeout s
  | .probeStartTimeout => Sys2Proof.Machine.execProbeStartTimeout s
  | .probeDurationEnd => Sys2Proof.Machine.execProbeDurationEnd s
  | .probeLevelCalDone => Sys2Proof.Machine.execProbeLevelCalDone s
  | .probeLevelLoop level => Sys2Proof.Machine.execProbeLevelLoop level s
  | .probeLimiter => Sys2Proof.Machine.execProbeLimiter s
  | .mismatchComplete points low => Sys2Proof.Machine.execMismatchComplete points low s
  | .tempFaultEnd w => Sys2Proof.Machine.execTempFaultEnd w s
  | .overloadClear w => Sys2Proof.Machine.execOverloadClear w s
  | .calInitialTimeout w => Sys2Proof.Machine.execCalInitialTimeout w s
  | .calNoGapTimeout w => Sys2Proof.Machine.execCalNoGapTimeout w s
  | .calStaleTempTimeout w => Sys2Proof.Machine.execCalStaleTempTimeout w s
  | .calTempFaultTimer w => Sys2Proof.Machine.execCalTempFaultTimer w s
  | .calSnapshotTimer => Sys2Proof.Machine.execCalSnapshotTimer s
  | .dentBankLoadComplete dent => Sys2Proof.Machine.execDentBankLoadComplete dent s
  | .stageReady weave cap stage tasks jobs => Sys2Proof.Machine.execStageReady weave cap stage tasks jobs s
  | .taskComplete shuttle cycles => Sys2Proof.Machine.execTaskComplete shuttle cycles s
  | .engineJobComplete cls engine => Sys2Proof.Machine.execEngineJobComplete cls engine s
  | .stageComplete weave cap stage r => Sys2Proof.Machine.execStageComplete weave cap stage r s
  | .stageDeadline weave cap cut => Sys2Proof.Machine.execStageDeadline weave cap cut s
  | .sourceFailureClear set entry => Sys2Proof.Machine.execSourceFailureClear set entry s
  | .runAheadRetry set entry => Sys2Proof.Machine.execRunAheadRetry set entry s
  | .hopVisitEnd set => Sys2Proof.Machine.execHopVisitEnd set s
  | .surveyFieldMeasured dent power => Sys2Proof.Machine.execSurveyFieldMeasured dent power s
  | .surveyDwellEnd weave => Sys2Proof.Machine.execSurveyDwellEnd weave s
  | .surveyStarved => Sys2Proof.Machine.execSurveyStarved s
  | .tdmFrame port periods rate due lines => Sys2Proof.Machine.execTdmFrame port periods rate due lines s
  | .tdmClockLost port => Sys2Proof.Machine.execTdmClockLost port s
  | .tdmClockReturn port => Sys2Proof.Machine.execTdmClockReturn port s
  | .tdmRateOk port rate => Sys2Proof.Machine.execTdmRateOk port rate s
  | .ethLinkChange port up => Sys2Proof.Machine.execEthLinkChange port up s
  | .ethFrameReceive port f => Sys2Proof.Machine.execEthFrameReceive port f s
  | .arpRefresh failed => Sys2Proof.Machine.execArpRefresh failed s
  | .pbBusFree => Sys2Proof.Machine.execPbBusFree s
  | .pbTransferDone r => Sys2Proof.Machine.execPbTransferDone r s
  | .pbArbLost => Sys2Proof.Machine.execPbArbLost s
  | .pbArbLostCond => Sys2Proof.Machine.execPbArbLostCond s
  | .pbStretchTimeout => Sys2Proof.Machine.execPbStretchTimeout s
  | .pbBusReleased sdaLow => Sys2Proof.Machine.execPbBusReleased sdaLow s
  | .pbSclStuck => Sys2Proof.Machine.execPbSclStuck s
  | .pbSdaStuck => Sys2Proof.Machine.execPbSdaStuck s
  | .pbRecoveryDone released => Sys2Proof.Machine.execPbRecoveryDone released s
  | .pbSdaRetry => Sys2Proof.Machine.execPbSdaRetry s
  | .pbTransferTimeout => Sys2Proof.Machine.execPbTransferTimeout s
  | .rtcTick => Sys2Proof.Machine.execRtcTick s
  | .rtcOscStop => Sys2Proof.Machine.execRtcOscStop s
  | .rtcOscRestart => Sys2Proof.Machine.execRtcOscRestart s
  | .rtcToBackup => Sys2Proof.Machine.execRtcToBackup s
  | .rtcToMain => Sys2Proof.Machine.execRtcToMain s
  | .backupCollapse => Sys2Proof.Machine.execBackupCollapse s
  | .vbackupMeasure mv => Sys2Proof.Machine.execVbackupMeasure mv s
  | .recordWriteComplete ok => Sys2Proof.Machine.execRecordWriteComplete ok s
  | .sessionOpenExpiry k => Sys2Proof.Machine.execSessionOpenExpiry k s
  | .sessionIdleTimeout k => Sys2Proof.Machine.execSessionIdleTimeout k s
  | .proveBackoffEnd => Sys2Proof.Machine.execProveBackoffEnd s
  | .vmainGood addr boot => Sys2Proof.Machine.execVmainGood addr boot s
  | .fwVerifyComplete => Sys2Proof.Machine.execFwVerifyComplete s
  | .firmwareStart => Sys2Proof.Machine.execFirmwareStart s
  | .pfail => Sys2Proof.Machine.execPfail s
  | .resetNAssert => Sys2Proof.Machine.execResetNAssert s
  | .resetNRelease addr boot => Sys2Proof.Machine.execResetNRelease addr boot s
  | .watchdogExpiry => Sys2Proof.Machine.execWatchdogExpiry s
  | .railFault d => Sys2Proof.Machine.execRailFault d s
  | .plFrameReceive f => Sys2Proof.Machine.execPlFrameReceive f s
  | .plLinkChange up => Sys2Proof.Machine.execPlLinkChange up s
  | .heartbeatMiss => Sys2Proof.Machine.execHeartbeatMiss s
  | .ownHwRelease => Sys2Proof.Machine.execOwnHwRelease s
  | .ownRelease => Sys2Proof.Machine.execOwnRelease s
  | .failoverTdmDrive ns => Sys2Proof.Machine.execFailoverTdmDrive ns s
  | .joinWaitEnd ownHeld => Sys2Proof.Machine.execJoinWaitEnd ownHeld s
  | .mirrorJoin => Sys2Proof.Machine.execMirrorJoin s
  | .mirrorSynced => Sys2Proof.Machine.execMirrorSynced s
  | .mirrorUnsynced => Sys2Proof.Machine.execMirrorUnsynced s
  | .alignFault => Sys2Proof.Machine.execAlignFault s
  | .phaseInputEdge pick width offset => Sys2Proof.Machine.execPhaseInputEdge pick width offset s
  | .d0PowerUp => Sys2Proof.Machine.execD0PowerUp s
  | .pbBothLinesHigh => Sys2Proof.Machine.execPbBothLinesHigh s

end Sys2Proof.Machine
end

