-- ==== Sys2Proof/Machine/Step.lean ====
section
/-! DEFINITION. One step of the block: the command at the front of the queue takes effect. -/

namespace Sys2Proof.Machine

/-- The interpreter at rest takes up the oldest packet taken and not yet answered (R446, R447), or idles. (log 2: DESIGN CHOICE) -/
def idle (s : State) : Host.Outcome State Fault Refusal :=
  match nextTaken s with
  | some (t, u) =>
    match interpret t u with
    | .reply v => .next v
    | .run i v => exec i v
  | none => .next s

/-- The command at the front of the queue runs on the state with the queue's rest; on an empty queue the interpreter goes on. (log 1: DESIGN CHOICE, 2: DESIGN CHOICE, 119: DESIGN CHOICE) -/
def step (s : State) : Host.Outcome State Fault Refusal :=
  match s.pending with
  | c :: cs => exec c { s with pending := cs }
  | [] => idle s

/-- The state with the command that a word spells in front of its queue: the table gives no bits, so no word spells one. (log 3: DESIGN CHOICE) -/
def State.withFetchWord (s : State) (nbits w : Nat) : State :=
  match Sys2Proof.decodeTableWord nbits w with
  | some c => { s with pending := c :: s.pending }
  | none => s

end Sys2Proof.Machine
end

