-- ==== Sys2Proof/Safety.lean ====
section
/-! DEFINITION. What a safe run is: no step of it ends in a fault or a refusal; and the words statements use for a host command that
is served (R447). -/

namespace Sys2Proof

open Machine

/-- The step at a state answers a next state. -/
def Goes (s : State) : Prop := ∃ t, step s = .next t

/-- The state after `n` steps that each answer a next state. -/
def runN : Nat → State → Option State
  | 0, s => some s
  | n + 1, s => match step s with
    | .next t => runN n t
    | _ => none

/-- A run of `n` steps from a state never stops. -/
def SafeFor (n : Nat) (s : State) : Prop := (runN n s).isSome

/-- The right an opcode requires (R468, R481). -/
def rightOf (i : Instr) : Right := (opRow (opOf i)).elim .anonymous (·.1)

/-- Checks 5 and 6 and the reserved header fields pass for a host command, and it is not one announced by the owner of the pair
(R447, R468, R469). -/
def admits (i : Instr) (s : State) : Bool :=
  match hdrOf i, opRow (opOf i) with
  | some h, some (r, k) =>
    s.sys.mode != .backup && !(s.pair.applying.isSome && h.via == .self) && rightOk r h s && (k.refuses s.sys.mode).isNone && !h.rsv
  | _, _ => false

/-- An admitted command is served: its effect `u`, then its audit entry and its reply of status `c` and payload `p`, once (R446);
on the primary of a pair the acceptance is announced (R604). -/
def Serves (i : Instr) (obj : Handle) (s : State) (c : Status) (p : List Byte) (u : State) : Prop :=
  admits i s = true → ∀ h, hdrOf i = some h → p.length ≤ payloadLimit (sessNamed h s) h.via →
    exec i s = .next (answer (opOf i) (rightOf i) h obj c p (announceCmd i obj p u))

/-- The same of a command that asks for a reset of the module: the reset follows the reply (R480). -/
def ServesReset (i : Instr) (obj : Handle) (s : State) (c : Status) (p : List Byte) (u : State) : Prop :=
  admits i s = true → ∀ h, hdrOf i = some h → p.length ≤ payloadLimit (sessNamed h s) h.via →
    exec i s = .next (resetIfSent (answer (opOf i) (rightOf i) h obj c p (announceCmd i obj p u)))

/-- An admitted command whose outcome comes later is started with the effect `u` and stands in its slot (R446, R519, R566). -/
def Starts (i : Instr) (s : State) (obj : Handle) (u : State) : Prop :=
  admits i s = true → ∀ h, hdrOf i = some h → exec i s = .next (inProgress (opOf i) h (announceCmd i obj [] u))

/-- What every step keeps: the event queue holds at most 1,024 entries, and a full one ends with EV_QUEUE_OVERFLOW (R458, R460); the weekday
counter runs from 0 to 6 (R540). -/
def Inv (s : State) : Prop :=
  (s.proto.events.length ≤ 1023 ∨ (s.proto.events.length = 1024 ∧ s.proto.events.getLast?.map (·.code) = some 0x0102)) ∧ s.rtc.weekday < 7

/-- The opcodes of the commands whose whole effect is to schedule a change (R37, R38). -/
def schedulingOps : List Nat :=
  [0x0103, 0x0104, 0x0120, 0x0301, 0x0310, 0x0401, 0x0410, 0x0411, 0x0420, 0x0502, 0x0503, 0x0605, 0x0606, 0x0703, 0x0704, 0x0740]
    ++ [0x0801, 0x0802, 0x0815, 0x0820, 0x0904, 0x0906, 0x0A02, 0x0A11, 0x0A12, 0x0A21, 0x0B01, 0x0B11, 0x0B21, 0x0B22, 0x0B23]
    ++ [0x0C01, 0x0C11, 0x0D02, 0x1001, 0x1103]

end Sys2Proof
end

