-- ==== Sys2Proof/WellFormed.lean ====
section
/-! DEFINITION. Well-formed commands: every operand fits the field its packet gives it, so that the command could have come in a
packet. The meanings are total and need none of this; an encoder of packets does. -/

namespace Sys2Proof

/-- An unsigned field of `n` bits holds the value. -/
def u (n v : Nat) : Bool := v < 2 ^ n

/-- A signed field of `n` bits holds the value. -/
def i (n : Nat) (v : Int) : Bool := -(2 ^ (n - 1) : Int) ≤ v && v < (2 ^ (n - 1) : Int)

/-- A header names a tag and a session byte (R443). -/
def Hdr.wf (h : Hdr) : Bool := u 8 h.tag && u 8 h.sess

/-- The fields of `TbCfg` fit. -/
def TbCfg.wf (x : TbCfg) : Bool :=
  u 8 x.sources
    && u 8 x.ptpPort
    && u 8 x.ptpDomain
    && u 8 x.flags
    && u 32 x.threshold
    && u 16 x.slew
    && u 16 x.holdOff
    && u 32 x.comp
    && i 32 x.asym

/-- The fields of `NotifyCfg` fit. -/
def NotifyCfg.wf (x : NotifyCfg) : Bool :=
  u 8 x.mask
    && u 16 x.dport
    && u 128 x.addr
    && u 8 x.flags

/-- The fields of `PortLimit` fit. -/
def PortLimit.wf (x : PortLimit) : Bool :=
  u 16 x.feed
    && i 16 x.probe
    && u 8 x.flags

/-- The fields of `Preset` fit. -/
def Preset.wf (x : Preset) : Bool :=
  u 8 x.c1
    && u 8 x.c2
    && u 8 x.l
    && u 8 x.flags
    && u 32 x.freq
    && u 16 x.loss

/-- The fields of `AgcCfg` fit. -/
def AgcCfg.wf (x : AgcCfg) : Bool :=
  u 8 x.mode
    && u 8 x.flags
    && u 8 x.gMin
    && u 8 x.gMax
    && i 16 x.high
    && i 16 x.target
    && i 16 x.low
    && u 8 x.attack
    && u 16 x.window

/-- The fields of `TuneReq` fit. -/
def TuneReq.wf (x : TuneReq) : Bool :=
  u 32 x.freq
    && u 8 x.placement
    && u 8 x.profile
    && u 32 x.origin
    && u 32 x.step

/-- The fields of `CalCfg` fit. -/
def CalCfg.wf (x : CalCfg) : Bool :=
  u 16 x.dT
    && u 8 x.flags
    && u 8 x.hold
    && u 16 x.interval

/-- The fields of `SurveyEntry` fit. -/
def SurveyEntry.wf (x : SurveyEntry) : Bool :=
  u 8 x.kind
    && u 16 x.thr
    && u 32 x.low
    && u 32 x.high
    && u 32 x.step
    && u 16 x.dwell

/-- The fields of `TimeCfg` fit. -/
def TimeCfg.wf (x : TimeCfg) : Bool :=
  u 8 x.mode
    && u 8 x.sources
    && u 8 x.agree
    && u 8 x.tai
    && u 16 x.tol
    && u 16 x.hold
    && u 8 x.window

/-- The fields of `SrcReq` fit. -/
def SrcReq.wf (x : SrcReq) : Bool :=
  u 32 x.ident
    && u 32 x.mask
    && u 8 x.rank
    && u 8 x.flags

/-- The fields of `TdmCfg` fit. -/
def TdmCfg.wf (x : TdmCfg) : Bool :=
  u 8 x.dir
    && u 8 x.role
    && u 8 x.rate
    && u 8 x.n
    && u 8 x.w
    && u 8 x.word
    && u 8 x.o
    && u 8 x.flags
    && u 8 x.clk
    && u 32 x.mask

/-- The fields of `EthCfg` fit. -/
def EthCfg.wf (x : EthCfg) : Bool :=
  u 8 x.flags
    && u 8 x.pcp
    && u 16 x.vlan
    && u 16 x.mtu
    && u 8 x.pfx4
    && u 8 x.pfx6
    && u 32 x.addr4
    && u 32 x.gate4
    && u 128 x.addr6
    && u 128 x.gate6
    && u 8 x.dMedia
    && u 8 x.dPtp
    && u 8 x.dLsc
    && u 16 x.cport

/-- The operands of a command fit their fields: the lengths and the numbers of its packet, for a host command. -/
def Instr.wf : Instr → Bool
  | .sysIdent h => h.wf
  | .sysStatus h => h.wf
  | .sysModeSet h mode target => h.wf && u 8 mode && u 64 target
  | .sysDomainSet h on off target => h.wf && u 16 on && u 16 off && u 64 target
  | .sysReset h kind confirm => h.wf && u 8 kind && u 32 confirm
  | .sysEventRead h ack max => h.wf && u 32 ack && u 8 max
  | .sysEventNotify h c => h.wf && c.wf
  | .sysProtoStatus h => h.wf
  | .sysEventCount h => h.wf
  | .pbConfig h flags stretch => h.wf && u 8 flags && u 16 stretch
  | .pbPeriphCreate h p => h.wf && u 8 p.addr && u 8 p.flags && u 16 p.stretch
  | .pbPeriphRelease h _ => h.wf
  | .pbTransfer h r => h.wf && u 8 r.w && u 8 r.r && u 8 r.flags && r.data.length == r.w
  | .pbStatus h => h.wf
  | .sessionOpen h role => h.wf && u 8 role
  | .sessionProve h _ proof => h.wf && proof.length == 32
  | .sessionClose h => h.wf
  | .sessionStatus h => h.wf
  | .rolekeySet h role key => h.wf && u 8 role && key.length == 32
  | .auditRead h start max => h.wf && u 32 start && u 8 max
  | .auditClear h confirm => h.wf && u 32 confirm
  | .tbConfig h c => h.wf && c.wf
  | .tbStatus h => h.wf
  | .tbPhaseStep h _ target steps => h.wf && u 64 target && i 16 steps
  | .tbSetSeconds h target secs => h.wf && u 64 target && u 64 secs
  | .clkConfig h mode amount target => h.wf && u 8 mode && u 8 amount && u 64 target
  | .clkStatus h => h.wf
  | .portConfig h _ loop flags target => h.wf && u 8 loop && u 8 flags && u 64 target
  | .portStatus h _ => h.wf
  | .feedSet h _ flags limit target => h.wf && u 8 flags && u 8 limit && u 64 target
  | .feedReset h _ => h.wf
  | .heddleRoute h _ _ target => h.wf && u 64 target
  | .warpTune h _ r target => h.wf && r.wf && u 64 target
  | .warpGain h _ gain target => h.wf && u 8 gain && u 64 target
  | .warpAgc h _ c => h.wf && c.wf
  | .warpStatus h _ => h.wf
  | .synStatus h index => h.wf && u 8 index
  | .synDitherSet h index flags seed => h.wf && u 8 index && u 8 flags && u 32 seed
  | .synProfileStore h index num => h.wf && u 8 index && u 8 num
  | .synProfileRead h index num => h.wf && u 8 index && u 8 num
  | .synProfileClear h index num => h.wf && u 8 index && u 8 num
  | .dentCreate h r target => h.wf && u 8 r.rate && u 8 r.d && u 8 r.bankA && u 8 r.bankB && u 64 r.freq && u 32 r.bw && u 16 r.tau
      && u 64 target
  | .dentSet h _ c target => h.wf && u 8 c.flags && u 64 c.freq && u 32 c.bw && u 16 c.tau && u 16 c.sample && u 64 target
  | .dentBankLoad h _ b => h.wf && u 8 b.bank && u 8 b.kind && u 8 b.n && u 8 b.flags && u 32 b.delay
      && b.taps.length == (if b.kind = 0 then b.n else 0) && b.taps.all (i 32)
  | .dentBankSwap h _ sample target => h.wf && u 16 sample && u 64 target
  | .dentFlush h _ sample target => h.wf && u 16 sample && u 64 target
  | .dentRelease h _ sample target => h.wf && u 16 sample && u 64 target
  | .dentStatus h _ => h.wf
  | .reedStatus h => h.wf
  | .dentBankRead h _ bank => h.wf && u 8 bank
  | .weaveCreate h r target => h.wf && u 8 r.type && u 8 r.n && u 8 r.prio && u 8 r.group && u 8 r.flags && u 8 r.opt && u 16 r.m
      && u 64 target && r.dents.length == r.n && r.block.length == r.m
  | .weaveStart h _ target => h.wf && u 64 target
  | .weaveStop h _ target => h.wf && u 64 target
  | .weaveRelease h _ target => h.wf && u 64 target
  | .weaveSet h _ prio m target block => h.wf && u 8 prio && u 16 m && u 64 target && block.length == m
  | .weaveStatus h _ => h.wf
  | .schedStatus h => h.wf
  | .fmStatus h _ => h.wf
  | .amStatus h _ => h.wf
  | .fmAfRead h _ index => h.wf && u 8 index
  | .dabStatus h _ => h.wf
  | .dabSubchRead h _ id => h.wf && u 8 id
  | .dabTiiRead h _ => h.wf
  | .drmStatus h _ => h.wf
  | .digDecodeSet h _ n target comps => h.wf && u 8 n && u 64 target && comps.length == n
  | .surveyStart h n flags target entries => h.wf && u 8 n && u 8 flags && u 64 target && entries.length == n && entries.all SurveyEntry.wf
  | .surveyStop h => h.wf
  | .surveyStatus h => h.wf
  | .serviceList h start => h.wf && u 16 start
  | .serviceRead h _ => h.wf
  | .componentRead h _ => h.wf
  | .labelRead h _ kind => h.wf && u 8 kind
  | .linkRead h _ start => h.wf && u 16 start
  | .serviceRelease h _ target => h.wf && u 64 target
  | .timePolicy h c => h.wf && c.wf
  | .timeStatus h => h.wf
  | .followCreate h n group flags hold target entries => h.wf && u 8 n && u 8 group && u 8 flags && u 32 hold && u 64 target
      && entries.length == n && entries.all SrcReq.wf
  | .followSet h _ n target entries => h.wf && u 8 n && u 64 target && entries.length == n && entries.all SrcReq.wf
  | .followCommit h _ entry sample target fade => h.wf && u 8 entry && u 16 sample && u 64 target && u 16 fade
  | .followRelease h _ target => h.wf && u 64 target
  | .followStatus h _ => h.wf
  | .followPolicy h _ c => h.wf && u 8 c.mode && u 8 c.flags && u 16 c.fade && u 16 c.thr && u 8 c.k && u 16 c.revert && u 16 c.visit
      && u 8 c.curPrio && u 8 c.runPrio && u 16 c.lossHold
  | .measRead h _ => h.wf
  | .measWindow h _ w => h.wf && u 16 w
  | .measThreshold h _ t => h.wf && u 8 t.code && u 8 t.basis && u 16 t.hold && t.low.all (fun v => i 32 v && v != -2147483648)
      && t.high.all (fun v => i 32 v && v != 2147483647) && u 32 t.hyst
  | .loudnessRead h _ => h.wf
  | .loudnessReset h _ target => h.wf && u 64 target
  | .audioMonSet h _ c => h.wf && u 8 c.flags && u 8 c.units && i 16 c.silThr && u 16 c.silHold && u 16 c.frzHold
  | .verifySet h r target => h.wf && u 8 r.index && u 8 r.kind && u 8 r.flags && u 8 r.group && u 8 r.slotL && u 8 r.slotR && i 32 r.min
      && i 32 r.max && u 16 r.match_ && u 16 r.mismatch && u 8 r.k && u 8 r.m && u 64 target
  | .verifyClear h index target => h.wf && u 8 index && u 64 target
  | .verifyStatus h index => h.wf && u 8 index
  | .tdmPortConfig h _ c target => h.wf && c.wf && u 64 target
  | .tdmPortStatus h _ => h.wf
  | .tdmStreamCreate h r target => h.wf && u 8 r.slotA && u 8 r.slotB && u 8 r.chan && u 8 r.shift && u 64 target
  | .tdmStreamRelease h _ target => h.wf && u 64 target
  | .alignCreate h target => h.wf && u 64 target
  | .alignAdd h _ _ target => h.wf && u 64 target
  | .alignRemove h _ _ target => h.wf && u 64 target
  | .alignRelease h _ target => h.wf && u 64 target
  | .alignStatus h _ => h.wf
  | .ethPortConfig h _ c target => h.wf && c.wf && u 64 target
  | .ethPortStatus h _ => h.wf
  | .ethStreamCreate h r target => h.wf && u 8 r.kind && u 8 r.ports && u 8 r.flags && u 8 r.chan && u 8 r.shift && u 8 r.ptype && u 16 r.n
      && u 64 target && u 128 r.dest && u 16 r.dport && u 16 r.sport && u 32 r.ssrc && u 16 r.seqOff && u 32 r.tsOff && u 32 r.budget
      && r.sources.length == r.n
  | .ethStreamRelease h _ target => h.wf && u 64 target
  | .ethStreamStatus h _ => h.wf
  | .rtcRead h => h.wf
  | .rtcSet h kind value target => h.wf && u 8 kind && u 64 value && u 64 target
  | .rtcTrim h trim => h.wf && i 8 trim
  | .rtcAlarmSet h alarm flags value => h.wf && u 8 alarm && u 8 flags && u 64 value
  | .rtcStatus h => h.wf
  | .rtcWeekdaySet h weekday offset => h.wf && u 8 weekday && u 32 offset
  | .rtcConfig h vsw low => h.wf && u 16 vsw && u 16 low
  | .dateToTicks h d => h.wf && u 16 d.year && u 8 d.month && u 8 d.day && u 8 d.hour && u 8 d.minute && u 8 d.second && u 16 d.sub
  | .ticksToDate h count => h.wf && u 64 count
  | .recordStatus h _ => h.wf
  | .recordRead h _ copy len offset => h.wf && u 8 copy && u 16 len && u 32 offset
  | .recordResolve h _ keep => h.wf && u 8 keep
  | .limitsWrite h l => h.wf && u 16 l.allowance && l.ports.length == 4 && l.ports.all PortLimit.wf
  | .trimWrite h offset total flags data => h.wf && u 32 offset && u 32 total && u 8 flags && data.length ≤ 4084
  | .fwStatus h => h.wf
  | .fwLoadBegin h target len => h.wf && u 8 target && u 32 len
  | .fwLoadData h offset data => h.wf && u 32 offset && data.length ≤ 4092
  | .fwLoadEnd h => h.wf
  | .fwBoot h source flags confirm => h.wf && u 8 source && u 8 flags && u 32 confirm
  | .fwKeyWrite h slot flags key => h.wf && u 8 slot && u 8 flags && key.length == 64
  | .lifecycleLock h confirm => h.wf && u 32 confirm
  | .pairConfig h c target => h.wf && u 32 c.id && u 32 c.partner && u 8 c.position && u 8 c.flags && c.map.length == 4 && c.map.all (u 8)
      && u 64 target
  | .pairStatus h => h.wf
  | .pairHandover h flags target => h.wf && u 8 flags && u 64 target
  | .deviceIdSet h id => h.wf && u 16 id
  | .farmStatus h => h.wf
  | .calPolicy h c => h.wf && c.wf
  | .calRequest h _ flags => h.wf && u 8 flags
  | .calStatus h _ => h.wf
  | .calResultRead h _ gainBand loBand => h.wf && u 8 gainBand && u 8 loBand
  | .calSnapshot h => h.wf
  | .tunerPresetWrite h _ num p => h.wf && u 8 num && p.wf
  | .tunerPresetRead h _ num => h.wf && u 8 num
  | .tunerSelect h _ num flags target => h.wf && u 8 num && u 8 flags && u 64 target
  | .tunerStatus h _ => h.wf
  | .probeStart h r => h.wf && i 16 r.level && u 8 r.points && u 8 r.flags && u 64 r.target && u 32 r.duration && u 16 r.threshold
      && r.freqs.length == r.points && r.freqs.all (u 32)
  | .probeStop h => h.wf
  | .probeStatus h => h.wf
  | .mismatchMeasure h _ points threshold target freqs => h.wf && u 8 points && u 16 threshold && u 64 target
      && freqs.length == points && freqs.all (u 32)
  | .mismatchRead h _ => h.wf
  | .spiWrite _ _ => true
  | .spiRead _ => true
  | .spiStatusOnly => true
  | .udpPacketArrival _ _ _ _ => true
  | .udpReplyExpiry _ => true
  | .mbIdent => true
  | .mbStatus => true
  | .mbCmdPut _ _ _ => true
  | .mbReplyGet _ _ => true
  | .mbAttnAck _ _ => true
  | .mbRtcSnap _ => true
  | .mbRtcWeekday _ => true
  | .mbUnassignedCode _ => true
  | .mbSegmentTimeout => true
  | .mbStuckBus => true
  | .attnAttempt _ _ => true
  | .resetDeadline => true
  | .pickBoundary _ => true
  | .ptpMessage _ _ _ => true
  | .sourceQualified _ => true
  | .sourceLost _ _ => true
  | .sourceSelect _ => true
  | .sourceDisplace _ => true
  | .freqAcquired _ => true
  | .timebaseLocked => true
  | .phaseErrorExceeded _ => true
  | .ptpSecondsPersist _ => true
  | .phaseStepComplete _ => true
  | .mdllUnlock => true
  | .mdllLock => true
  | .mdllRetryTimer => true
  | .tcxoFail => true
  | .audioPllUnlock => true
  | .audioPllLock => true
  | .synthUnlock _ _ => true
  | .synthLock _ _ => true
  | .bandSearchFailed _ => true
  | .searchRepeatTimer _ => true
  | .profileLockTimeout _ => true
  | .feedRampComplete _ _ => true
  | .feedOvercurrent _ _ => true
  | .feedFoldRecovered _ _ => true
  | .feedFoldWindowEnd _ _ => true
  | .feedRetryTimer _ _ => true
  | .feedOvervoltage _ _ => true
  | .vfeedFault => true
  | .vfeedReturn => true
  | .feedStartStagger _ _ => true
  | .feedEpisodeClear _ => true
  | .feedFaultClear _ _ => true
  | .feedOpenDetect _ _ => true
  | .feedOpenClear _ _ => true
  | .portBackfeedDetect _ _ => true
  | .portBackfeedClear _ _ => true
  | .coexGntFall => true
  | .probeGrantTimeout => true
  | .probeStartTimeout => true
  | .probeDurationEnd => true
  | .probeLevelCalDone => true
  | .probeLevelLoop _ => true
  | .probeLimiter => true
  | .mismatchComplete _ _ => true
  | .tempFaultEnd _ => true
  | .overloadClear _ => true
  | .calInitialTimeout _ => true
  | .calNoGapTimeout _ => true
  | .calStaleTempTimeout _ => true
  | .calTempFaultTimer _ => true
  | .calSnapshotTimer => true
  | .dentBankLoadComplete _ => true
  | .stageReady _ _ _ _ _ => true
  | .taskComplete _ _ => true
  | .engineJobComplete _ _ => true
  | .stageComplete _ _ _ _ => true
  | .stageDeadline _ _ _ => true
  | .sourceFailureClear _ _ => true
  | .runAheadRetry _ _ => true
  | .hopVisitEnd _ => true
  | .surveyFieldMeasured _ _ => true
  | .surveyDwellEnd _ => true
  | .surveyStarved => true
  | .tdmFrame _ _ _ _ _ => true
  | .tdmClockLost _ => true
  | .tdmClockReturn _ => true
  | .tdmRateOk _ _ => true
  | .ethLinkChange _ _ => true
  | .ethFrameReceive _ _ => true
  | .arpRefresh _ => true
  | .pbBusFree => true
  | .pbTransferDone _ => true
  | .pbArbLost => true
  | .pbArbLostCond => true
  | .pbStretchTimeout => true
  | .pbBusReleased _ => true
  | .pbSclStuck => true
  | .pbSdaStuck => true
  | .pbRecoveryDone _ => true
  | .pbSdaRetry => true
  | .pbTransferTimeout => true
  | .rtcTick => true
  | .rtcOscStop => true
  | .rtcOscRestart => true
  | .rtcToBackup => true
  | .rtcToMain => true
  | .backupCollapse => true
  | .vbackupMeasure _ => true
  | .recordWriteComplete _ => true
  | .sessionOpenExpiry _ => true
  | .sessionIdleTimeout _ => true
  | .proveBackoffEnd => true
  | .vmainGood _ _ => true
  | .fwVerifyComplete => true
  | .firmwareStart => true
  | .pfail => true
  | .resetNAssert => true
  | .resetNRelease _ _ => true
  | .watchdogExpiry => true
  | .railFault _ => true
  | .plFrameReceive _ => true
  | .plLinkChange _ => true
  | .heartbeatMiss => true
  | .ownHwRelease => true
  | .ownRelease => true
  | .failoverTdmDrive _ => true
  | .joinWaitEnd _ => true
  | .mirrorJoin => true
  | .mirrorSynced => true
  | .mirrorUnsynced => true
  | .alignFault => true
  | .phaseInputEdge _ _ _ => true
  | .d0PowerUp => true
  | .pbBothLinesHigh => true

end Sys2Proof
end

