-- ==== Sys2Proof/Certificates/Slice0/Obligations.lean ====
section
/-! DEFINITION. The statements for the provers. A host command is one of the rows 0x0101 to 0x1121; the other rows are what happens at
the pins, the buses and the engines. -/

open Sys2Proof Sys2Proof.Machine

/-- A step is exec of the command at the front of the queue, on the state with the queue's rest. The queue is the model's (log entry 1). -/
def Obligations.StepRunsFrontCommand : Prop :=
  ∀ (c : Instr) (l : List Instr) (s : State), s.pending = c :: l → step s = exec c { s with pending := l }

/-- On an empty queue the interpreter takes up the oldest packet taken and not yet answered, or the block idles (log entry 2). -/
def Obligations.EmptyQueueIdles : Prop :=
  (∀ s : State, s.pending = [] → nextTaken s = none → step s = .next s) ∧
  (∀ (s u v : State) (t : Taken), s.pending = [] → nextTaken s = some (t, u) → interpret t u = .reply v → step s = .next v) ∧
  (∀ (s u v : State) (t : Taken) (i : Instr), s.pending = [] → nextTaken s = some (t, u) → interpret t u = .run i v → step s = exec i v) ∧
  (∀ s : State, s.sys.mode = .backup → nextTaken s = none)

/-- No command stops the block: a refusal of the protocol is a reply. -/
def Obligations.CommandsNeverStop : Prop :=
  ∀ (i : Instr) (s : State), ∃ t, exec i s = .next t

/-- The bounds of R458, R460 and R540 over every command and event, and the lock fuse of R581, which nothing opens. -/
def Obligations.StepsKeepTheInvariant : Prop :=
  ∀ s t : State, step s = .next t → (Inv s → Inv t) ∧ (s.fw.locked = true → t.fw.locked = true)

/-- The module after reset: DORMANT, D0 and D1 on, nothing issued and nothing waiting. -/
def Obligations.ResetLeavesDormant : Prop :=
  let s := State.reset
  s.pending = [] ∧ s.sys.mode = .dormant ∧ s.sys.domains = 3#10 ∧ s.sys.faulted = 0#10 ∧ running s = false ∧ s.fw.running = 0xFF ∧
  s.auth.sess = [] ∧ s.auth.waiting = false ∧ s.proto.events = [] ∧ s.proto.queue = [] ∧ s.proto.nextSeq = 1 ∧ s.sched = [] ∧
  s.reg.objs = [] ∧ s.audit.entries = [] ∧ s.audit.next = 1 ∧ s.audit.overflow = 0 ∧ s.fw.locked = false ∧ irqLow s = false ∧
  s.weaves = [] ∧ s.dents = [] ∧ s.streams = [] ∧ s.rtc.osf = true ∧ (s.recs.recs.any fun r => r.st == .conflict) = false ∧ Inv s

/-- Decode of encode over the command packets: no operand of any host command is dropped or confused. -/
def Obligations.PacketsReadBack : Prop :=
  ∀ (i : Instr) (h : Hdr), i.wf = true → hdrOf i = some h → decodeCmd h (opOf i) (paramsOf i) = some i

/-- Words of the protocol written out from its parameter tables. -/
def Obligations.KnownPacketsDecode : Prop :=
  ∀ h : Hdr,
  decodeCmd h 0x0101 [] = some (.sysIdent h) ∧
  decodeCmd h 0x0103 [0x05#8, 0#8, 0#8, 0#8, 0#8, 0#8, 0#8, 0#8, 0x34#8, 0x12#8, 0#8, 0#8, 0#8, 0#8, 0#8, 0#8]
    = some (.sysModeSet h 5 0x1234) ∧
  decodeCmd h 0x0201 [0x02#8, 0#8, 0#8, 0#8] = some (.sessionOpen h 2) ∧
  decodeCmd h 0x0221 [0xEA#8, 0xC1#8, 0x40#8, 0x74#8, 0#8, 0#8, 0#8, 0#8] = some (.auditClear h 0x7440C1EA) ∧
  decodeCmd h 0x0D11 [0x00#8, 0x80#8, 0#8, 0#8, 0#8, 0#8, 0#8, 0#8] = some (.ticksToDate h 32768) ∧
  decodeCmd h 0x01FF [] = none ∧ decodeCmd h 0x0101 [0#8] = none

/-- Completion of the commands SYS_IDENT, SYS_STATUS, SYS_MODE_SET, SYS_DOMAIN_SET, SYS_RESET, SYS_EVENT_READ, SYS_EVENT_NOTIFY, SYS_PROTO_STATUS, SYS_EVENT_COUNT, PB_CONFIG, PB_PERIPH_CREATE, PB_PERIPH_RELEASE, PB_TRANSFER, PB_STATUS: where the module admits the command and its own checks hold, it is served with the effect,
the status and the reply the spec gives it. -/
def Obligations.CompleteHostSystem : Prop :=
  (∀ (h : Hdr) (s₀ : State), let s := sessNamed h s₀
    Serves (.sysIdent h) nullHandle s₀ .ok (identBytes s) s) ∧
  (∀ (h : Hdr) (s₀ : State), let s := sessNamed h s₀
    Serves (.sysStatus h) nullHandle s₀ .ok (sysStatusBytes s) (drawn s)) ∧
  (∀ (h : Hdr) (mode target : Nat) (s₀ : State), let s := sessNamed h s₀
    (inR 3 mode 5) = true → ∀ due, dueOf s target = some due → (modeMove s.sys.mode.code mode) = true →
    Serves (.sysModeSet h mode target) nullHandle s₀ .ok (posReply s due 0) (if mode = s.sys.mode.code then unsched nullHandle 2 s
        else schedQ ⟨due, 0, nullHandle, 2, .sysModeSet h mode target, 0⟩ s)) ∧
  (∀ (h : Hdr) (on off target : Nat) (s₀ : State), let s := sessNamed h s₀
    (on % 4 == 0 && on < 1024 && off % 4 == 0 && off < 1024 && on &&& off == 0 && (on != 0 || off != 0)) = true →
    ∀ due, dueOf s target = some due → ∀ a b, switched s on off = (a, b) →
    ((a ||| b) &&& ~~~ switchable s.sys.mode == 0#10 && domainsOk ((s.sys.domains ||| a) &&& ~~~ b)) = true →
    Serves (.sysDomainSet h on off target) nullHandle s₀ .ok (posReply s due 0) (schedQ
        ⟨due, 0, nullHandle, 3, .sysDomainSet h on off target, 0⟩ s)) ∧
  (∀ (h : Hdr) (kind confirm : Nat) (s₀ : State), let s := sessNamed h s₀
    (inR 1 kind 2 && confirm == 0x7440A55A) = true →
    ServesReset (.sysReset h kind confirm) nullHandle s₀ .ok [] (askReset .command (kind == 2) none h s)) ∧
  (∀ (h : Hdr) (ack max : Nat) (s₀ : State), let s := sessNamed h s₀
    (max ≤ 64 && (ack == 0 || seqLe ack s.proto.newestSeq)) = true →
    let l := if ack = 0 then s.proto.events else s.proto.events.filter fun e => !seqLe e.seq ack
    let bs := eventsFit max (payloadLimit s h.via - 8) l
    Serves (.sysEventRead h ack max) nullHandle s₀ .ok (byte bs.length ++ byte (flag (decide (bs.length < l.length))) ++ leBytes 2
        l.length ++ leBytes 4 ((l.getLast?.map (·.seq)).getD 0) ++ bs.flatten) { s with proto := { s.proto with events := l } }) ∧
  (∀ (h : Hdr) (c : NotifyCfg) (s₀ : State), let s := sessNamed h s₀
    (only c.mask 3 && only c.flags 1 && (bit c.flags 0 || c.addr % 2 ^ 96 == 0)) = true →
    ((c.eth == nullHandle && !bit c.mask 2) || (hClass c.eth == 0x0D && (objOf s c.eth).isSome)) = true → inConflict s 0 = false →
    let p := (ethPort s (hIndex c.eth)).cfg
    (!bit c.mask 2 || (bit p.flags 0 && bit p.flags (if bit c.flags 0 then 4 else 3))) = true →
    let arm := bit c.mask 1 && !bit s.proto.notify.mask 1 && !s.proto.events.isEmpty
    Serves (.sysEventNotify h c) nullHandle s₀ .ok [] (cfgTouch (roleOf s h)
        { s with proto := { s.proto with notify := c }, mb := { s.mb with attn := s.mb.attn || arm } })) ∧
  (∀ (h : Hdr) (s₀ : State), let s := sessNamed h s₀
    Serves (.sysProtoStatus h) nullHandle s₀ .ok (protoBytes s) s) ∧
  (∀ (h : Hdr) (s₀ : State), let s := sessNamed h s₀
    Serves (.sysEventCount h) nullHandle s₀ .ok (leBytes 2 s.proto.events.length ++ zeros 2) s) ∧
  (∀ (h : Hdr) (flags stretch : Nat) (s₀ : State), let s := sessNamed h s₀
    (only flags 4 && inR 1 stretch 50) = true → inConflict s 0 = false →
    let b := s.pb
    (b.queue.isEmpty || (bit flags 0 == b.enable && bit flags 1 == b.fast && stretch == b.stretch)) = true →
    Serves (.pbConfig h flags stretch) nullHandle s₀ .ok [] (schedQ
        ⟨s.sys.ord + 2, 0, nullHandle, 74, .pbConfig h flags stretch, 0⟩ s)) ∧
  (∀ (h : Hdr) (p : Periph) (s₀ : State), let s := sessNamed h s₀
    (inR 0x08 p.addr 0x77 && only p.flags 1 && p.stretch ≤ 50) = true → (s.periphs.all fun x => x.2.addr != p.addr) = true →
    ∀ hd t, issue 0x0E .idle [] [] s.sys.ord s = some (hd, t) →
    Serves (.pbPeriphCreate h p) nullHandle s₀ .ok (handleBytes hd) { t with periphs := tset t.periphs (hIndex hd) p }) ∧
  (∀ (h : Hdr) (periph : Handle) (s₀ : State), let s := sessNamed h s₀
    ∀ o, objIs s periph 0x0E = .ok o → (s.pb.queue.all fun x => x.req.periph != periph) = true →
    Serves (.pbPeriphRelease h periph) periph s₀ .ok [] (unissue periph { s with periphs := tdel s.periphs (hIndex periph) })) ∧
  (∀ (h : Hdr) (r : PbReq) (s₀ : State), let s := sessNamed h s₀
    r.data.length = r.w → (r.w ≤ 32 && r.r ≤ 32 && only r.flags 1) = true → ∀ o, objIs s r.periph 0x0E = .ok o →
    (s.pb.enable && s.pb.state != .sclStuck && s.pb.state != .sdaStuck) = true → (!shadowed s || readForm r) = true →
    (s.pb.queue.length < 4) = true →
    Starts (.pbTransfer h r) s₀ r.periph (periphState r.periph (pbmod (fun b =>
        { b with queue := b.queue ++ [⟨h, r, 0, false⟩], state := if b.state = .idle then .waitFree else b.state }) s))) ∧
  (∀ (h : Hdr) (s₀ : State), let s := sessNamed h s₀
    Serves (.pbStatus h) nullHandle s₀ .ok (pbStatusBytes s) s)

/-- Completion of the commands SESSION_OPEN, SESSION_PROVE, SESSION_CLOSE, SESSION_STATUS, ROLEKEY_SET, AUDIT_READ, AUDIT_CLEAR: where the module admits the command and its own checks hold, it is served with the effect,
the status and the reply the spec gives it. -/
def Obligations.CompleteHostRights : Prop :=
  (∀ (h : Hdr) (role : Nat) (s₀ : State), let s := sessNamed h s₀
    (inR 1 role 3) = true → (!s.auth.waiting) = true →
    let v := if s.auth.sess.length < 8 then s else (oldestOpened s).elim s fun k => freeSess k s
    ∀ hd t, issue 0x0C .idle [] [] s.sys.ord v = some (hd, t) →
    let nonce := (draw t).toNat
    let x : Sess := ⟨false, role, h.via, hGen hd, nonce, t.auth.openings, t.sys.ord⟩
    Serves (.sessionOpen h role) nullHandle s₀ .ok (handleBytes hd ++ leBytes 16 nonce) (authmod (fun a =>
        { a with sess := tset a.sess (hIndex hd) x, openings := a.openings + 1 }) (drawn t))) ∧
  (∀ (h : Hdr) (sess : Handle) (proof : List Byte) (s₀ : State), let s := sessNamed h s₀
    proof.length = 32 → ∀ o, objIs s sess 0x0C = .ok o → ∀ x, tget s.auth.sess (hIndex sess) = some x → (!x.proven) = true →
    x.via = h.via → (!domOn s 2 || x.named == 0 || s.sys.ord ≤ x.named + 10000) = true → ∀ k, keyOf s x.role = some k →
    proof = proofOf s x k →
    Serves (.sessionProve h sess proof) sess s₀ .ok (byte (hIndex sess) ++ byte x.role ++ leBytes 2 900) (authmod (fun a =>
        { a with sess := tset a.sess (hIndex sess) { x with proven := true, named := s.sys.ord }, failures := 0, waiting := false }) s)) ∧
  (∀ (h : Hdr) (s₀ : State), let s := sessNamed h s₀
    Serves (.sessionClose h) nullHandle s₀ .ok [] (freeSess h.sess s)) ∧
  (∀ (h : Hdr) (s₀ : State), let s := sessNamed h s₀
    Serves (.sessionStatus h) nullHandle s₀ .ok (sessionStatusBytes s) (drawn s)) ∧
  (∀ (h : Hdr) (role : Nat) (key : List Byte) (s₀ : State), let s := sessNamed h s₀
    key.length = 32 → (inR 1 role 3) = true → ¬(role = 3 ∧ key.all (· == 0#8) = true) → ¬(roleOf s h = 2 ∧ role = 3) →
    ¬(roleOf s h = 3 ∧ role = 1) → inConflict s 3 = false →
    Starts (.rolekeySet h role key) s₀ nullHandle (writeRec 3 (keysWith s role key) (roleOf s h) (some (.rolekeySet h role key))
        s)) ∧
  (∀ (h : Hdr) (start max : Nat) (s₀ : State), let s := sessNamed h s₀
    (inR 1 max 127) = true →
    let es := ((s.audit.entries.filter fun e => start ≤ e.number).take max).take ((payloadLimit s h.via - 16) / 32)
    Serves (.auditRead h start max) nullHandle s₀ .ok (leBytes 4 ((s.audit.entries.head?.map (·.number)).getD 0) ++ leBytes 4
        s.audit.next ++ leCount 4 s.audit.overflow ++ byte es.length ++ zeros 3 ++ es.flatMap auditBytes) s) ∧
  (∀ (h : Hdr) (confirm : Nat) (s₀ : State), let s := sessNamed h s₀
    (confirm == 0x7440C1EA) = true → Serves (.auditClear h confirm) nullHandle s₀ .ok [] { s with audit := ⟨[], 1, 0⟩ })

/-- Completion of the commands TB_CONFIG, TB_STATUS, TB_PHASE_STEP, TB_SET_SECONDS, CLK_CONFIG, CLK_STATUS, PORT_CONFIG, PORT_STATUS, FEED_SET, FEED_RESET, HEDDLE_ROUTE: where the module admits the command and its own checks hold, it is served with the effect,
the status and the reply the spec gives it. -/
def Obligations.CompleteHostTimebaseAndPorts : Prop :=
  (∀ (h : Hdr) (c : TbCfg) (s₀ : State), let s := sessNamed h s₀
    (tbOk c) = true → inConflict s 0 = false →
    Serves (.tbConfig h c) nullHandle s₀ (if c.slew ≤ 1000 then .ok else .limited) ([]) (schedQ
        ⟨s.sys.ord + 2, 0, nullHandle, 21, .tbConfig h (tbClip c), 0⟩ s)) ∧
  (∀ (h : Hdr) (s₀ : State), let s := sessNamed h s₀
    Serves (.tbStatus h) nullHandle s₀ .ok (tbStatusBytes s) s) ∧
  (∀ (h : Hdr) (obj : Handle) (target : Nat) (steps : Int) (s₀ : State), let s := sessNamed h s₀
    (inI (-5086) steps 5086 && steps != 0) = true → ∀ due, dueOf s target = some due →
    (obj != nullHandle → ∃ y, objIs s obj 2 = .ok y) →
    let k := if obj = nullHandle then 0 else hIndex obj + 1
    let base := (movesOf s k).foldl (fun (n : Int) m => n + m.steps) (nth s.tb.trims k 0)
    let final := max (-(trimTop k)) (min (trimTop k) (base + steps))
    let start := moveFrom s k due ((movesOf s k).filter fun m => m.running || m.due ≤ due)
    let move : TrimMove := ⟨k, false, due, start, final - base⟩
    let t := if final = base then s else tbmod (fun t => { t with moves := moveInsert s move t.moves }) s
    Serves (.tbPhaseStep h obj target steps) obj s₀ (if final = base + steps then .ok else .limited) (leBytes 8 (pickAt s (start /
        98304)) ++ leBytes 4 (start % 98304) ++ leSigned 4 final) (t)) ∧
  (∀ (h : Hdr) (target secs : Nat) (s₀ : State), let s := sessNamed h s₀
    (1000 * (secs + 1) ≤ 2 ^ 64) = true → ∀ due, dueOf s target = some due → (pickAt s due % 1000 == 0) = true →
    (s.tb.label != 2) = true →
    Serves (.tbSetSeconds h target secs) nullHandle s₀ .ok (posReply s due 0) (announceStep 0 0 (1000 * secs - pickAt s due)
        (pickAt s due - 1) (schedQ ⟨due, 0, nullHandle, 23, .tbSetSeconds h target secs, 0⟩ s))) ∧
  (∀ (h : Hdr) (mode amount target : Nat) (s₀ : State), let s := sessNamed h s₀
    (spreadOk mode amount) = true → ∀ due, dueOf s target = some due → (loadOf s ≤ fullLimit mode amount) = true →
    Serves (.clkConfig h mode amount target) nullHandle s₀ .ok (posReply s due 0 ++ leBytes 4 (fullLimit mode amount)) (schedQ
        ⟨due, 0, nullHandle, 24, .clkConfig h mode amount target, 0⟩ s)) ∧
  (∀ (h : Hdr) (s₀ : State), let s := sessNamed h s₀
    Serves (.clkStatus h) nullHandle s₀ .ok (clkStatusBytes s) s) ∧
  (∀ (h : Hdr) (port : Handle) (loop flags target : Nat) (s₀ : State), let s := sessNamed h s₀
    (loop < 2 && only flags 1) = true → ∀ due, dueOf s target = some due → ∀ o, objIs s port 1 = .ok o → inConflict s 0 = false →
    Serves (.portConfig h port loop flags target) port s₀ .ok (posReply s due 0) (sched
        ⟨due, 0, port, 34, .portConfig h port loop flags target, 0⟩ s)) ∧
  (∀ (h : Hdr) (port : Handle) (s₀ : State), let s := sessNamed h s₀
    ∀ o, objNow s port 1 = .ok o → Serves (.portStatus h port) port s₀ .ok (portStatusBytes s (hIndex port)) s) ∧
  (∀ (h : Hdr) (port : Handle) (flags limit target : Nat) (s₀ : State), let s := sessNamed h s₀
    (only flags 4 && inR 1 limit 14) = true → ∀ due, dueOf s target = some due → ∀ o, objIs s port 1 = .ok o →
    let p := hIndex port
    (!(bit flags 1 && bit (portLimit s p).flags 0)) = true → (!(bit flags 0 && backfed s p)) = true → inConflict s 0 = false →
    (!bit flags 0 || 0 < allowance s p) = true →
    let l := if bit flags 0 then min (ceilLimit s p limit) (allowance s p) else ceilLimit s p limit
    Serves (.feedSet h port flags limit target) port s₀ (if l = limit then .ok else .limited) (posReply s due 0 ++ leBytes 2 (25 *
        l)) (sched ⟨due, 0, port, 35, .feedSet h port flags l target, 0⟩ s)) ∧
  (∀ (h : Hdr) (port : Handle) (s₀ : State), let s := sessNamed h s₀
    ∀ o, objIs s port 1 = .ok o → ((portAt s (hIndex port)).feed.state == .latched) = true → (!backfed s (hIndex port)) = true →
    Serves (.feedReset h port) port s₀ .ok [] (schedQ ⟨s.sys.ord + 2, 0, port, 38, .feedReset h port, 0⟩ s)) ∧
  (∀ (h : Hdr) (warp port : Handle) (target : Nat) (s₀ : State), let s := sessNamed h s₀
    ∀ due, dueOf s target = some due → ∀ o, objIs s warp 2 = .ok o → (port != nullHandle → ∃ y, objIs s port 1 = .ok y) →
    (!isHop s (hIndex warp)) = true → (!(port == nullHandle && liveDents s (hIndex warp))) = true → inConflict s 0 = false →
    Serves (.heddleRoute h warp port target) warp s₀ .ok (posReply s due 0) (schedQ
        ⟨due, 0, warp, 33, .heddleRoute h warp port target, 0⟩ s))

/-- Completion of the commands WARP_TUNE, WARP_GAIN, WARP_AGC, WARP_STATUS, SYN_STATUS, SYN_DITHER_SET, SYN_PROFILE_STORE, SYN_PROFILE_READ, SYN_PROFILE_CLEAR: where the module admits the command and its own checks hold, it is served with the effect,
the status and the reply the spec gives it. -/
def Obligations.CompleteHostWarps : Prop :=
  (∀ (h : Hdr) (warp : Handle) (r : TuneReq) (target : Nat) (s₀ : State), let s := sessNamed h s₀
    (tuneOk r) = true → ∀ due, dueOf s target = some due → ∀ o, objIs s warp 2 = .ok o → (hIndex warp < 6) = true →
    (!isHop s (hIndex warp)) = true → inConflict s 0 = false → (dentsFit s (hIndex warp) (placedLo r)) = true →
    Serves (.warpTune h warp r target) warp s₀ .ok (tuneReply s (hIndex warp) r due) (announceTune (hIndex warp) (pickProfile s
        (hIndex warp) (placedLo r) r.profile) (pickAt s due) (sched ⟨due, 0, warp, 30, .warpTune h warp r target, 0⟩ s))) ∧
  (∀ (h : Hdr) (warp : Handle) (gain target : Nat) (s₀ : State), let s := sessNamed h s₀
    (gain ≤ gTop 0) = true → ∀ due, dueOf s target = some due → ∀ o, objIs s warp 2 = .ok o → (gain ≤ gTop (hIndex warp)) = true →
    ((warpAt s (hIndex warp)).agc.mode == 0) = true → inConflict s 0 = false →
    Serves (.warpGain h warp gain target) warp s₀ .ok (posReply s due 0) (sched ⟨due, 0, warp, 31, .warpGain h warp gain 1, 0⟩ s)) ∧
  (∀ (h : Hdr) (warp : Handle) (c : AgcCfg) (s₀ : State), let s := sessNamed h s₀
    (agcOk 0 c) = true → ∀ o, objIs s warp 2 = .ok o → (c.gMax ≤ gTop (hIndex warp)) = true → inConflict s 0 = false →
    Serves (.warpAgc h warp c) warp s₀ .ok [] (schedAlso ⟨s.sys.ord + 2, 0, warp, 36, .warpAgc h warp c, 0⟩ s)) ∧
  (∀ (h : Hdr) (warp : Handle) (s₀ : State), let s := sessNamed h s₀
    ∀ o, objNow s warp 2 = .ok o → Serves (.warpStatus h warp) warp s₀ .ok (warpStatusBytes s (hIndex warp)) s) ∧
  (∀ (h : Hdr) (index : Nat) (s₀ : State), let s := sessNamed h s₀
    (index < 7) = true → Serves (.synStatus h index) nullHandle s₀ .ok (synStatusBytes s index) s) ∧
  (∀ (h : Hdr) (index flags seed : Nat) (s₀ : State), let s := sessNamed h s₀
    (index < 7 && only flags 1 && only seed 23 && seed != 0) = true →
    Serves (.synDitherSet h index flags seed) nullHandle s₀ .ok [] (synMod index (fun y =>
        { y with pendDith := some (bit flags 0, seed) }) s)) ∧
  (∀ (h : Hdr) (index num : Nat) (s₀ : State), let s := sessNamed h s₀
    (index < 7 && num < 64) = true → (!(num ≥ 48 && isHop s index)) = true → (locked s index) = true →
    let p := capture s index
    Serves (.synProfileStore h index num) nullHandle s₀ .ok (profileBytes p)
        { synMod index (fun y => { y with profiles := tset y.profiles num p }) s with calib := { s.calib with dirty := true } }) ∧
  (∀ (h : Hdr) (index num : Nat) (s₀ : State), let s := sessNamed h s₀
    (index < 7 && num < 64) = true → (!(num ≥ 48 && isHop s index)) = true →
    Serves (.synProfileRead h index num) nullHandle s₀ .ok (profileBytes ((tget (synAt s index).profiles num).getD noProfile)) s) ∧
  (∀ (h : Hdr) (index num : Nat) (s₀ : State), let s := sessNamed h s₀
    (index < 7 && num < 64) = true → (!(num ≥ 48 && isHop s index)) = true →
    Serves (.synProfileClear h index num) nullHandle s₀ .ok []
        { synMod index (fun y => { y with profiles := tmod y.profiles num fun p => { p with valid := false } }) s with calib := { s.calib with dirty := true } })

/-- Completion of the commands DENT_CREATE, DENT_SET, DENT_BANK_LOAD, DENT_BANK_SWAP, DENT_FLUSH, DENT_RELEASE, DENT_STATUS, REED_STATUS, DENT_BANK_READ: where the module admits the command and its own checks hold, it is served with the effect,
the status and the reply the spec gives it. -/
def Obligations.CompleteHostDents : Prop :=
  (∀ (h : Hdr) (r : DentReq) (target : Nat) (s₀ : State), let s := sessNamed h s₀
    (dentReqOk r) = true → ∀ due, dueOf s target = some due → ∀ o, objIs s r.warp 2 = .ok o → (!isHop s (hIndex r.warp)) = true →
    ∀ hd x t, dentCreate h r target due s = .ok (hd, x, t) →
    Serves (.dentCreate h r target) r.warp s₀ .ok (handleBytes hd ++ posReply s due 0 ++ leBytes 2 (dentCost x.rate x.taps) ++
        leSigned 4 x.nco ++ leBytes 4 x.delay ++ leBytes 2 x.fill) t) ∧
  (∀ (h : Hdr) (dent : Handle) (c : DentChg) (target : Nat) (s₀ : State), let s := sessNamed h s₀
    (dentChgForm c) = true → ∀ due, dueOf s target = some due → ∀ o, objIs s dent 3 = .ok o →
    ∀ x, dentAt s (hIndex dent) = some x → (dentChgOk s x due c) = true → (bit c.flags 1 → ∃ y, objIs s c.warp 2 = .ok y) →
    (!releasing s dent && !ownedDent s (hIndex dent)) = true → pendingOk o due false = .ok () → ∀ w f b, dentChg x c = (w, f, b) →
    (c.flags % 8 ≠ 0 → laneOk s w f b = .ok ()) → (!(bit c.flags 3 && c.tau != x.tau && (weaveOf s dent).isSome)) = true →
    let s1 := if c.flags % 8 != 0 then sched ⟨due, c.sample, dent, 40, .dentSet h dent { c with flags := c.flags % 8 } target, 0⟩
        s else s
    let s2 := if bit c.flags 3 then sched ⟨due, c.sample, dent, 43, .dentSet h dent { c with flags := 8 } target, 0⟩ s1 else s1
    Serves (.dentSet h dent c target) dent s₀ .ok (posReply s due c.sample ++ zeros 2 ++ leSigned 4 (ncoWord w (loAt s w due) f)
        ++ byte (flag (resets x c)) ++ zeros 3) s2) ∧
  (∀ (h : Hdr) (dent : Handle) (b : BankReq) (s₀ : State), let s := sessNamed h s₀
    (b.bank < 2 && bankForm b) = true → ∀ o, objIs s dent 3 = .ok o → ∀ x, dentAt s (hIndex dent) = some x →
    ∀ k, loadBank x b = some k → (!releasing s dent && !ownedDent s (hIndex dent) && o.st != .pending) = true →
    (b.bank != x.active) = true → ((pendOf s dent 42).isNone && x.defer.isNone) = true →
    (∀ w, weaveOf s dent = some w → withinNs (chainDelay x.k x.hb x.d k.delay) (analogueDelay s x.warp (loBand s x.warp))
        (allowanceNs w.2.type w.2.block)) →
    let y : Dent := if b.bank = 0 then { x with bankA := k } else { x with bankB := k }
    (reedLoad s + dentCost x.rate y.taps ≤ 16384 + dentCost x.rate x.taps) = true →
    let z : Dent := { y with loading := some (b.bank, k, s.sys.ord + 2), fillLeft := if x.fillLeft > 0 then x.fillLeft + (y.fill - x.fill) else 0, segs := y.segs.map fun g => { g with fill := if g.reset then g.fill + (y.fill - x.fill) else y.fill } }
    Serves (.dentBankLoad h dent b) dent s₀ .ok (leBytes 2 (dentCost x.rate y.taps) ++ zeros 2 ++ leBytes 4 k.delay) (dmod (hIndex
        dent) (fun _ => z) s)) ∧
  (∀ (h : Hdr) (dent : Handle) (sample target : Nat) (s₀ : State), let s := sessNamed h s₀
    ∀ due, dueOf s target = some due → ∀ o, objIs s dent 3 = .ok o → ∀ x, dentAt s (hIndex dent) = some x →
    (sampleIn s x.rate due sample) = true → (!releasing s dent && !ownedDent s (hIndex dent)) = true →
    pendingOk o due false = .ok () → (x.other.n != 0) = true → fading s dent = false →
    let n := flag (pendOf s dent 44).isSome
    let t := omod dent (fun o => { o with repl := o.repl + n }) (unsched dent 44 s)
    Serves (.dentBankSwap h dent sample target) dent s₀ .ok (posReply t due sample) (sched
        ⟨due, sample, dent, 42, .dentBankSwap h dent sample target, 0⟩ t)) ∧
  (∀ (h : Hdr) (dent : Handle) (sample target : Nat) (s₀ : State), let s := sessNamed h s₀
    ∀ due, dueOf s target = some due → ∀ o, objIs s dent 3 = .ok o → ∀ x, dentAt s (hIndex dent) = some x →
    (sampleIn s x.rate due sample) = true → (!releasing s dent && !ownedDent s (hIndex dent)) = true →
    pendingOk o due false = .ok () → (x.other.n != 0) = true → fading s dent = true →
    Serves (.dentBankSwap h dent sample target) dent s₀ .deferred (posReply s due sample) (unsched dent 42 (deferSwap dent
        (.dentBankSwap h dent sample target) s))) ∧
  (∀ (h : Hdr) (dent : Handle) (sample target : Nat) (s₀ : State), let s := sessNamed h s₀
    ∀ due, dueOf s target = some due → ∀ o, objIs s dent 3 = .ok o → ∀ x, dentAt s (hIndex dent) = some x →
    (sampleIn s x.rate due sample) = true → (!releasing s dent && !ownedDent s (hIndex dent)) = true →
    pendingOk o due false = .ok () →
    Serves (.dentFlush h dent sample target) dent s₀ .ok (posReply s due sample) (sched
        ⟨due, sample, dent, 41, .dentFlush h dent sample target, 0⟩ s)) ∧
  (∀ (h : Hdr) (dent : Handle) (sample target : Nat) (s₀ : State), let s := sessNamed h s₀
    (sample == 0) = true → ∀ due, dueOf s target = some due → ∀ o, objIs s dent 3 = .ok o →
    (!releasing s dent && !ownedDent s (hIndex dent)) = true → pendingOk o due true = .ok () →
    Serves (.dentRelease h dent sample target) dent s₀ .ok (posReply s due 0) (sched
        ⟨due, 0, dent, 10, .dentRelease h dent sample target, 0⟩ s)) ∧
  (∀ (h : Hdr) (dent : Handle) (s₀ : State), let s := sessNamed h s₀
    ∀ o, objNow s dent 3 = .ok o → ∀ x, dentAt s (hIndex dent) = some x → (!releasing s dent) = true →
    Serves (.dentStatus h dent) dent s₀ .ok (dentStatusBytes s o x) s) ∧
  (∀ (h : Hdr) (s₀ : State), let s := sessNamed h s₀
    Serves (.reedStatus h) nullHandle s₀ .ok (reedStatusBytes s) s) ∧
  (∀ (h : Hdr) (dent : Handle) (bank : Nat) (s₀ : State), let s := sessNamed h s₀
    (bank < 2) = true → ∀ o, objNow s dent 3 = .ok o → ∀ x, dentAt s (hIndex dent) = some x → (!releasing s dent) = true →
    Serves (.dentBankRead h dent bank) dent s₀ .ok (bankBytes (if bank = 0 then x.bankA else x.bankB)) s)

/-- Completion of the commands WEAVE_CREATE, WEAVE_START, WEAVE_STOP, WEAVE_RELEASE, WEAVE_SET, WEAVE_STATUS, SCHED_STATUS, FM_STATUS, AM_STATUS, FM_AF_READ, DAB_STATUS, DAB_SUBCH_READ, DAB_TII_READ, DRM_STATUS, DIG_DECODE_SET: where the module admits the command and its own checks hold, it is served with the effect,
the status and the reply the spec gives it. -/
def Obligations.CompleteHostWeaves : Prop :=
  (∀ (h : Hdr) (r : WeaveReq) (target : Nat) (s₀ : State), let s := sessNamed h s₀
    r.dents.length = r.n → r.block.length = r.m → (weaveReqOk r) = true → ∀ due, dueOf s target = some due →
    (r.dents.all fun d => hClass d == 3 && (objOf s d).isSome) = true → (dentsSuit s r) = true →
    (r.dents.all fun d => (dentAt s (hIndex d)).any fun x => x.bank.n != 0) = true → (r.dents.all (dentJoins s due)) = true →
    (objsOf s 4).length < 512 → slotSum s none + slotsOf r.type r.block ≤ 256 →
    ∀ g, roomFor s (charges s) r.group (costOf r.type r.n r.block) = .ok g →
    ∀ hd t, issue 4 .pending r.dents (optDents r.dents r.opt) due s = some (hd, t) →
    let w := newWeave s r g
    let t : State := { t with weaves := tset t.weaves (hIndex hd) w, cluster := { t.cluster with admitted := t.cluster.admitted + 1 } }
    let d : Digital := { Digital.none with slots := List.replicate (slotsOf r.type r.block) DecSlot.vacant }
    let t : State := if r.type ≤ 2 then { t with ana := tset t.ana (hIndex hd) Analogue.none } else
        { t with dig := tset t.dig (hIndex hd) d }
    Serves (.weaveCreate h r target) nullHandle s₀ .ok (weaveReply s hd w due) (announce 5 hd (pickAt t due) (byte 1 ++ byte g ++
        zeros 2) (sched ⟨due, 0, hd, 20, .weaveCreate h r target, 0⟩ t))) ∧
  (∀ (h : Hdr) (weave : Handle) (target : Nat) (s₀ : State), let s := sessNamed h s₀
    ∀ due, dueOf s target = some due → ∀ o w, weaveFor s weave = .ok (o, w) → pendingOk o due false = .ok () → o.shed = false →
    (weaveSt o w == .idle) = true →
    Serves (.weaveStart h weave target) weave s₀ .ok (posReply s due 0) (sched ⟨due, 0, weave, 50, .weaveStart h weave target, 0⟩
        s)) ∧
  (∀ (h : Hdr) (weave : Handle) (target : Nat) (s₀ : State), let s := sessNamed h s₀
    ∀ due, dueOf s target = some due → ∀ o w, weaveFor s weave = .ok (o, w) → pendingOk o due false = .ok () → o.shed = true →
    ∀ g, roomFor s (chargesBut s (hIndex weave)) w.group (weaveNeed s (hIndex weave) w) = .ok g →
    Serves (.weaveStart h weave target) weave s₀ .ok (posReply s due 0) (sched ⟨due, 0, weave, 50, .weaveStart h weave target, 0⟩
        (vmod (hIndex weave) (fun w => { w with readmit := true }) s))) ∧
  (∀ (h : Hdr) (weave : Handle) (target : Nat) (s₀ : State), let s := sessNamed h s₀
    ∀ due, dueOf s target = some due → ∀ o w, weaveFor s weave = .ok (o, w) → pendingOk o due false = .ok () →
    (weaveSt o w == .active) = true →
    Serves (.weaveStop h weave target) weave s₀ .ok (posReply s due 0) (sched ⟨due, 0, weave, 50, .weaveStop h weave target, 0⟩
        s)) ∧
  (∀ (h : Hdr) (weave : Handle) (target : Nat) (s₀ : State), let s := sessNamed h s₀
    ∀ due, dueOf s target = some due → ∀ o y1, weaveFor s weave = .ok (o, y1) → pendingOk o due true = .ok () →
    Serves (.weaveRelease h weave target) weave s₀ .ok (posReply s due 0) (sched
        ⟨due, 0, weave, 10, .weaveRelease h weave target, 0⟩ s)) ∧
  (∀ (h : Hdr) (weave : Handle) (prio m target : Nat) (block : List Byte) (s₀ : State), let s := sessNamed h s₀
    block.length = m → ∀ due, dueOf s target = some due → ∀ o, objIs s weave 4 = .ok o → ∀ w, weaveAt s (hIndex weave) = some w →
    (setBlockOk w block) = true → (!ownedWeave s (hIndex weave)) = true → pendingOk o due false = .ok () →
    let b := if block.isEmpty then w.block else block
    let c := costOf w.type w.dents.length b
    slotSum s (some (hIndex weave)) + slotsOf w.type b ≤ 256 →
    (exceeds c w.cost → ∃ g, roomFor s (chargesBut s (hIndex weave)) w.group c = .ok g) →
    Serves (.weaveSet h weave prio m target block) weave s₀ .ok (posReply s due 0 ++ zeros 2 ++ leBytes 4 c.cycles ++ byte
        (depthByte (depthOf w.type b)) ++ zeros 3) (sched ⟨due, 0, weave, 50, .weaveSet h weave prio m target block, 0⟩ s)) ∧
  (∀ (h : Hdr) (weave : Handle) (s₀ : State), let s := sessNamed h s₀
    ∀ o, objNow s weave 4 = .ok o → ∀ w, weaveAt s (hIndex weave) = some w →
    Serves (.weaveStatus h weave) weave s₀ .ok (weaveStatusBytes s o w) s) ∧
  (∀ (h : Hdr) (s₀ : State), let s := sessNamed h s₀
    Serves (.schedStatus h) nullHandle s₀ .ok (schedStatusBytes s) s) ∧
  (∀ (h : Hdr) (weave : Handle) (s₀ : State), let s := sessNamed h s₀
    ∀ w a, anaFor s weave 2 = .ok (w, a) → Serves (.fmStatus h weave) weave s₀ .ok (fmStatusBytes s weave w a) s) ∧
  (∀ (h : Hdr) (weave : Handle) (s₀ : State), let s := sessNamed h s₀
    ∀ w a, anaFor s weave 1 = .ok (w, a) → Serves (.amStatus h weave) weave s₀ .ok (amStatusBytes s weave w a) s) ∧
  (∀ (h : Hdr) (weave : Handle) (index : Nat) (s₀ : State), let s := sessNamed h s₀
    (index ≤ 12) = true → ∀ y0 a, anaFor s weave 2 = .ok (y0, a) →
    Serves (.fmAfRead h weave index) weave s₀ .ok (afReadBytes weave a index) s) ∧
  (∀ (h : Hdr) (weave : Handle) (s₀ : State), let s := sessNamed h s₀
    ∀ o w d, digFor s weave 3 = .ok (o, w, d) → Serves (.dabStatus h weave) weave s₀ .ok (dabStatusBytes s o w d) s) ∧
  (∀ (h : Hdr) (weave : Handle) (id : Nat) (s₀ : State), let s := sessNamed h s₀
    (id < 64) = true → ∀ y0 y1 d, digFor s weave 3 = .ok (y0, y1, d) → ∀ x, (d.subch.find? fun x => x.id == id) = some x →
    Serves (.dabSubchRead h weave id) weave s₀ .ok (subchBytes s weave x) s) ∧
  (∀ (h : Hdr) (weave : Handle) (s₀ : State), let s := sessNamed h s₀
    ∀ y0 y1 d, digFor s weave 3 = .ok (y0, y1, d) → Serves (.dabTiiRead h weave) weave s₀ .ok (tiiBytes weave d) s) ∧
  (∀ (h : Hdr) (weave : Handle) (s₀ : State), let s := sessNamed h s₀
    ∀ o w d, digFor s weave 4 = .ok (o, w, d) → Serves (.drmStatus h weave) weave s₀ .ok (drmStatusBytes s o w d) s) ∧
  (∀ (h : Hdr) (weave : Handle) (n target : Nat) (comps : List Handle) (s₀ : State), let s := sessNamed h s₀
    comps.length = n → (n ≤ 16) = true → ∀ due, dueOf s target = some due → ∀ o, objIs s weave 4 = .ok o →
    ∀ w, weaveAt s (hIndex weave) = some w → (comps.all fun c => hClass c == 6 && (objOf s c).isSome) = true →
    (w.type == 3 || w.type == 4) = true → (comps.all (audioOf s (hIndex weave)) && distinct comps) = true →
    (!ownedWeave s (hIndex weave)) = true → pendingOk o due false = .ok () → (n ≤ slotsOf w.type w.block) = true →
    Serves (.digDecodeSet h weave n target comps) weave s₀ .ok (posReply s due 0) (sched
        ⟨due, 0, weave, 52, .digDecodeSet h weave n target comps, 0⟩ s))

/-- Completion of the commands SURVEY_START, SURVEY_STOP, SURVEY_STATUS, SERVICE_LIST, SERVICE_READ, COMPONENT_READ, LABEL_READ, LINK_READ, SERVICE_RELEASE, TIME_POLICY, TIME_STATUS, FOLLOW_CREATE, FOLLOW_SET, FOLLOW_COMMIT, FOLLOW_RELEASE, FOLLOW_STATUS, FOLLOW_POLICY: where the module admits the command and its own checks hold, it is served with the effect,
the status and the reply the spec gives it. -/
def Obligations.CompleteHostInventoryAndFollowing : Prop :=
  (∀ (h : Hdr) (n flags target : Nat) (entries : List SurveyEntry) (s₀ : State), let s := sessNamed h s₀
    entries.length = n → (inR 1 n 16 && only flags 2 && entries.all surveyEntryOk) = true → ∀ due, dueOf s target = some due →
    (entries.forM fun e => discard (objIs s e.warp 2)) = (.ok () : Chk Unit) → (entries.all entryFits) = true →
    (!s.survey.running && (pendOf s nullHandle 80).isNone) = true →
    (entries.all fun e => s.dents.all (fun x => x.2.warp != hIndex e.warp) && !isHop s (hIndex e.warp)) = true →
    Serves (.surveyStart h n flags target entries) nullHandle s₀ .ok (posReply s due 0) (schedQ
        ⟨due, 0, nullHandle, 80, .surveyStart h n flags target entries, 0⟩ s)) ∧
  (∀ (h : Hdr) (s₀ : State), let s := sessNamed h s₀
    (s.survey.running || (pendOf s nullHandle 80).isSome) = true →
    Serves (.surveyStop h) nullHandle s₀ .ok (posReply s (s.sys.ord + 2) 0) (schedQ
        ⟨s.sys.ord + 2, 0, nullHandle, 81, .surveyStop h, 0⟩ s)) ∧
  (∀ (h : Hdr) (s₀ : State), let s := sessNamed h s₀
    Serves (.surveyStatus h) nullHandle s₀ .ok (surveyStatusBytes s) s) ∧
  (∀ (h : Hdr) (start : Nat) (s₀ : State), let s := sessNamed h s₀
    let l := (objsOf s 5).filter fun o => start ≤ o.idx
    let n := min (min l.length 256) ((payloadLimit s h.via - 4) / 4)
    Serves (.serviceList h start) nullHandle s₀ .ok (leBytes 2 (objsOf s 5).length ++ leBytes 2 n ++ (l.take n).flatMap fun o =>
        handleBytes o.handle) s) ∧
  (∀ (h : Hdr) (svc : Handle) (s₀ : State), let s := sessNamed h s₀
    ∀ o, objNow s svc 5 = .ok o → ∀ v, svcAt s (hIndex svc) = some v →
    Serves (.serviceRead h svc) svc s₀ .ok (serviceBytes s o v) s) ∧
  (∀ (h : Hdr) (comp : Handle) (s₀ : State), let s := sessNamed h s₀
    ∀ o, objNow s comp 6 = .ok o → ∀ c, compAt s (hIndex comp) = some c →
    Serves (.componentRead h comp) comp s₀ .ok (componentBytes s o c) s) ∧
  (∀ (h : Hdr) (obj : Handle) (kind : Nat) (s₀ : State), let s := sessNamed h s₀
    (inR 1 kind 9) = true → hClass obj = 5 → ∀ o, objNow s obj 5 = .ok o → ∀ ls, (svcAt s (hIndex obj)).map (·.labels) = some ls →
    Serves (.labelRead h obj kind) obj s₀ .ok (labelBytes ((ls.find? fun l => l.kind == kind).getD ⟨kind, 0, 0, [], []⟩)) s) ∧
  (∀ (h : Hdr) (obj : Handle) (kind : Nat) (s₀ : State), let s := sessNamed h s₀
    (inR 1 kind 9) = true → hClass obj = 6 → ∀ o, objNow s obj 6 = .ok o →
    ∀ ls, (compAt s (hIndex obj)).map (·.labels) = some ls →
    Serves (.labelRead h obj kind) obj s₀ .ok (labelBytes ((ls.find? fun l => l.kind == kind).getD ⟨kind, 0, 0, [], []⟩)) s) ∧
  (∀ (h : Hdr) (svc : Handle) (start : Nat) (s₀ : State), let s := sessNamed h s₀
    ∀ o, objNow s svc 5 = .ok o → ∀ v, svcAt s (hIndex svc) = some v →
    let l := v.links.drop start
    let n := min l.length ((payloadLimit s h.via - 4) / 16)
    Serves (.linkRead h svc start) svc s₀ .ok (leBytes 2 v.links.length ++ leBytes 2 n ++ (l.take n).flatMap (linkBytes s)) s) ∧
  (∀ (h : Hdr) (svc : Handle) (target : Nat) (s₀ : State), let s := sessNamed h s₀
    ∀ due, dueOf s target = some due → ∀ o, objIs s svc 5 = .ok o → (svcReleased o) = true →
    Serves (.serviceRelease h svc target) svc s₀ .ok (posReply s due 0) (sched ⟨due, 0, svc, 10, .serviceRelease h svc target, 0⟩
        s)) ∧
  (∀ (h : Hdr) (c : TimeCfg) (s₀ : State), let s := sessNamed h s₀
    (timeOk c) = true → inConflict s 0 = false →
    Serves (.timePolicy h c) nullHandle s₀ .ok (posReply s (s.sys.ord + 2) 0) (schedQ
        ⟨s.sys.ord + 2, 0, nullHandle, 91, .timePolicy h c, 0⟩ s)) ∧
  (∀ (h : Hdr) (s₀ : State), let s := sessNamed h s₀
    let p := s.time
    Serves (.timeStatus h) nullHandle s₀ .ok (byte p.cfg.mode ++ byte p.members ++ zeros 2 ++ leSigned 4 (p.cand.getD
        (-2147483648)) ++ leBytes 8 p.lastSet ++ leCount 2 p.count ++ zeros 2 ++ leBytes 8 (now s)) s) ∧
  (∀ (h : Hdr) (n group flags hold target : Nat) (entries : List SrcReq) (s₀ : State), let s := sessNamed h s₀
    entries.length = n →
    (inR 1 n 4 && (group < 8 || group == 0xFF) && only flags 1 && hold ≤ 384000 && entries.all entryOk) = true →
    ∀ due, dueOf s target = some due → entries.forM (entryHandles s) = (.ok () : Chk Unit) →
    (entries.all (entrySuits s) && distinct (entries.map (·.comp))) = true → (objsOf s 7).length < 64 →
    ∀ g, roomFor s (charges s) group (followCost n) = .ok g →
    ∀ hd t, issue 7 .pending (entries.map (·.comp)) [] due s = some (hd, t) →
    let srcs := entries.zipIdx.map fun e => newSrc s e.1 (if e.2 = 0 then .current else .absent)
    let f : Follow := { srcs := srcs, hold := hold, group := g, notify := bit flags 0, cfg := policyReset, fade := none, lastFade := (0, 0), replaced := 0, switches := 0, undos := 0, aborts := 0, commitAt := 0, stopped := false, visitEnd := none, visiting := none, visitAt := 0, charged := n, legs := [] }
    let c := followCost n
    Serves (.followCreate h n group flags hold target entries) nullHandle s₀ .ok (handleBytes hd ++ leBytes 8 (pickAt s due) ++
        byte g ++ zeros 3 ++ leBytes 4 c.cycles ++ leBytes 4 c.fft ++ leBytes 4 c.dram) (sched
        ⟨due, 0, hd, 20, .followCreate h n g flags hold target entries, 0⟩ { t with follows := tset t.follows (hIndex hd) f })) ∧
  (∀ (h : Hdr) (set : Handle) (n target : Nat) (entries : List SrcReq) (s₀ : State), let s := sessNamed h s₀
    entries.length = n → (n ≤ 3 && entries.all entryOk) = true → ∀ due, dueOf s target = some due →
    ∀ o f, followFor s set = .ok (o, f) → entries.forM (entryHandles s) = (.ok () : Chk Unit) →
    (entries.all (entrySuits s) && distinct (((f.srcs.head?).map (·.req.comp)).toList ++ entries.map (·.comp))) = true →
    pendingOk o due false = .ok () → f.fade.isNone = true →
    (n + 1 > f.srcs.length → ∃ g, roomFor s (charges { s with follows := tdel s.follows (hIndex set) }) f.group (followCost (n +
        1)) = .ok g) →
    Serves (.followSet h set n target entries) set s₀ .ok (posReply s due 0) (fmod (hIndex set) (fun f =>
        { f with charged := n + 1 }) (sched ⟨due, 0, set, 61, .followSet h set n target entries, 0⟩ s))) ∧
  (∀ (h : Hdr) (set : Handle) (entry sample target fade : Nat) (s₀ : State), let s := sessNamed h s₀
    (inR 1 entry 3 && sample < 48 && (fade == 0 || inR 5 fade 200)) = true → ∀ due, dueOf s target = some due →
    ∀ o f, followFor s set = .ok (o, f) → pendingOk o due false = .ok () → f.fade.isNone = true → ∀ x, f.srcs[entry]? = some x →
    (x.st == .primed && mayPrime s f x) = true →
    let len := (if fade = 0 then f.cfg.fade else fade) * 48
    Serves (.followCommit h set entry sample target fade) set s₀ .ok (posReply s due sample ++ zeros 2 ++ leBytes 4 len ++
        leSigned 4 ((f.hold : Int) - x.d)) (fmod (hIndex set) (fun f => { f with commitAt := s.sys.ord }) (sched
        ⟨due, sample, set, 60, .followCommit h set entry sample target fade, 0⟩ s))) ∧
  (∀ (h : Hdr) (set : Handle) (target : Nat) (s₀ : State), let s := sessNamed h s₀
    ∀ due, dueOf s target = some due → ∀ o y1, followFor s set = .ok (o, y1) → pendingOk o due true = .ok () →
    Serves (.followRelease h set target) set s₀ .ok (posReply s due 0) (sched ⟨due, 0, set, 10, .followRelease h set target, 0⟩
        s)) ∧
  (∀ (h : Hdr) (set : Handle) (s₀ : State), let s := sessNamed h s₀
    ∀ o, objNow s set 7 = .ok o → ∀ f, followAt s (hIndex set) = some f →
    Serves (.followStatus h set) set s₀ .ok (followBytes s o f) s) ∧
  (∀ (h : Hdr) (set : Handle) (c : FollowCfg) (s₀ : State), let s := sessNamed h s₀
    (policyOk c) = true → ∀ o f, followFor s set = .ok (o, f) →
    (c.hop ≠ nullHandle → (∃ y, objIs s c.hop 2 = .ok y) ∧ hIndex c.hop < 6) → pendingOk o (s.sys.ord + 2) false = .ok () →
    (c.hop == nullHandle || hopOk s (hIndex set) f c.hop) = true →
    Serves (.followPolicy h set c) set s₀ .ok (posReply s (s.sys.ord + 2) 0) (sched
        ⟨s.sys.ord + 2, 0, set, 62, .followPolicy h set c, 0⟩ s))

/-- Completion of the commands MEAS_READ, MEAS_WINDOW, MEAS_THRESHOLD, LOUDNESS_READ, LOUDNESS_RESET, AUDIO_MON_SET, VERIFY_SET, VERIFY_CLEAR, VERIFY_STATUS: where the module admits the command and its own checks hold, it is served with the effect,
the status and the reply the spec gives it. -/
def Obligations.CompleteHostMeasurement : Prop :=
  (∀ (h : Hdr) (obj : Handle) (s₀ : State), let s := sessNamed h s₀
    ∀ o, measFor s obj = .ok o → (!(codesOf s obj).isEmpty) = true → (o.st != .pending) = true →
    Serves (.measRead h obj) obj s₀ .ok (measBytes s obj) s) ∧
  (∀ (h : Hdr) (obj : Handle) (w : Nat) (s₀ : State), let s := sessNamed h s₀
    (inR 1 w 3600) = true → ∀ o, measFor s obj = .ok o → (!(codesOf s obj).isEmpty) = true →
    pendingOk o (s.sys.ord + 2) false = .ok () →
    Serves (.measWindow h obj w) obj s₀ .ok [] (sched ⟨s.sys.ord + 2, 0, obj, 100, .measWindow h obj w, 0⟩ s)) ∧
  (∀ (h : Hdr) (obj : Handle) (t : ThrReq) (s₀ : State), let s := sessNamed h s₀
    (t.basis ≤ 2 && inR 1 t.hold 3600 && (t.low.all fun l => t.high.all fun u => l ≤ u)) = true → ∀ o, measFor s obj = .ok o →
    ((codesOf s obj).contains t.code) = true → pendingOk o (s.sys.ord + 2) false = .ok () →
    ∀ x, (s.thrs.find? fun x => x.obj = obj && x.req.code == t.code) = some x →
    Serves (.measThreshold h obj t) obj s₀ .ok (leBytes 2 x.index ++ zeros 2) (sched
        ⟨s.sys.ord + 2, 0, obj, 0x200 + t.code, .measThreshold h obj t, 0⟩ s)) ∧
  (∀ (h : Hdr) (obj : Handle) (t : ThrReq) (s₀ : State), let s := sessNamed h s₀
    (t.basis ≤ 2 && inR 1 t.hold 3600 && (t.low.all fun l => t.high.all fun u => l ≤ u)) = true → ∀ o, measFor s obj = .ok o →
    ((codesOf s obj).contains t.code) = true → pendingOk o (s.sys.ord + 2) false = .ok () →
    (s.thrs.find? fun x => x.obj = obj && x.req.code == t.code) = none → (t.basis != 2) = true →
    ∀ i, ((List.range 1024).find? fun k => s.thrs.all fun x => x.index != k) = some i →
    Serves (.measThreshold h obj t) obj s₀ .ok (leBytes 2 i ++ zeros 2) (sched
        ⟨s.sys.ord + 2, 0, obj, 0x200 + t.code, .measThreshold h obj t, 0⟩
        { s with thrs := s.thrs ++ [⟨i, obj, t, false, false, false, 0⟩] })) ∧
  (∀ (h : Hdr) (comp : Handle) (s₀ : State), let s := sessNamed h s₀
    ∀ o, audioFor s comp = .ok o → (o.st != .pending) = true →
    Serves (.loudnessRead h comp) comp s₀ .ok (loudBytes s comp) { s with sys := { s.sys with free := s.sys.free + 5 } }) ∧
  (∀ (h : Hdr) (comp : Handle) (target : Nat) (s₀ : State), let s := sessNamed h s₀
    ∀ due, dueOf s target = some due → ∀ o, audioFor s comp = .ok o → pendingOk o due false = .ok () →
    Serves (.loudnessReset h comp target) comp s₀ .ok (posReply s due 0) (sched
        ⟨due, 0, comp, 103, .loudnessReset h comp target, 0⟩ s)) ∧
  (∀ (h : Hdr) (comp : Handle) (c : MonCfg) (s₀ : State), let s := sessNamed h s₀
    (only c.flags 4 && inR 2 c.units 255 && inI (-900) c.silThr (-300) && inR 1 c.silHold 600 && inR 1 c.frzHold 600) = true →
    ∀ o, audioFor s comp = .ok o → pendingOk o (s.sys.ord + 2) false = .ok () →
    Serves (.audioMonSet h comp c) comp s₀ .ok [] (sched ⟨s.sys.ord + 2, 0, comp, 102, .audioMonSet h comp c, 0⟩ s)) ∧
  (∀ (h : Hdr) (r : VerifyReq) (target : Nat) (s₀ : State), let s := sessNamed h s₀
    (verifyOk r) = true → ∀ due, dueOf s target = some due → ∀ o, objIs s r.prog 6 = .ok o →
    ∀ q, objIs s r.ref (if r.kind = 0 then 9 else 6) = .ok q →
    (audioComp s r.prog && (if r.kind = 0 then refSlot s r.ref r.slotL && (r.slotR == 0xFF || refSlot s r.ref r.slotR) else
        audioComp s r.ref)) = true →
    pendingOk o due false = .ok () → pendingOk q due false = .ok () →
    ∀ g, roomFor s (charges { s with verifs := tdel s.verifs r.index }) r.group verifCost = .ok g →
    let v := ((tget s.verifs r.index).map fun v => { v with group := g }).getD (Verif.fresh r g 0 false)
    Serves (.verifySet h r target) nullHandle s₀ .ok (posReply s due 0 ++ byte g ++ zeros 1) (schedQ
        ⟨due, 0, nullHandle, 0x300 + r.index, .verifySet h r target, 0⟩ { s with verifs := tset s.verifs r.index v })) ∧
  (∀ (h : Hdr) (index target : Nat) (s₀ : State), let s := sessNamed h s₀
    (index < 64) = true → ∀ due, dueOf s target = some due → ((tget s.verifs index).isSome) = true →
    Serves (.verifyClear h index target) nullHandle s₀ .ok (posReply s due 0) (schedQ
        ⟨due, 0, nullHandle, 0x300 + index, .verifyClear h index target, 0⟩ s)) ∧
  (∀ (h : Hdr) (index : Nat) (s₀ : State), let s := sessNamed h s₀
    (index < 64) = true → Serves (.verifyStatus h index) nullHandle s₀ .ok (verifyBytes s index) s)

/-- Completion of the commands TDM_PORT_CONFIG, TDM_PORT_STATUS, TDM_STREAM_CREATE, TDM_STREAM_RELEASE, ALIGN_CREATE, ALIGN_ADD, ALIGN_REMOVE, ALIGN_RELEASE, ALIGN_STATUS, ETH_PORT_CONFIG, ETH_PORT_STATUS, ETH_STREAM_CREATE, ETH_STREAM_RELEASE, ETH_STREAM_STATUS: where the module admits the command and its own checks hold, it is served with the effect,
the status and the reply the spec gives it. -/
def Obligations.CompleteHostOutputs : Prop :=
  (∀ (h : Hdr) (port : Handle) (c : TdmCfg) (target : Nat) (s₀ : State), let s := sessNamed h s₀
    (tdmCfgOk c) = true → ∀ due, dueOf s target = some due → ∀ o, objIs s port 9 = .ok o → inConflict s 0 = false →
    (tdmCfgFits s (hIndex port) due c) = true →
    Serves (.tdmPortConfig h port c target) port s₀ .ok (posReply s due 0) (sched
        ⟨due, 0, port, 70, .tdmPortConfig h port c target, 0⟩ s)) ∧
  (∀ (h : Hdr) (port : Handle) (s₀ : State), let s := sessNamed h s₀
    ∀ o, objIs s port 9 = .ok o → Serves (.tdmPortStatus h port) port s₀ .ok (tdmBytes s port) s) ∧
  (∀ (h : Hdr) (r : TdmStreamReq) (target : Nat) (s₀ : State), let s := sessNamed h s₀
    (r.chan ≤ 3 && r.slotA < 32 && (if r.chan = 0 then r.slotB < 32 && r.slotB != r.slotA else r.slotB == 0xFF) && r.shift ≤ 15) =
        true →
    ∀ due, dueOf s target = some due → ∀ o, objIs s r.port 9 = .ok o → ∀ o, sourceIs s r.src = .ok o →
    let c := tdmCfgAt s (hIndex r.port) due
    let dent := dentAt s (hIndex r.src)
    (sourceSuits s r.src && (if hClass r.src = 3 then dent.any fun x => rateS x.rate == (frameKHz c) && c.rate != 0 else r.shift
        == 0)) = true →
    ((streamSlots r).all fun n => n < c.n || c.dir != 1) = true → pendingOk o due false = .ok () →
    (c.dir == 1 && (streamSlots r).all fun n => !(slotsUsed s (hIndex r.port) due).contains n) = true →
    (hClass r.src == 3 || outputsOf s r.src < 8) = true → ∀ hd t, issue 8 .pending [r.src] [] due s = some (hd, t) →
    let lat := if hClass r.src = 3 then 2000 else audioLatency s r.src + (if c.rate = 1 then 0 else 1000)
    Serves (.tdmStreamCreate h r target) r.port s₀ .ok (handleBytes hd ++ posReply s due 0 ++ zeros 2 ++ leBytes 4 lat) (sched
        ⟨due, 0, hd, 20, .tdmStreamCreate h r target, 0⟩ { t with streams := tset t.streams (hIndex hd) ⟨.tdm r [] [], none⟩ })) ∧
  (∀ (h : Hdr) (stream : Handle) (target : Nat) (s₀ : State), let s := sessNamed h s₀
    ∀ due, dueOf s target = some due → ∀ o, tdmStreamIs s stream = .ok o → pendingOk o due true = .ok () →
    Serves (.tdmStreamRelease h stream target) stream s₀ .ok (posReply s due 0) (sched
        ⟨due, 0, stream, 10, .tdmStreamRelease h stream target, 0⟩ s)) ∧
  (∀ (h : Hdr) (target : Nat) (s₀ : State), let s := sessNamed h s₀
    ∀ due, dueOf s target = some due → ∀ hd t, issue 0x0A .pending [] [] due s = some (hd, t) →
    Serves (.alignCreate h target) nullHandle s₀ .ok (handleBytes hd ++ leBytes 8 (pickAt s due)) (sched
        ⟨due, 0, hd, 20, .alignCreate h target, 0⟩ { t with aligns := tset t.aligns (hIndex hd) ⟨0, 0, [], 0, 0, 0⟩ })) ∧
  (∀ (h : Hdr) (group stream : Handle) (target : Nat) (s₀ : State), let s := sessNamed h s₀
    ∀ due, dueOf s target = some due → ∀ g, objIs s group 0x0A = .ok g → ∀ o, objIs s stream 8 = .ok o →
    pendingOk g due false = .ok () → pendingOk o due false = .ok () →
    let m := membersAt (unsched stream 72 s) group due
    ((streamAt s stream).any (·.group.isNone) && m.head?.all fun x => paceOf s x due == paceOf s stream due) = true →
    (m.length < 64) = true →
    Serves (.alignAdd h group stream target) group s₀ .ok (posReply s due 0) (sched
        ⟨due, 0, stream, 72, .alignAdd h group stream target, 0⟩ s)) ∧
  (∀ (h : Hdr) (group stream : Handle) (target : Nat) (s₀ : State), let s := sessNamed h s₀
    ∀ due, dueOf s target = some due → ∀ g, objIs s group 0x0A = .ok g → ∀ o, objIs s stream 8 = .ok o →
    pendingOk g due false = .ok () → pendingOk o due false = .ok () → ((membersAt s group due).contains stream) = true →
    Serves (.alignRemove h group stream target) group s₀ .ok (posReply s due 0) (sched
        ⟨due, 0, stream, 72, .alignRemove h group stream target, 0⟩ s)) ∧
  (∀ (h : Hdr) (group : Handle) (target : Nat) (s₀ : State), let s := sessNamed h s₀
    ∀ due, dueOf s target = some due → ∀ g, objIs s group 0x0A = .ok g → pendingOk g due true = .ok () →
    Serves (.alignRelease h group target) group s₀ .ok (posReply s due 0) (sched
        ⟨due, 0, group, 10, .alignRelease h group target, 0⟩ s)) ∧
  (∀ (h : Hdr) (group : Handle) (s₀ : State), let s := sessNamed h s₀
    ∀ o, objNow s group 0x0A = .ok o → ∀ a, alignAt s group = some a →
    Serves (.alignStatus h group) group s₀ .ok (alignBytes group a ++ leBytes 8 (now s) ++ (sortBy (fun m => m.1.toNat)
        a.members).flatMap fun m => handleBytes m.1 ++ leCount 4 m.2.1 ++ leCount 4 m.2.2.1 ++ leCount 4 m.2.2.2.1 ++ leCount 4
        m.2.2.2.2) s) ∧
  (∀ (h : Hdr) (port : Handle) (c : EthCfg) (target : Nat) (s₀ : State), let s := sessNamed h s₀
    (ethCfgOk c) = true → ∀ due, dueOf s target = some due → ∀ o, objIs s port 0x0D = .ok o → inConflict s 0 = false →
    (ethCfgFits s (hIndex port) due c) = true →
    Serves (.ethPortConfig h port c target) port s₀ .ok (posReply s due 0) (sched
        ⟨due, 0, port, 71, .ethPortConfig h port c target, 0⟩ s)) ∧
  (∀ (h : Hdr) (port : Handle) (s₀ : State), let s := sessNamed h s₀
    ∀ o, objIs s port 0x0D = .ok o → Serves (.ethPortStatus h port) port s₀ .ok (ethPortBytes s port) s) ∧
  (∀ (h : Hdr) (r : EthReq) (target : Nat) (s₀ : State), let s := sessNamed h s₀
    r.sources.length = r.n → (ethReqOk r) = true → ∀ due, dueOf s target = some due →
    ∀ os, r.sources.mapM (ethSource s r.kind) = .ok os → (r.sources.all (ethSuits s r.kind)) = true →
    (os.forM fun o => pendingOk o due false) = (.ok () : Chk Unit) →
    ([0, 1].all fun p => !bit r.ports p || familyOn (ethCfgAt s p due) r) = true →
    (r.sources.all fun x => (hClass x != 6 && hClass x != 7) || outputsOf s x < 8) = true →
    (r.kind != 6 || (((ethReqs s due).filter fun x => x.kind == 6).length < 2 && [0, 1].all fun p => !bit r.ports p || !bit
        (ethCfgAt s p due).flags 1)) = true →
    (ethFits s (fun p => ethCfgAt s p due) (ethReqs s due ++ [r])) = true →
    ∀ hd t, issue 8 .pending r.sources [] due s = some (hd, t) →
    let e : EthStream := { req := r, unres := [0, 1].map fun p => bit r.ports p && !multicast (ethDest r), under := 0, holds := 0, dropped := 0, queue := [], dropNext := false, sent := 0, seqs := [0, 0], first := true, marker := 0, lastUnder := none, lastDrop := none, prevQ := 0, heldAt := [], last := [], out := [], pay := [], ready := [], fed := false }
    let load := fun p => if bit r.ports p then wireLoad s (ethCfgAt s p due) r else 0
    Serves (.ethStreamCreate h r target) nullHandle s₀ .ok (handleBytes hd ++ posReply s due 0 ++ zeros 2 ++ leBytes 4 (load 0) ++
        leBytes 4 (load 1) ++ leBytes 4 (if r.kind ≤ 2 then audioLatency s (r.sources.headD nullHandle) else 0)) (sched
        ⟨due, 0, hd, 20, .ethStreamCreate h r target, 0⟩ { t with streams := tset t.streams (hIndex hd) ⟨.eth e, none⟩ })) ∧
  (∀ (h : Hdr) (stream : Handle) (target : Nat) (s₀ : State), let s := sessNamed h s₀
    ∀ due, dueOf s target = some due → ∀ o y1, ethStreamIs s stream = .ok (o, y1) → pendingOk o due true = .ok () →
    Serves (.ethStreamRelease h stream target) stream s₀ .ok (posReply s due 0) (sched
        ⟨due, 0, stream, 10, .ethStreamRelease h stream target, 0⟩ s)) ∧
  (∀ (h : Hdr) (stream : Handle) (s₀ : State), let s := sessNamed h s₀
    ∀ o e, ethStreamIs s stream = .ok (o, e) → (o.st != .pending) = true →
    Serves (.ethStreamStatus h stream) stream s₀ .ok (ethStreamBytes s stream o e) s)

/-- Completion of the commands RTC_READ, RTC_SET, RTC_TRIM, RTC_ALARM_SET, RTC_STATUS, RTC_WEEKDAY_SET, RTC_CONFIG, DATE_TO_TICKS, TICKS_TO_DATE: where the module admits the command and its own checks hold, it is served with the effect,
the status and the reply the spec gives it. -/
def Obligations.CompleteHostRtc : Prop :=
  (∀ (h : Hdr) (s₀ : State), let s := sessNamed h s₀
    let c := if domOn s 2 then s.rtc.latched else s.rtc.count
    Serves (.rtcRead h) nullHandle s₀ .ok (leBytes 8 c.toNat ++ leBytes 8 (now s) ++ byte (flagBits [s.rtc.osf, rtcPending s]) ++
        byte s.rtc.weekday ++ zeros 2) s) ∧
  (∀ (h : Hdr) (kind value target : Nat) (s₀ : State), let s := sessNamed h s₀
    (kind < 2) = true →
    (value < 2 ^ 64 && (if kind = 0 then value < 2 ^ 56 else value < 2 ^ 55 || 2 ^ 64 - 2 ^ 55 ≤ value)) = true →
    ∀ due, dueOf s target = some due →
    Serves (.rtcSet h kind value target) nullHandle s₀ .ok (posReply s due 0) (schedQ
        ⟨due, 0, nullHandle, 90, .rtcSet h kind value target, 0⟩ s)) ∧
  (∀ (h : Hdr) (trim : Int) (s₀ : State), let s := sessNamed h s₀
    (inI (-127) trim 127) = true → inConflict s 0 = false →
    Serves (.rtcTrim h trim) nullHandle s₀ .ok [] (cfgTouch (roleOf s h) (rmod (fun r => { r with trim := trim }) s))) ∧
  (∀ (h : Hdr) (alarm flags value : Nat) (s₀ : State), let s := sessNamed h s₀
    (alarm < 2 && only flags 1 && value < 2 ^ 56) = true →
    let put := fun (st : AlarmState) (s : State) => rmod (fun r =>
        { r with alarms := lmod r.alarms alarm fun _ => ⟨value, st, false, false⟩ }) s
    let off := fun (a : Alarm) => { a with st := .disarmed, skipped := false, down := false }
    Serves (.rtcAlarmSet h alarm flags value) nullHandle s₀ .ok [] (if !bit flags 0 then rmod (fun r =>
        { r with alarms := lmod r.alarms alarm off }) s else if s.rtc.count.toNat < value then put .armed s else alarmFire alarm
        false true (put .fired s))) ∧
  (∀ (h : Hdr) (s₀ : State), let s := sessNamed h s₀
    Serves (.rtcStatus h) nullHandle s₀ .ok (rtcStatusBytes s) s) ∧
  (∀ (h : Hdr) (weekday offset : Nat) (s₀ : State), let s := sessNamed h s₀
    (weekday < 7 && (offset < dayTicks || offset == 0xFFFFFFFF)) = true → inConflict s 0 = false →
    let keep := offset == 0xFFFFFFFF
    let s := rmod (fun r => { r with weekday := weekday, dayOff := if keep then r.dayOff else offset }) s
    Serves (.rtcWeekdaySet h weekday offset) nullHandle s₀ .ok [] (cfgTouch (roleOf s h) s)) ∧
  (∀ (h : Hdr) (vsw low : Nat) (s₀ : State), let s := sessNamed h s₀
    (inR 900 vsw 1050 && inR 2000 low 3300) = true → inConflict s 0 = false →
    Serves (.rtcConfig h vsw low) nullHandle s₀ .ok [] (cfgTouch (roleOf s h) (rmod (fun r =>
        { r with vsw := vsw, lowThr := low }) s))) ∧
  (∀ (h : Hdr) (d : Date) (s₀ : State), let s := sessNamed h s₀
    (inR 1970 d.year 9999 && d.sub ≤ 32767) = true → (dateOk d) = true →
    Serves (.dateToTicks h d) nullHandle s₀ .ok (leBytes 8 (dateTicks d)) s) ∧
  (∀ (h : Hdr) (count : Nat) (s₀ : State), let s := sessNamed h s₀
    (count < 8303486592614400) = true →
    Serves (.ticksToDate h count) nullHandle s₀ .ok (dateBytes (ticksDate count) (ticksWeekday count)) s)

/-- Completion of the commands RECORD_STATUS, RECORD_READ, RECORD_RESOLVE, LIMITS_WRITE, TRIM_WRITE, FW_STATUS, FW_LOAD_BEGIN, FW_LOAD_DATA, FW_LOAD_END, FW_BOOT, FW_KEY_WRITE, LIFECYCLE_LOCK: where the module admits the command and its own checks hold, it is served with the effect,
the status and the reply the spec gives it. -/
def Obligations.CompleteHostRecords : Prop :=
  (∀ (h : Hdr) (rec : Handle) (s₀ : State), let s := sessNamed h s₀
    ∀ i, recIs s rec = .ok i → Serves (.recordStatus h rec) rec s₀ .ok (recordStatusBytes s i) s) ∧
  (∀ (h : Hdr) (rec : Handle) (copy len offset : Nat) (s₀ : State), let s := sessNamed h s₀
    (copy ≤ 1 || copy == 0xFF) = true → ∀ i, recIs s rec = .ok i → (offset + len ≤ copyArea i) = true →
    ∀ k, (if copy = 0xFF then (recAt s i).force else some copy) = some k →
    let c := (recAt s i).copy k
    let b := if i = 3 then hideKeys (copyBytes s i c) else copyBytes s i c
    Serves (.recordRead h rec copy len offset) rec s₀ .ok (copyHeader c ++ (b.drop offset).take len) (drawnBy (copyRest i c) s)) ∧
  (∀ (h : Hdr) (rec : Handle) (keep : Nat) (s₀ : State), let s := sessNamed h s₀
    (keep ≤ 1) = true → ∀ i, recIs s rec = .ok i → (recAt s i).st = .conflict → (intact i ((recAt s i).copy keep)) = true →
    Starts (.recordResolve h rec keep) s₀ rec (writeRec i ((recAt s i).copy keep).body ((recAt s i).copy keep).writer (some
        (.recordResolve h rec keep)) s)) ∧
  (∀ (h : Hdr) (l : Limits) (s₀ : State), let s := sessNamed h s₀
    (limitsOk l) = true → s.fw.locked = false → inConflict s 4 = false →
    Starts (.limitsWrite h l) s₀ nullHandle (writeRec 4 (limitsBytes l) 3 (some (.limitsWrite h l)) s)) ∧
  (∀ (h : Hdr) (offset total flags : Nat) (data : List Byte) (s₀ : State), let s := sessNamed h s₀
    (inR 4 total 49152 && only flags 1) = true →
    let seg := if offset = 0 then [] else s.recs.trimSeg
    let all := seg ++ data
    offset = seg.length → all.length ≤ total → s.fw.locked = false → bit flags 0 = false →
    Serves (.trimWrite h offset total flags data) nullHandle s₀ .ok [] (recmod (fun r => { r with trimSeg := all }) s)) ∧
  (∀ (h : Hdr) (offset total flags : Nat) (data : List Byte) (s₀ : State), let s := sessNamed h s₀
    (inR 4 total 49152 && only flags 1) = true →
    let seg := if offset = 0 then [] else s.recs.trimSeg
    let all := seg ++ data
    offset = seg.length → all.length ≤ total → s.fw.locked = false → bit flags 0 = true → all.length = total →
    inConflict s 1 = false →
    let body := calBodyWith ((items all).filter fun x => inR 0x20 x.kind 0x25) s
    body.length ≤ 65508 →
    Starts (.trimWrite h offset total flags data) s₀ nullHandle (writeRec 1 body 3 (some (.trimWrite h offset total flags data))
        (recmod (fun r => { r with trimSeg := [] }) s))) ∧
  (∀ (h : Hdr) (s₀ : State), let s := sessNamed h s₀
    Serves (.fwStatus h) nullHandle s₀ .ok (fwStatusBytes s) s) ∧
  (∀ (h : Hdr) (target len : Nat) (s₀ : State), let s := sessNamed h s₀
    (target ≤ 2 && inR 257 len 3145728) = true → (target != 2 || s.sys.mode == .dormant) = true →
    (!(target < 2 && s.fw.running == target)) = true →
    Serves (.fwLoadBegin h target len) nullHandle s₀ .ok (leBytes 2 (paramLimit s h.via - 4) ++ zeros 2 ++ leBytes 4 len) (fwmod
        (fun f => { f.setImage target noImage with loadState := 1, loadTarget := target, loadLen := len, loadBytes := [] }) s)) ∧
  (∀ (h : Hdr) (offset : Nat) (data : List Byte) (s₀ : State), let s := sessNamed h s₀
    (s.fw.loadState == 1) = true →
    let b := s.fw.loadBytes ++ data
    (offset == s.fw.loadBytes.length && b.length ≤ s.fw.loadLen) = true →
    Serves (.fwLoadData h offset data) nullHandle s₀ .ok (leBytes 4 b.length) (fwmod (fun f => { f with loadBytes := b }) s)) ∧
  (∀ (h : Hdr) (s₀ : State), let s := sessNamed h s₀
    s.fw.loadState = 1 → s.fw.loadBytes.length = s.fw.loadLen → fwVerify s.fw s.fw.loadBytes = 1 →
    let b := s.fw.loadBytes
    Serves (.fwLoadEnd h) nullHandle s₀ .ok (leBytes 4 (fwVersion b) ++ byte (fwRollback b) ++ byte (fu b 6 1) ++ zeros 2) (fwmod
        (fun f => { f.setImage f.loadTarget ⟨b, 1⟩ with loadState := 2, loadResult := 1 }) s)) ∧
  (∀ (h : Hdr) (source flags confirm : Nat) (s₀ : State), let s := sessNamed h s₀
    (source < 3 && only flags 1 && confirm == 0x7440B007) = true →
    ((s.fw.image source).result == 1 && !(s.fw.image source).bytes.isEmpty) = true →
    let s := if bit flags 0 && source < 2 then fwmod (fun f => { f with preferred := source }) s else s
    ServesReset (.fwBoot h source flags confirm) nullHandle s₀ .ok [] (askReset .fwLoad false (some source) h s)) ∧
  (∀ (h : Hdr) (slot flags : Nat) (key : List Byte) (s₀ : State), let s := sessNamed h s₀
    key.length = 64 → (slot ≤ 3 && only flags 1) = true → bit flags 0 = true → (key.all (· == 0#8)) = true →
    let k := nth s.fw.keys slot ⟨false, false, []⟩
    let other := (List.range 4).any fun j => j != slot && (nth s.fw.keys j ⟨false, false, []⟩).present && !(nth s.fw.keys j
        ⟨false, false, []⟩).revoked
    (k.present && other) = true →
    Serves (.fwKeyWrite h slot flags key) nullHandle s₀ .ok [] (fwmod (fun f =>
        { f with keys := lmod f.keys slot fun _ => { k with revoked := true } }) s)) ∧
  (∀ (h : Hdr) (slot flags : Nat) (key : List Byte) (s₀ : State), let s := sessNamed h s₀
    key.length = 64 → (slot ≤ 3 && only flags 1) = true → bit flags 0 = false → (onCurve key) = true →
    (!s.fw.locked && slot != 0 && !(nth s.fw.keys slot ⟨false, false, []⟩).present) = true →
    Serves (.fwKeyWrite h slot flags key) nullHandle s₀ .ok [] (fwmod (fun f =>
        { f with keys := lmod f.keys slot fun _ => ⟨true, false, key⟩ }) s)) ∧
  (∀ (h : Hdr) (confirm : Nat) (s₀ : State), let s := sessNamed h s₀
    (confirm == 0x744010CC) = true → (!s.fw.locked) = true →
    Serves (.lifecycleLock h confirm) nullHandle s₀ .ok [] (fwmod (fun f => { f with locked := true }) s))

/-- Completion of the commands PAIR_CONFIG, PAIR_STATUS, PAIR_HANDOVER, DEVICE_ID_SET, FARM_STATUS, CAL_POLICY, CAL_REQUEST, CAL_STATUS, CAL_RESULT_READ, CAL_SNAPSHOT: where the module admits the command and its own checks hold, it is served with the effect,
the status and the reply the spec gives it. -/
def Obligations.CompleteHostPairAndCalibration : Prop :=
  (∀ (h : Hdr) (c : PairCfg) (target : Nat) (s₀ : State), let s := sessNamed h s₀
    let used := c.map.filter fun x => x != 0xFF
    (c.id != 0 && c.partner != s.ident.serial && used.eraseDups.length == used.length && used.all (· < 4) && c.position < 2 &&
        only c.flags 1) = true →
    ∀ due, dueOf s target = some due → (!inConflict s 2) = true → (!s.pair.link || (s.pair.owner && !bit c.flags 0)) = true →
    (c.position == 0 || (List.range 4).all fun k => nth c.map k 0xFF == 0xFF || !bit (portAt s k).feed.flags 0) = true →
    let t := schedQ ⟨due, 0, nullHandle, 25, .pairConfig h c target, 0⟩ s
    Serves (.pairConfig h c target) nullHandle s₀ .ok (posReply s due 0) (if bit c.flags 0 then t else announce 11 nullHandle
        (pickAt s due) [] t)) ∧
  (∀ (h : Hdr) (s₀ : State), let s := sessNamed h s₀
    Serves (.pairStatus h) nullHandle s₀ .ok (pairStatusBytes s) s) ∧
  (∀ (h : Hdr) (flags target : Nat) (s₀ : State), let s := sessNamed h s₀
    (only flags 1) = true → s.pair.st = .synced → s.pair.link = true →
    ∀ due, (if target = 0 then some (s.sys.ord + 3) else dueOf s target) = some due → s.sys.ord + 3 ≤ due → s.pair.ownerMode ≠ 6 →
    Serves (.pairHandover h flags target) nullHandle s₀ .ok (posReply s due 0) (pairmod (fun p =>
        { p with out := p.out ++ [⟨13, nullHandle, pickAt s due, byte flags ++ zeros 3 ++ leBytes 8 (pickAt s due)⟩] }) s)) ∧
  (∀ (h : Hdr) (flags target : Nat) (s₀ : State), let s := sessNamed h s₀
    (only flags 1) = true → s.pair.st ≠ .synced → s.pair.st ≠ .syncing → ∀ due, dueOf s target = some due →
    handoverOk (bit flags 0) s = .ok () →
    Serves (.pairHandover h flags target) nullHandle s₀ .ok (posReply s due 0) (handoverAt due s)) ∧
  (∀ (h : Hdr) (id : Nat) (s₀ : State), let s := sessNamed h s₀
    (only id 10) = true → inConflict s 0 = false →
    Serves (.deviceIdSet h id) nullHandle s₀ .ok [] (cfgTouch (roleOf s h) (setDeviceId id s))) ∧
  (∀ (h : Hdr) (s₀ : State), let s := sessNamed h s₀
    Serves (.farmStatus h) nullHandle s₀ .ok (farmBytes s) s) ∧
  (∀ (h : Hdr) (c : CalCfg) (s₀ : State), let s := sessNamed h s₀
    (inR 5 c.dT 200 && only c.flags 5 && only c.hold 8 && inR 60 c.interval 3600) = true → inConflict s 0 = false →
    Serves (.calPolicy h c) nullHandle s₀ .ok [] (schedQ ⟨s.sys.ord + 2, 0, nullHandle, 37, .calPolicy h c, 0⟩ s)) ∧
  (∀ (h : Hdr) (warp : Handle) (flags : Nat) (s₀ : State), let s := sessNamed h s₀
    (only flags 1) = true → ∀ o, objIs s warp 2 = .ok o →
    let w := hIndex warp
    (!held s w) = true → (o.st != .suspended && (w ≥ 6 || (warpAt s w).lo.isSome)) = true →
    Serves (.calRequest h warp flags) warp s₀ .ok [] (cmod w (fun c =>
        { c with reqDue := some (s.sys.ord + 2, bit flags 0 || (c.reqDue.any (·.2))) }) s)) ∧
  (∀ (h : Hdr) (warp : Handle) (s₀ : State), let s := sessNamed h s₀
    ∀ o, objNow s warp 2 = .ok o → Serves (.calStatus h warp) warp s₀ .ok (calStatusBytes s (hIndex warp)) s) ∧
  (∀ (h : Hdr) (warp : Handle) (gainBand loBand : Nat) (s₀ : State), let s := sessNamed h s₀
    (bandsOk 0 gainBand loBand || bandsOk 6 gainBand loBand) = true → ∀ o, objIs s warp 2 = .ok o →
    (bandsOk (hIndex warp) gainBand loBand) = true →
    Serves (.calResultRead h warp gainBand loBand) warp s₀ .ok (entryBytes (calEntry s (hIndex warp) gainBand loBand)) s) ∧
  (∀ (h : Hdr) (s₀ : State), let s := sessNamed h s₀
    inConflict s 1 = false → Starts (.calSnapshot h) s₀ nullHandle (snapshot (roleOf s h) (some (.calSnapshot h)) s))

/-- Completion of the commands TUNER_PRESET_WRITE, TUNER_PRESET_READ, TUNER_SELECT, TUNER_STATUS, PROBE_START, PROBE_STOP, PROBE_STATUS, MISMATCH_MEASURE, MISMATCH_READ: where the module admits the command and its own checks hold, it is served with the effect,
the status and the reply the spec gives it. -/
def Obligations.CompleteHostProbe : Prop :=
  (∀ (h : Hdr) (port : Handle) (num : Nat) (p : Preset) (s₀ : State), let s := sessNamed h s₀
    (inR 1 num 31 && p.c1 < 128 && p.c2 < 128 && p.l < 5 && only p.flags 1) = true → ∀ o, objIs s port 1 = .ok o →
    ((tunerAt s (hIndex port)).inForce != num) = true → inConflict s 0 = false →
    Serves (.tunerPresetWrite h port num p) port s₀ .ok [] (cfgTouch (roleOf s h) (tunmod (hIndex port) (fun t =>
        { t with presets := tset t.presets num p }) s))) ∧
  (∀ (h : Hdr) (port : Handle) (num : Nat) (s₀ : State), let s := sessNamed h s₀
    (num < 32) = true → handleOk s port 1 = .ok () →
    Serves (.tunerPresetRead h port num) port s₀ .ok (presetBytes (presetOf (tunerNow s (hIndex port)) num)) s) ∧
  (∀ (h : Hdr) (port : Handle) (num flags target : Nat) (s₀ : State), let s := sessNamed h s₀
    (num < 32 && only flags 1) = true → ∀ due, dueOf s target = some due → ∀ o, objIs s port 1 = .ok o →
    let p := hIndex port
    (bit (presetOf (tunerAt s p) num).flags 0) = true → ((tunerAt s p).lastOrd.all fun n => n + 100 ≤ due) = true →
    (!probes s p) = true → inConflict s 0 = false →
    Serves (.tunerSelect h port num flags target) port s₀ .ok (posReply s due 0) (sched
        ⟨due, 0, port, 27, .tunerSelect h port num flags target, 0⟩ (tunmod p (fun t => { t with waiting := false }) s))) ∧
  (∀ (h : Hdr) (port : Handle) (s₀ : State), let s := sessNamed h s₀
    handleOk s port 1 = .ok () → Serves (.tunerStatus h port) port s₀ .ok (tunerStatusBytes s (hIndex port)) s) ∧
  (∀ (h : Hdr) (r : ProbeReq) (s₀ : State), let s := sessNamed h s₀
    r.freqs.length = r.points →
    (decide (-280 ≤ r.level) && inR 1 r.points 64 && only r.flags 2 && (r.points == 1 || r.duration == 0) && (!bit r.flags 1 ||
        inR 10 r.threshold 200) && r.freqs.all synRange) = true →
    ∀ due, dueOf s r.target = some due → ∀ o, objIs s r.port 1 = .ok o → ((modePend s).isNone) = true → (domOn s 6) = true →
    (s.probe.state == .idle && !measuring s && (pendOf s r.port 27).isNone) = true →
    let level := min r.level (portLimit s (hIndex r.port)).probe
    let t := prmod (fun p =>
        { p with state := .waiting, req := { r with level := level }, level := level, due := due, start := 0, startOrd := s.sys.ord, point := 0, losses := 0, lowCount := 0, lostNow := [], openNow := [], stopAt := none, limited := false }) s
    Serves (.probeStart h r) r.port s₀ (if level ≠ r.level then .limited else if probeReady t && t.probe.gnt then .ok else
        .queued) (posReply t due 0) t) ∧
  (∀ (h : Hdr) (s₀ : State), let s := sessNamed h s₀
    Serves (.probeStop h) nullHandle s₀ .ok [] (prmod (fun p => { p with stopAt := some (s.sys.ord + 1) }) s)) ∧
  (∀ (h : Hdr) (s₀ : State), let s := sessNamed h s₀
    Serves (.probeStatus h) nullHandle s₀ .ok (probeStatusBytes s) s) ∧
  (∀ (h : Hdr) (port : Handle) (points threshold target : Nat) (freqs : List Nat) (s₀ : State), let s := sessNamed h s₀
    freqs.length = points → (inR 1 points 16 && inR 10 threshold 200 && freqs.all synRange) = true →
    ∀ due, dueOf s target = some due → ∀ o, objIs s port 1 = .ok o → (domOn s 6) = true →
    (s.probe.state == .idle && !measuring s) = true →
    Serves (.mismatchMeasure h port points threshold target freqs) port s₀ .ok (posReply s due 0) (prmod (fun p =>
        { p with measPort := some (hIndex port), measDue := due, measFreqs := freqs, measThr := threshold, measActive := false, openNow := [] }) s)) ∧
  (∀ (h : Hdr) (port : Handle) (s₀ : State), let s := sessNamed h s₀
    handleOk s port 1 = .ok () → Serves (.mismatchRead h port) port s₀ .ok (mismatchBytes s (hIndex port)) s)

/-- Completion of SPI_WRITE, SPI_READ, SPI_STATUS_ONLY, UDP_PACKET_ARRIVAL, UDP_REPLY_EXPIRY: where the event finds the state it acts on, exec answers the next state the spec gives. -/
def Obligations.EventsOfSpiAndUdp : Prop :=
  (∀ (stated : Nat) (bytes : List Byte) (s : State), s.sys.mode ≠ .backup →
    (bytes.length < stated || !inR 12 stated 4108 || s.proto.spi.prog.isSome || closed s) = true →
    exec (.spiWrite stated bytes) s = .next (protomod (fun p =>
        { p with miso := spiHeader s ++ zeros bytes.length, spi := { p.spi with discarded := true }, spiDiscarded := p.spiDiscarded + 1 }) s)) ∧
  (∀ (stated : Nat) (bytes : List Byte) (s : State), s.sys.mode ≠ .backup →
    (bytes.length < stated || !inR 12 stated 4108 || s.proto.spi.prog.isSome || closed s) = false →
    exec (.spiWrite stated bytes) s = .next (take .spi (bytes.take stated) (protomod (fun p =>
        { p with miso := spiHeader s ++ zeros bytes.length, spi := Slot.take (bytes.take stated), spiTaken := p.spiTaken + 1 })
        s))) ∧
  (∀ (clocked : Nat) (s : State), s.sys.mode ≠ .backup → ∀ b held, slotBytesOut s.proto.spi s = (b, held) →
    let done := held && b.length ≤ clocked
    let t := countRepeat (held && s.proto.spi.delivered) (protomod (fun p => { p with
      miso := spiHeader s ++ (b ++ zeros clocked).take clocked, spi := { p.spi with delivered := p.spi.delivered || done } }) s)
    exec (.spiRead clocked) s = .next (if done && (t.sys.resetReq.any fun q => q.via == .spi) then resetAsked t else t)) ∧
  (∀ (s : State), s.sys.mode ≠ .backup → exec .spiStatusOnly s = .next (protomod (fun p => { p with miso := spiHeader s }) s)) ∧
  (∀ (port : Fin 2) (addr : IpAddr) (sport : Nat) (bytes : List Byte) (s : State), udpServed s port addr = true →
    8 ≤ bytes.length → udpFind s port addr sport (fu bytes 6 1) = none → closed s = false → udpFree s < 16 →
    exec (.udpPacketArrival port addr sport bytes) s = .next (takeUdp (udpFree s) port addr sport bytes s)) ∧
  (∀ (port : Fin 2) (addr : IpAddr) (sport : Nat) (bytes : List Byte) (s : State), udpServed s port addr = true →
    8 ≤ bytes.length → udpFind s port addr sport (fu bytes 6 1) = none → (closed s || decide (16 ≤ udpFree s)) = true →
    exec (.udpPacketArrival port addr sport bytes) s = .next (refuseUdp port addr sport bytes s)) ∧
  (∀ (port : Fin 2) (addr : IpAddr) (sport : Nat) (bytes : List Byte) (s : State), udpServed s port addr = true →
    8 ≤ bytes.length → ∀ k u, udpFind s port addr sport (fu bytes 6 1) = some k → tget s.proto.udp k = some u →
    ∀ g, u.prog = some g → exec (.udpPacketArrival port addr sport bytes) s = .next (sendHeader port addr sport g false s)) ∧
  (∀ (port : Fin 2) (addr : IpAddr) (sport : Nat) (bytes : List Byte) (s : State), udpServed s port addr = true →
    8 ≤ bytes.length → ∀ k u, udpFind s port addr sport (fu bytes 6 1) = some k → tget s.proto.udp k = some u →
    u.prog = none → ∀ r, u.reply = some r → u.cmd = bytes → u.cmd ≠ [] →
    exec (.udpPacketArrival port addr sport bytes) s = .next (countRepeat true (sendUdp port addr sport (replyBytes r true s) s))) ∧
  (∀ (port : Fin 2) (addr : IpAddr) (sport : Nat) (bytes : List Byte) (s : State), udpServed s port addr = true →
    8 ≤ bytes.length → ∀ k u, udpFind s port addr sport (fu bytes 6 1) = some k → tget s.proto.udp k = some u →
    u.prog = none → (u.cmd ≠ bytes ∨ u.cmd = [] ∨ u.reply = none) → closed s = false →
    exec (.udpPacketArrival port addr sport bytes) s = .next (takeUdp k port addr sport bytes s)) ∧
  (∀ (port : Fin 2) (addr : IpAddr) (sport : Nat) (bytes : List Byte) (s : State), udpServed s port addr = true →
    8 ≤ bytes.length → ∀ k u, udpFind s port addr sport (fu bytes 6 1) = some k → tget s.proto.udp k = some u →
    u.prog = none → (u.cmd ≠ bytes ∨ u.cmd = [] ∨ u.reply = none) → closed s = true →
    exec (.udpPacketArrival port addr sport bytes) s = .next (refuseUdp port addr sport bytes s)) ∧
  (∀ (slot : Fin 16) (s : State),
    ((tget s.proto.udp slot).any fun u => u.sent.any fun n => decide (n.2 + 10000 ≤ s.sys.ord)) = true →
    exec (.udpReplyExpiry slot) s = .next (protomod (fun p => { p with udp := tdel p.udp slot }) s))

/-- Completion of IDENT, STATUS, CMD_PUT, REPLY_GET, ATTN_ACK, RTC_SNAP, RTC_WEEKDAY, MB_UNASSIGNED_CODE, MB_SEGMENT_TIMEOUT, MB_STUCK_BUS, ATTN_ATTEMPT: where the event finds the state it acts on, exec answers the next state the spec gives. -/
def Obligations.EventsOfManagementBus : Prop :=
  (∀ (s : State), s.sys.mode ≠ .backup →
    let t := mbTransfer s
    exec .mbIdent s = .next (offer 0x01 (byte 16 ++ identBytes t) t)) ∧
  (∀ (s : State), s.sys.mode ≠ .backup →
    let t := mbTransfer s
    exec .mbStatus s = .next (disarm (mbmod (fun m => { m with cursor := 0, segErr := false, pecErr := false }) (offer 0x02
        (mbStatusBytes t) t)))) ∧
  (∀ (data : List Byte) (check : Option Byte) (extra : Bool) (s : State), s.sys.mode ≠ .backup →
    inR 2 data.length 255 = true → pecOk (mbTransfer s) 0x10 (byte data.length ++ data) check extra = true →
    exec (.mbCmdPut data check extra) s = .next (mbSegment (fu data 0 1) (data.drop 1) (mbTransfer s))) ∧
  (∀ (data : List Byte) (check : Option Byte) (extra : Bool) (s : State), s.sys.mode ≠ .backup →
    inR 2 data.length 255 = true → pecOk (mbTransfer s) 0x10 (byte data.length ++ data) check extra = false →
    exec (.mbCmdPut data check extra) s = .next (pecFail (mbTransfer s))) ∧
  (∀ (stop : Bool) (s : State), s.sys.mode ≠ .backup →
    ∀ b held, slotBytesOut (mbTransfer s).proto.mb (mbTransfer s) = (b, held) →
    let t := mbTransfer s
    let n := (b.length + 253) / 254
    let k := min t.mb.cursor (n - 1)
    let d := (b.drop (254 * k)).take 254
    let u := countRepeat (held && t.proto.mb.delivered && k == 0)
      (offer 0x11 (byte (d.length + 1) ++ byte (flagBits [k == 0, k + 1 == n] + 4 * k) ++ d) t)
    exec (.mbReplyGet false stop) s = .next (u)) ∧
  (∀ (stop : Bool) (s : State), s.sys.mode ≠ .backup →
    ∀ b held, slotBytesOut (mbTransfer s).proto.mb (mbTransfer s) = (b, held) →
    let t := mbTransfer s
    let n := (b.length + 253) / 254
    let k := min t.mb.cursor (n - 1)
    let d := (b.drop (254 * k)).take 254
    let u := countRepeat (held && t.proto.mb.delivered && k == 0)
      (offer 0x11 (byte (d.length + 1) ++ byte (flagBits [k == 0, k + 1 == n] + 4 * k) ++ d) t)
    exec (.mbReplyGet true stop) s = .next (if held && k + 1 == n && stop then
        let v := mbmod (fun m => { m with cursor := 0 }) (protomod (fun p => { p with mb := { p.mb with delivered := true } }) u)
        if v.sys.resetReq.any fun q => q.via == .mb then resetAsked v else v
      else if u.mb.cursor < n then mbmod (fun m => { m with cursor := m.cursor + 1 }) u
      else u)) ∧
  (∀ (data : List Byte) (check : Option Byte) (extra : Bool) (s : State), s.sys.mode ≠ .backup →
    inR 2 data.length 255 = false → exec (.mbCmdPut data check extra) s = .next (mbTransfer s)) ∧
  (∀ (check : Option Byte) (extra : Bool) (s : State), s.sys.mode ≠ .backup →
    pecOk (mbTransfer s) 0x18 [] check extra = true → exec (.mbAttnAck check extra) s = .next (disarm (mbTransfer s))) ∧
  (∀ (check : Option Byte) (extra : Bool) (s : State), s.sys.mode ≠ .backup →
    pecOk (mbTransfer s) 0x18 [] check extra = false → exec (.mbAttnAck check extra) s = .next (pecFail (mbTransfer s))) ∧
  (∀ (ended : Bool) (s : State), s.sys.mode ≠ .backup → (mbTransfer s).mb.rtcOpen = true →
    let t := mbTransfer s
    exec (.mbRtcSnap ended) s = .next (offer 0x30 (leBytes 7 t.rtc.count.toNat ++ byte (flag t.rtc.osf)) (mbmod (fun m =>
        { m with shadow := if ended then none else some (t.rtc.count.toNat, t.rtc.osf, t.rtc.weekday) }) t))) ∧
  (∀ (ended : Bool) (s : State), s.sys.mode ≠ .backup → (mbTransfer s).mb.rtcOpen = true →
    let t := mbTransfer s
    exec (.mbRtcWeekday ended) s = .next (offer 0x31 (byte t.rtc.weekday) (mbmod (fun m =>
        { m with shadow := if ended then none else some (t.rtc.count.toNat, t.rtc.osf, t.rtc.weekday) }) t))) ∧
  (∀ (code : Byte) (s : State), s.sys.mode ≠ .backup → exec (.mbUnassignedCode code) s = .next (mbTransfer s)) ∧
  (∀ (s : State), s.mb.partialPkt.isSome = true → exec .mbSegmentTimeout s = .next (segFail s)) ∧
  (∀ (s : State), s.sys.mode ≠ .backup →
    let t := mbTransfer s
    let u := mbmod (fun m => { m with timeouts := m.timeouts + 1 }) t
    exec .mbStuckBus s = .next (ev 0x0107 (pbBody t none 7 0xFF) u)) ∧
  (∀ (s : State), s.sys.mode ≠ .backup → attnArmed s = true →
    exec (.attnAttempt true false) s = .next (mbmod (fun m => { m with pulses := m.pulses + 1 }) s))

/-- Completion of RESET_DEADLINE, VMAIN_GOOD, FW_VERIFY_COMPLETE, FIRMWARE_START, PFAIL, RESET_N_ASSERT, RESET_N_RELEASE, WATCHDOG_EXPIRY, RAIL_FAULT, PICK_BOUNDARY: where the event finds the state it acts on, exec answers the next state the spec gives. -/
def Obligations.EventsOfStartAndBoundary : Prop :=
  (∀ (s : State), exec .resetDeadline s = .next (resetAsked s)) ∧
  (∀ (addr : Fin 8) (boot : Fin 4) (s : State), s.sys.mode = .backup →
    exec (.vmainGood addr boot) s = .next (leaveBackup (sysmod (fun y =>
        { y with vmainGood := true, pinAddr := addr, pinBoot := boot }) s))) ∧
  (∀ (s : State), s.sys.mode = .loading → s.fw.chosen = none → started s = false →
    (verifyOrder (bootOrder s) s.fw).chosen.isSome = true →
    exec .fwVerifyComplete s = .next (fwmod (verifyOrder (bootOrder s)) s)) ∧
  (∀ (s : State), s.sys.mode = .loading → s.fw.chosen = none → started s = false →
    (verifyOrder (bootOrder s) s.fw).chosen = none →
    exec .fwVerifyComplete s = .next (sysmod (fun y => { y with mode := .dormant }) (fwmod (verifyOrder (bootOrder s)) s))) ∧
  (∀ (s : State), ∀ k, s.fw.chosen = some k → s.sys.mode = .loading → started s = false →
    let en := bit s.pair.cfg.flags 0
    exec .firmwareStart s = .next (loadCal { s with
        fw := { s.fw with running := k, runVersion := fwVersion (s.fw.image k).bytes }
        sys := { s.sys with domains := 7, ord := 0, missedAck := 0, upBase := (draw s).toNat, free := s.sys.free + 2 }
        proto := { Proto.reset with miso := s.proto.miso, sentUdp := s.proto.sentUdp }
        auth := { s.auth with sess := [] }
        reg := ⟨fixedObjects, [], []⟩
        clk := { s.clk with mdll := false, ringKHz := 582000 + (Config.freeWord (s.sys.free + 1)).toNat % 36001 }
        pair := { s.pair with st := if en then .joining else .unpaired, owner := !en, join := if en then some 0 else none } })) ∧
  (∀ (s : State),
    exec .pfail s = .next (sysmod (fun y => { y with vmainGood := false, pfail := true }) (toBackup (if (draw s).getLsbD 0 then
        .brownOut else .powerOn) false (drawn s)))) ∧
  (∀ (s : State), exec .resetNAssert s = .next (sysmod (fun y => { y with resetN := false }) (toBackup .resetN false s))) ∧
  (∀ (addr : Fin 8) (boot : Fin 4) (s : State), s.sys.resetN = false →
    exec (.resetNRelease addr boot) s = .next (leaveBackup (sysmod (fun y =>
        { y with resetN := true, pinAddr := addr, pinBoot := boot }) s))) ∧
  (∀ (s : State), started s = true → (100 ≤ s.sys.missedAck ∨ s.sys.ord = 0) →
    exec .watchdogExpiry s = .next (resetNow .watchdog s)) ∧
  (∀ (d : Fin 10) (s : State), domOn s d = true → (d = 1 ∨ d = 2 ∨ d = 9) →
    exec (.railFault d) s = .next (resetNow .brownOut s)) ∧
  (∀ (d : Fin 10) (s : State), domOn s d = true → 3 ≤ d.val → d.val ≤ 8 →
    exec (.railFault d) s = .next (sysmod (fun y => { y with faulted := y.faulted ||| (1#10 <<< d.val) }) s)) ∧
  (∀ (i : PickInputs) (s : State), started s = true → s.sys.ord = 0 →
    exec (.pickBoundary i) s = .next (firstBoundary (measureRing (prmod (fun p => { p with gnt := i.gnt }) (protomod (fun p =>
        { p with sentUdp := [] }) s))))) ∧
  (∀ (i : PickInputs) (s : State), started s = true → s.sys.ord ≠ 0 →
    exec (.pickBoundary i) s = .next (nextBoundary i (measureRing (prmod (fun p => { p with gnt := i.gnt }) (protomod (fun p =>
        { p with sentUdp := [] }) s)))))

/-- Completion of PTP_MESSAGE, SOURCE_QUALIFIED, SOURCE_LOST, SOURCE_SELECT, SOURCE_DISPLACE, FREQ_ACQUIRED, TIMEBASE_LOCKED, PHASE_ERROR_EXCEEDED, PTP_SECONDS_PERSIST, PHASE_STEP_COMPLETE, PHASE_INPUT_EDGE, MDLL_UNLOCK, MDLL_LOCK, MDLL_RETRY_TIMER, TCXO_FAIL, AUDIO_PLL_UNLOCK, AUDIO_PLL_LOCK: where the event finds the state it acts on, exec answers the next state the spec gives. -/
def Obligations.EventsOfTimebaseAndClocks : Prop :=
  (∀ (port : Fin 2) (domain : Nat) (b : Bool) (s : State), domOn s 2 = true → port.val = s.tb.cfg.ptpPort →
    domain = s.tb.cfg.ptpDomain →
    exec (.ptpMessage port domain (.announce b)) s = .next (tbmod (fun t =>
        { t with ptpBest := t.ptpBest.set port b, exchanges := if b then t.exchanges else t.exchanges.set port 0 }) s)) ∧
  (∀ (port : Fin 2) (domain : Nat) (s : State), domOn s 2 = true → port.val = s.tb.cfg.ptpPort →
    domain = s.tb.cfg.ptpDomain → nth s.tb.ptpBest port false = true →
    exec (.ptpMessage port domain .exchange) s = .next (tbmod (fun t => { t with exchanges := lmod t.exchanges port (· + 1) }) s)) ∧
  (∀ (port : Fin 2) (domain : Nat) (s : State), exec (.ptpMessage port domain .sync) s = .next s) ∧
  (∀ (i : TbInput) (s : State), domOn s 2 = true → (∀ p, i ≠ .ptp p) → nth s.tb.qual (inputIx i) false = false →
    exec (.sourceQualified i) s = .next (tbmod (fun t =>
        { t with qual := t.qual.set (inputIx i) true, qualAt := t.qualAt.set (inputIx i) s.sys.ord }) s)) ∧
  (∀ (p : Fin 2) (s : State), domOn s 2 = true → p.val = s.tb.cfg.ptpPort → nth s.tb.ptpBest p false = true →
    16 ≤ nth s.tb.exchanges p 0 → nth s.tb.qual (inputIx (.ptp p)) false = false →
    exec (.sourceQualified (.ptp p)) s = .next (tbmod (fun t =>
        { t with qual := t.qual.set (inputIx (.ptp p)) true, qualAt := t.qualAt.set (inputIx (.ptp p)) s.sys.ord }) s)) ∧
  (∀ (i : TbInput) (word : Int) (s : State), domOn s 2 = true → (srcInputs s.tb.source).contains (inputIx i) = true →
    exec (.sourceLost i word) s = .next (tbLost (tbmod (fun t => { t with words := (word :: t.words).take 1000 }) (disqualify
        (inputIx i) s)))) ∧
  (∀ (i : TbInput) (word : Int) (s : State), domOn s 2 = true → (srcInputs s.tb.source).contains (inputIx i) = false →
    exec (.sourceLost i word) s = .next (disqualify (inputIx i) s)) ∧
  (∀ (code : Nat) (s : State), domOn s 2 = true → (s.tb.state = .freerun ∨ s.tb.state = .holdover) →
    srcBest s = some code → exec (.sourceSelect code) s = .next (tbAcquire code s)) ∧
  (∀ (code : Nat) (s : State), domOn s 2 = true → s.tb.state = .locked → bit s.tb.cfg.flags 1 = true →
    srcPrio code < srcPrio s.tb.source → srcReady s code = true → srcSince s code + s.tb.cfg.holdOff * 1000 ≤ s.sys.ord →
    exec (.sourceDisplace code) s = .next (tbAcquire code s)) ∧
  (∀ (e : Int) (s : State), domOn s 2 = true → s.tb.state = .acqFreq →
    exec (.freqAcquired e) s = .next (tbDecide (compensated s e) (tbGo .acqPhase s.tb.source s))) ∧
  (∀ (s : State), domOn s 2 = true → s.tb.state = .acqPhase → s.tb.slewRem = 0 → s.tb.plan = none →
    s.tb.e.natAbs ≤ lockWindow s →
    exec .timebaseLocked s = .next (tbGo .locked s.tb.source (tbmod (fun t => { t with everLocked := true }) s))) ∧
  (∀ (e : Int) (s : State), domOn s 2 = true → s.tb.state = .locked →
    s.tb.cfg.threshold < (compensated s e - wholeSeconds (compensated s e) * 1000000000).natAbs →
    exec (.phaseErrorExceeded e) s = .next (tbDecide (compensated s e) (tbGo .acqPhase s.tb.source s))) ∧
  (∀ (es : Int) (s : State), domOn s 2 = true → s.tb.state = .locked → onPtp s = true → s.tb.secs = none →
    exec (.ptpSecondsPersist es) s = .next (planSeconds (s.tb.e + es * 1000000000) es s)) ∧
  (∀ (obj : Option (Fin 8)) (s : State), domOn s 2 = true →
    ∀ m, (movesOf s (obj.elim 0 fun w => w.val + 1)).head? = some m → m.running = true →
    let k := obj.elim 0 fun w => w.val + 1
    exec (.phaseStepComplete obj) s = .next (movesStart (tbmod (fun t =>
        { t with trims := lmod t.trims k (· + m.steps), moves := t.moves.eraseP fun x => x.obj == k }) s))) ∧
  (∀ (pick : Bool) (width : Nat) (offset : Int) (s : State), domOn s 2 = true →
    (s.tb.source ≠ (if pick then 2 else 1) ∨ edgeMs pick width s.tb.pickMs = none) →
    exec (.phaseInputEdge pick width offset) s = .next (if pick then tbmod (fun t =>
        { t with pickInSum := t.pickInSum + (offset - s.tb.cfg.comp * 10), pickInCount := t.pickInCount + 1, pickMs := edgeMs pick width s.tb.pickMs }) s else s)) ∧
  (∀ (width : Nat) (offset : Int) (s : State), domOn s 2 = true → s.tb.source = 1 →
    ∀ m, edgeMs false width s.tb.pickMs = some m →
    let here := (s.tb.pick + flag (offset < 0)) % 1000
    let away : Int := (m + 1500 - here : Nat) % 1000 - 500
    exec (.phaseInputEdge false width offset) s = .next (tbmod (fun t =>
        { t with e := away * 1000000 + tdivI (-(offset - s.tb.cfg.comp * 10)) 1000 }) s)) ∧
  (∀ (width : Nat) (offset : Int) (s : State), domOn s 2 = true → s.tb.source = 2 →
    ∀ m, edgeMs true width s.tb.pickMs = some m →
    let v := tbmod (fun t =>
        { t with pickInSum := t.pickInSum + (offset - s.tb.cfg.comp * 10), pickInCount := t.pickInCount + 1, pickMs := edgeMs true width s.tb.pickMs }) s
    let here := (s.tb.pick + flag (offset < 0)) % 1000
    let away : Int := (m + 1500 - here : Nat) % 1000 - 500
    exec (.phaseInputEdge true width offset) s = .next (tbmod (fun t =>
        { t with e := away * 1000000 + tdivI (-(offset - s.tb.cfg.comp * 10)) 1000 }) v)) ∧
  (∀ (s : State), domOn s 2 = true → s.clk.mdll = true → s.clk.state = .normal →
    let t := ckmod (fun c => { c with shedDue := true }) (degrade s)
    exec .mdllUnlock s = .next ({ t with weaves := t.weaves.map fun x => (x.1, { x.2 with exempt := t.sys.ord + 1 }) })) ∧
  (∀ (s : State), domOn s 2 = true → s.clk.mdll = true → s.clk.state = .returning → exec .mdllUnlock s = .next (degrade s)) ∧
  (∀ (s : State), domOn s 2 = true → s.clk.state = .degraded →
    exec .mdllLock s = .next (ckmod (fun c => { c with mdll := true, state := .returning }) s)) ∧
  (∀ (s : State), domOn s 2 = true → s.clk.state = .normal →
    exec .mdllLock s = .next (ckmod (fun c => { c with mdll := true }) s)) ∧
  (∀ (s : State), domOn s 2 = true → s.clk.state = .degraded →
    exec .mdllRetryTimer s = .next (ckmod (fun c => { c with retries := c.retries + 1 }) s)) ∧
  (∀ (s : State), domOn s 2 = true → s.clk.state ≠ .fault →
    let t := (sweep [] 0 (ckmod (fun c => { c with state := .fault, mdll := false }) s)).2
    exec .tcxoFail s = .next (ev 0x0310 (clkBody t 3 0 t.tb.pick) t)) ∧
  (∀ (s : State), domOn s 2 = true → s.clk.audio = true →
    exec .audioPllUnlock s = .next (ev 0x0310 (clkBody s 2 0 (s.tb.pick + 1)) (ckmod (fun c =>
        { c with audio := false, audioHold := true }) s))) ∧
  (∀ (s : State), domOn s 2 = true → exec .audioPllLock s = .next (ckmod (fun c => { c with audio := true }) s))

/-- Completion of SYNTH_UNLOCK, SYNTH_LOCK, BAND_SEARCH_FAILED, SEARCH_REPEAT_TIMER, PROFILE_LOCK_TIMEOUT, TEMP_FAULT_END, OVERLOAD_CLEAR, CAL_INITIAL_TIMEOUT, CAL_NO_GAP_TIMEOUT, CAL_STALE_TEMP_TIMEOUT, CAL_TEMP_FAULT_TIMER, CAL_SNAPSHOT_TIMER: where the event finds the state it acts on, exec answers the next state the spec gives. -/
def Obligations.EventsOfSynthesisersAndWarps : Prop :=
  (∀ (k : Fin 7) (sample : Nat) (s : State), (synAt s k).state = .locked → sample < 98304 → k.val < 6 →
    let t := wmod k (fun w => { w with lossAt := some sample, cal := { w.cal with steady := false } }) (synMod k (fun y =>
      { y with state := .searching, unlocks := y.unlocks + 1, searches := y.searches + 1, lossMark := true, first := (s.tb.pick, sample) }) s)
    exec (.synthUnlock k sample) s = .next (ev 0x0520 (synBody k 1 t.tb.pick sample) t)) ∧
  (∀ (sample : Nat) (s : State), (synAt s 6).state = .locked → sample < 98304 →
    (sample < windowStart ∨ s.probe.measActive = true) →
    let t :=  (synMod 6 (fun y =>
      { y with state := .searching, unlocks := y.unlocks + 1, searches := y.searches + 1, lossMark := true, first := (s.tb.pick, sample) }) s)
    exec (.synthUnlock 6 sample) s = .next (ev 0x0520 (synBody 6 1 t.tb.pick sample) t)) ∧
  (∀ (sample : Nat) (s : State), (synAt s 6).state = .locked → sample < 98304 → windowStart ≤ sample →
    s.probe.measActive = false →
    let t := pointOpen (synMod 6 (fun y =>
      { y with state := .searching, unlocks := y.unlocks + 1, searches := y.searches + 1, lossMark := true, first := (s.tb.pick, sample) }) s)
    exec (.synthUnlock 6 sample) s = .next (ev 0x0520 (synBody 6 1 t.tb.pick sample) t)) ∧
  (∀ (k : Fin 7) (r : LockFacts) (s : State), (synAt s k).state = .searching → k.val < 6 → (synAt s k).lossMark = false →
    isHop s k = true →
    let t := synMod k (fun y =>
        { y with state := .locked, band := r.band, amp := r.amp, cp := r.cp, lf := r.lf, settle := r.settle, lossMark := false, failRep := false }) s
    let a := (warpAt t k).lossAt
    let u := markWarp k (a.getD 0) (if a.isSome then r.sample else 0) (wmod k (fun w => { w with lossAt := none }) t)
    exec (.synthLock k r) s = .next (hopStore k u)) ∧
  (∀ (k : Fin 7) (r : LockFacts) (s : State), (synAt s k).state = .searching → k.val < 6 → (synAt s k).lossMark = false →
    isHop s k = false →
    let t := synMod k (fun y =>
        { y with state := .locked, band := r.band, amp := r.amp, cp := r.cp, lf := r.lf, settle := r.settle, lossMark := false, failRep := false }) s
    let a := (warpAt t k).lossAt
    let u := markWarp k (a.getD 0) (if a.isSome then r.sample else 0) (wmod k (fun w => { w with lossAt := none }) t)
    exec (.synthLock k r) s = .next (u)) ∧
  (∀ (k : Fin 7) (r : LockFacts) (s : State), (synAt s k).state = .searching → k.val < 6 → (synAt s k).lossMark = true →
    let t := synMod k (fun y =>
        { y with state := .locked, band := r.band, amp := r.amp, cp := r.cp, lf := r.lf, settle := r.settle, lossMark := false, failRep := false }) s
    let a := (warpAt t k).lossAt
    let u := markWarp k (a.getD 0) (if a.isSome then r.sample else 0) (wmod k (fun w => { w with lossAt := none }) t)
    exec (.synthLock k r) s = .next (ev 0x0521 (synBody k 0 u.tb.pick (firstValid (warpAt u k) r.sample)) u)) ∧
  (∀ (r : LockFacts) (s : State), (synAt s 6).state = .searching → (synAt s 6).lossMark = false →
    let t := probeLocked (synMod 6 (fun y =>
        { y with state := .locked, band := r.band, amp := r.amp, cp := r.cp, lf := r.lf, settle := r.settle, lossMark := false, failRep := false }) s)
    let u := if windowStart < r.sample then pointOpen t else t
    exec (.synthLock 6 r) s = .next (u)) ∧
  (∀ (r : LockFacts) (s : State), (synAt s 6).state = .searching → (synAt s 6).lossMark = true →
    let t := probeLocked (synMod 6 (fun y =>
        { y with state := .locked, band := r.band, amp := r.amp, cp := r.cp, lf := r.lf, settle := r.settle, lossMark := false, failRep := false }) s)
    let u := if windowStart < r.sample then pointOpen t else t
    exec (.synthLock 6 r) s = .next (ev 0x0521 (synBody 6 0 u.tb.pick (firstValid (warpAt u 6) r.sample)) u)) ∧
  (∀ (k : Fin 7) (r : LockFacts) (s : State), (synAt s k).state = .settling → k.val < 6 → (synAt s k).lossMark = false →
    let t := synMod k (fun y => { y with state := .locked, settle := r.settle, lossMark := false, failRep := false }) s
    let a := (warpAt t k).lossAt
    let u := markWarp k (a.getD 0) (if a.isSome then r.sample else 0) (wmod k (fun w => { w with lossAt := none }) t)
    exec (.synthLock k r) s = .next (u)) ∧
  (∀ (k : Fin 7) (r : LockFacts) (s : State), (synAt s k).state = .settling → k.val < 6 → (synAt s k).lossMark = true →
    let t := synMod k (fun y => { y with state := .locked, settle := r.settle, lossMark := false, failRep := false }) s
    let a := (warpAt t k).lossAt
    let u := markWarp k (a.getD 0) (if a.isSome then r.sample else 0) (wmod k (fun w => { w with lossAt := none }) t)
    exec (.synthLock k r) s = .next (ev 0x0521 (synBody k 0 u.tb.pick (firstValid (warpAt u k) r.sample)) u)) ∧
  (∀ (r : LockFacts) (s : State), (synAt s 6).state = .settling → (synAt s 6).lossMark = false →
    let t := probeLocked (synMod 6 (fun y => { y with state := .locked, settle := r.settle, lossMark := false, failRep := false })
        s)
    let u := if windowStart < r.sample then pointOpen t else t
    exec (.synthLock 6 r) s = .next (u)) ∧
  (∀ (r : LockFacts) (s : State), (synAt s 6).state = .settling → (synAt s 6).lossMark = true →
    let t := probeLocked (synMod 6 (fun y => { y with state := .locked, settle := r.settle, lossMark := false, failRep := false })
        s)
    let u := if windowStart < r.sample then pointOpen t else t
    exec (.synthLock 6 r) s = .next (ev 0x0521 (synBody 6 0 u.tb.pick (firstValid (warpAt u 6) r.sample)) u)) ∧
  (∀ (k : Fin 7) (s : State), (synAt s k).state = .searching →
    let y := synAt s k
    let t := synMod k (fun y => { y with state := .unlocked, lossMark := true, failRep := true }) s
    exec (.bandSearchFailed k) s = .next (if y.failRep then t else ev 0x0520 (synBody k 2 y.first.1 y.first.2) t)) ∧
  (∀ (k : Fin 7) (s : State), (synAt s k).state = .unlocked →
    exec (.searchRepeatTimer k) s = .next (synMod k (fun y => { y with state := .searching, searches := y.searches + 1 }) s)) ∧
  (∀ (k : Fin 7) (s : State), (synAt s k).state = .settling → k.val < 6 →
    exec (.profileLockTimeout k) s = .next (blank k 350 (synMod k (fun y =>
        { y with state := .searching, searches := y.searches + 1, profile := 0xFF, profiles := tmod y.profiles y.profile fun p => { p with valid := false } }) s))) ∧
  (∀ (s : State), (synAt s 6).state = .settling →
    exec (.profileLockTimeout 6) s = .next (synMod 6 (fun y =>
        { y with state := .searching, searches := y.searches + 1, profile := 0xFF, profiles := tmod y.profiles y.profile fun p => { p with valid := false } }) s)) ∧
  (∀ (w : Fin 8) (s : State), domOn s (hostDomain 2 w) = true → (warpAt s w).sensor.fault = true →
    1000 ≤ (warpAt s w).sensor.run →
    let t := wmod w (fun a => { a with sensor := { a.sensor with fault := false } }) s
    exec (.tempFaultEnd w) s = .next (ev 0x0503 (tempBody t w false) t)) ∧
  (∀ (w : Fin 8) (s : State), domOn s (hostDomain 2 w) = true → (warpAt s w).ovlOpen = true → 100 ≤ (warpAt s w).clean →
    exec (.overloadClear w) s = .next (ev 0x0501 (overBody s w false (warpAt s w).meas) (wmod w (fun x =>
        { x with ovlOpen := false }) s))) ∧
  (∀ (w : Fin 8) (s : State), domOn s (hostDomain 2 w) = true → (warpAt s w).cal.state = .initial →
    (warpAt s w).cal.wantInitial = false → (warpAt s w).cal.since + 400 ≤ s.sys.ord →
    exec (.calInitialTimeout w) s = .next (calGo w .degraded 7 s)) ∧
  (∀ (w : Fin 8) (s : State), domOn s (hostDomain 2 w) = true → (warpAt s w).cal.state = .due →
    (6 ≤ w.val ∨ locked s w = true) → held s w = false →
    max (warpAt s w).cal.tried (warpAt s w).cal.since + 60000 ≤ s.sys.ord →
    exec (.calNoGapTimeout w) s = .next (calStale w 2 s)) ∧
  (∀ (w : Fin 8) (s : State), domOn s (hostDomain 2 w) = true → (warpAt s w).cal.state = .stale →
    (warpAt s w).sensor.fault = true → (warpAt s w).cal.since + 600000 ≤ s.sys.ord →
    exec (.calStaleTempTimeout w) s = .next (calGo w .degraded 4 s)) ∧
  (∀ (w : Fin 8) (s : State), domOn s (hostDomain 2 w) = true → (warpAt s w).sensor.fault = true →
    (warpAt s w).cal.state = .current → (warpAt s w).cal.wantInitial = false →
    exec (.calTempFaultTimer w) s = .next (calDue w false s)) ∧
  (∀ (s : State), running s = true → s.calib.dirty = true → s.calib.lastSnap + s.calib.cfg.interval * 1000 ≤ s.sys.ord →
    inConflict s 1 = false → exec .calSnapshotTimer s = .next (snapshot 0x0F none s)) ∧
  (∀ (s : State), running s = true → s.calib.dirty = true → s.calib.lastSnap + s.calib.cfg.interval * 1000 ≤ s.sys.ord →
    inConflict s 1 = true →
    exec .calSnapshotTimer s = .next (refuseRec 1 { s with calib := { s.calib with skipped := s.calib.skipped + 1 } }))

/-- Completion of FEED_RAMP_COMPLETE, FEED_OVERCURRENT, FEED_FOLD_RECOVERED, FEED_FOLD_WINDOW_END, FEED_RETRY_TIMER, FEED_OVERVOLTAGE, VFEED_FAULT, VFEED_RETURN, FEED_START_STAGGER, FEED_EPISODE_CLEAR, FEED_FAULT_CLEAR, FEED_OPEN_DETECT, FEED_OPEN_CLEAR, PORT_BACKFEED_DETECT, PORT_BACKFEED_CLEAR, COEX_GNT_FALL, PROBE_GRANT_TIMEOUT, PROBE_START_TIMEOUT, PROBE_DURATION_END, PROBE_LEVEL_CAL_DONE, PROBE_LEVEL_LOOP, PROBE_LIMITER, MISMATCH_COMPLETE: where the event finds the state it acts on, exec answers the next state the spec gives. -/
def Obligations.EventsOfFeedsAndProbe : Prop :=
  (∀ (p : Fin 4) (m : FeedMeas) (s : State), domOn s 6 = true → (portAt s p).feed.state = .starting →
    let t := feedMod p (fun x => { x with ma := m.ma, mv := m.mv }) s
    exec (.feedRampComplete p m) s = .next (feedGo p .on t)) ∧
  (∀ (p : Fin 4) (m : FeedMeas) (s : State), domOn s 6 = true →
    ((portAt s p).feed.state = .starting ∨ (portAt s p).feed.state = .on) →
    let t := feedMod p (fun x => { x with ma := m.ma, mv := m.mv }) s
    exec (.feedOvercurrent p m) s = .next (feedGo p .foldback (feedMod p (fun f =>
        { f with episodes := min 4 (f.episodes + 1), total := f.total + 1 }) t))) ∧
  (∀ (p : Fin 4) (m : FeedMeas) (s : State), domOn s 6 = true → (portAt s p).feed.state = .foldback →
    9 * setMv (portAt s p).feed.flags ≤ 10 * m.mv →
    let t := feedMod p (fun x => { x with ma := m.ma, mv := m.mv }) s
    exec (.feedFoldRecovered p m) s = .next (feedGo p .on t)) ∧
  (∀ (p : Fin 4) (m : FeedMeas) (s : State), domOn s 6 = true → (portAt s p).feed.state = .foldback →
    let t := feedMod p (fun x => { x with ma := m.ma, mv := m.mv }) s
    let f := (portAt t p).feed
    exec (.feedFoldWindowEnd p m) s = .next (faultRaise p (if m.mv < 1000 then (2, 0, 0) else (4, 0, 1))
        (feedGo p (if f.episodes < 4 ∧ bit f.flags 2 = true then .retryWait else .latched) t))) ∧
  (∀ (p : Fin 4) (m : FeedMeas) (s : State), domOn s 6 = true → (portAt s p).feed.state = .retryWait →
    (portAt s p).feed.since + 1000 ≤ s.sys.ord →
    let t := feedMod p (fun x => { x with ma := m.ma, mv := m.mv }) s
    exec (.feedRetryTimer p m) s = .next (feedGo p .starting t)) ∧
  (∀ (p : Fin 4) (m : FeedMeas) (s : State), domOn s 6 = true →
    ((portAt s p).feed.state = .starting ∨ (portAt s p).feed.state = .on ∨ (portAt s p).feed.state = .foldback) →
    (if bit (portAt s p).feed.flags 1 then 13500 else 5600) < m.mv →
    let t := feedMod p (fun x => { x with ma := m.ma, mv := m.mv }) s
    exec (.feedOvervoltage p m) s = .next (faultRaise p (4, 0, 2) (feedGo p .latched t))) ∧
  (∀ (s : State), domOn s 6 = true →
    exec .vfeedFault s = .next ((List.range 4).foldl (fun s p =>
        match (portAt s p).feed.state with
        | .off => s
        | .latched => s
        | .hold => feedMod p (fun f => { f with queued := false, vfeed := true }) s
        | _ => feedMod p (fun f => { f with vfeed := true }) (faultRaise p (4, 0, 3) (feedGo p .hold s))) s)) ∧
  (∀ (s : State), domOn s 6 = true →
    exec .vfeedReturn s = .next (feedTurn ((List.range 4).foldl (fun s p => feedMod p (fun f =>
        { f with queued := f.queued || (f.state == .hold && f.vfeed) }) s) s))) ∧
  (∀ (p : Fin 4) (m : FeedMeas) (s : State), domOn s 6 = true → (portAt s p).feed.waits = true →
    let t := feedMod p (fun x => { x with ma := m.ma, mv := m.mv }) s
    exec (.feedStartStagger p m) s = .next (feedTurn t)) ∧
  (∀ (p : Fin 4) (s : State), (portAt s p).feed.state = .on → (portAt s p).feed.since + 60000 ≤ s.sys.ord →
    exec (.feedEpisodeClear p) s = .next (feedMod p (fun f => { f with episodes := 0 }) s)) ∧
  (∀ (p : Fin 4) (m : FeedMeas) (s : State), domOn s 6 = true → (portAt s p).feed.state = .on →
    (portAt s p).feed.since + 1000 ≤ s.sys.ord →
    let t := feedMod p (fun x => { x with ma := m.ma, mv := m.mv }) s
    exec (.feedFaultClear p m) s = .next (faultClear p (fun x => x == (2, 0, 0) || x == (4, 0, 1)) t)) ∧
  (∀ (p : Fin 4) (m : FeedMeas) (s : State), domOn s 6 = true → (portAt s p).feed.state = .on →
    bit (portAt s p).feed.flags 3 = true → m.ma < 50 →
    let t := feedMod p (fun x => { x with ma := m.ma, mv := m.mv }) s
    exec (.feedOpenDetect p m) s = .next (faultRaise p (1, 0, 0) t)) ∧
  (∀ (p : Fin 4) (m : FeedMeas) (s : State), domOn s 6 = true → 70 ≤ m.ma →
    let t := feedMod p (fun x => { x with ma := m.ma, mv := m.mv }) s
    exec (.feedOpenClear p m) s = .next (faultClear p (· == (1, 0, 0)) t)) ∧
  (∀ (p : Fin 4) (m : FeedMeas) (s : State), domOn s 6 = true → (portAt s p).feed.idle = true → 1000 < m.mv →
    let t := feedMod p (fun x => { x with ma := m.ma, mv := m.mv }) s
    exec (.portBackfeedDetect p m) s = .next (faultRaise p (4, 0, 2) t)) ∧
  (∀ (p : Fin 4) (m : FeedMeas) (s : State), domOn s 6 = true → (portAt s p).feed.idle = true → m.mv < 500 →
    let t := feedMod p (fun x => { x with ma := m.ma, mv := m.mv }) s
    exec (.portBackfeedClear p m) s = .next (faultClear p (· == (4, 0, 2)) t)) ∧
  (∀ (s : State), s.probe.state = .radiating →
    exec .coexGntFall s = .next (probeHeld 0 (prmod (fun p => { p with gnt := false }) s))) ∧
  (∀ (s : State), s.probe.state ≠ .radiating → exec .coexGntFall s = .next (prmod (fun p => { p with gnt := false }) s)) ∧
  (∀ (s : State), s.probe.state = .held → 100 ≤ s.probe.lowCount → exec .probeGrantTimeout s = .next (probeEnd 7 .timeout s)) ∧
  (∀ (s : State), s.probe.state = .waiting → s.probe.due + 5 ≤ s.sys.ord →
    exec .probeStartTimeout s = .next (probeOver 6 .notReady s)) ∧
  (∀ (s : State), (s.probe.state = .radiating ∨ s.probe.state = .held) → probeEnds s = true →
    exec .probeDurationEnd s = .next (probeEnd 2 .ok s)) ∧
  (∀ (s : State), s.probe.calibrating = true →
    exec .probeLevelCalDone s = .next (prmod (fun p =>
        { p with calibrating := false, levelCal := true, calTemp := p.temp.value.getD p.calTemp }) s)) ∧
  (∀ (level : Int) (s : State), probeGate s = true →
    exec (.probeLevelLoop level) s = .next (prmod (fun p => { p with measured := level }) s)) ∧
  (∀ (s : State), probeGate s = true → exec .probeLimiter s = .next (prmod (fun p => { p with limited := true }) s)) ∧
  (∀ (points : List LossPoint) (low : List Nat) (s : State), ∀ k, s.probe.measOwed = some k →
    let p := s.probe
    let l := (p.req.freqs.zipIdx).map fun f => pointHeld (nth points f.2 ⟨f.1, 0, 0, 0⟩) f.1 true (p.lostNow.contains f.2) false
        (p.openNow.contains f.2)
    let t := drawn (prmod (fun p => { p with measOwed := none }) s)
    exec (.mismatchComplete points low) s = .next (lossDone k 1 (classify true l p.req.threshold (draw s).toNat) p.req.threshold
        (tunerAt t k).inForce (pickAt t (p.startOrd + p.req.points - 1)) l t)) ∧
  (∀ (points : List LossPoint) (low : List Nat) (s : State), s.probe.measOwed = none → ∀ k, s.probe.measPort = some k →
    s.probe.measActive = true → s.probe.measDue + s.probe.measFreqs.length ≤ s.sys.ord →
    let p := s.probe
    let l := (p.measFreqs.zipIdx).map fun f => pointHeld (nth points f.2 ⟨f.1, 0, 0, 0⟩) f.1 false false (low.contains f.2)
        (p.openNow.contains f.2)
    let t := prmod (fun p => { p with measPort := none, measActive := false }) s
    exec (.mismatchComplete points low) s = .next (lossDone k 2 (classify false l p.measThr 0) p.measThr p.measPreset (pickAt t
        (p.measDue + p.measFreqs.length - 1)) l t))

/-- Completion of DENT_BANK_LOAD_COMPLETE, STAGE_READY, TASK_COMPLETE, ENGINE_JOB_COMPLETE, STAGE_COMPLETE, STAGE_DEADLINE: where the event finds the state it acts on, exec answers the next state the spec gives. -/
def Obligations.EventsOfCluster : Prop :=
  (∀ (dent : Fin 512) (s : State),
    exec (.dentBankLoadComplete dent) s = .next (dmod dent (fun x => { x with loading := none }) s)) ∧
  (∀ (weave : Fin 512) (cap stage : Nat) (tasks : List TaskReq) (jobs : List JobReq) (s : State),
    ∀ w, weaveAt s weave = some w → stCode s (handleOf s 4 weave) = 2 → stageTimely s w weave cap stage = true →
    workOk w stage tasks jobs = true → ∀ now late, jobsNow s w weave cap jobs = (now, late) →
    let js := (now.filter fun j => jobCycles j ≤ 20000).zipIdx.map fun j =>
      (⟨weave, cap, stage, j.1.cls, jobCycles j.1, s.cluster.jobCount + j.2, false⟩ : Job)
    let rest := s.cluster.late.filter fun x => !(x.1 == weave.val && x.2.1 == cap)
    exec (.stageReady weave cap stage tasks jobs) s = .next (dispatch (vmod weave (fun w =>
        { w with rsNow := w.rsNow + (js.filter fun j => j.cls == 1).length }) { s with cluster := { s.cluster with
        stages := s.cluster.stages ++ [⟨weave, cap, stage, tasks.length, js.length, now.any fun j => jobCycles j > 20000, []⟩]
        ready := s.cluster.ready ++ tasks.map fun t => ⟨weave, cap, stage, t.cycles, t.set_⟩
        jobs := s.cluster.jobs ++ js
        jobCount := s.cluster.jobCount + js.length
        late := if late.isEmpty then rest else rest ++ [(weave.val, cap, late)] } }))) ∧
  (∀ (shuttle : Fin 64) (cycles : Nat) (s : State), ∀ t, tget s.cluster.shuttles shuttle = some t →
    let v := spend [(shuttle.val, cycles)] s
    let u : State := { v with cluster := { v.cluster with shuttles := tdel v.cluster.shuttles shuttle } }
    exec (.taskComplete shuttle cycles) s = .next (dispatch (smod t.weave t.cap t.stage (fun x => { x with tasks := x.tasks - 1 })
        u))) ∧
  (∀ (cls : Fin 4) (engine : Fin 4) (s : State), ∀ j, tget s.cluster.engines (cls.val * 4 + engine.val) = some j →
    let u : State := { s with cluster := { s.cluster with engines := tdel s.cluster.engines (cls.val * 4 + engine.val) } }
    exec (.engineJobComplete cls engine) s = .next (dispatch (if j.dead then u else smod j.weave j.cap j.stage (fun x =>
        { x with jobs := x.jobs - 1 }) u))) ∧
  (∀ (weave : Fin 512) (cap stage : Nat) (r : StageResult) (s : State), ∀ x, stageOf s weave cap stage = some x →
    x.complete = true → gridOf s s.sys.ord < deadline s cap stage →
    (stageOver weave cap stage s).cluster.dead.contains (weave.val, cap) = false →
    exec (.stageComplete weave cap stage r) s = .next (yields weave cap stage (stageDone weave cap stage r.facts (stageOver weave
        cap stage s)))) ∧
  (∀ (weave : Fin 512) (cap stage : Nat) (r : StageResult) (s : State), ∀ x, stageOf s weave cap stage = some x →
    x.complete = true → gridOf s s.sys.ord < deadline s cap stage →
    (stageOver weave cap stage s).cluster.dead.contains (weave.val, cap) = true →
    exec (.stageComplete weave cap stage r) s = .next (stageOver weave cap stage s)) ∧
  (∀ (weave : Fin 512) (cap : Nat) (cut : StageCut) (s : State), ∀ x, stageOf s weave cap cut.stage = some x →
    x.complete = false → deadline s cap cut.stage ≤ gridOf s (s.sys.ord + 1) →
    let mine := cut.spent.filter fun y => (tget s.cluster.shuttles y.1).any fun t => t.weave == weave.val && t.cap == cap &&
        t.stage == cut.stage
    exec (.stageDeadline weave cap cut) s = .next (dispatch (missStage x (spend mine s))))

/-- Completion of SOURCE_FAILURE_CLEAR, RUN_AHEAD_RETRY, HOP_VISIT_END, SURVEY_FIELD_MEASURED, SURVEY_DWELL_END, SURVEY_STARVED: where the event finds the state it acts on, exec answers the next state the spec gives. -/
def Obligations.EventsOfFollowingAndSurvey : Prop :=
  (∀ (set : Fin 64) (entry : Fin 4) (s : State),
    exec (.sourceFailureClear set entry) s = .next (srcMod set entry (fun x =>
        if x.failed = true ∧ (conds s x).isEmpty = true ∧ x.condOrd + 1000 ≤ s.sys.ord then { x with failed := false } else x) s)) ∧
  (∀ (set : Fin 64) (entry : Fin 4) (s : State),
    ((followAt s set).any fun f => (f.srcs[entry.val]?).any fun x => x.st == .waiting && !x.onHop && decide (x.tried + 1000 ≤
        s.sys.ord)) = true →
    exec (.runAheadRetry set entry) s = .next (runAhead set entry s)) ∧
  (∀ (set : Fin 64) (s : State),
    exec (.hopVisitEnd set) s = .next (fmod set (fun f => if f.visiting.isSome && !f.stopped && decide (f.visitAt + f.cfg.visit ≤
        s.sys.ord + 1) then { f with visitEnd := some (s.sys.ord + 1) } else f) s)) ∧
  (∀ (dent : Fin 512) (power : Nat) (s : State), ∀ e c, surveyEntry s = some e →
    (s.survey.chans.find? fun c => c.dent == dent.val && c.st == 1) = some c → s.survey.running = true →
    fieldDone s c = true →
    (((dentAt s c.dent).bind fun x => fieldLevel x.warp power).any fun v => (e.thr : Int) ≤ v) = true →
    let t := vsurv (fun v => { v with scanned := v.scanned + 1, cands := v.cands + 1 }) s
    exec (.surveyFieldMeasured dent power) s = .next (chanMod c.freq (fun c => { c with st := 2 }) t)) ∧
  (∀ (dent : Fin 512) (power : Nat) (s : State), ∀ e c, surveyEntry s = some e →
    (s.survey.chans.find? fun c => c.dent == dent.val && c.st == 1) = some c → s.survey.running = true →
    fieldDone s c = true →
    (((dentAt s c.dent).bind fun x => fieldLevel x.warp power).any fun v => (e.thr : Int) ≤ v) = false →
    let t := vsurv (fun v => { v with scanned := v.scanned + 1, cands := v.cands + 0 }) s
    exec (.surveyFieldMeasured dent power) s = .next (chanMod c.freq (fun c => { c with st := 5 }) (surveyDrop (handleOf t 3
        c.dent) false t))) ∧
  (∀ (weave : Fin 512) (s : State), ∀ c, (s.survey.chans.find? fun c => c.weave == weave.val && c.st == 3) = some c →
    s.survey.running = true → ∀ e, surveyEntry s = some e → c.since + e.dwell ≤ s.sys.ord + 1 →
    exec (.surveyDwellEnd weave) s = .next (surveyFound c s)) ∧
  (∀ (s : State), ∀ e, surveyEntry s = some e → s.survey.running = true → s.survey.posDue = none →
    (chanFreq e s.survey.pos s.survey.next).isSome = true → s.survey.made + 10000 ≤ s.sys.ord + 1 →
    let t := (s.survey.chans.filter (·.st != 5)).foldl (fun u c =>
      let u := if c.st = 3 then surveyDrop (handleOf u 4 c.weave) true u else u
      surveyDrop (handleOf u 3 c.dent) false u) s
    exec .surveyStarved s = .next (entryOver 5 t))

/-- Completion of TDM_FRAME, TDM_CLOCK_LOST, TDM_CLOCK_RETURN, TDM_RATE_OK, ETH_LINK_CHANGE, ETH_FRAME_RECEIVE, ARP_REFRESH: where the event finds the state it acts on, exec answers the next state the spec gives. -/
def Obligations.EventsOfTdmAndEthernet : Prop :=
  (∀ (port : Fin 8) (periods : Nat) (rate : Int) (due : Nat) (lines : FrameLines) (s : State),
    let slips := (clocked s port.val).map fun k => (k, if (tdmAt s k).st = .running ∧ (tdmAt s k).cfg.dir = 1 then slipFor s k due
        else 0)
    let g := ((slips.find? fun x => carries s x.1 && x.2 != 0).map (·.2)).getD 0
    let t := slips.foldl (fun (a : List Handle × State) x =>
      let y := frameOn periods rate due lines.missing lines.bits x.2 x.1 a.2
      (a.1 ++ y.1, y.2)) ([], groupSlip port.val g s)
    exec (.tdmFrame port periods rate due lines) s = .next (if t.1.isEmpty then t.2 else underrun (t.1.map fun h => (h, [0]))
        t.2)) ∧
  (∀ (port : Fin 8) (s : State),
    exec (.tdmClockLost port) s = .next ((clocked s port.val).foldl (fun s k =>
        if (tdmAt s k).st = .syncing ∨ (tdmAt s k).st = .running ∨ (tdmAt s k).st = .rateFault then tdmGo k .clockLost 2 s else s)
            s)) ∧
  (∀ (port : Fin 8) (s : State),
    exec (.tdmClockReturn port) s = .next ((clocked s port.val).foldl (fun s k =>
        if (tdmAt s k).st = .clockLost then tmodT k (fun p => { p with st := .syncing, good := 0 }) s else s) s)) ∧
  (∀ (port : Fin 8) (rate : Int) (s : State),
    exec (.tdmRateOk port rate) s = .next ((clocked s port.val).foldl (fun s k =>
        if (tdmAt s k).st = .rateFault then tdmGo k .running 4 (tmodT k (fun p => { p with rate := some rate }) s) else s) s)) ∧
  (∀ (port : Fin 2) (s : State), domOn s 9 = true → bit (ethPort s port.val).cfg.flags 0 = true →
    exec (.ethLinkChange port false) s = .next (setLink port.val 0 s)) ∧
  (∀ (port : Fin 2) (s : State), domOn s 9 = true → bit (ethPort s port.val).cfg.flags 0 = true →
    let t := setLink port.val (if bit (ethPort s port.val).cfg.flags 1 then 2 else 1) s
    exec (.ethLinkChange port true) s = .next (resetIfSent ((t.proto.udp.map (·.1)).foldl (fun s k => udpSend k s) t))) ∧
  (∀ (port : Fin 2) (a : IpAddr) (s : State), ethUp s port.val = true →
    exec (.ethFrameReceive port (.resolved a)) s = .next (setResolved port.val a true s)) ∧
  (∀ (port : Fin 2) (s : State), ethUp s port.val = true →
    exec (.ethFrameReceive port .other) s = .next (epmod port.val (fun e => { e with ignored := e.ignored + 1 }) s)) ∧
  (∀ (port : Fin 2) (f : EthFrame) (s : State), (f = .ptp ∨ f = .echo) → exec (.ethFrameReceive port f) s = .next s) ∧
  (∀ (failed : List (Nat × IpAddr)) (s : State),
    exec (.arpRefresh failed) s = .next ((ethStreams s).foldl (fun s x =>
        if multicast (ethDest x.2.req) then s
        else emod x.1 (fun e =>
            { e with unres := [0, 1].map fun p => bit e.req.ports p && (!ethUp s p || failed.contains (p, ethDest x.2.req)) }) s)
            s))

/-- Completion of PB_BUS_FREE, PB_TRANSFER_DONE, PB_ARB_LOST, PB_ARB_LOST_COND, PB_STRETCH_TIMEOUT, PB_BUS_RELEASED, PB_SCL_STUCK, PB_SDA_STUCK, PB_RECOVERY_DONE, PB_SDA_RETRY, PB_TRANSFER_TIMEOUT, PB_BOTH_LINES_HIGH: where the event finds the state it acts on, exec answers the next state the spec gives. -/
def Obligations.EventsOfPeripheralBus : Prop :=
  (∀ (s : State), pbServed s = true → s.pb.state = .waitFree → ∀ x l, s.pb.queue = x :: l →
    (shadowed s = false ∨ readForm x.req = true) → exec .pbBusFree s = .next (pbmod (fun b => { b with state := .busy }) s)) ∧
  (∀ (s : State), pbServed s = true → s.pb.state = .waitFree → ∀ x l, s.pb.queue = x :: l → shadowed s = true →
    readForm x.req = false → exec .pbBusFree s = .next (pbRest (pbEnd x .conflict [] s))) ∧
  (∀ (r : PbDone) (s : State), s.pb.state = .busy → ∀ x l, s.pb.queue = x :: l →
    let p := periphAt s x.req.periph
    let k := pbResult p x.req r
    let t := pbmod (fun b => { b with nacks := b.nacks + flag (k == 1 || k == 2), wire := pbWire p x.req r }) s
    exec (.pbTransferDone r) s = .next (pbLate (pbRest (pbEnd x .ok (pbReply t x r) t)))) ∧
  (∀ (s : State), s.pb.state = .busy → ∀ x l, s.pb.queue = x :: l → x.late = false →
    exec .pbArbLost s = .next (drawn (pbmod (fun b =>
        { b with arb := b.arb + 1, state := .waitFree, queue := { x with retries := x.retries + 1 } :: l, backoff := (draw s).toNat % 1001 }) s))) ∧
  (∀ (s : State), s.pb.state = .busy → ∀ x l, s.pb.queue = x :: l → x.late = true →
    exec .pbArbLost s = .next (pbRest (pbLate (drawn (pbmod (fun b =>
        { b with arb := b.arb + 1, state := .waitFree, queue := { x with retries := x.retries + 1 } :: l, backoff := (draw s).toNat % 1001 }) s))))) ∧
  (∀ (s : State), s.pb.state = .busy →
    exec .pbArbLostCond s = .next (pbLate (pbRest (pbFault s.pb.queue.head? 1 (pbAbort .busError .idle (pbmod (fun b =>
        { b with arbCond := b.arbCond + 1 }) s)))))) ∧
  (∀ (s : State), s.pb.state = .busy →
    exec .pbStretchTimeout s = .next (pbFault s.pb.queue.head? 4 (pbAbort .busError .reset (pbmod (fun b =>
        { b with stretches := b.stretches + 1 }) s)))) ∧
  (∀ (s : State), (s.pb.state = .reset ∨ s.pb.state = .sclStuck) →
    exec (.pbBusReleased true) s = .next (pbmod (fun b => { b with state := .recovering }) s)) ∧
  (∀ (s : State), s.pb.state = .reset → exec (.pbBusReleased false) s = .next (pbLate (pbRest s))) ∧
  (∀ (s : State), s.pb.state = .sclStuck →
    exec (.pbBusReleased false) s = .next (pbLate (pbRest (pbFault none 6 (pbmod (fun b =>
        { b with state := .idle, recovered := b.recovered + 1 }) s))))) ∧
  (∀ (s : State), pbServed s = true → s.pb.state = .busy → ∀ x l, s.pb.queue = x :: l →
    let t := pbmod (fun b => { b with sclStucks := b.sclStucks + 1, resetLow := !shadowed s }) s
    exec .pbSclStuck s = .next (pbFault (some x) 2 (pbAbort .busError .sclStuck t))) ∧
  (∀ (s : State), pbServed s = true → s.pb.state ≠ .sclStuck → s.pb.state ≠ .busy →
    let t := pbmod (fun b => { b with sclStucks := b.sclStucks + 1, resetLow := !shadowed s }) s
    exec .pbSclStuck s = .next (pbFault none 2 (pbmod (fun b => { b with state := .sclStuck }) t))) ∧
  (∀ (s : State), (s.pb.state = .idle ∨ s.pb.state = .waitFree) →
    exec .pbSdaStuck s = .next (pbFault none 3 (pbmod (fun b =>
        { b with state := .recovering, sdaStucks := b.sdaStucks + 1, stuckRep := false }) s))) ∧
  (∀ (s : State), s.pb.state = .recovering → shadowed s = false →
    exec (.pbRecoveryDone true) s = .next (pbLate (pbRest (pbFault none 6 (pbmod (fun b =>
        { b with state := .idle, recovered := b.recovered + 1, stuckRep := false }) s))))) ∧
  (∀ (s : State), s.pb.state = .recovering → shadowed s = false →
    let t := pbmod (fun b => { b with state := .sdaStuck, sdaStucks := b.sdaStucks + 1, stuckRep := true, resetLow := true }) s
    exec (.pbRecoveryDone false) s = .next (if s.pb.stuckRep then t else pbFault none 5 t)) ∧
  (∀ (s : State), s.pb.state = .sdaStuck → exec .pbSdaRetry s = .next (pbmod (fun b => { b with state := .recovering }) s)) ∧
  (∀ (s : State), ∀ x, s.pb.queue.find? (fun x => !x.late) = some x → s.pb.state = .busy → s.pb.queue.head? = some x →
    exec .pbTransferTimeout s = .next (pbmod (fun b =>
        { b with queue := b.queue.map fun y => if y = x then { y with late := true } else y }) s)) ∧
  (∀ (s : State), ∀ x, s.pb.queue.find? (fun x => !x.late) = some x → (s.pb.state ≠ .busy ∨ s.pb.queue.head? ≠ some x) →
    let t := pbEnd x .timeout [] s
    exec .pbTransferTimeout s = .next (if t.pb.state = .waitFree then pbRest t else t)) ∧
  (∀ (s : State), shadowed s = true → (s.pb.state = .recovering ∨ s.pb.state = .sdaStuck) →
    exec .pbBothLinesHigh s = .next (pbLate (pbRest (pbmod (fun b => { b with state := .idle, stuckRep := false }) s))))

/-- Completion of RTC_TICK, RTC_OSC_STOP, RTC_OSC_RESTART, RTC_TO_BACKUP, RTC_TO_MAIN, BACKUP_COLLAPSE, VBACKUP_MEASURE, D0_POWER_UP, RECORD_WRITE_COMPLETE, SESSION_OPEN_EXPIRY, SESSION_IDLE_TIMEOUT, PROVE_BACKOFF_END: where the event finds the state it acts on, exec answers the next state the spec gives. -/
def Obligations.EventsOfClockRecordsAndSessions : Prop :=
  (∀ (s : State), s.rtc.running = true → s.rtc.powered = true → (s.rtc.cycle + 1) % 2 ^ 20 % 8192 ≠ 0 →
    exec .rtcTick s = .next (rmod (fun r => { r with cycle := (s.rtc.cycle + 1) % 2 ^ 20, trimRun := r.trimRun }) (tickOnce s))) ∧
  (∀ (s : State), s.rtc.running = true → s.rtc.powered = true → (s.rtc.cycle + 1) % 2 ^ 20 % 8192 = 0 →
    corrects s.rtc.trimRun (s.rtc.cycle / 8192) = false →
    exec .rtcTick s = .next (rmod (fun r => { r with cycle := (s.rtc.cycle + 1) % 2 ^ 20, trimRun := r.trim }) (tickOnce s))) ∧
  (∀ (s : State), s.rtc.running = true → s.rtc.powered = true → (s.rtc.cycle + 1) % 2 ^ 20 % 8192 = 0 →
    corrects s.rtc.trimRun (s.rtc.cycle / 8192) = true → s.rtc.trimRun < 0 →
    exec .rtcTick s = .next (rmod (fun r => { r with cycle := (s.rtc.cycle + 1) % 2 ^ 20, trimRun := r.trim }) (s))) ∧
  (∀ (s : State), s.rtc.running = true → s.rtc.powered = true → (s.rtc.cycle + 1) % 2 ^ 20 % 8192 = 0 →
    corrects s.rtc.trimRun (s.rtc.cycle / 8192) = true → 0 ≤ s.rtc.trimRun →
    exec .rtcTick s = .next (rmod (fun r => { r with cycle := (s.rtc.cycle + 1) % 2 ^ 20, trimRun := r.trim }) (tickOnce (tickOnce
        s)))) ∧
  (∀ (s : State), s.rtc.running = true →
    let t := rmod (fun r => { r with running := false, osf := true }) s
    exec .rtcOscStop s = .next (if s.rtc.osf then t else ev 0x0D02 (supplyBody t 5 0 (now t)) t)) ∧
  (∀ (s : State), exec .rtcOscRestart s = .next (rmod (fun r => { r with running := r.powered }) s)) ∧
  (∀ (s : State), s.rtc.onBackup = false → s.rtc.powered = true →
    let t := rmod (fun r => { r with onBackup := true, epStart := r.count.toNat }) s
    exec .rtcToBackup s = .next (ev 0x0D02 (supplyBody t 1 0 (now t)) t)) ∧
  (∀ (s : State), s.rtc.onBackup = true →
    let d := (s.rtc.count.toNat + 2 ^ 56 - s.rtc.epStart) % 2 ^ 56 / 32768
    let t := rmod (fun r =>
        { r with onBackup := false, episodes := r.episodes + 1, lastDur := d, lastRet := r.count.toNat, epDown := r.epDown || !running s }) s
    exec .rtcToMain s = .next (ev 0x0D02 (supplyBody t 2 d (now t)) t)) ∧
  (∀ (s : State), s.rtc.onBackup = true →
    exec .backupCollapse s = .next (rmod (fun r => { r.cleared with powered := false, running := false }) s)) ∧
  (∀ (mv : Nat) (s : State), running s = true →
    let v := if mv < 2000 then 0 else mv
    let under := v < s.rtc.lowThr
    let raise := under && s.rtc.lowPrev && !s.rtc.low
    let clear := s.rtc.low && s.rtc.lowThr + 100 ≤ v
    let t := rmod (fun r => { r with vbackup := v, lowPrev := under, low := (r.low || raise) && !clear }) s
    exec (.vbackupMeasure mv) s = .next (if raise then ev 0x0D02 (supplyBody t 3 0 (now t)) t else if clear then ev 0x0D02
        (supplyBody t 4 0 (now t)) t else t)) ∧
  (∀ (s : State), s.rtc.powered = false →
    exec .d0PowerUp s = .next (rmod (fun r => { r.cleared with onBackup := !s.sys.vmainGood }) s)) ∧
  (∀ (s : State), ∀ j l k, s.recs.jobs = j :: l → j.target = some k → j.cmd = none →
    exec (.recordWriteComplete true) s = .next (nextWrite (writeGood j k s))) ∧
  (∀ (s : State), ∀ j l k, s.recs.jobs = j :: l → j.target = some k → ∀ c, j.cmd = some c →
    let x := writtenEffect c (writeGood j k s)
    exec (.recordWriteComplete true) s = .next (nextWrite (writeAnswer c x.1 x.2))) ∧
  (∀ (s : State), ∀ j l k, s.recs.jobs = j :: l → j.target = some k → j.second = false →
    exec (.recordWriteComplete false) s = .next (recmod (fun r => { r with jobs := { j with second := true } :: l }) s)) ∧
  (∀ (s : State), ∀ j l k, s.recs.jobs = j :: l → j.target = some k → j.second = true → j.cmd = none →
    exec (.recordWriteComplete false) s = .next (nextWrite (failedEffect j (writeBad j k s)))) ∧
  (∀ (s : State), ∀ j l k, s.recs.jobs = j :: l → j.target = some k → j.second = true → ∀ c, j.cmd = some c →
    exec (.recordWriteComplete false) s = .next (nextWrite (writeAnswer c .timeout (failedEffect j (writeBad j k s))))) ∧
  (∀ (k : Fin 8) (s : State),
    exec (.sessionOpenExpiry k) s = .next (freeWhere (fun j x => j == k.val && !x.proven && spentMs s x.named 10000) s)) ∧
  (∀ (k : Fin 8) (s : State),
    exec (.sessionIdleTimeout k) s = .next (freeWhere (fun j x => j == k.val && x.proven && spentMs s x.named 900000) s)) ∧
  (∀ (s : State), spentMs s s.auth.failedAt (backoffMs s) = true →
    exec .proveBackoffEnd s = .next (authmod (fun a => { a with waiting := false }) s))

/-- Completion of PL_FRAME_RECEIVE, PL_LINK_CHANGE, HEARTBEAT_MISS, OWN_HW_RELEASE, OWN_RELEASE, FAILOVER_TDM_DRIVE, JOIN_WAIT_END, MIRROR_JOIN, MIRROR_SYNCED, MIRROR_UNSYNCED, ALIGN_FAULT: where the event finds the state it acts on, exec answers the next state the spec gives. -/
def Obligations.EventsOfPairLink : Prop :=
  (∀ (f : PlFrame) (s : State), s.pair.link = true → domOn s 2 = true → s.pair.st = .unpaired →
    let d := mapDiffers (mapBytes f.valid) ((s.pair.own.drop 24).take 64)
    let shadow := s.pair.st = .syncing ∨ s.pair.st = .synced
    let same := f.pick == s.tb.pick
    let t := pairmod (fun p => { p with
      joinRun := if partnersAgree f s && f.label == s.tb.label && same && inI (-1000) f.skew 1000 then p.joinRun + 1 else 0
      skewRun := if inI (-10000) f.skew 10000 then 0 else p.skewRun + 1
      pickDiff := !same && !(p.held.any fun a => a.kind == 7)
      partner := some ⟨f.state, f.serial, f.device, f.mode, f.flags, f.pick, partnersAgree f s, f.label⟩
      skew := some f.skew, delay := f.delay, missRun := 0, ownLow := p.drive || bit f.flags 0, mapDiff := d
      equalRun := if shadow then (if d = 0 then p.equalRun + 1 else 0) else 0
      diffRun := if shadow then (if d = 0 then 0 else p.diffRun + 1) else 0 }) s
    exec (.plFrameReceive f) s = .next (t)) ∧
  (∀ (f : PlFrame) (s : State), s.pair.link = true → domOn s 2 = true → s.pair.st ≠ .unpaired → partnersAgree f s = false →
    let d := mapDiffers (mapBytes f.valid) ((s.pair.own.drop 24).take 64)
    let shadow := s.pair.st = .syncing ∨ s.pair.st = .synced
    let same := f.pick == s.tb.pick
    let t := pairmod (fun p => { p with
      joinRun := if partnersAgree f s && f.label == s.tb.label && same && inI (-1000) f.skew 1000 then p.joinRun + 1 else 0
      skewRun := if inI (-10000) f.skew 10000 then 0 else p.skewRun + 1
      pickDiff := !same && !(p.held.any fun a => a.kind == 7)
      partner := some ⟨f.state, f.serial, f.device, f.mode, f.flags, f.pick, partnersAgree f s, f.label⟩
      skew := some f.skew, delay := f.delay, missRun := 0, ownLow := p.drive || bit f.flags 0, mapDiff := d
      equalRun := if shadow then (if d = 0 then p.equalRun + 1 else 0) else 0
      diffRun := if shadow then (if d = 0 then 0 else p.diffRun + 1) else 0 }) s
    exec (.plFrameReceive f) s = .next (pairMeet t)) ∧
  (∀ (f : PlFrame) (s : State), s.pair.link = true → domOn s 2 = true → s.pair.st = .primary →
    s.pair.handover ≠ some s.sys.ord → partnersAgree f s = true →
    let d := mapDiffers (mapBytes f.valid) ((s.pair.own.drop 24).take 64)
    let shadow := s.pair.st = .syncing ∨ s.pair.st = .synced
    let same := f.pick == s.tb.pick
    let t := pairmod (fun p => { p with
      joinRun := if partnersAgree f s && f.label == s.tb.label && same && inI (-1000) f.skew 1000 then p.joinRun + 1 else 0
      skewRun := if inI (-10000) f.skew 10000 then 0 else p.skewRun + 1
      pickDiff := !same && !(p.held.any fun a => a.kind == 7)
      partner := some ⟨f.state, f.serial, f.device, f.mode, f.flags, f.pick, partnersAgree f s, f.label⟩
      skew := some f.skew, delay := f.delay, missRun := 0, ownLow := p.drive || bit f.flags 0, mapDiff := d
      equalRun := if shadow then (if d = 0 then p.equalRun + 1 else 0) else 0
      diffRun := if shadow then (if d = 0 then 0 else p.diffRun + 1) else 0 }) s
    exec (.plFrameReceive f) s = .next (pairMeet (f.anns.foldl takeRequest t))) ∧
  (∀ (f : PlFrame) (s : State), s.pair.link = true → domOn s 2 = true →
    (s.pair.st = .joining ∨ s.pair.st = .syncing ∨ s.pair.st = .synced) → partnersAgree f s = true →
    let d := mapDiffers (mapBytes f.valid) ((s.pair.own.drop 24).take 64)
    let shadow := s.pair.st = .syncing ∨ s.pair.st = .synced
    let same := f.pick == s.tb.pick
    let t := pairmod (fun p => { p with
      joinRun := if partnersAgree f s && f.label == s.tb.label && same && inI (-1000) f.skew 1000 then p.joinRun + 1 else 0
      skewRun := if inI (-10000) f.skew 10000 then 0 else p.skewRun + 1
      pickDiff := !same && !(p.held.any fun a => a.kind == 7)
      partner := some ⟨f.state, f.serial, f.device, f.mode, f.flags, f.pick, partnersAgree f s, f.label⟩
      skew := some f.skew, delay := f.delay, missRun := 0, ownLow := p.drive || bit f.flags 0, mapDiff := d
      equalRun := if shadow then (if d = 0 then p.equalRun + 1 else 0) else 0
      diffRun := if shadow then (if d = 0 then 0 else p.diffRun + 1) else 0 }) s
    let u := f.anns.foldl (takeAnn f.mode) t
    exec (.plFrameReceive f) s = .next (pairMeet (if bit f.flags 0 then f.config.foldl takeItem u else u))) ∧
  (∀ (up : Bool) (s : State), domOn s 2 = true →
    exec (.plLinkChange up) s = .next (joinAlone (pairmod (fun p =>
        { p with link := up, skew := if up then p.skew else none, mismatch := false, joinRun := 0, skewRun := 0, pickDiff := false }) s))) ∧
  (∀ (s : State), s.pair.st ≠ .unpaired → s.pair.missRun < 2 →
    let t := pairmod (fun p =>
        { p with missRun := p.missRun + 1, misses := p.misses + 1, equalRun := 0, diffRun := 0, joinRun := 0, skewRun := 0 }) s
    exec .heartbeatMiss s = .next (t)) ∧
  (∀ (s : State), s.pair.st = .primary → 2 ≤ s.pair.missRun →
    let t := pairmod (fun p =>
        { p with missRun := p.missRun + 1, misses := p.misses + 1, equalRun := 0, diffRun := 0, joinRun := 0, skewRun := 0 }) s
    exec .heartbeatMiss s = .next (pairGo .solo 2 (pairmod (fun p =>
        { p with out := [], outBytes := 0, snapshot := false, snapOut := [], snapPos := 0, snapEnd := none }) t))) ∧
  (∀ (s : State), (s.pair.st = .syncing ∨ s.pair.st = .synced) → 2 ≤ s.pair.missRun →
    let t := pairmod (fun p =>
        { p with missRun := p.missRun + 1, misses := p.misses + 1, equalRun := 0, diffRun := 0, joinRun := 0, skewRun := 0 }) s
    exec .heartbeatMiss s = .next (if s.pair.ownLow then pairGo .isolated 2 t else t)) ∧
  (∀ (s : State), s.pair.drive = true → 2 ≤ s.sys.missedAck →
    exec .ownHwRelease s = .next (driveTdm false (pairmod (fun p => { p with owner := false, drive := false, ownLow := false })
        s))) ∧
  (∀ (s : State), s.pair.drive = false → s.pair.st ≠ .unpaired → s.pair.handover.isSome = true →
    exec .ownRelease s = .next (pairmod (fun p => { p with ownLow := false }) s)) ∧
  (∀ (s : State), s.pair.drive = false → s.pair.handover = none → s.pair.st = .joining →
    exec .ownRelease s = .next (pairmod (fun p => { p with ownLow := false }) s)) ∧
  (∀ (s : State), s.pair.drive = false → s.pair.handover = none → s.pair.st ≠ .unpaired → s.pair.st ≠ .joining →
    s.sys.mode = .mirror →
    exec .ownRelease s = .next (pairmod (fun p =>
        { p with drive := true, ownLow := true, takeDue := some (s.sys.ord + 1), takeIso := s.pair.st == .isolated, fastTake := 0 }) s)) ∧
  (∀ (s : State), s.pair.drive = false → s.pair.handover = none → s.pair.st = .isolated → s.sys.mode ≠ .mirror →
    exec .ownRelease s = .next (pairGoFree .solo (beOwner s))) ∧
  (∀ (ns : Nat) (s : State), s.pair.takeDue.isSome = true →
    exec (.failoverTdmDrive ns) s = .next (pairmod (fun p => { p with fastTake := if p.fastTake = 0 then ns else p.fastTake })
        { s with tdm := s.tdm.map fun p => if p.cfg.dir = 1 then { p with driving := true } else p })) ∧
  (∀ (ownHeld : Bool) (s : State), s.pair.st = .joining → joinOver s = true →
    exec (.joinWaitEnd ownHeld) s = .next (joinAlone (pairmod (fun p => { p with join := none, ownLow := ownHeld }) s))) ∧
  (∀ (s : State), joinable s = true → 1000 ≤ s.pair.joinRun → s.pair.st = .joining → partnerOwns s = true →
    exec .mirrorJoin s = .next (pairmod (fun p => { p with ready := true, fault := false }) s)) ∧
  (∀ (s : State), joinable s = true → 1000 ≤ s.pair.joinRun → (s.pair.st = .syncing ∨ s.pair.st = .synced) →
    exec .mirrorJoin s = .next (pairmod (fun p => { p with fault := false }) s)) ∧
  (∀ (s : State), joinable s = true → 1000 ≤ s.pair.joinRun → s.pair.st = .primary →
    let t := if s.pair.fault then snapBegin (pairmod (fun p => { p with fault := false }) s) else s
    exec .mirrorJoin s = .next (if t.pair.partner.any fun q => q.state == 1 then
        announce 9 nullHandle (pickAt t (t.sys.ord + 2)) (byte 7 ++ leBytes 2 t.sys.domains.toNat ++ zeros 1) t
      else t)) ∧
  (∀ (s : State), s.pair.st = .syncing → 1000 ≤ s.pair.equalRun → exec .mirrorSynced s = .next (pairGo .synced 3 s)) ∧
  (∀ (s : State), s.pair.st = .synced → 100 ≤ s.pair.diffRun → exec .mirrorUnsynced s = .next (pairGo .syncing 4 s)) ∧
  (∀ (s : State), (s.pair.pickDiff = true ∨ 1000 ≤ s.pair.skewRun) → (s.pair.st = .primary ∨ s.pair.st = .syncing) →
    exec .alignFault s = .next (pairmod (fun p => { p with fault := true, equalRun := 0, pickDiff := false, skewRun := 0 }) s)) ∧
  (∀ (s : State), (s.pair.pickDiff = true ∨ 1000 ≤ s.pair.skewRun) → s.pair.st = .synced →
    exec .alignFault s = .next (pairGo .syncing 5 (pairmod (fun p =>
        { p with fault := true, equalRun := 0, pickDiff := false, skewRun := 0 }) s)))

/-- CRC-32C as R445 has it, against the definition with reflected input and output. -/
def Obligations.ChecksumIsCastagnoli : Prop :=
  (∀ b : List Byte, crc32c b = ~~~ ((b.foldl (fun (c : BitVec 32) x =>
      (List.range 8).foldl (fun c _ => if c.msb then (c <<< 1) ^^^ 0x1EDC6F41#32 else c <<< 1) (c ^^^ ((x.reverse.setWidth 32 : BitVec 32) <<< (24 : Nat))))
      0xFFFFFFFF#32).reverse)) ∧
  crc32c [0x31#8, 0x32#8, 0x33#8, 0x34#8, 0x35#8, 0x36#8, 0x37#8, 0x38#8, 0x39#8] = 0xE3069283#32 ∧
  (∀ b : List Byte, withCrc b = b ++ (List.range 4).map fun k => (crc32c b >>> (8 * k)).setWidth 8)

/-- Little-endian fields (R7) and saturated counters (R475). -/
def Obligations.FieldsAreLittleEndian : Prop :=
  (∀ n v : Nat, (leBytes n v).length = n ∧ ofLe (leBytes n v) = v % 256 ^ n ∧
    ∀ k, k < n → (leBytes n v)[k]? = some (BitVec.ofNat 8 (v / 256 ^ k))) ∧
  (∀ (n : Nat) (z : Int), 0 < n → -(256 ^ n : Int) ≤ 2 * z → 2 * z < 256 ^ n → ofLeSigned (leSigned n z) = z) ∧
  (∀ n v : Nat, ofLe (leCount n v) = min v (256 ^ n - 1))

/-- The handle layout of R13 and the generation of an index that is issued again. -/
def Obligations.HandleLayout : Prop :=
  (∀ c i g : Nat, c < 256 → i < 65536 → g < 256 → hClass (mkHandle c i g) = c ∧ hIndex (mkHandle c i g) = i ∧ hGen (mkHandle c i g) = g) ∧
  (∀ h : Handle, hClass h = (h.extractLsb' 24 8).toNat ∧ hIndex h = (h.extractLsb' 8 16).toNat ∧ hGen h = (h.extractLsb' 0 8).toNat ∧
    mkHandle (hClass h) (hIndex h) (hGen h) = h) ∧
  (∀ (s : State) (c i g : Nat), nextIndex s c = some (i, g) → (tget s.reg.fresh c).getD 0 < classSize c → g = 1) ∧
  (∀ (s : State) (c : Nat) (x : Nat × Nat × Nat), ¬ (tget s.reg.fresh c).getD 0 < classSize c →
    (s.reg.freed.find? fun x => x.1 == c) = some x → nextIndex s c = some (x.2.1, if x.2.2 = 255 then 1 else x.2.2 + 1))

/-- The refusals of R14, in the states whose registry is sound. -/
def Obligations.BadHandlesAreRefused : Prop :=
  ∀ (s : State) (h : Handle) (c : Nat), (∀ o ∈ s.reg.objs, 1 ≤ o.gen ∧ o.gen < 256 ∧ o.idx < classSize o.cls) →
    (hGen h = 0 ∨ classSize (hClass h) = 0 ∨ classSize (hClass h) ≤ hIndex h ∨ hClass h ≠ c ∨ h = nullHandle ∨
      ∀ o ∈ s.reg.objs, o.cls = hClass h → o.idx = hIndex h → o.gen ≠ hGen h) →
    objIs s h c = .error .badHandle

/-- The premise of BadHandlesAreRefused is kept by the operations that issue and release objects. -/
def Obligations.RegistryStaysSound : Prop :=
  let sound : State → Prop := fun s =>
    (∀ o ∈ s.reg.objs, 1 ≤ o.gen ∧ o.gen < 256 ∧ o.idx < classSize o.cls ∧ o.cls < 256) ∧
    (∀ x ∈ s.reg.freed, 1 ≤ x.2.2 ∧ x.2.2 < 256 ∧ x.2.1 < classSize x.1)
  (∀ (s t : State) (c due : Nat) (st : OState) (a b : List Handle) (h : Handle), c < 256 → sound s → s.pair.applying = none →
    issue c st a b due s = some (h, t) → sound t) ∧
  (∀ (s : State) (h : Handle), sound s → sound (unissue h s)) ∧
  (∀ o ∈ fixedObjects, o.gen = 1 ∧ classFixed o.cls = true ∧ o.idx < classSize o.cls)

/-- The holders of rights (R468) and the binding of sessions (R448, R552). -/
def Obligations.RightsTable : Prop :=
  (∀ (r : Right) (h : Hdr) (s : State), rightOk r h s = true ↔
    ((r = .anonymous ∧ (h.sess = 0xFF ∨ (sessOf s h).isSome = true)) ∨
      (h.sess ≠ 0xFF ∧ ∃ x, sessOf s h = some x ∧ x.proven = true ∧ r.heldBy x.role = true))) ∧
  (∀ (s : State) (h : Hdr) (x : Sess), sessOf s h = some x ↔ (tget s.auth.sess h.sess = some x ∧ x.via = h.via)) ∧
  (∀ n : Nat, (Right.heldBy .operator n = true ↔ n = 1 ∨ n = 2) ∧ (Right.heldBy .installer n = true ↔ n = 2) ∧
    (Right.heldBy .maker n = true ↔ n = 3) ∧ (Right.heldBy .keys n = true ↔ n = 2 ∨ n = 3) ∧ Right.heldBy .session n = true)

/-- Check 5 of R447 over all host commands. -/
def Obligations.NoRightIsRefused : Prop :=
  ∀ (i : Instr) (h : Hdr) (r : Right) (k : Key) (s : State), hdrOf i = some h → opRow (opOf i) = some (r, k) → s.sys.mode ≠ .backup →
    ¬ (s.pair.applying.isSome = true ∧ h.via = .self) → rightOk r h s = false →
    (opOf i = 0x0105 ∨ opOf i = 0x0E14 → s.sys.resetReq = none) → ∃ obj, exec i s = .next (answer (opOf i) r h obj .noRight [] s)

/-- Check 6 of R447 over all host commands. -/
def Obligations.WrongModeIsRefused : Prop :=
  ∀ (i : Instr) (h : Hdr) (r : Right) (k : Key) (c : Status) (s : State), hdrOf i = some h → opRow (opOf i) = some (r, k) →
    s.sys.mode ≠ .backup → ¬ (s.pair.applying.isSome = true ∧ h.via = .self) → rightOk r h s = true → k.refuses s.sys.mode = some c →
    (opOf i = 0x0105 ∨ opOf i = 0x0E14 → s.sys.resetReq = none) → ∃ obj, exec i s = .next (answer (opOf i) r h obj c [] (sessNamed h s))

/-- No transport is served in BACKUP (R465, R469). -/
def Obligations.BackupServesNoCommand : Prop :=
  ∀ (i : Instr) (h : Hdr) (s : State), hdrOf i = some h → s.sys.mode = .backup →
    (opOf i = 0x0105 ∨ opOf i = 0x0E14 → s.sys.resetReq = none) → exec i s = .next s

/-- The first check that fails decides, and the command has no effect (R447). -/
def Obligations.RefusalsHaveNoEffect : Prop :=
  (∀ (i : Instr) (r : Right) (k : Key) (h : Hdr) (obj : Handle) (body : State → Ans) (s t : State) (c : Status),
    admits i s = true → hdrOf i = some h → opRow (opOf i) = some (r, k) → body (sessNamed h s) = .fail c →
    serve i (opOf i) r k h obj body s = .next t →
    { t with proto := s.proto, mb := s.mb, eth := s.eth, auth := s.auth, audit := s.audit } = s ∧ t.proto.events = s.proto.events ∧
      (∀ k, (tget t.auth.sess k).isSome = (tget s.auth.sess k).isSome) ∧ t.proto.queue = s.proto.queue) ∧
  (∀ (op : Nat) (r : Right) (h : Hdr) (obj : Handle) (c : Status) (p : List Byte) (s : State), c.good = false →
    answer op r h obj c p s = answer op r h obj c [] s)

/-- The algorithm of R460 and the body of EV_QUEUE_OVERFLOW. -/
def Obligations.EventQueueRule : Prop :=
  (∀ (code : Nat) (body : List Byte) (s : State), running s = true →
    (s.proto.events.length ≥ 1023 → (s.proto.events.getLast?.map (·.code)) = some 0x0102 →
      (∀ l e, s.proto.events = l ++ [e] → (ev code body s).proto.events = l ++ [⟨e.seq, e.code,
        leCount 4 (ofLe (e.body.take 4) + 1) ++ zeros 4 ++ leBytes 8 (ofLe ((e.body.drop 8).take 8)) ++ leBytes 8 (now s)⟩])) ∧
    (s.proto.events.length = 1023 → (s.proto.events.getLast?.map (·.code)) ≠ some 0x0102 → (ev code body s).proto.events = s.proto.events ++
      [⟨s.proto.nextSeq, 0x0102, leBytes 4 1 ++ zeros 4 ++ leBytes 8 (now s) ++ leBytes 8 (now s)⟩]) ∧
    (s.proto.events.length ≠ 1023 → (s.proto.events.length < 1023 ∨ (s.proto.events.getLast?.map (·.code)) ≠ some 0x0102) →
      (ev code body s).proto.events = s.proto.events ++ [⟨s.proto.nextSeq, code, body⟩])) ∧
  (∀ n a b : Nat, n < 2 ^ 32 → a < 2 ^ 64 → b < 2 ^ 64 → (overflowBody n a b).length = 24 ∧ ofLe ((overflowBody n a b).take 4) = n ∧
    ((overflowBody n a b).drop 4).take 4 = zeros 4 ∧ ofLe (((overflowBody n a b).drop 8).take 8) = a ∧
    ofLe ((overflowBody n a b).drop 16) = b)

/-- The sequence numbers of R459. -/
def Obligations.EventNumbers : Prop :=
  State.reset.proto.nextSeq = 1 ∧
  (∀ (s t : State) (k : Nat), s.fw.chosen = some k → s.sys.mode = .loading → started s = false → exec .firmwareStart s = .next t →
    t.proto.nextSeq = 1 ∧ t.proto.events = []) ∧
  (∀ n, seqNext n ≠ 0 ∧ seqNext 0xFFFFFFFF = 1 ∧ (n ≠ 0xFFFFFFFF → seqNext n = n + 1)) ∧
  (∀ (code : Nat) (body : List Byte) (s : State), running s = true → s.proto.events.length ≥ 1023 →
    (s.proto.events.getLast?.map (·.code)) = some 0x0102 → (ev code body s).proto.nextSeq = s.proto.nextSeq) ∧
  (let good : State → Prop := fun s =>
      (∀ k a b, s.proto.events[k]? = some a → s.proto.events[k + 1]? = some b → b.seq = seqNext a.seq) ∧
      (∀ a, s.proto.events.getLast? = some a → s.proto.nextSeq = seqNext a.seq ∧ s.proto.newestSeq = a.seq)
    ∀ (code : Nat) (body : List Byte) (s : State), good s → good (ev code body s)) ∧
  (∀ a s : Nat, a < 2 ^ 32 → s < 2 ^ 32 → (seqLe s a = true ↔ ((a : Int) - s) % 2 ^ 32 < 2 ^ 31))

/-- The interrupt line of R452; the 2 µs of the rule are outside the model. -/
def Obligations.InterruptLine : Prop :=
  (∀ s : State, irqLow s = true ↔
    ((s.proto.spi.reply.isSome = true ∧ s.proto.spi.delivered = false) ∨ (s.proto.events ≠ [] ∧ bit s.proto.notify.mask 0 = true))) ∧
  (∀ (s t : State) (n : Nat) (b : List Byte), s.sys.mode ≠ .backup → s.sys.resetReq = none → slotBytesOut s.proto.spi s = (b, true) →
    b.length ≤ n → (s.proto.events = [] ∨ bit s.proto.notify.mask 0 = false) → exec (.spiRead n) s = .next t → irqLow t = false)

/-- The SMBus packet error code (R511). -/
def Obligations.ManagementBusCheckByte : Prop :=
  pec [0x31#8, 0x32#8, 0x33#8, 0x34#8, 0x35#8, 0x36#8, 0x37#8, 0x38#8, 0x39#8] = 0xF4#8 ∧
  (∀ (s : State) (code : Nat) (body : List Byte) (check : Option Byte) (extra : Bool), pecOk s code body check extra = true ↔
    (extra = false ∧ (check = some (pec (mbAddr s false ++ byte code ++ body)) ∨ (check = none ∧ s.mb.pecReq = false)))) ∧
  (∀ s : State, (pecFail s).mb = { s.mb with pecErr := true, pecFails := s.mb.pecFails + 1 } ∧ { pecFail s with mb := s.mb } = s) ∧
  (∀ (code : Nat) (d : List Byte) (s : State),
    (offer code d s).mb = { s.mb with out := d ++ [pec (mbAddr s false ++ byte code ++ mbAddr s true ++ d)] } ∧
    { offer code d s with mb := s.mb } = s)

/-- The resolution of a target pick (R37) and the position a reply carries (R473). -/
def Obligations.TargetPicks : Prop :=
  (∀ s : State, s.pair.applying = none → dueOf s 0 = some (s.sys.ord + 2) ∧ pickAt s (s.sys.ord + 2) = s.tb.pick + 2) ∧
  (∀ (s : State) (t : Nat), s.pair.applying = none → t ≠ 0 →
    (dueOf s t = none ↔ t < s.tb.pick + 2 ∨ s.tb.pick + 60000 < t) ∧ ∀ due, dueOf s t = some due → pickAt s due = t ∧ s.sys.ord + 2 ≤ due) ∧
  (∀ (s : State) (due sample : Nat), due < 2 ^ 32 → pickAt s due < 2 ^ 64 → sample < 65536 →
    ofLe ((posReply s due sample).take 8) = pickAt s due ∧ ofLe ((posReply s due sample).drop 8) = sample)

/-- The pending changes of R38. -/
def Obligations.OnePendingChangeOfAKind : Prop :=
  ∀ (p : Pend) (s : State),
    ((sched p s).sched.filter fun q => q.obj == p.obj && q.kind == p.kind) = [stamped p s] ∧
    ((sched p s).sched.filter fun q => !(q.obj == p.obj && q.kind == p.kind)) = (s.sched.filter fun q => !(q.obj == p.obj && q.kind == p.kind)) ∧
    ((pendOf s p.obj p.kind).isNone = true → (sched p s).reg = s.reg) ∧
    ((pendOf s p.obj p.kind).isSome = true → (sched p s).reg.objs =
      s.reg.objs.map fun o => if o.handle = p.obj then { o with repl := o.repl + 1 } else o) ∧
    { sched p s with sched := s.sched, reg := s.reg } = s

/-- The wiring between the power domains (R23) and the refusal of a switch that breaks it. -/
def Obligations.DomainWiring : Prop :=
  (∀ v : BitVec 10, domainsOk v = true ↔
    ((v.getLsbD 2 = true → v.getLsbD 1 = true) ∧ (v.getLsbD 3 = true → v.getLsbD 2 = true) ∧ (v.getLsbD 4 = true → v.getLsbD 2 = true) ∧
     (v.getLsbD 5 = true → v.getLsbD 2 = true) ∧ (v.getLsbD 6 = true → v.getLsbD 2 = true) ∧ (v.getLsbD 7 = true → v.getLsbD 2 = true) ∧
     (v.getLsbD 9 = true → v.getLsbD 2 = true) ∧ (v.getLsbD 8 = true → v.getLsbD 2 = true ∧ v.getLsbD 9 = true))) ∧
  (∀ (h : Hdr) (on off target due : Nat) (a b : BitVec 10) (s₀ : State), let s := sessNamed h s₀
    admits (.sysDomainSet h on off target) s₀ = true →
    (on % 4 == 0 && on < 1024 && off % 4 == 0 && off < 1024 && on &&& off == 0 && (on != 0 || off != 0)) = true → dueOf s target = some due →
    switched s on off = (a, b) → domainsOk ((s.sys.domains ||| a) &&& ~~~ b) = false →
    exec (.sysDomainSet h on off target) s₀ = .next (answer 0x0104 .installer h nullHandle .conflict [] s))

/-- The keys of ROLEKEYS cannot be read (R573, R575). -/
def Obligations.KeysAreNeverRead : Prop :=
  (∀ (b : List Byte) (k : Nat), k < b.length → k < 108 → 4 ≤ k % 36 → (hideKeys b)[k]? = some 0#8) ∧
  (∀ (b : List Byte) (k : Nat), (108 ≤ k ∨ k % 36 < 4) → (hideKeys b)[k]? = b[k]?) ∧
  (∀ a b : List Byte, a.length = b.length → (∀ k, (108 ≤ k ∨ k % 36 < 4) → a[k]? = b[k]?) → hideKeys a = hideKeys b) ∧
  (∀ (h : Hdr) (rec : Handle) (copy len offset : Nat) (s₀ : State), let s := sessNamed h s₀
    recIs s rec = .ok 3 → copy ≤ 1 → offset + len ≤ copyArea 3 →
    Serves (.recordRead h rec copy len offset) rec s₀ .ok
      (copyHeader ((recAt s 3).copy copy) ++ ((hideKeys (copyBytes s 3 ((recAt s 3).copy copy))).drop offset).take len)
      (drawnBy (copyRest 3 ((recAt s 3).copy copy)) s))

/-- SESSION_PROVE (R553, R554) in both outcomes. -/
def Obligations.ProofOpensSession : Prop :=
  ∀ (h : Hdr) (sess : Handle) (proof : List Byte) (o : Obj) (x : Sess) (s₀ t : State), let s := sessNamed h s₀
    let fresh : Prop := domOn s 2 = false ∨ x.named = 0 ∨ s.sys.ord ≤ x.named + 10000
    admits (.sessionProve h sess proof) s₀ = true → proof.length = 32 → objIs s sess 0x0C = .ok o → tget s.auth.sess (hIndex sess) = some x →
    4 ≤ payloadLimit s h.via → exec (.sessionProve h sess proof) s₀ = .next t →
    ((x.proven = false ∧ x.via = h.via ∧ fresh ∧ ∃ k, keyOf s x.role = some k ∧
        proof = hmac k (leBytes 16 x.nonce ++ leBytes 4 s.ident.serial ++ byte x.role)) →
      t.auth = { s.auth with sess := tset s.auth.sess (hIndex sess) { x with proven := true, named := s.sys.ord }, failures := 0, waiting := false }) ∧
    (¬ (x.proven = false ∧ x.via = h.via ∧ fresh ∧ ∃ k, keyOf s x.role = some k ∧
        proof = hmac k (leBytes 16 x.nonce ++ leBytes 4 s.ident.serial ++ byte x.role)) →
      t.auth.waiting = true ∧ t.auth.failures = s.auth.failures + 1 ∧ t.auth.failedAt = (if domOn s 2 then s.sys.ord else 0) ∧
      (x.proven = false ∧ x.via = h.via → t.auth.sess = tdel s.auth.sess (hIndex sess)) ∧
      (¬ (x.proven = false ∧ x.via = h.via) → t.auth.sess = s.auth.sess))

/-- The lifecycle lock (R581). -/
def Obligations.LifecycleLock : Prop :=
  (∀ (h : Hdr) (s₀ : State), let s := sessNamed h s₀
    s.fw.locked = false → Serves (.lifecycleLock h 0x744010CC) nullHandle s₀ .ok [] { s with fw := { s.fw with locked := true } }) ∧
  (∀ s : State, (identFlags s)[3]? = some s.fw.locked) ∧
  (∀ (h : Hdr) (s₀ : State), let s := sessNamed h s₀
    admits (.lifecycleLock h 0x744010CC) s₀ = true → s.fw.locked = true →
    exec (.lifecycleLock h 0x744010CC) s₀ = .next (answer 0x0E16 .maker h nullHandle .conflict [] s)) ∧
  (∀ (h : Hdr) (l : Limits) (s₀ : State), let s := sessNamed h s₀
    admits (.limitsWrite h l) s₀ = true → limitsOk l = true → s.fw.locked = true → inConflict s 4 = false →
    exec (.limitsWrite h l) s₀ = .next (answer 0x0E04 .maker h nullHandle .conflict [] s)) ∧
  (∀ (h : Hdr) (offset total flags : Nat) (data : List Byte) (s₀ : State), let s := sessNamed h s₀
    admits (.trimWrite h offset total flags data) s₀ = true → (inR 4 total 49152 && only flags 1) = true →
    offset = (if offset = 0 then [] else s.recs.trimSeg).length → offset + data.length ≤ total → bit flags 0 = false → s.fw.locked = true →
    exec (.trimWrite h offset total flags data) s₀ = .next (answer 0x0E05 .maker h nullHandle .conflict [] s)) ∧
  (∀ (h : Hdr) (slot : Nat) (key : List Byte) (s₀ : State), let s := sessNamed h s₀
    admits (.fwKeyWrite h slot 0 key) s₀ = true → key.length = 64 → slot ≤ 3 → onCurve key = true → s.fw.locked = true →
    exec (.fwKeyWrite h slot 0 key) s₀ = .next (answer 0x0E15 .maker h nullHandle .conflict [] s))

/-- The spread of the trim corrections (R533). -/
def Obligations.TrimCorrections : Prop :=
  (∀ t : Int, -127 ≤ t → t ≤ 127 → ((List.range 128).filter (corrects t)).length = t.natAbs) ∧
  (∀ (t : Int) (b : Nat), corrects t b = true ↔ b * t.natAbs / 128 < (b + 1) * t.natAbs / 128) ∧
  (∀ (t : Int) (n : Nat), -127 ≤ t → t ≤ 127 → n ≤ 128 → ((List.range n).filter (corrects t)).length = n * t.natAbs / 128)

/-- The weekday counter (R540). -/
def Obligations.WeekdayCounter : Prop :=
  (∀ s : State, (tickOnce s).rtc.count = s.rtc.count + 1 ∧ (tickOnce s).rtc.dayOff = s.rtc.dayOff ∧
    (tickOnce s).rtc.weekday = if (s.rtc.count + 1).toNat % 2831155200 = s.rtc.dayOff then (s.rtc.weekday + 1) % 7 else s.rtc.weekday) ∧
  (∀ (s : State) (kind value : Nat), (applyRtcSet kind value s).rtc.weekday = s.rtc.weekday ∧
    (applyRtcSet kind value s).rtc.dayOff = s.rtc.dayOff ∧ (applyRtcSet kind value s).rtc.osf = false ∧
    (applyRtcSet kind value s).rtc.count = if kind = 0 then BitVec.ofNat 56 value else s.rtc.count + BitVec.ofNat 56 value) ∧
  (∀ (h : Hdr) (weekday offset : Nat) (s₀ : State), let s := sessNamed h s₀
    weekday < 7 → offset < 2831155200 → inConflict s 0 = false →
    Serves (.rtcWeekdaySet h weekday offset) nullHandle s₀ .ok []
      (cfgTouch (roleOf s h) { s with rtc := { s.rtc with weekday := weekday, dayOff := offset } }))

/-- DATE_TO_TICKS and TICKS_TO_DATE are inverse over the calendar of R543 to R545. -/
def Obligations.CalendarRoundTrip : Prop :=
  (∀ t : Nat, t < 8303486592614400 → dateOk (ticksDate t) = true ∧ 1970 ≤ (ticksDate t).year ∧ (ticksDate t).year ≤ 9999 ∧
    (ticksDate t).sub ≤ 32767 ∧ dateTicks (ticksDate t) = t) ∧
  (∀ d : Date, 1970 ≤ d.year → d.year ≤ 9999 → d.sub ≤ 32767 → dateOk d = true →
    dateTicks d < 8303486592614400 ∧ ticksDate (dateTicks d) = d) ∧
  (∀ y : Nat, leap y = true ↔ ((y % 4 = 0 ∧ y % 100 ≠ 0) ∨ y % 400 = 0)) ∧
  ticksDate 0 = ⟨1970, 1, 1, 0, 0, 0, 0⟩ ∧ ticksWeekday 0 = 3

/-- The frame of the reading commands. -/
def Obligations.FrameOfReads : Prop :=
  ∀ (i : Instr) (s t : State), (hdrOf i).isSome = true → readsOnly (opOf i) = true → opOf i ≠ 0x0F01 → opOf i ≠ 0x0F03 → exec i s = .next t →
    { t with proto := s.proto, mb := s.mb, eth := s.eth, auth := s.auth, audit := s.audit, sys := { t.sys with free := s.sys.free } } = s ∧
    t.proto.events = s.proto.events ∧ t.proto.notify = s.proto.notify ∧ t.proto.queue = s.proto.queue ∧ t.proto.nextSeq = s.proto.nextSeq ∧
    t.auth.waiting = s.auth.waiting ∧ ∀ k, (tget t.auth.sess k).isSome = (tget s.auth.sess k).isSome

/-- The frame of the scheduling commands (R37 to R40): a change takes effect at its point of effect and not before. -/
def Obligations.FrameOfScheduling : Prop :=
  ∀ (i : Instr) (s t : State), (hdrOf i).isSome = true → schedulingOps.contains (opOf i) = true → exec i s = .next t →
    { t with proto := s.proto, mb := s.mb, eth := s.eth, auth := s.auth, audit := s.audit, sched := s.sched, reg := s.reg, recs := s.recs, tuners := s.tuners, pair := { t.pair with out := s.pair.out, outBytes := s.pair.outBytes } } = s ∧
    t.proto.events = s.proto.events ∧ t.reg.objs.map (fun o => { o with repl := 0 }) = s.reg.objs.map (fun o => { o with repl := 0 }) ∧
    t.reg.freed = s.reg.freed ∧ t.reg.fresh = s.reg.fresh ∧ t.recs.recs.map (fun r => { r with refusals := 0 }) = s.recs.recs.map (fun r => { r with refusals := 0 }) ∧
    { t.recs with recs := s.recs.recs } = s.recs ∧ (opOf i ≠ 0x1103 → t.tuners = s.tuners) ∧
    t.tuners.map (fun x => { x with waiting := false }) = s.tuners.map (fun x => { x with waiting := false })

/-- The frame of the events of the real-time clock. -/
def Obligations.FrameOfRtcEvents : Prop :=
  ∀ s t : State, (exec .rtcTick s = .next t ∨ exec .rtcOscStop s = .next t ∨ exec .rtcOscRestart s = .next t ∨ exec .rtcToBackup s = .next t ∨
      exec .rtcToMain s = .next t ∨ exec .backupCollapse s = .next t ∨ (∃ mv, exec (.vbackupMeasure mv) s = .next t) ∨ exec .d0PowerUp s = .next t) →
    { t with rtc := s.rtc, proto := s.proto, mb := { t.mb with attn := s.mb.attn }, eth := s.eth } = s ∧ t.proto.spi = s.proto.spi ∧
    t.proto.mb = s.proto.mb ∧ t.proto.udp = s.proto.udp ∧ t.proto.notify = s.proto.notify ∧ t.proto.queue = s.proto.queue

/-- The frame of the feed events. -/
def Obligations.FrameOfFeedEvents : Prop :=
  ∀ (s t : State) (p : Fin 4) (m : FeedMeas),
    (exec (.feedRampComplete p m) s = .next t ∨ exec (.feedOvercurrent p m) s = .next t ∨ exec (.feedFoldRecovered p m) s = .next t ∨
      exec (.feedFoldWindowEnd p m) s = .next t ∨ exec (.feedRetryTimer p m) s = .next t ∨ exec (.feedOvervoltage p m) s = .next t ∨
      exec .vfeedFault s = .next t ∨ exec .vfeedReturn s = .next t ∨ exec (.feedStartStagger p m) s = .next t ∨
      exec (.feedEpisodeClear p) s = .next t ∨ exec (.feedFaultClear p m) s = .next t ∨ exec (.feedOpenDetect p m) s = .next t ∨
      exec (.feedOpenClear p m) s = .next t ∨ exec (.portBackfeedDetect p m) s = .next t ∨ exec (.portBackfeedClear p m) s = .next t) →
    { t with ports := s.ports, proto := s.proto, mb := { t.mb with attn := s.mb.attn }, eth := s.eth } = s ∧ t.proto.spi = s.proto.spi ∧
    t.proto.mb = s.proto.mb ∧ t.proto.udp = s.proto.udp ∧ t.proto.notify = s.proto.notify

/-- The frame of the session timers (R555). -/
def Obligations.FrameOfSessionTimers : Prop :=
  ∀ (s t : State) (k : Fin 8),
    (exec (.sessionOpenExpiry k) s = .next t → { t with auth := s.auth, reg := s.reg } = s ∧
      ∀ j x, (j, x) ∈ s.auth.sess → (j ≠ k.val ∨ ∀ y, (k.val, y) ∈ s.auth.sess → y.proven = true) → (j, x) ∈ t.auth.sess) ∧
    (exec (.sessionIdleTimeout k) s = .next t → { t with auth := s.auth, reg := s.reg } = s ∧
      ∀ j x, (j, x) ∈ s.auth.sess → (j ≠ k.val ∨ ∀ y, (k.val, y) ∈ s.auth.sess → y.proven = false) → (j, x) ∈ t.auth.sess) ∧
    ((exec (.sessionOpenExpiry k) s = .next t ∨ exec (.sessionIdleTimeout k) s = .next t) → ∀ y ∈ t.auth.sess, y ∈ s.auth.sess) ∧
    (exec .proveBackoffEnd s = .next t → t = s ∨ t = { s with auth := { s.auth with waiting := false } })
end

