-- ==== Sys2Proof/Laws/Frames.lean ====
section
/-! SUPPORT. What the shared operations can change, said once: sending, events, the audit log, replies, progress, announcements, the idle
time of a session, and scheduling. Each says which fields a state differs in; the rest is as it was. -/

namespace Sys2Proof.Laws

open Machine

/-- A datagram sent changes the datagrams on the wire and a port's counter. -/
theorem sendUdp_changes (p : Fin 2) (a : IpAddr) (d : Nat) (b : List Byte) (s : State) :
    ∃ u e, sendUdp p a d b s = { s with proto := { s.proto with sentUdp := u }, eth := e } := by
  unfold sendUdp; split
  · exact ⟨_, _, rfl⟩
  · exact ⟨s.proto.sentUdp, s.eth, rfl⟩

/-- An event queued changes the queue and its numbers, the datagrams on the wire, the attention of the management bus and a port's
counter. -/
theorem pushEvent_changes (c : Nat) (b : List Byte) (s : State) :
    ∃ u a e, pushEvent c b s = { s with
      proto := { s.proto with events := s.proto.events ++ [⟨s.proto.nextSeq, c, b⟩], nextSeq := seqNext s.proto.nextSeq
                              newestSeq := s.proto.nextSeq, sentUdp := u }
      mb := { s.mb with attn := a }, eth := e } := by
  have key : ∃ a, (if bit s.proto.notify.mask 1 then { s.mb with attn := true } else s.mb) = { s.mb with attn := a } := by
    split
    · exact ⟨_, rfl⟩
    · exact ⟨s.mb.attn, rfl⟩
  obtain ⟨a, ha⟩ := key
  unfold pushEvent
  dsimp only
  rw [ha]
  split
  · obtain ⟨u, e, h⟩ := sendUdp_changes (if hIndex s.proto.notify.eth = 1 then 1 else 0) (notifyAddr s.proto.notify) s.proto.notify.dport
      (eventBytes ⟨s.proto.nextSeq, c, b⟩) { s with
        proto := { s.proto with events := s.proto.events ++ [⟨s.proto.nextSeq, c, b⟩], nextSeq := seqNext s.proto.nextSeq
                                newestSeq := s.proto.nextSeq }
        mb := { s.mb with attn := a } }
    exact ⟨u, a, e, h⟩
  · exact ⟨s.proto.sentUdp, a, s.eth, rfl⟩

/-- An event changes the queue, its numbers and the count of discards, the datagrams on the wire, the attention of the management bus and a
port's counter. -/
theorem ev_changes (c : Nat) (b : List Byte) (s : State) :
    ∃ l n m d u a e, ev c b s = { s with
      proto := { s.proto with events := l, nextSeq := n, newestSeq := m, discardedEv := d, sentUdp := u }
      mb := { s.mb with attn := a }, eth := e } := by
  unfold ev
  dsimp only
  split
  · exact ⟨s.proto.events, s.proto.nextSeq, s.proto.newestSeq, s.proto.discardedEv, s.proto.sentUdp, s.mb.attn, s.eth, rfl⟩
  · split
    · exact ⟨_, s.proto.nextSeq, s.proto.newestSeq, _, s.proto.sentUdp, s.mb.attn, s.eth, rfl⟩
    · split
      · obtain ⟨u, a, e, h⟩ := pushEvent_changes 0x0102 (overflowBody 1 (now s) (now s))
          { s with proto := { s.proto with discardedEv := s.proto.discardedEv + 1 } }
        exact ⟨_, _, _, _, u, a, e, h⟩
      · obtain ⟨u, a, e, h⟩ := pushEvent_changes c b s
        exact ⟨_, _, _, s.proto.discardedEv, u, a, e, h⟩

/-- A reply sent over UDP changes the UDP slots, the datagrams on the wire and a port's counter. -/
theorem udpSend_changes (k : Nat) (s : State) :
    ∃ l n u e, udpSend k s = { s with proto := { s.proto with udp := l, sentCount := n, sentUdp := u }, eth := e } := by
  have same : ∃ l n u e, s = { s with proto := { s.proto with udp := l, sentCount := n, sentUdp := u }, eth := e } :=
    ⟨s.proto.udp, s.proto.sentCount, s.proto.sentUdp, s.eth, rfl⟩
  unfold udpSend
  split
  · split
    · split
      · rename_i x _ _ _ r _ _ _
        obtain ⟨u, e, h⟩ := sendUdp_changes x.port x.addr x.sport (replyBytes r false s) s
        dsimp only
        rw [h]
        exact ⟨_, _, u, e, rfl⟩
      · exact same
    · exact same
  · exact same

/-- A reply changes the slots, the cursor and attention of the management bus, the datagrams on the wire and a port's counter. -/
theorem giveReply_changes (h : Hdr) (r : Rep) (s : State) :
    ∃ x y l n u c a e, giveReply h r s = { s with
      proto := { s.proto with spi := x, mb := y, udp := l, sentCount := n, sentUdp := u }, mb := { s.mb with cursor := c, attn := a }
      eth := e } := by
  have same : ∃ x y l n u c a e, s = { s with
      proto := { s.proto with spi := x, mb := y, udp := l, sentCount := n, sentUdp := u }, mb := { s.mb with cursor := c, attn := a }
      eth := e } :=
    ⟨s.proto.spi, s.proto.mb, s.proto.udp, s.proto.sentCount, s.proto.sentUdp, s.mb.cursor, s.mb.attn, s.eth, rfl⟩
  unfold giveReply
  split
  · exact same
  · exact ⟨_, s.proto.mb, s.proto.udp, s.proto.sentCount, s.proto.sentUdp, s.mb.cursor, s.mb.attn, s.eth, rfl⟩
  · exact ⟨s.proto.spi, _, s.proto.udp, s.proto.sentCount, s.proto.sentUdp, _, _, s.eth, rfl⟩
  · dsimp only
    split
    · rename_i p a sp _ _
      obtain ⟨l, n, u, e, hu⟩ := udpSend_changes ((udpFind s p a sp h.tag).getD (udpFree s))
        { s with proto := { s.proto with udp := tset s.proto.udp ((udpFind s p a sp h.tag).getD (udpFree s)) ⟨p, a, sp, h.tag,
            (tget s.proto.udp ((udpFind s p a sp h.tag).getD (udpFree s))).elim [] fun u => if udpKey u p a sp h.tag then u.cmd else [],
            none, some r, none⟩ } }
      exact ⟨s.proto.spi, s.proto.mb, l, n, u, s.mb.cursor, s.mb.attn, e, hu⟩
    · exact same

/-- An answer changes what a reply changes, and the audit log. -/
theorem answer_changes (op : Nat) (r : Right) (h : Hdr) (o : Handle) (c : Status) (p : List Byte) (s : State) :
    ∃ x y l n u k a e g, answer op r h o c p s = { s with
      proto := { s.proto with spi := x, mb := y, udp := l, sentCount := n, sentUdp := u }, mb := { s.mb with cursor := k, attn := a }
      eth := e, audit := g } := by
  unfold answer
  dsimp only
  by_cases hc : audited op r c = true
  · rw [if_pos hc]
    obtain ⟨x, y, l, n, u, k, a, e, hr⟩ := giveReply_changes h ⟨op, c, h.tag, h.sess, if c.good then p else [], false, false, false⟩
      (auditPut o op c.code (roleOf s h) (viaCode h.via) h.sess s)
    exact ⟨x, y, l, n, u, k, a, e, (auditPut o op c.code (roleOf s h) (viaCode h.via) h.sess s).audit, hr⟩
  · rw [if_neg hc]
    obtain ⟨x, y, l, n, u, k, a, e, hr⟩ := giveReply_changes h ⟨op, c, h.tag, h.sess, if c.good then p else [], false, false, false⟩ s
    exact ⟨x, y, l, n, u, k, a, e, s.audit, hr⟩

/-- A command in progress changes its slot. -/
theorem inProgress_changes (op : Nat) (h : Hdr) (s : State) :
    ∃ x y l, inProgress op h s = { s with proto := { s.proto with spi := x, mb := y, udp := l } } := by
  unfold inProgress
  dsimp only
  split
  · exact ⟨s.proto.spi, s.proto.mb, s.proto.udp, rfl⟩
  · exact ⟨_, s.proto.mb, s.proto.udp, rfl⟩
  · exact ⟨s.proto.spi, _, s.proto.udp, rfl⟩
  · split
    · exact ⟨s.proto.spi, s.proto.mb, _, rfl⟩
    · exact ⟨s.proto.spi, s.proto.mb, s.proto.udp, rfl⟩

/-- An announcement changes what is to be sent on the pair link. -/
theorem announceCmd_changes (i : Instr) (o : Handle) (p : List Byte) (s : State) :
    ∃ l n, announceCmd i o p s = { s with pair := { s.pair with out := l, outBytes := n } } := by
  unfold announceCmd announce
  dsimp only
  split
  · split
    · exact ⟨_, _, rfl⟩
    · exact ⟨s.pair.out, _, rfl⟩
  · exact ⟨s.pair.out, s.pair.outBytes, rfl⟩

/-- A packet that names a session changes that session's idle time. -/
theorem sessNamed_changes (h : Hdr) (s : State) : ∃ l, sessNamed h s = { s with auth := { s.auth with sess := l } } := by
  unfold sessNamed; split
  · exact ⟨_, rfl⟩
  · exact ⟨s.auth.sess, rfl⟩

/-- Scheduling changes the scheduled changes and an object's count of replacements. -/
theorem sched_changes (p : Pend) (s : State) :
    ∃ l o, sched p s = { s with sched := l, reg := { s.reg with objs := o } } := by
  unfold sched; dsimp only; split
  · exact ⟨_, _, rfl⟩
  · exact ⟨_, s.reg.objs, rfl⟩

/-- Scheduling without a count changes the scheduled changes. -/
theorem schedQ_changes (p : Pend) (s : State) : ∃ l, schedQ p s = { s with sched := l } := ⟨_, rfl⟩

/-- A refusal because a record is in CONFLICT changes that record's count of refusals. -/
theorem refuseRec_changes (i : Nat) (s : State) : ∃ l, refuseRec i s = { s with recs := { s.recs with recs := l } } := ⟨_, rfl⟩

/-- A draw changes the number of the next free value. -/
theorem drawn_changes (s : State) : ∃ n, drawn s = { s with sys := { s.sys with free := n } } := ⟨_, rfl⟩

end Sys2Proof.Laws
end

