-- ==== Sys2Proof/Laws/PerInstr.lean ====
section
/-! SUPPORT. What holds of every command as syntax, one lemma each: family Codes says that a command carries a packet header exactly where
its opcode stands in the opcode tables with its right and its mode key, so that no host command lacks a row and nothing but a host command
has one. -/

set_option Elab.async false

namespace Sys2Proof.Laws.Codes

open Machine

/-- A command carries a header exactly where its opcode has a right and a mode key in the tables (R468, R469). -/
def Statement (i : Instr) : Prop := (hdrOf i).isSome = (opRow (opOf i)).isSome

theorem sysIdent (h : Hdr) : Statement (.sysIdent h) := by simp only [Statement, hdrOf, opOf]; rfl
theorem sysStatus (h : Hdr) : Statement (.sysStatus h) := by simp only [Statement, hdrOf, opOf]; rfl
theorem sysModeSet (h : Hdr) (mode : Nat) (target : Nat) : Statement (.sysModeSet h mode target) := by simp only [Statement, hdrOf, opOf]; rfl
theorem sysDomainSet (h : Hdr) (on : Nat) (off : Nat) (target : Nat) : Statement (.sysDomainSet h on off target) := by simp only [Statement, hdrOf, opOf]; rfl
theorem sysReset (h : Hdr) (kind : Nat) (confirm : Nat) : Statement (.sysReset h kind confirm) := by simp only [Statement, hdrOf, opOf]; rfl
theorem sysEventRead (h : Hdr) (ack : Nat) (max : Nat) : Statement (.sysEventRead h ack max) := by simp only [Statement, hdrOf, opOf]; rfl
theorem sysEventNotify (h : Hdr) (c : NotifyCfg) : Statement (.sysEventNotify h c) := by simp only [Statement, hdrOf, opOf]; rfl
theorem sysProtoStatus (h : Hdr) : Statement (.sysProtoStatus h) := by simp only [Statement, hdrOf, opOf]; rfl
theorem sysEventCount (h : Hdr) : Statement (.sysEventCount h) := by simp only [Statement, hdrOf, opOf]; rfl
theorem pbConfig (h : Hdr) (flags : Nat) (stretch : Nat) : Statement (.pbConfig h flags stretch) := by simp only [Statement, hdrOf, opOf]; rfl
theorem pbPeriphCreate (h : Hdr) (p : Periph) : Statement (.pbPeriphCreate h p) := by simp only [Statement, hdrOf, opOf]; rfl
theorem pbPeriphRelease (h : Hdr) (periph : Handle) : Statement (.pbPeriphRelease h periph) := by simp only [Statement, hdrOf, opOf]; rfl
theorem pbTransfer (h : Hdr) (r : PbReq) : Statement (.pbTransfer h r) := by simp only [Statement, hdrOf, opOf]; rfl
theorem pbStatus (h : Hdr) : Statement (.pbStatus h) := by simp only [Statement, hdrOf, opOf]; rfl
theorem sessionOpen (h : Hdr) (role : Nat) : Statement (.sessionOpen h role) := by simp only [Statement, hdrOf, opOf]; rfl
theorem sessionProve (h : Hdr) (sess : Handle) (proof : List Byte) : Statement (.sessionProve h sess proof) := by simp only [Statement, hdrOf, opOf]; rfl
theorem sessionClose (h : Hdr) : Statement (.sessionClose h) := by simp only [Statement, hdrOf, opOf]; rfl
theorem sessionStatus (h : Hdr) : Statement (.sessionStatus h) := by simp only [Statement, hdrOf, opOf]; rfl
theorem rolekeySet (h : Hdr) (role : Nat) (key : List Byte) : Statement (.rolekeySet h role key) := by simp only [Statement, hdrOf, opOf]; rfl
theorem auditRead (h : Hdr) (start : Nat) (max : Nat) : Statement (.auditRead h start max) := by simp only [Statement, hdrOf, opOf]; rfl
theorem auditClear (h : Hdr) (confirm : Nat) : Statement (.auditClear h confirm) := by simp only [Statement, hdrOf, opOf]; rfl
theorem tbConfig (h : Hdr) (c : TbCfg) : Statement (.tbConfig h c) := by simp only [Statement, hdrOf, opOf]; rfl
theorem tbStatus (h : Hdr) : Statement (.tbStatus h) := by simp only [Statement, hdrOf, opOf]; rfl
theorem tbPhaseStep (h : Hdr) (obj : Handle) (target : Nat) (steps : Int) : Statement (.tbPhaseStep h obj target steps) := by simp only [Statement, hdrOf, opOf]; rfl
theorem tbSetSeconds (h : Hdr) (target : Nat) (secs : Nat) : Statement (.tbSetSeconds h target secs) := by simp only [Statement, hdrOf, opOf]; rfl
theorem clkConfig (h : Hdr) (mode : Nat) (amount : Nat) (target : Nat) : Statement (.clkConfig h mode amount target) := by simp only [Statement, hdrOf, opOf]; rfl
theorem clkStatus (h : Hdr) : Statement (.clkStatus h) := by simp only [Statement, hdrOf, opOf]; rfl
theorem portConfig (h : Hdr) (port : Handle) (loop : Nat) (flags : Nat) (target : Nat) : Statement (.portConfig h port loop flags target) := by simp only [Statement, hdrOf, opOf]; rfl
theorem portStatus (h : Hdr) (port : Handle) : Statement (.portStatus h port) := by simp only [Statement, hdrOf, opOf]; rfl
theorem feedSet (h : Hdr) (port : Handle) (flags : Nat) (limit : Nat) (target : Nat) : Statement (.feedSet h port flags limit target) := by simp only [Statement, hdrOf, opOf]; rfl
theorem feedReset (h : Hdr) (port : Handle) : Statement (.feedReset h port) := by simp only [Statement, hdrOf, opOf]; rfl
theorem heddleRoute (h : Hdr) (warp : Handle) (port : Handle) (target : Nat) : Statement (.heddleRoute h warp port target) := by simp only [Statement, hdrOf, opOf]; rfl
theorem warpTune (h : Hdr) (warp : Handle) (r : TuneReq) (target : Nat) : Statement (.warpTune h warp r target) := by simp only [Statement, hdrOf, opOf]; rfl
theorem warpGain (h : Hdr) (warp : Handle) (gain : Nat) (target : Nat) : Statement (.warpGain h warp gain target) := by simp only [Statement, hdrOf, opOf]; rfl
theorem warpAgc (h : Hdr) (warp : Handle) (c : AgcCfg) : Statement (.warpAgc h warp c) := by simp only [Statement, hdrOf, opOf]; rfl
theorem warpStatus (h : Hdr) (warp : Handle) : Statement (.warpStatus h warp) := by simp only [Statement, hdrOf, opOf]; rfl
theorem synStatus (h : Hdr) (index : Nat) : Statement (.synStatus h index) := by simp only [Statement, hdrOf, opOf]; rfl
theorem synDitherSet (h : Hdr) (index : Nat) (flags : Nat) (seed : Nat) : Statement (.synDitherSet h index flags seed) := by simp only [Statement, hdrOf, opOf]; rfl
theorem synProfileStore (h : Hdr) (index : Nat) (num : Nat) : Statement (.synProfileStore h index num) := by simp only [Statement, hdrOf, opOf]; rfl
theorem synProfileRead (h : Hdr) (index : Nat) (num : Nat) : Statement (.synProfileRead h index num) := by simp only [Statement, hdrOf, opOf]; rfl
theorem synProfileClear (h : Hdr) (index : Nat) (num : Nat) : Statement (.synProfileClear h index num) := by simp only [Statement, hdrOf, opOf]; rfl
theorem dentCreate (h : Hdr) (r : DentReq) (target : Nat) : Statement (.dentCreate h r target) := by simp only [Statement, hdrOf, opOf]; rfl
theorem dentSet (h : Hdr) (dent : Handle) (c : DentChg) (target : Nat) : Statement (.dentSet h dent c target) := by simp only [Statement, hdrOf, opOf]; rfl
theorem dentBankLoad (h : Hdr) (dent : Handle) (b : BankReq) : Statement (.dentBankLoad h dent b) := by simp only [Statement, hdrOf, opOf]; rfl
theorem dentBankSwap (h : Hdr) (dent : Handle) (sample : Nat) (target : Nat) : Statement (.dentBankSwap h dent sample target) := by simp only [Statement, hdrOf, opOf]; rfl
theorem dentFlush (h : Hdr) (dent : Handle) (sample : Nat) (target : Nat) : Statement (.dentFlush h dent sample target) := by simp only [Statement, hdrOf, opOf]; rfl
theorem dentRelease (h : Hdr) (dent : Handle) (sample : Nat) (target : Nat) : Statement (.dentRelease h dent sample target) := by simp only [Statement, hdrOf, opOf]; rfl
theorem dentStatus (h : Hdr) (dent : Handle) : Statement (.dentStatus h dent) := by simp only [Statement, hdrOf, opOf]; rfl
theorem reedStatus (h : Hdr) : Statement (.reedStatus h) := by simp only [Statement, hdrOf, opOf]; rfl
theorem dentBankRead (h : Hdr) (dent : Handle) (bank : Nat) : Statement (.dentBankRead h dent bank) := by simp only [Statement, hdrOf, opOf]; rfl
theorem weaveCreate (h : Hdr) (r : WeaveReq) (target : Nat) : Statement (.weaveCreate h r target) := by simp only [Statement, hdrOf, opOf]; rfl
theorem weaveStart (h : Hdr) (weave : Handle) (target : Nat) : Statement (.weaveStart h weave target) := by simp only [Statement, hdrOf, opOf]; rfl
theorem weaveStop (h : Hdr) (weave : Handle) (target : Nat) : Statement (.weaveStop h weave target) := by simp only [Statement, hdrOf, opOf]; rfl
theorem weaveRelease (h : Hdr) (weave : Handle) (target : Nat) : Statement (.weaveRelease h weave target) := by simp only [Statement, hdrOf, opOf]; rfl
theorem weaveSet (h : Hdr) (weave : Handle) (prio : Nat) (m : Nat) (target : Nat) (block : List Byte) : Statement (.weaveSet h weave prio m target block) := by simp only [Statement, hdrOf, opOf]; rfl
theorem weaveStatus (h : Hdr) (weave : Handle) : Statement (.weaveStatus h weave) := by simp only [Statement, hdrOf, opOf]; rfl
theorem schedStatus (h : Hdr) : Statement (.schedStatus h) := by simp only [Statement, hdrOf, opOf]; rfl
theorem fmStatus (h : Hdr) (weave : Handle) : Statement (.fmStatus h weave) := by simp only [Statement, hdrOf, opOf]; rfl
theorem amStatus (h : Hdr) (weave : Handle) : Statement (.amStatus h weave) := by simp only [Statement, hdrOf, opOf]; rfl
theorem fmAfRead (h : Hdr) (weave : Handle) (index : Nat) : Statement (.fmAfRead h weave index) := by simp only [Statement, hdrOf, opOf]; rfl
theorem dabStatus (h : Hdr) (weave : Handle) : Statement (.dabStatus h weave) := by simp only [Statement, hdrOf, opOf]; rfl
theorem dabSubchRead (h : Hdr) (weave : Handle) (id : Nat) : Statement (.dabSubchRead h weave id) := by simp only [Statement, hdrOf, opOf]; rfl
theorem dabTiiRead (h : Hdr) (weave : Handle) : Statement (.dabTiiRead h weave) := by simp only [Statement, hdrOf, opOf]; rfl
theorem drmStatus (h : Hdr) (weave : Handle) : Statement (.drmStatus h weave) := by simp only [Statement, hdrOf, opOf]; rfl
theorem digDecodeSet (h : Hdr) (weave : Handle) (n : Nat) (target : Nat) (comps : List Handle) : Statement (.digDecodeSet h weave n target comps) := by simp only [Statement, hdrOf, opOf]; rfl
theorem surveyStart (h : Hdr) (n : Nat) (flags : Nat) (target : Nat) (entries : List SurveyEntry) : Statement (.surveyStart h n flags target entries) := by simp only [Statement, hdrOf, opOf]; rfl
theorem surveyStop (h : Hdr) : Statement (.surveyStop h) := by simp only [Statement, hdrOf, opOf]; rfl
theorem surveyStatus (h : Hdr) : Statement (.surveyStatus h) := by simp only [Statement, hdrOf, opOf]; rfl
theorem serviceList (h : Hdr) (start : Nat) : Statement (.serviceList h start) := by simp only [Statement, hdrOf, opOf]; rfl
theorem serviceRead (h : Hdr) (svc : Handle) : Statement (.serviceRead h svc) := by simp only [Statement, hdrOf, opOf]; rfl
theorem componentRead (h : Hdr) (comp : Handle) : Statement (.componentRead h comp) := by simp only [Statement, hdrOf, opOf]; rfl
theorem labelRead (h : Hdr) (obj : Handle) (kind : Nat) : Statement (.labelRead h obj kind) := by simp only [Statement, hdrOf, opOf]; rfl
theorem linkRead (h : Hdr) (svc : Handle) (start : Nat) : Statement (.linkRead h svc start) := by simp only [Statement, hdrOf, opOf]; rfl
theorem serviceRelease (h : Hdr) (svc : Handle) (target : Nat) : Statement (.serviceRelease h svc target) := by simp only [Statement, hdrOf, opOf]; rfl
theorem timePolicy (h : Hdr) (c : TimeCfg) : Statement (.timePolicy h c) := by simp only [Statement, hdrOf, opOf]; rfl
theorem timeStatus (h : Hdr) : Statement (.timeStatus h) := by simp only [Statement, hdrOf, opOf]; rfl
theorem followCreate (h : Hdr) (n : Nat) (group : Nat) (flags : Nat) (hold : Nat) (target : Nat) (entries : List SrcReq) : Statement (.followCreate h n group flags hold target entries) := by simp only [Statement, hdrOf, opOf]; rfl
theorem followSet (h : Hdr) (set : Handle) (n : Nat) (target : Nat) (entries : List SrcReq) : Statement (.followSet h set n target entries) := by simp only [Statement, hdrOf, opOf]; rfl
theorem followCommit (h : Hdr) (set : Handle) (entry : Nat) (sample : Nat) (target : Nat) (fade : Nat) : Statement (.followCommit h set entry sample target fade) := by simp only [Statement, hdrOf, opOf]; rfl
theorem followRelease (h : Hdr) (set : Handle) (target : Nat) : Statement (.followRelease h set target) := by simp only [Statement, hdrOf, opOf]; rfl
theorem followStatus (h : Hdr) (set : Handle) : Statement (.followStatus h set) := by simp only [Statement, hdrOf, opOf]; rfl
theorem followPolicy (h : Hdr) (set : Handle) (c : FollowCfg) : Statement (.followPolicy h set c) := by simp only [Statement, hdrOf, opOf]; rfl
theorem measRead (h : Hdr) (obj : Handle) : Statement (.measRead h obj) := by simp only [Statement, hdrOf, opOf]; rfl
theorem measWindow (h : Hdr) (obj : Handle) (w : Nat) : Statement (.measWindow h obj w) := by simp only [Statement, hdrOf, opOf]; rfl
theorem measThreshold (h : Hdr) (obj : Handle) (t : ThrReq) : Statement (.measThreshold h obj t) := by simp only [Statement, hdrOf, opOf]; rfl
theorem loudnessRead (h : Hdr) (comp : Handle) : Statement (.loudnessRead h comp) := by simp only [Statement, hdrOf, opOf]; rfl
theorem loudnessReset (h : Hdr) (comp : Handle) (target : Nat) : Statement (.loudnessReset h comp target) := by simp only [Statement, hdrOf, opOf]; rfl
theorem audioMonSet (h : Hdr) (comp : Handle) (c : MonCfg) : Statement (.audioMonSet h comp c) := by simp only [Statement, hdrOf, opOf]; rfl
theorem verifySet (h : Hdr) (r : VerifyReq) (target : Nat) : Statement (.verifySet h r target) := by simp only [Statement, hdrOf, opOf]; rfl
theorem verifyClear (h : Hdr) (index : Nat) (target : Nat) : Statement (.verifyClear h index target) := by simp only [Statement, hdrOf, opOf]; rfl
theorem verifyStatus (h : Hdr) (index : Nat) : Statement (.verifyStatus h index) := by simp only [Statement, hdrOf, opOf]; rfl
theorem tdmPortConfig (h : Hdr) (port : Handle) (c : TdmCfg) (target : Nat) : Statement (.tdmPortConfig h port c target) := by simp only [Statement, hdrOf, opOf]; rfl
theorem tdmPortStatus (h : Hdr) (port : Handle) : Statement (.tdmPortStatus h port) := by simp only [Statement, hdrOf, opOf]; rfl
theorem tdmStreamCreate (h : Hdr) (r : TdmStreamReq) (target : Nat) : Statement (.tdmStreamCreate h r target) := by simp only [Statement, hdrOf, opOf]; rfl
theorem tdmStreamRelease (h : Hdr) (stream : Handle) (target : Nat) : Statement (.tdmStreamRelease h stream target) := by simp only [Statement, hdrOf, opOf]; rfl
theorem alignCreate (h : Hdr) (target : Nat) : Statement (.alignCreate h target) := by simp only [Statement, hdrOf, opOf]; rfl
theorem alignAdd (h : Hdr) (group : Handle) (stream : Handle) (target : Nat) : Statement (.alignAdd h group stream target) := by simp only [Statement, hdrOf, opOf]; rfl
theorem alignRemove (h : Hdr) (group : Handle) (stream : Handle) (target : Nat) : Statement (.alignRemove h group stream target) := by simp only [Statement, hdrOf, opOf]; rfl
theorem alignRelease (h : Hdr) (group : Handle) (target : Nat) : Statement (.alignRelease h group target) := by simp only [Statement, hdrOf, opOf]; rfl
theorem alignStatus (h : Hdr) (group : Handle) : Statement (.alignStatus h group) := by simp only [Statement, hdrOf, opOf]; rfl
theorem ethPortConfig (h : Hdr) (port : Handle) (c : EthCfg) (target : Nat) : Statement (.ethPortConfig h port c target) := by simp only [Statement, hdrOf, opOf]; rfl
theorem ethPortStatus (h : Hdr) (port : Handle) : Statement (.ethPortStatus h port) := by simp only [Statement, hdrOf, opOf]; rfl
theorem ethStreamCreate (h : Hdr) (r : EthReq) (target : Nat) : Statement (.ethStreamCreate h r target) := by simp only [Statement, hdrOf, opOf]; rfl
theorem ethStreamRelease (h : Hdr) (stream : Handle) (target : Nat) : Statement (.ethStreamRelease h stream target) := by simp only [Statement, hdrOf, opOf]; rfl
theorem ethStreamStatus (h : Hdr) (stream : Handle) : Statement (.ethStreamStatus h stream) := by simp only [Statement, hdrOf, opOf]; rfl
theorem rtcRead (h : Hdr) : Statement (.rtcRead h) := by simp only [Statement, hdrOf, opOf]; rfl
theorem rtcSet (h : Hdr) (kind : Nat) (value : Nat) (target : Nat) : Statement (.rtcSet h kind value target) := by simp only [Statement, hdrOf, opOf]; rfl
theorem rtcTrim (h : Hdr) (trim : Int) : Statement (.rtcTrim h trim) := by simp only [Statement, hdrOf, opOf]; rfl
theorem rtcAlarmSet (h : Hdr) (alarm : Nat) (flags : Nat) (value : Nat) : Statement (.rtcAlarmSet h alarm flags value) := by simp only [Statement, hdrOf, opOf]; rfl
theorem rtcStatus (h : Hdr) : Statement (.rtcStatus h) := by simp only [Statement, hdrOf, opOf]; rfl
theorem rtcWeekdaySet (h : Hdr) (weekday : Nat) (offset : Nat) : Statement (.rtcWeekdaySet h weekday offset) := by simp only [Statement, hdrOf, opOf]; rfl
theorem rtcConfig (h : Hdr) (vsw : Nat) (low : Nat) : Statement (.rtcConfig h vsw low) := by simp only [Statement, hdrOf, opOf]; rfl
theorem dateToTicks (h : Hdr) (d : Date) : Statement (.dateToTicks h d) := by simp only [Statement, hdrOf, opOf]; rfl
theorem ticksToDate (h : Hdr) (count : Nat) : Statement (.ticksToDate h count) := by simp only [Statement, hdrOf, opOf]; rfl
theorem recordStatus (h : Hdr) (rec : Handle) : Statement (.recordStatus h rec) := by simp only [Statement, hdrOf, opOf]; rfl
theorem recordRead (h : Hdr) (rec : Handle) (copy : Nat) (len : Nat) (offset : Nat) : Statement (.recordRead h rec copy len offset) := by simp only [Statement, hdrOf, opOf]; rfl
theorem recordResolve (h : Hdr) (rec : Handle) (keep : Nat) : Statement (.recordResolve h rec keep) := by simp only [Statement, hdrOf, opOf]; rfl
theorem limitsWrite (h : Hdr) (l : Limits) : Statement (.limitsWrite h l) := by simp only [Statement, hdrOf, opOf]; rfl
theorem trimWrite (h : Hdr) (offset : Nat) (total : Nat) (flags : Nat) (data : List Byte) : Statement (.trimWrite h offset total flags data) := by simp only [Statement, hdrOf, opOf]; rfl
theorem fwStatus (h : Hdr) : Statement (.fwStatus h) := by simp only [Statement, hdrOf, opOf]; rfl
theorem fwLoadBegin (h : Hdr) (target : Nat) (len : Nat) : Statement (.fwLoadBegin h target len) := by simp only [Statement, hdrOf, opOf]; rfl
theorem fwLoadData (h : Hdr) (offset : Nat) (data : List Byte) : Statement (.fwLoadData h offset data) := by simp only [Statement, hdrOf, opOf]; rfl
theorem fwLoadEnd (h : Hdr) : Statement (.fwLoadEnd h) := by simp only [Statement, hdrOf, opOf]; rfl
theorem fwBoot (h : Hdr) (source : Nat) (flags : Nat) (confirm : Nat) : Statement (.fwBoot h source flags confirm) := by simp only [Statement, hdrOf, opOf]; rfl
theorem fwKeyWrite (h : Hdr) (slot : Nat) (flags : Nat) (key : List Byte) : Statement (.fwKeyWrite h slot flags key) := by simp only [Statement, hdrOf, opOf]; rfl
theorem lifecycleLock (h : Hdr) (confirm : Nat) : Statement (.lifecycleLock h confirm) := by simp only [Statement, hdrOf, opOf]; rfl
theorem pairConfig (h : Hdr) (c : PairCfg) (target : Nat) : Statement (.pairConfig h c target) := by simp only [Statement, hdrOf, opOf]; rfl
theorem pairStatus (h : Hdr) : Statement (.pairStatus h) := by simp only [Statement, hdrOf, opOf]; rfl
theorem pairHandover (h : Hdr) (flags : Nat) (target : Nat) : Statement (.pairHandover h flags target) := by simp only [Statement, hdrOf, opOf]; rfl
theorem deviceIdSet (h : Hdr) (id : Nat) : Statement (.deviceIdSet h id) := by simp only [Statement, hdrOf, opOf]; rfl
theorem farmStatus (h : Hdr) : Statement (.farmStatus h) := by simp only [Statement, hdrOf, opOf]; rfl
theorem calPolicy (h : Hdr) (c : CalCfg) : Statement (.calPolicy h c) := by simp only [Statement, hdrOf, opOf]; rfl
theorem calRequest (h : Hdr) (warp : Handle) (flags : Nat) : Statement (.calRequest h warp flags) := by simp only [Statement, hdrOf, opOf]; rfl
theorem calStatus (h : Hdr) (warp : Handle) : Statement (.calStatus h warp) := by simp only [Statement, hdrOf, opOf]; rfl
theorem calResultRead (h : Hdr) (warp : Handle) (gainBand : Nat) (loBand : Nat) : Statement (.calResultRead h warp gainBand loBand) := by simp only [Statement, hdrOf, opOf]; rfl
theorem calSnapshot (h : Hdr) : Statement (.calSnapshot h) := by simp only [Statement, hdrOf, opOf]; rfl
theorem tunerPresetWrite (h : Hdr) (port : Handle) (num : Nat) (p : Preset) : Statement (.tunerPresetWrite h port num p) := by simp only [Statement, hdrOf, opOf]; rfl
theorem tunerPresetRead (h : Hdr) (port : Handle) (num : Nat) : Statement (.tunerPresetRead h port num) := by simp only [Statement, hdrOf, opOf]; rfl
theorem tunerSelect (h : Hdr) (port : Handle) (num : Nat) (flags : Nat) (target : Nat) : Statement (.tunerSelect h port num flags target) := by simp only [Statement, hdrOf, opOf]; rfl
theorem tunerStatus (h : Hdr) (port : Handle) : Statement (.tunerStatus h port) := by simp only [Statement, hdrOf, opOf]; rfl
theorem probeStart (h : Hdr) (r : ProbeReq) : Statement (.probeStart h r) := by simp only [Statement, hdrOf, opOf]; rfl
theorem probeStop (h : Hdr) : Statement (.probeStop h) := by simp only [Statement, hdrOf, opOf]; rfl
theorem probeStatus (h : Hdr) : Statement (.probeStatus h) := by simp only [Statement, hdrOf, opOf]; rfl
theorem mismatchMeasure (h : Hdr) (port : Handle) (points : Nat) (threshold : Nat) (target : Nat) (freqs : List Nat) : Statement (.mismatchMeasure h port points threshold target freqs) := by simp only [Statement, hdrOf, opOf]; rfl
theorem mismatchRead (h : Hdr) (port : Handle) : Statement (.mismatchRead h port) := by simp only [Statement, hdrOf, opOf]; rfl
theorem spiWrite (stated : Nat) (bytes : List Byte) : Statement (.spiWrite stated bytes) := by simp only [Statement, hdrOf, opOf]; rfl
theorem spiRead (clocked : Nat) : Statement (.spiRead clocked) := by simp only [Statement, hdrOf, opOf]; rfl
theorem spiStatusOnly : Statement (.spiStatusOnly) := by simp only [Statement, hdrOf, opOf]; rfl
theorem udpPacketArrival (port : Fin 2) (addr : IpAddr) (sport : Nat) (bytes : List Byte) : Statement (.udpPacketArrival port addr sport bytes) := by simp only [Statement, hdrOf, opOf]; rfl
theorem udpReplyExpiry (slot : Fin 16) : Statement (.udpReplyExpiry slot) := by simp only [Statement, hdrOf, opOf]; rfl
theorem mbIdent : Statement (.mbIdent) := by simp only [Statement, hdrOf, opOf]; rfl
theorem mbStatus : Statement (.mbStatus) := by simp only [Statement, hdrOf, opOf]; rfl
theorem mbCmdPut (data : List Byte) (check : Option Byte) (extra : Bool) : Statement (.mbCmdPut data check extra) := by simp only [Statement, hdrOf, opOf]; rfl
theorem mbReplyGet (whole : Bool) (stop : Bool) : Statement (.mbReplyGet whole stop) := by simp only [Statement, hdrOf, opOf]; rfl
theorem mbAttnAck (check : Option Byte) (extra : Bool) : Statement (.mbAttnAck check extra) := by simp only [Statement, hdrOf, opOf]; rfl
theorem mbRtcSnap (ended : Bool) : Statement (.mbRtcSnap ended) := by simp only [Statement, hdrOf, opOf]; rfl
theorem mbRtcWeekday (ended : Bool) : Statement (.mbRtcWeekday ended) := by simp only [Statement, hdrOf, opOf]; rfl
theorem mbUnassignedCode (code : Byte) : Statement (.mbUnassignedCode code) := by simp only [Statement, hdrOf, opOf]; rfl
theorem mbSegmentTimeout : Statement (.mbSegmentTimeout) := by simp only [Statement, hdrOf, opOf]; rfl
theorem mbStuckBus : Statement (.mbStuckBus) := by simp only [Statement, hdrOf, opOf]; rfl
theorem attnAttempt (free : Bool) (sclFell : Bool) : Statement (.attnAttempt free sclFell) := by simp only [Statement, hdrOf, opOf]; rfl
theorem resetDeadline : Statement (.resetDeadline) := by simp only [Statement, hdrOf, opOf]; rfl
theorem pickBoundary (inputs : PickInputs) : Statement (.pickBoundary inputs) := by simp only [Statement, hdrOf, opOf]; rfl
theorem ptpMessage (port : Fin 2) (domain : Nat) (m : PtpMsg) : Statement (.ptpMessage port domain m) := by simp only [Statement, hdrOf, opOf]; rfl
theorem sourceQualified (input : TbInput) : Statement (.sourceQualified input) := by simp only [Statement, hdrOf, opOf]; rfl
theorem sourceLost (input : TbInput) (word : Int) : Statement (.sourceLost input word) := by simp only [Statement, hdrOf, opOf]; rfl
theorem sourceSelect (code : Nat) : Statement (.sourceSelect code) := by simp only [Statement, hdrOf, opOf]; rfl
theorem sourceDisplace (code : Nat) : Statement (.sourceDisplace code) := by simp only [Statement, hdrOf, opOf]; rfl
theorem freqAcquired (e : Int) : Statement (.freqAcquired e) := by simp only [Statement, hdrOf, opOf]; rfl
theorem timebaseLocked : Statement (.timebaseLocked) := by simp only [Statement, hdrOf, opOf]; rfl
theorem phaseErrorExceeded (e : Int) : Statement (.phaseErrorExceeded e) := by simp only [Statement, hdrOf, opOf]; rfl
theorem ptpSecondsPersist (es : Int) : Statement (.ptpSecondsPersist es) := by simp only [Statement, hdrOf, opOf]; rfl
theorem phaseStepComplete (obj : Option (Fin 8)) : Statement (.phaseStepComplete obj) := by simp only [Statement, hdrOf, opOf]; rfl
theorem mdllUnlock : Statement (.mdllUnlock) := by simp only [Statement, hdrOf, opOf]; rfl
theorem mdllLock : Statement (.mdllLock) := by simp only [Statement, hdrOf, opOf]; rfl
theorem mdllRetryTimer : Statement (.mdllRetryTimer) := by simp only [Statement, hdrOf, opOf]; rfl
theorem tcxoFail : Statement (.tcxoFail) := by simp only [Statement, hdrOf, opOf]; rfl
theorem audioPllUnlock : Statement (.audioPllUnlock) := by simp only [Statement, hdrOf, opOf]; rfl
theorem audioPllLock : Statement (.audioPllLock) := by simp only [Statement, hdrOf, opOf]; rfl
theorem synthUnlock (k : Fin 7) (sample : Nat) : Statement (.synthUnlock k sample) := by simp only [Statement, hdrOf, opOf]; rfl
theorem synthLock (k : Fin 7) (r : LockFacts) : Statement (.synthLock k r) := by simp only [Statement, hdrOf, opOf]; rfl
theorem bandSearchFailed (k : Fin 7) : Statement (.bandSearchFailed k) := by simp only [Statement, hdrOf, opOf]; rfl
theorem searchRepeatTimer (k : Fin 7) : Statement (.searchRepeatTimer k) := by simp only [Statement, hdrOf, opOf]; rfl
theorem profileLockTimeout (k : Fin 7) : Statement (.profileLockTimeout k) := by simp only [Statement, hdrOf, opOf]; rfl
theorem feedRampComplete (p : Fin 4) (m : FeedMeas) : Statement (.feedRampComplete p m) := by simp only [Statement, hdrOf, opOf]; rfl
theorem feedOvercurrent (p : Fin 4) (m : FeedMeas) : Statement (.feedOvercurrent p m) := by simp only [Statement, hdrOf, opOf]; rfl
theorem feedFoldRecovered (p : Fin 4) (m : FeedMeas) : Statement (.feedFoldRecovered p m) := by simp only [Statement, hdrOf, opOf]; rfl
theorem feedFoldWindowEnd (p : Fin 4) (m : FeedMeas) : Statement (.feedFoldWindowEnd p m) := by simp only [Statement, hdrOf, opOf]; rfl
theorem feedRetryTimer (p : Fin 4) (m : FeedMeas) : Statement (.feedRetryTimer p m) := by simp only [Statement, hdrOf, opOf]; rfl
theorem feedOvervoltage (p : Fin 4) (m : FeedMeas) : Statement (.feedOvervoltage p m) := by simp only [Statement, hdrOf, opOf]; rfl
theorem vfeedFault : Statement (.vfeedFault) := by simp only [Statement, hdrOf, opOf]; rfl
theorem vfeedReturn : Statement (.vfeedReturn) := by simp only [Statement, hdrOf, opOf]; rfl
theorem feedStartStagger (p : Fin 4) (m : FeedMeas) : Statement (.feedStartStagger p m) := by simp only [Statement, hdrOf, opOf]; rfl
theorem feedEpisodeClear (p : Fin 4) : Statement (.feedEpisodeClear p) := by simp only [Statement, hdrOf, opOf]; rfl
theorem feedFaultClear (p : Fin 4) (m : FeedMeas) : Statement (.feedFaultClear p m) := by simp only [Statement, hdrOf, opOf]; rfl
theorem feedOpenDetect (p : Fin 4) (m : FeedMeas) : Statement (.feedOpenDetect p m) := by simp only [Statement, hdrOf, opOf]; rfl
theorem feedOpenClear (p : Fin 4) (m : FeedMeas) : Statement (.feedOpenClear p m) := by simp only [Statement, hdrOf, opOf]; rfl
theorem portBackfeedDetect (p : Fin 4) (m : FeedMeas) : Statement (.portBackfeedDetect p m) := by simp only [Statement, hdrOf, opOf]; rfl
theorem portBackfeedClear (p : Fin 4) (m : FeedMeas) : Statement (.portBackfeedClear p m) := by simp only [Statement, hdrOf, opOf]; rfl
theorem coexGntFall : Statement (.coexGntFall) := by simp only [Statement, hdrOf, opOf]; rfl
theorem probeGrantTimeout : Statement (.probeGrantTimeout) := by simp only [Statement, hdrOf, opOf]; rfl
theorem probeStartTimeout : Statement (.probeStartTimeout) := by simp only [Statement, hdrOf, opOf]; rfl
theorem probeDurationEnd : Statement (.probeDurationEnd) := by simp only [Statement, hdrOf, opOf]; rfl
theorem probeLevelCalDone : Statement (.probeLevelCalDone) := by simp only [Statement, hdrOf, opOf]; rfl
theorem probeLevelLoop (level : Int) : Statement (.probeLevelLoop level) := by simp only [Statement, hdrOf, opOf]; rfl
theorem probeLimiter : Statement (.probeLimiter) := by simp only [Statement, hdrOf, opOf]; rfl
theorem mismatchComplete (points : List LossPoint) (low : List Nat) : Statement (.mismatchComplete points low) := by simp only [Statement, hdrOf, opOf]; rfl
theorem tempFaultEnd (w : Fin 8) : Statement (.tempFaultEnd w) := by simp only [Statement, hdrOf, opOf]; rfl
theorem overloadClear (w : Fin 8) : Statement (.overloadClear w) := by simp only [Statement, hdrOf, opOf]; rfl
theorem calInitialTimeout (w : Fin 8) : Statement (.calInitialTimeout w) := by simp only [Statement, hdrOf, opOf]; rfl
theorem calNoGapTimeout (w : Fin 8) : Statement (.calNoGapTimeout w) := by simp only [Statement, hdrOf, opOf]; rfl
theorem calStaleTempTimeout (w : Fin 8) : Statement (.calStaleTempTimeout w) := by simp only [Statement, hdrOf, opOf]; rfl
theorem calTempFaultTimer (w : Fin 8) : Statement (.calTempFaultTimer w) := by simp only [Statement, hdrOf, opOf]; rfl
theorem calSnapshotTimer : Statement (.calSnapshotTimer) := by simp only [Statement, hdrOf, opOf]; rfl
theorem dentBankLoadComplete (dent : Fin 512) : Statement (.dentBankLoadComplete dent) := by simp only [Statement, hdrOf, opOf]; rfl
theorem stageReady (weave : Fin 512) (cap : Nat) (stage : Nat) (tasks : List TaskReq) (jobs : List JobReq) : Statement (.stageReady weave cap stage tasks jobs) := by simp only [Statement, hdrOf, opOf]; rfl
theorem taskComplete (shuttle : Fin 64) (cycles : Nat) : Statement (.taskComplete shuttle cycles) := by simp only [Statement, hdrOf, opOf]; rfl
theorem engineJobComplete (cls : Fin 4) (engine : Fin 4) : Statement (.engineJobComplete cls engine) := by simp only [Statement, hdrOf, opOf]; rfl
theorem stageComplete (weave : Fin 512) (cap : Nat) (stage : Nat) (r : StageResult) : Statement (.stageComplete weave cap stage r) := by simp only [Statement, hdrOf, opOf]; rfl
theorem stageDeadline (weave : Fin 512) (cap : Nat) (cut : StageCut) : Statement (.stageDeadline weave cap cut) := by simp only [Statement, hdrOf, opOf]; rfl
theorem sourceFailureClear (set : Fin 64) (entry : Fin 4) : Statement (.sourceFailureClear set entry) := by simp only [Statement, hdrOf, opOf]; rfl
theorem runAheadRetry (set : Fin 64) (entry : Fin 4) : Statement (.runAheadRetry set entry) := by simp only [Statement, hdrOf, opOf]; rfl
theorem hopVisitEnd (set : Fin 64) : Statement (.hopVisitEnd set) := by simp only [Statement, hdrOf, opOf]; rfl
theorem surveyFieldMeasured (dent : Fin 512) (power : Nat) : Statement (.surveyFieldMeasured dent power) := by simp only [Statement, hdrOf, opOf]; rfl
theorem surveyDwellEnd (weave : Fin 512) : Statement (.surveyDwellEnd weave) := by simp only [Statement, hdrOf, opOf]; rfl
theorem surveyStarved : Statement (.surveyStarved) := by simp only [Statement, hdrOf, opOf]; rfl
theorem tdmFrame (port : Fin 8) (periods : Nat) (rate : Int) (due : Nat) (lines : FrameLines) : Statement (.tdmFrame port periods rate due lines) := by simp only [Statement, hdrOf, opOf]; rfl
theorem tdmClockLost (port : Fin 8) : Statement (.tdmClockLost port) := by simp only [Statement, hdrOf, opOf]; rfl
theorem tdmClockReturn (port : Fin 8) : Statement (.tdmClockReturn port) := by simp only [Statement, hdrOf, opOf]; rfl
theorem tdmRateOk (port : Fin 8) (rate : Int) : Statement (.tdmRateOk port rate) := by simp only [Statement, hdrOf, opOf]; rfl
theorem ethLinkChange (port : Fin 2) (up : Bool) : Statement (.ethLinkChange port up) := by simp only [Statement, hdrOf, opOf]; rfl
theorem ethFrameReceive (port : Fin 2) (f : EthFrame) : Statement (.ethFrameReceive port f) := by simp only [Statement, hdrOf, opOf]; rfl
theorem arpRefresh (failed : List (Nat × IpAddr)) : Statement (.arpRefresh failed) := by simp only [Statement, hdrOf, opOf]; rfl
theorem pbBusFree : Statement (.pbBusFree) := by simp only [Statement, hdrOf, opOf]; rfl
theorem pbTransferDone (r : PbDone) : Statement (.pbTransferDone r) := by simp only [Statement, hdrOf, opOf]; rfl
theorem pbArbLost : Statement (.pbArbLost) := by simp only [Statement, hdrOf, opOf]; rfl
theorem pbArbLostCond : Statement (.pbArbLostCond) := by simp only [Statement, hdrOf, opOf]; rfl
theorem pbStretchTimeout : Statement (.pbStretchTimeout) := by simp only [Statement, hdrOf, opOf]; rfl
theorem pbBusReleased (sdaLow : Bool) : Statement (.pbBusReleased sdaLow) := by simp only [Statement, hdrOf, opOf]; rfl
theorem pbSclStuck : Statement (.pbSclStuck) := by simp only [Statement, hdrOf, opOf]; rfl
theorem pbSdaStuck : Statement (.pbSdaStuck) := by simp only [Statement, hdrOf, opOf]; rfl
theorem pbRecoveryDone (released : Bool) : Statement (.pbRecoveryDone released) := by simp only [Statement, hdrOf, opOf]; rfl
theorem pbSdaRetry : Statement (.pbSdaRetry) := by simp only [Statement, hdrOf, opOf]; rfl
theorem pbTransferTimeout : Statement (.pbTransferTimeout) := by simp only [Statement, hdrOf, opOf]; rfl
theorem rtcTick : Statement (.rtcTick) := by simp only [Statement, hdrOf, opOf]; rfl
theorem rtcOscStop : Statement (.rtcOscStop) := by simp only [Statement, hdrOf, opOf]; rfl
theorem rtcOscRestart : Statement (.rtcOscRestart) := by simp only [Statement, hdrOf, opOf]; rfl
theorem rtcToBackup : Statement (.rtcToBackup) := by simp only [Statement, hdrOf, opOf]; rfl
theorem rtcToMain : Statement (.rtcToMain) := by simp only [Statement, hdrOf, opOf]; rfl
theorem backupCollapse : Statement (.backupCollapse) := by simp only [Statement, hdrOf, opOf]; rfl
theorem vbackupMeasure (mv : Nat) : Statement (.vbackupMeasure mv) := by simp only [Statement, hdrOf, opOf]; rfl
theorem recordWriteComplete (ok : Bool) : Statement (.recordWriteComplete ok) := by simp only [Statement, hdrOf, opOf]; rfl
theorem sessionOpenExpiry (k : Fin 8) : Statement (.sessionOpenExpiry k) := by simp only [Statement, hdrOf, opOf]; rfl
theorem sessionIdleTimeout (k : Fin 8) : Statement (.sessionIdleTimeout k) := by simp only [Statement, hdrOf, opOf]; rfl
theorem proveBackoffEnd : Statement (.proveBackoffEnd) := by simp only [Statement, hdrOf, opOf]; rfl
theorem vmainGood (addr : Fin 8) (boot : Fin 4) : Statement (.vmainGood addr boot) := by simp only [Statement, hdrOf, opOf]; rfl
theorem fwVerifyComplete : Statement (.fwVerifyComplete) := by simp only [Statement, hdrOf, opOf]; rfl
theorem firmwareStart : Statement (.firmwareStart) := by simp only [Statement, hdrOf, opOf]; rfl
theorem pfail : Statement (.pfail) := by simp only [Statement, hdrOf, opOf]; rfl
theorem resetNAssert : Statement (.resetNAssert) := by simp only [Statement, hdrOf, opOf]; rfl
theorem resetNRelease (addr : Fin 8) (boot : Fin 4) : Statement (.resetNRelease addr boot) := by simp only [Statement, hdrOf, opOf]; rfl
theorem watchdogExpiry : Statement (.watchdogExpiry) := by simp only [Statement, hdrOf, opOf]; rfl
theorem railFault (d : Fin 10) : Statement (.railFault d) := by simp only [Statement, hdrOf, opOf]; rfl
theorem plFrameReceive (f : PlFrame) : Statement (.plFrameReceive f) := by simp only [Statement, hdrOf, opOf]; rfl
theorem plLinkChange (up : Bool) : Statement (.plLinkChange up) := by simp only [Statement, hdrOf, opOf]; rfl
theorem heartbeatMiss : Statement (.heartbeatMiss) := by simp only [Statement, hdrOf, opOf]; rfl
theorem ownHwRelease : Statement (.ownHwRelease) := by simp only [Statement, hdrOf, opOf]; rfl
theorem ownRelease : Statement (.ownRelease) := by simp only [Statement, hdrOf, opOf]; rfl
theorem failoverTdmDrive (ns : Nat) : Statement (.failoverTdmDrive ns) := by simp only [Statement, hdrOf, opOf]; rfl
theorem joinWaitEnd (ownHeld : Bool) : Statement (.joinWaitEnd ownHeld) := by simp only [Statement, hdrOf, opOf]; rfl
theorem mirrorJoin : Statement (.mirrorJoin) := by simp only [Statement, hdrOf, opOf]; rfl
theorem mirrorSynced : Statement (.mirrorSynced) := by simp only [Statement, hdrOf, opOf]; rfl
theorem mirrorUnsynced : Statement (.mirrorUnsynced) := by simp only [Statement, hdrOf, opOf]; rfl
theorem alignFault : Statement (.alignFault) := by simp only [Statement, hdrOf, opOf]; rfl
theorem phaseInputEdge (pick : Bool) (width : Nat) (offset : Int) : Statement (.phaseInputEdge pick width offset) := by simp only [Statement, hdrOf, opOf]; rfl
theorem d0PowerUp : Statement (.d0PowerUp) := by simp only [Statement, hdrOf, opOf]; rfl
theorem pbBothLinesHigh : Statement (.pbBothLinesHigh) := by simp only [Statement, hdrOf, opOf]; rfl

end Sys2Proof.Laws.Codes
end

