-- ==== Sys2Proof/Laws/Serve.lean ====
section
/-! SUPPORT. What the interpreter's service of a command answers, once: every command's statement goes through these. -/

namespace Sys2Proof.Laws

open Machine

/-- Service never stops: it answers a next state whatever the command does (R447). -/
theorem serve_goes (i : Instr) (op : Nat) (r : Right) (k : Key) (h : Hdr) (obj : Handle) (body : State → Ans) (s : State) :
    ∃ t, serve i op r k h obj body s = .next t := by
  unfold serve
  split
  · exact ⟨_, rfl⟩
  · split
    · exact ⟨_, rfl⟩
    · split
      · exact ⟨_, rfl⟩
      · simp only
        split
        · exact ⟨_, rfl⟩
        · split <;> exact ⟨_, rfl⟩

/-- An admitted command is served by its own checks and effect. -/
theorem serve_admitted {i : Instr} {op : Nat} {r : Right} {k : Key} {h : Hdr} {obj : Handle} {body : State → Ans} {s : State}
    (ha : admits i s = true) (hi : hdrOf i = some h) (hr : opRow (opOf i) = some (r, k)) :
    serve i op r k h obj body s = .next (close i op r h obj (sessNamed h s) (body (sessNamed h s))) := by
  simp only [admits, hi, hr, Bool.and_eq_true, bne_iff_ne, ne_eq, Bool.not_eq_true', Bool.and_eq_false_iff] at ha
  obtain ⟨⟨⟨⟨hm, hp⟩, hk⟩, hn⟩, hv⟩ := ha
  unfold serve
  have h2 : ¬ (s.pair.applying.isSome = true ∧ h.via = .self) := by
    rintro ⟨a, b⟩
    rcases hp with hp | hp
    · simp [a] at hp
    · simp [b] at hp
  simp only [hm, if_false, h2, hk, Bool.not_true, Bool.false_eq_true, hv]
  cases hx : k.refuses s.sys.mode with
  | none => rfl
  | some c => simp [hx] at hn

/-- An admitted command whose checks pass: its effect, then its audit entry and its reply (R446). -/
theorem serve_done {i : Instr} {op : Nat} {r : Right} {k : Key} {h : Hdr} {obj : Handle} {body : State → Ans} {s u : State}
    {c : Status} {p : List Byte} (ha : admits i s = true) (hi : hdrOf i = some h) (hr : opRow (opOf i) = some (r, k))
    (hb : body (sessNamed h s) = .done c p u) (hp : p.length ≤ payloadLimit (sessNamed h s) h.via) :
    serve i op r k h obj body s = .next (answer op r h obj c p (announceCmd i obj p u)) := by
  rw [serve_admitted ha hi hr, hb]
  simp only [close, Nat.not_lt.mpr hp, if_false]

/-- An admitted command whose checks pass and whose outcome comes later (R446). -/
theorem serve_hold {i : Instr} {op : Nat} {r : Right} {k : Key} {h : Hdr} {obj : Handle} {body : State → Ans} {s u : State}
    (ha : admits i s = true) (hi : hdrOf i = some h) (hr : opRow (opOf i) = some (r, k))
    (hb : body (sessNamed h s) = .hold u) :
    serve i op r k h obj body s = .next (inProgress op h (announceCmd i obj [] u)) := by
  rw [serve_admitted ha hi hr, hb]; rfl

/-- How a served command's statement is met: its opcode's row, its service, and what its checks and effect answer. -/
theorem serves_of {i : Instr} {r : Right} {k : Key} {h : Hdr} {obj : Handle} {body : State → Ans} {s u : State} {c : Status}
    {p : List Byte} (hi : hdrOf i = some h) (hx : exec i s = serve i (opOf i) r k h obj body s)
    (hr : opRow (opOf i) = some (r, k)) (hb : body (sessNamed h s) = .done c p u) : Serves i obj s c p u := by
  intro ha h' hh hp
  obtain rfl : h = h' := Option.some.inj (hi.symm.trans hh)
  rw [hx, serve_done ha hi hr hb hp, rightOf, hr]; rfl

/-- The same of a command that asks for a reset. -/
theorem servesReset_of {i : Instr} {r : Right} {k : Key} {h : Hdr} {obj : Handle} {body : State → Ans} {s u : State} {c : Status}
    {p : List Byte} (hi : hdrOf i = some h) (hx : exec i s = thenReset (serve i (opOf i) r k h obj body s))
    (hr : opRow (opOf i) = some (r, k)) (hb : body (sessNamed h s) = .done c p u) : ServesReset i obj s c p u := by
  intro ha h' hh hp
  obtain rfl : h = h' := Option.some.inj (hi.symm.trans hh)
  rw [hx, serve_done ha hi hr hb hp, rightOf, hr]; rfl

/-- The same of a command whose outcome comes later. -/
theorem starts_of {i : Instr} {r : Right} {k : Key} {h : Hdr} {obj : Handle} {body : State → Ans} {s u : State}
    (hi : hdrOf i = some h) (hx : exec i s = serve i (opOf i) r k h obj body s)
    (hr : opRow (opOf i) = some (r, k)) (hb : body (sessNamed h s) = .hold u) : Starts i s obj u := by
  intro ha h' hh
  obtain rfl : h = h' := Option.some.inj (hi.symm.trans hh)
  rw [hx, serve_hold ha hi hr hb]

/-- A check that holds lets the chain go on. -/
@[simp] theorem need_true (c : Status) : need true c = .ok () := rfl

/-- A check that fails decides. -/
@[simp] theorem need_false (c : Status) : need false c = .error c := rfl

/-- A value that is there. -/
@[simp] theorem get_some {α : Type} (c : Status) (a : α) : get! c (some a) = .ok a := rfl

/-- A value that is missing decides. -/
@[simp] theorem get_none {α : Type} (c : Status) : get! c (none : Option α) = .error c := rfl

/-- A chain that accepts. -/
@[simp] theorem chk_ok (c : Status) (p : List Byte) (s : State) : chk (.ok (c, p, s)) = .done c p s := rfl

/-- A chain that refuses. -/
@[simp] theorem chk_error (c : Status) : chk (.error c) = .fail c := rfl

/-- The next step of a chain after one that held. -/
@[simp] theorem chk_bind_ok {α β : Type} (a : α) (f : α → Chk β) : (Except.ok a >>= f : Chk β) = f a := rfl

/-- The next step of a chain after one that failed. -/
@[simp] theorem chk_bind_error {α β : Type} (c : Status) (f : α → Chk β) : (Except.error c >>= f : Chk β) = .error c := rfl

end Sys2Proof.Laws
end

