-- ==== Sys2Proof/Laws/State.lean ====
section
/-! SUPPORT. The updates of one part of the state, field by field: each changes its own part and reads every other part as it was. All of
these hold by definition, and simp carries them, so that no later proof unfolds an update. -/

set_option Elab.async false

namespace Sys2Proof.Laws

open Machine

@[simp] theorem amod_pending (i : Nat) (f : Analogue → Analogue) (s : State) : (amod i f s).pending = s.pending := rfl
@[simp] theorem amod_ident (i : Nat) (f : Analogue → Analogue) (s : State) : (amod i f s).ident = s.ident := rfl
@[simp] theorem amod_sys (i : Nat) (f : Analogue → Analogue) (s : State) : (amod i f s).sys = s.sys := rfl
@[simp] theorem amod_proto (i : Nat) (f : Analogue → Analogue) (s : State) : (amod i f s).proto = s.proto := rfl
@[simp] theorem amod_auth (i : Nat) (f : Analogue → Analogue) (s : State) : (amod i f s).auth = s.auth := rfl
@[simp] theorem amod_audit (i : Nat) (f : Analogue → Analogue) (s : State) : (amod i f s).audit = s.audit := rfl
@[simp] theorem amod_recs (i : Nat) (f : Analogue → Analogue) (s : State) : (amod i f s).recs = s.recs := rfl
@[simp] theorem amod_fw (i : Nat) (f : Analogue → Analogue) (s : State) : (amod i f s).fw = s.fw := rfl
@[simp] theorem amod_reg (i : Nat) (f : Analogue → Analogue) (s : State) : (amod i f s).reg = s.reg := rfl
@[simp] theorem amod_sched (i : Nat) (f : Analogue → Analogue) (s : State) : (amod i f s).sched = s.sched := rfl
@[simp] theorem amod_tb (i : Nat) (f : Analogue → Analogue) (s : State) : (amod i f s).tb = s.tb := rfl
@[simp] theorem amod_clk (i : Nat) (f : Analogue → Analogue) (s : State) : (amod i f s).clk = s.clk := rfl
@[simp] theorem amod_syn (i : Nat) (f : Analogue → Analogue) (s : State) : (amod i f s).syn = s.syn := rfl
@[simp] theorem amod_ports (i : Nat) (f : Analogue → Analogue) (s : State) : (amod i f s).ports = s.ports := rfl
@[simp] theorem amod_tuners (i : Nat) (f : Analogue → Analogue) (s : State) : (amod i f s).tuners = s.tuners := rfl
@[simp] theorem amod_probe (i : Nat) (f : Analogue → Analogue) (s : State) : (amod i f s).probe = s.probe := rfl
@[simp] theorem amod_warps (i : Nat) (f : Analogue → Analogue) (s : State) : (amod i f s).warps = s.warps := rfl
@[simp] theorem amod_calib (i : Nat) (f : Analogue → Analogue) (s : State) : (amod i f s).calib = s.calib := rfl
@[simp] theorem amod_dents (i : Nat) (f : Analogue → Analogue) (s : State) : (amod i f s).dents = s.dents := rfl
@[simp] theorem amod_reed (i : Nat) (f : Analogue → Analogue) (s : State) : (amod i f s).reed = s.reed := rfl
@[simp] theorem amod_weaves (i : Nat) (f : Analogue → Analogue) (s : State) : (amod i f s).weaves = s.weaves := rfl
@[simp] theorem amod_cluster (i : Nat) (f : Analogue → Analogue) (s : State) : (amod i f s).cluster = s.cluster := rfl
@[simp] theorem amod_ana (i : Nat) (f : Analogue → Analogue) (s : State) : (amod i f s).ana = tmod s.ana i f := rfl
@[simp] theorem amod_dig (i : Nat) (f : Analogue → Analogue) (s : State) : (amod i f s).dig = s.dig := rfl
@[simp] theorem amod_svcs (i : Nat) (f : Analogue → Analogue) (s : State) : (amod i f s).svcs = s.svcs := rfl
@[simp] theorem amod_comps (i : Nat) (f : Analogue → Analogue) (s : State) : (amod i f s).comps = s.comps := rfl
@[simp] theorem amod_svcChg (i : Nat) (f : Analogue → Analogue) (s : State) : (amod i f s).svcChg = s.svcChg := rfl
@[simp] theorem amod_invFull (i : Nat) (f : Analogue → Analogue) (s : State) : (amod i f s).invFull = s.invFull := rfl
@[simp] theorem amod_survey (i : Nat) (f : Analogue → Analogue) (s : State) : (amod i f s).survey = s.survey := rfl
@[simp] theorem amod_time (i : Nat) (f : Analogue → Analogue) (s : State) : (amod i f s).time = s.time := rfl
@[simp] theorem amod_follows (i : Nat) (f : Analogue → Analogue) (s : State) : (amod i f s).follows = s.follows := rfl
@[simp] theorem amod_meas (i : Nat) (f : Analogue → Analogue) (s : State) : (amod i f s).meas = s.meas := rfl
@[simp] theorem amod_thrs (i : Nat) (f : Analogue → Analogue) (s : State) : (amod i f s).thrs = s.thrs := rfl
@[simp] theorem amod_louds (i : Nat) (f : Analogue → Analogue) (s : State) : (amod i f s).louds = s.louds := rfl
@[simp] theorem amod_verifs (i : Nat) (f : Analogue → Analogue) (s : State) : (amod i f s).verifs = s.verifs := rfl
@[simp] theorem amod_tdm (i : Nat) (f : Analogue → Analogue) (s : State) : (amod i f s).tdm = s.tdm := rfl
@[simp] theorem amod_streams (i : Nat) (f : Analogue → Analogue) (s : State) : (amod i f s).streams = s.streams := rfl
@[simp] theorem amod_aligns (i : Nat) (f : Analogue → Analogue) (s : State) : (amod i f s).aligns = s.aligns := rfl
@[simp] theorem amod_eth (i : Nat) (f : Analogue → Analogue) (s : State) : (amod i f s).eth = s.eth := rfl
@[simp] theorem amod_mb (i : Nat) (f : Analogue → Analogue) (s : State) : (amod i f s).mb = s.mb := rfl
@[simp] theorem amod_pb (i : Nat) (f : Analogue → Analogue) (s : State) : (amod i f s).pb = s.pb := rfl
@[simp] theorem amod_periphs (i : Nat) (f : Analogue → Analogue) (s : State) : (amod i f s).periphs = s.periphs := rfl
@[simp] theorem amod_rtc (i : Nat) (f : Analogue → Analogue) (s : State) : (amod i f s).rtc = s.rtc := rfl
@[simp] theorem amod_pair (i : Nat) (f : Analogue → Analogue) (s : State) : (amod i f s).pair = s.pair := rfl

@[simp] theorem authmod_pending (f : Auth → Auth) (s : State) : (authmod f s).pending = s.pending := rfl
@[simp] theorem authmod_ident (f : Auth → Auth) (s : State) : (authmod f s).ident = s.ident := rfl
@[simp] theorem authmod_sys (f : Auth → Auth) (s : State) : (authmod f s).sys = s.sys := rfl
@[simp] theorem authmod_proto (f : Auth → Auth) (s : State) : (authmod f s).proto = s.proto := rfl
@[simp] theorem authmod_auth (f : Auth → Auth) (s : State) : (authmod f s).auth = f s.auth := rfl
@[simp] theorem authmod_audit (f : Auth → Auth) (s : State) : (authmod f s).audit = s.audit := rfl
@[simp] theorem authmod_recs (f : Auth → Auth) (s : State) : (authmod f s).recs = s.recs := rfl
@[simp] theorem authmod_fw (f : Auth → Auth) (s : State) : (authmod f s).fw = s.fw := rfl
@[simp] theorem authmod_reg (f : Auth → Auth) (s : State) : (authmod f s).reg = s.reg := rfl
@[simp] theorem authmod_sched (f : Auth → Auth) (s : State) : (authmod f s).sched = s.sched := rfl
@[simp] theorem authmod_tb (f : Auth → Auth) (s : State) : (authmod f s).tb = s.tb := rfl
@[simp] theorem authmod_clk (f : Auth → Auth) (s : State) : (authmod f s).clk = s.clk := rfl
@[simp] theorem authmod_syn (f : Auth → Auth) (s : State) : (authmod f s).syn = s.syn := rfl
@[simp] theorem authmod_ports (f : Auth → Auth) (s : State) : (authmod f s).ports = s.ports := rfl
@[simp] theorem authmod_tuners (f : Auth → Auth) (s : State) : (authmod f s).tuners = s.tuners := rfl
@[simp] theorem authmod_probe (f : Auth → Auth) (s : State) : (authmod f s).probe = s.probe := rfl
@[simp] theorem authmod_warps (f : Auth → Auth) (s : State) : (authmod f s).warps = s.warps := rfl
@[simp] theorem authmod_calib (f : Auth → Auth) (s : State) : (authmod f s).calib = s.calib := rfl
@[simp] theorem authmod_dents (f : Auth → Auth) (s : State) : (authmod f s).dents = s.dents := rfl
@[simp] theorem authmod_reed (f : Auth → Auth) (s : State) : (authmod f s).reed = s.reed := rfl
@[simp] theorem authmod_weaves (f : Auth → Auth) (s : State) : (authmod f s).weaves = s.weaves := rfl
@[simp] theorem authmod_cluster (f : Auth → Auth) (s : State) : (authmod f s).cluster = s.cluster := rfl
@[simp] theorem authmod_ana (f : Auth → Auth) (s : State) : (authmod f s).ana = s.ana := rfl
@[simp] theorem authmod_dig (f : Auth → Auth) (s : State) : (authmod f s).dig = s.dig := rfl
@[simp] theorem authmod_svcs (f : Auth → Auth) (s : State) : (authmod f s).svcs = s.svcs := rfl
@[simp] theorem authmod_comps (f : Auth → Auth) (s : State) : (authmod f s).comps = s.comps := rfl
@[simp] theorem authmod_svcChg (f : Auth → Auth) (s : State) : (authmod f s).svcChg = s.svcChg := rfl
@[simp] theorem authmod_invFull (f : Auth → Auth) (s : State) : (authmod f s).invFull = s.invFull := rfl
@[simp] theorem authmod_survey (f : Auth → Auth) (s : State) : (authmod f s).survey = s.survey := rfl
@[simp] theorem authmod_time (f : Auth → Auth) (s : State) : (authmod f s).time = s.time := rfl
@[simp] theorem authmod_follows (f : Auth → Auth) (s : State) : (authmod f s).follows = s.follows := rfl
@[simp] theorem authmod_meas (f : Auth → Auth) (s : State) : (authmod f s).meas = s.meas := rfl
@[simp] theorem authmod_thrs (f : Auth → Auth) (s : State) : (authmod f s).thrs = s.thrs := rfl
@[simp] theorem authmod_louds (f : Auth → Auth) (s : State) : (authmod f s).louds = s.louds := rfl
@[simp] theorem authmod_verifs (f : Auth → Auth) (s : State) : (authmod f s).verifs = s.verifs := rfl
@[simp] theorem authmod_tdm (f : Auth → Auth) (s : State) : (authmod f s).tdm = s.tdm := rfl
@[simp] theorem authmod_streams (f : Auth → Auth) (s : State) : (authmod f s).streams = s.streams := rfl
@[simp] theorem authmod_aligns (f : Auth → Auth) (s : State) : (authmod f s).aligns = s.aligns := rfl
@[simp] theorem authmod_eth (f : Auth → Auth) (s : State) : (authmod f s).eth = s.eth := rfl
@[simp] theorem authmod_mb (f : Auth → Auth) (s : State) : (authmod f s).mb = s.mb := rfl
@[simp] theorem authmod_pb (f : Auth → Auth) (s : State) : (authmod f s).pb = s.pb := rfl
@[simp] theorem authmod_periphs (f : Auth → Auth) (s : State) : (authmod f s).periphs = s.periphs := rfl
@[simp] theorem authmod_rtc (f : Auth → Auth) (s : State) : (authmod f s).rtc = s.rtc := rfl
@[simp] theorem authmod_pair (f : Auth → Auth) (s : State) : (authmod f s).pair = s.pair := rfl

@[simp] theorem sysmod_pending (f : Sys → Sys) (s : State) : (sysmod f s).pending = s.pending := rfl
@[simp] theorem sysmod_ident (f : Sys → Sys) (s : State) : (sysmod f s).ident = s.ident := rfl
@[simp] theorem sysmod_sys (f : Sys → Sys) (s : State) : (sysmod f s).sys = f s.sys := rfl
@[simp] theorem sysmod_proto (f : Sys → Sys) (s : State) : (sysmod f s).proto = s.proto := rfl
@[simp] theorem sysmod_auth (f : Sys → Sys) (s : State) : (sysmod f s).auth = s.auth := rfl
@[simp] theorem sysmod_audit (f : Sys → Sys) (s : State) : (sysmod f s).audit = s.audit := rfl
@[simp] theorem sysmod_recs (f : Sys → Sys) (s : State) : (sysmod f s).recs = s.recs := rfl
@[simp] theorem sysmod_fw (f : Sys → Sys) (s : State) : (sysmod f s).fw = s.fw := rfl
@[simp] theorem sysmod_reg (f : Sys → Sys) (s : State) : (sysmod f s).reg = s.reg := rfl
@[simp] theorem sysmod_sched (f : Sys → Sys) (s : State) : (sysmod f s).sched = s.sched := rfl
@[simp] theorem sysmod_tb (f : Sys → Sys) (s : State) : (sysmod f s).tb = s.tb := rfl
@[simp] theorem sysmod_clk (f : Sys → Sys) (s : State) : (sysmod f s).clk = s.clk := rfl
@[simp] theorem sysmod_syn (f : Sys → Sys) (s : State) : (sysmod f s).syn = s.syn := rfl
@[simp] theorem sysmod_ports (f : Sys → Sys) (s : State) : (sysmod f s).ports = s.ports := rfl
@[simp] theorem sysmod_tuners (f : Sys → Sys) (s : State) : (sysmod f s).tuners = s.tuners := rfl
@[simp] theorem sysmod_probe (f : Sys → Sys) (s : State) : (sysmod f s).probe = s.probe := rfl
@[simp] theorem sysmod_warps (f : Sys → Sys) (s : State) : (sysmod f s).warps = s.warps := rfl
@[simp] theorem sysmod_calib (f : Sys → Sys) (s : State) : (sysmod f s).calib = s.calib := rfl
@[simp] theorem sysmod_dents (f : Sys → Sys) (s : State) : (sysmod f s).dents = s.dents := rfl
@[simp] theorem sysmod_reed (f : Sys → Sys) (s : State) : (sysmod f s).reed = s.reed := rfl
@[simp] theorem sysmod_weaves (f : Sys → Sys) (s : State) : (sysmod f s).weaves = s.weaves := rfl
@[simp] theorem sysmod_cluster (f : Sys → Sys) (s : State) : (sysmod f s).cluster = s.cluster := rfl
@[simp] theorem sysmod_ana (f : Sys → Sys) (s : State) : (sysmod f s).ana = s.ana := rfl
@[simp] theorem sysmod_dig (f : Sys → Sys) (s : State) : (sysmod f s).dig = s.dig := rfl
@[simp] theorem sysmod_svcs (f : Sys → Sys) (s : State) : (sysmod f s).svcs = s.svcs := rfl
@[simp] theorem sysmod_comps (f : Sys → Sys) (s : State) : (sysmod f s).comps = s.comps := rfl
@[simp] theorem sysmod_svcChg (f : Sys → Sys) (s : State) : (sysmod f s).svcChg = s.svcChg := rfl
@[simp] theorem sysmod_invFull (f : Sys → Sys) (s : State) : (sysmod f s).invFull = s.invFull := rfl
@[simp] theorem sysmod_survey (f : Sys → Sys) (s : State) : (sysmod f s).survey = s.survey := rfl
@[simp] theorem sysmod_time (f : Sys → Sys) (s : State) : (sysmod f s).time = s.time := rfl
@[simp] theorem sysmod_follows (f : Sys → Sys) (s : State) : (sysmod f s).follows = s.follows := rfl
@[simp] theorem sysmod_meas (f : Sys → Sys) (s : State) : (sysmod f s).meas = s.meas := rfl
@[simp] theorem sysmod_thrs (f : Sys → Sys) (s : State) : (sysmod f s).thrs = s.thrs := rfl
@[simp] theorem sysmod_louds (f : Sys → Sys) (s : State) : (sysmod f s).louds = s.louds := rfl
@[simp] theorem sysmod_verifs (f : Sys → Sys) (s : State) : (sysmod f s).verifs = s.verifs := rfl
@[simp] theorem sysmod_tdm (f : Sys → Sys) (s : State) : (sysmod f s).tdm = s.tdm := rfl
@[simp] theorem sysmod_streams (f : Sys → Sys) (s : State) : (sysmod f s).streams = s.streams := rfl
@[simp] theorem sysmod_aligns (f : Sys → Sys) (s : State) : (sysmod f s).aligns = s.aligns := rfl
@[simp] theorem sysmod_eth (f : Sys → Sys) (s : State) : (sysmod f s).eth = s.eth := rfl
@[simp] theorem sysmod_mb (f : Sys → Sys) (s : State) : (sysmod f s).mb = s.mb := rfl
@[simp] theorem sysmod_pb (f : Sys → Sys) (s : State) : (sysmod f s).pb = s.pb := rfl
@[simp] theorem sysmod_periphs (f : Sys → Sys) (s : State) : (sysmod f s).periphs = s.periphs := rfl
@[simp] theorem sysmod_rtc (f : Sys → Sys) (s : State) : (sysmod f s).rtc = s.rtc := rfl
@[simp] theorem sysmod_pair (f : Sys → Sys) (s : State) : (sysmod f s).pair = s.pair := rfl

@[simp] theorem ckmod_pending (f : Clocks → Clocks) (s : State) : (ckmod f s).pending = s.pending := rfl
@[simp] theorem ckmod_ident (f : Clocks → Clocks) (s : State) : (ckmod f s).ident = s.ident := rfl
@[simp] theorem ckmod_sys (f : Clocks → Clocks) (s : State) : (ckmod f s).sys = s.sys := rfl
@[simp] theorem ckmod_proto (f : Clocks → Clocks) (s : State) : (ckmod f s).proto = s.proto := rfl
@[simp] theorem ckmod_auth (f : Clocks → Clocks) (s : State) : (ckmod f s).auth = s.auth := rfl
@[simp] theorem ckmod_audit (f : Clocks → Clocks) (s : State) : (ckmod f s).audit = s.audit := rfl
@[simp] theorem ckmod_recs (f : Clocks → Clocks) (s : State) : (ckmod f s).recs = s.recs := rfl
@[simp] theorem ckmod_fw (f : Clocks → Clocks) (s : State) : (ckmod f s).fw = s.fw := rfl
@[simp] theorem ckmod_reg (f : Clocks → Clocks) (s : State) : (ckmod f s).reg = s.reg := rfl
@[simp] theorem ckmod_sched (f : Clocks → Clocks) (s : State) : (ckmod f s).sched = s.sched := rfl
@[simp] theorem ckmod_tb (f : Clocks → Clocks) (s : State) : (ckmod f s).tb = s.tb := rfl
@[simp] theorem ckmod_clk (f : Clocks → Clocks) (s : State) : (ckmod f s).clk = f s.clk := rfl
@[simp] theorem ckmod_syn (f : Clocks → Clocks) (s : State) : (ckmod f s).syn = s.syn := rfl
@[simp] theorem ckmod_ports (f : Clocks → Clocks) (s : State) : (ckmod f s).ports = s.ports := rfl
@[simp] theorem ckmod_tuners (f : Clocks → Clocks) (s : State) : (ckmod f s).tuners = s.tuners := rfl
@[simp] theorem ckmod_probe (f : Clocks → Clocks) (s : State) : (ckmod f s).probe = s.probe := rfl
@[simp] theorem ckmod_warps (f : Clocks → Clocks) (s : State) : (ckmod f s).warps = s.warps := rfl
@[simp] theorem ckmod_calib (f : Clocks → Clocks) (s : State) : (ckmod f s).calib = s.calib := rfl
@[simp] theorem ckmod_dents (f : Clocks → Clocks) (s : State) : (ckmod f s).dents = s.dents := rfl
@[simp] theorem ckmod_reed (f : Clocks → Clocks) (s : State) : (ckmod f s).reed = s.reed := rfl
@[simp] theorem ckmod_weaves (f : Clocks → Clocks) (s : State) : (ckmod f s).weaves = s.weaves := rfl
@[simp] theorem ckmod_cluster (f : Clocks → Clocks) (s : State) : (ckmod f s).cluster = s.cluster := rfl
@[simp] theorem ckmod_ana (f : Clocks → Clocks) (s : State) : (ckmod f s).ana = s.ana := rfl
@[simp] theorem ckmod_dig (f : Clocks → Clocks) (s : State) : (ckmod f s).dig = s.dig := rfl
@[simp] theorem ckmod_svcs (f : Clocks → Clocks) (s : State) : (ckmod f s).svcs = s.svcs := rfl
@[simp] theorem ckmod_comps (f : Clocks → Clocks) (s : State) : (ckmod f s).comps = s.comps := rfl
@[simp] theorem ckmod_svcChg (f : Clocks → Clocks) (s : State) : (ckmod f s).svcChg = s.svcChg := rfl
@[simp] theorem ckmod_invFull (f : Clocks → Clocks) (s : State) : (ckmod f s).invFull = s.invFull := rfl
@[simp] theorem ckmod_survey (f : Clocks → Clocks) (s : State) : (ckmod f s).survey = s.survey := rfl
@[simp] theorem ckmod_time (f : Clocks → Clocks) (s : State) : (ckmod f s).time = s.time := rfl
@[simp] theorem ckmod_follows (f : Clocks → Clocks) (s : State) : (ckmod f s).follows = s.follows := rfl
@[simp] theorem ckmod_meas (f : Clocks → Clocks) (s : State) : (ckmod f s).meas = s.meas := rfl
@[simp] theorem ckmod_thrs (f : Clocks → Clocks) (s : State) : (ckmod f s).thrs = s.thrs := rfl
@[simp] theorem ckmod_louds (f : Clocks → Clocks) (s : State) : (ckmod f s).louds = s.louds := rfl
@[simp] theorem ckmod_verifs (f : Clocks → Clocks) (s : State) : (ckmod f s).verifs = s.verifs := rfl
@[simp] theorem ckmod_tdm (f : Clocks → Clocks) (s : State) : (ckmod f s).tdm = s.tdm := rfl
@[simp] theorem ckmod_streams (f : Clocks → Clocks) (s : State) : (ckmod f s).streams = s.streams := rfl
@[simp] theorem ckmod_aligns (f : Clocks → Clocks) (s : State) : (ckmod f s).aligns = s.aligns := rfl
@[simp] theorem ckmod_eth (f : Clocks → Clocks) (s : State) : (ckmod f s).eth = s.eth := rfl
@[simp] theorem ckmod_mb (f : Clocks → Clocks) (s : State) : (ckmod f s).mb = s.mb := rfl
@[simp] theorem ckmod_pb (f : Clocks → Clocks) (s : State) : (ckmod f s).pb = s.pb := rfl
@[simp] theorem ckmod_periphs (f : Clocks → Clocks) (s : State) : (ckmod f s).periphs = s.periphs := rfl
@[simp] theorem ckmod_rtc (f : Clocks → Clocks) (s : State) : (ckmod f s).rtc = s.rtc := rfl
@[simp] theorem ckmod_pair (f : Clocks → Clocks) (s : State) : (ckmod f s).pair = s.pair := rfl

@[simp] theorem gmod_pending (i : Nat) (f : Digital → Digital) (s : State) : (gmod i f s).pending = s.pending := rfl
@[simp] theorem gmod_ident (i : Nat) (f : Digital → Digital) (s : State) : (gmod i f s).ident = s.ident := rfl
@[simp] theorem gmod_sys (i : Nat) (f : Digital → Digital) (s : State) : (gmod i f s).sys = s.sys := rfl
@[simp] theorem gmod_proto (i : Nat) (f : Digital → Digital) (s : State) : (gmod i f s).proto = s.proto := rfl
@[simp] theorem gmod_auth (i : Nat) (f : Digital → Digital) (s : State) : (gmod i f s).auth = s.auth := rfl
@[simp] theorem gmod_audit (i : Nat) (f : Digital → Digital) (s : State) : (gmod i f s).audit = s.audit := rfl
@[simp] theorem gmod_recs (i : Nat) (f : Digital → Digital) (s : State) : (gmod i f s).recs = s.recs := rfl
@[simp] theorem gmod_fw (i : Nat) (f : Digital → Digital) (s : State) : (gmod i f s).fw = s.fw := rfl
@[simp] theorem gmod_reg (i : Nat) (f : Digital → Digital) (s : State) : (gmod i f s).reg = s.reg := rfl
@[simp] theorem gmod_sched (i : Nat) (f : Digital → Digital) (s : State) : (gmod i f s).sched = s.sched := rfl
@[simp] theorem gmod_tb (i : Nat) (f : Digital → Digital) (s : State) : (gmod i f s).tb = s.tb := rfl
@[simp] theorem gmod_clk (i : Nat) (f : Digital → Digital) (s : State) : (gmod i f s).clk = s.clk := rfl
@[simp] theorem gmod_syn (i : Nat) (f : Digital → Digital) (s : State) : (gmod i f s).syn = s.syn := rfl
@[simp] theorem gmod_ports (i : Nat) (f : Digital → Digital) (s : State) : (gmod i f s).ports = s.ports := rfl
@[simp] theorem gmod_tuners (i : Nat) (f : Digital → Digital) (s : State) : (gmod i f s).tuners = s.tuners := rfl
@[simp] theorem gmod_probe (i : Nat) (f : Digital → Digital) (s : State) : (gmod i f s).probe = s.probe := rfl
@[simp] theorem gmod_warps (i : Nat) (f : Digital → Digital) (s : State) : (gmod i f s).warps = s.warps := rfl
@[simp] theorem gmod_calib (i : Nat) (f : Digital → Digital) (s : State) : (gmod i f s).calib = s.calib := rfl
@[simp] theorem gmod_dents (i : Nat) (f : Digital → Digital) (s : State) : (gmod i f s).dents = s.dents := rfl
@[simp] theorem gmod_reed (i : Nat) (f : Digital → Digital) (s : State) : (gmod i f s).reed = s.reed := rfl
@[simp] theorem gmod_weaves (i : Nat) (f : Digital → Digital) (s : State) : (gmod i f s).weaves = s.weaves := rfl
@[simp] theorem gmod_cluster (i : Nat) (f : Digital → Digital) (s : State) : (gmod i f s).cluster = s.cluster := rfl
@[simp] theorem gmod_ana (i : Nat) (f : Digital → Digital) (s : State) : (gmod i f s).ana = s.ana := rfl
@[simp] theorem gmod_dig (i : Nat) (f : Digital → Digital) (s : State) : (gmod i f s).dig = tmod s.dig i f := rfl
@[simp] theorem gmod_svcs (i : Nat) (f : Digital → Digital) (s : State) : (gmod i f s).svcs = s.svcs := rfl
@[simp] theorem gmod_comps (i : Nat) (f : Digital → Digital) (s : State) : (gmod i f s).comps = s.comps := rfl
@[simp] theorem gmod_svcChg (i : Nat) (f : Digital → Digital) (s : State) : (gmod i f s).svcChg = s.svcChg := rfl
@[simp] theorem gmod_invFull (i : Nat) (f : Digital → Digital) (s : State) : (gmod i f s).invFull = s.invFull := rfl
@[simp] theorem gmod_survey (i : Nat) (f : Digital → Digital) (s : State) : (gmod i f s).survey = s.survey := rfl
@[simp] theorem gmod_time (i : Nat) (f : Digital → Digital) (s : State) : (gmod i f s).time = s.time := rfl
@[simp] theorem gmod_follows (i : Nat) (f : Digital → Digital) (s : State) : (gmod i f s).follows = s.follows := rfl
@[simp] theorem gmod_meas (i : Nat) (f : Digital → Digital) (s : State) : (gmod i f s).meas = s.meas := rfl
@[simp] theorem gmod_thrs (i : Nat) (f : Digital → Digital) (s : State) : (gmod i f s).thrs = s.thrs := rfl
@[simp] theorem gmod_louds (i : Nat) (f : Digital → Digital) (s : State) : (gmod i f s).louds = s.louds := rfl
@[simp] theorem gmod_verifs (i : Nat) (f : Digital → Digital) (s : State) : (gmod i f s).verifs = s.verifs := rfl
@[simp] theorem gmod_tdm (i : Nat) (f : Digital → Digital) (s : State) : (gmod i f s).tdm = s.tdm := rfl
@[simp] theorem gmod_streams (i : Nat) (f : Digital → Digital) (s : State) : (gmod i f s).streams = s.streams := rfl
@[simp] theorem gmod_aligns (i : Nat) (f : Digital → Digital) (s : State) : (gmod i f s).aligns = s.aligns := rfl
@[simp] theorem gmod_eth (i : Nat) (f : Digital → Digital) (s : State) : (gmod i f s).eth = s.eth := rfl
@[simp] theorem gmod_mb (i : Nat) (f : Digital → Digital) (s : State) : (gmod i f s).mb = s.mb := rfl
@[simp] theorem gmod_pb (i : Nat) (f : Digital → Digital) (s : State) : (gmod i f s).pb = s.pb := rfl
@[simp] theorem gmod_periphs (i : Nat) (f : Digital → Digital) (s : State) : (gmod i f s).periphs = s.periphs := rfl
@[simp] theorem gmod_rtc (i : Nat) (f : Digital → Digital) (s : State) : (gmod i f s).rtc = s.rtc := rfl
@[simp] theorem gmod_pair (i : Nat) (f : Digital → Digital) (s : State) : (gmod i f s).pair = s.pair := rfl

@[simp] theorem epmod_pending (p : Nat) (f : EthPort → EthPort) (s : State) : (epmod p f s).pending = s.pending := rfl
@[simp] theorem epmod_ident (p : Nat) (f : EthPort → EthPort) (s : State) : (epmod p f s).ident = s.ident := rfl
@[simp] theorem epmod_sys (p : Nat) (f : EthPort → EthPort) (s : State) : (epmod p f s).sys = s.sys := rfl
@[simp] theorem epmod_proto (p : Nat) (f : EthPort → EthPort) (s : State) : (epmod p f s).proto = s.proto := rfl
@[simp] theorem epmod_auth (p : Nat) (f : EthPort → EthPort) (s : State) : (epmod p f s).auth = s.auth := rfl
@[simp] theorem epmod_audit (p : Nat) (f : EthPort → EthPort) (s : State) : (epmod p f s).audit = s.audit := rfl
@[simp] theorem epmod_recs (p : Nat) (f : EthPort → EthPort) (s : State) : (epmod p f s).recs = s.recs := rfl
@[simp] theorem epmod_fw (p : Nat) (f : EthPort → EthPort) (s : State) : (epmod p f s).fw = s.fw := rfl
@[simp] theorem epmod_reg (p : Nat) (f : EthPort → EthPort) (s : State) : (epmod p f s).reg = s.reg := rfl
@[simp] theorem epmod_sched (p : Nat) (f : EthPort → EthPort) (s : State) : (epmod p f s).sched = s.sched := rfl
@[simp] theorem epmod_tb (p : Nat) (f : EthPort → EthPort) (s : State) : (epmod p f s).tb = s.tb := rfl
@[simp] theorem epmod_clk (p : Nat) (f : EthPort → EthPort) (s : State) : (epmod p f s).clk = s.clk := rfl
@[simp] theorem epmod_syn (p : Nat) (f : EthPort → EthPort) (s : State) : (epmod p f s).syn = s.syn := rfl
@[simp] theorem epmod_ports (p : Nat) (f : EthPort → EthPort) (s : State) : (epmod p f s).ports = s.ports := rfl
@[simp] theorem epmod_tuners (p : Nat) (f : EthPort → EthPort) (s : State) : (epmod p f s).tuners = s.tuners := rfl
@[simp] theorem epmod_probe (p : Nat) (f : EthPort → EthPort) (s : State) : (epmod p f s).probe = s.probe := rfl
@[simp] theorem epmod_warps (p : Nat) (f : EthPort → EthPort) (s : State) : (epmod p f s).warps = s.warps := rfl
@[simp] theorem epmod_calib (p : Nat) (f : EthPort → EthPort) (s : State) : (epmod p f s).calib = s.calib := rfl
@[simp] theorem epmod_dents (p : Nat) (f : EthPort → EthPort) (s : State) : (epmod p f s).dents = s.dents := rfl
@[simp] theorem epmod_reed (p : Nat) (f : EthPort → EthPort) (s : State) : (epmod p f s).reed = s.reed := rfl
@[simp] theorem epmod_weaves (p : Nat) (f : EthPort → EthPort) (s : State) : (epmod p f s).weaves = s.weaves := rfl
@[simp] theorem epmod_cluster (p : Nat) (f : EthPort → EthPort) (s : State) : (epmod p f s).cluster = s.cluster := rfl
@[simp] theorem epmod_ana (p : Nat) (f : EthPort → EthPort) (s : State) : (epmod p f s).ana = s.ana := rfl
@[simp] theorem epmod_dig (p : Nat) (f : EthPort → EthPort) (s : State) : (epmod p f s).dig = s.dig := rfl
@[simp] theorem epmod_svcs (p : Nat) (f : EthPort → EthPort) (s : State) : (epmod p f s).svcs = s.svcs := rfl
@[simp] theorem epmod_comps (p : Nat) (f : EthPort → EthPort) (s : State) : (epmod p f s).comps = s.comps := rfl
@[simp] theorem epmod_svcChg (p : Nat) (f : EthPort → EthPort) (s : State) : (epmod p f s).svcChg = s.svcChg := rfl
@[simp] theorem epmod_invFull (p : Nat) (f : EthPort → EthPort) (s : State) : (epmod p f s).invFull = s.invFull := rfl
@[simp] theorem epmod_survey (p : Nat) (f : EthPort → EthPort) (s : State) : (epmod p f s).survey = s.survey := rfl
@[simp] theorem epmod_time (p : Nat) (f : EthPort → EthPort) (s : State) : (epmod p f s).time = s.time := rfl
@[simp] theorem epmod_follows (p : Nat) (f : EthPort → EthPort) (s : State) : (epmod p f s).follows = s.follows := rfl
@[simp] theorem epmod_meas (p : Nat) (f : EthPort → EthPort) (s : State) : (epmod p f s).meas = s.meas := rfl
@[simp] theorem epmod_thrs (p : Nat) (f : EthPort → EthPort) (s : State) : (epmod p f s).thrs = s.thrs := rfl
@[simp] theorem epmod_louds (p : Nat) (f : EthPort → EthPort) (s : State) : (epmod p f s).louds = s.louds := rfl
@[simp] theorem epmod_verifs (p : Nat) (f : EthPort → EthPort) (s : State) : (epmod p f s).verifs = s.verifs := rfl
@[simp] theorem epmod_tdm (p : Nat) (f : EthPort → EthPort) (s : State) : (epmod p f s).tdm = s.tdm := rfl
@[simp] theorem epmod_streams (p : Nat) (f : EthPort → EthPort) (s : State) : (epmod p f s).streams = s.streams := rfl
@[simp] theorem epmod_aligns (p : Nat) (f : EthPort → EthPort) (s : State) : (epmod p f s).aligns = s.aligns := rfl
@[simp] theorem epmod_eth (p : Nat) (f : EthPort → EthPort) (s : State) : (epmod p f s).eth = lmod s.eth p f := rfl
@[simp] theorem epmod_mb (p : Nat) (f : EthPort → EthPort) (s : State) : (epmod p f s).mb = s.mb := rfl
@[simp] theorem epmod_pb (p : Nat) (f : EthPort → EthPort) (s : State) : (epmod p f s).pb = s.pb := rfl
@[simp] theorem epmod_periphs (p : Nat) (f : EthPort → EthPort) (s : State) : (epmod p f s).periphs = s.periphs := rfl
@[simp] theorem epmod_rtc (p : Nat) (f : EthPort → EthPort) (s : State) : (epmod p f s).rtc = s.rtc := rfl
@[simp] theorem epmod_pair (p : Nat) (f : EthPort → EthPort) (s : State) : (epmod p f s).pair = s.pair := rfl

@[simp] theorem fmod_pending (i : Nat) (f : Follow → Follow) (s : State) : (fmod i f s).pending = s.pending := rfl
@[simp] theorem fmod_ident (i : Nat) (f : Follow → Follow) (s : State) : (fmod i f s).ident = s.ident := rfl
@[simp] theorem fmod_sys (i : Nat) (f : Follow → Follow) (s : State) : (fmod i f s).sys = s.sys := rfl
@[simp] theorem fmod_proto (i : Nat) (f : Follow → Follow) (s : State) : (fmod i f s).proto = s.proto := rfl
@[simp] theorem fmod_auth (i : Nat) (f : Follow → Follow) (s : State) : (fmod i f s).auth = s.auth := rfl
@[simp] theorem fmod_audit (i : Nat) (f : Follow → Follow) (s : State) : (fmod i f s).audit = s.audit := rfl
@[simp] theorem fmod_recs (i : Nat) (f : Follow → Follow) (s : State) : (fmod i f s).recs = s.recs := rfl
@[simp] theorem fmod_fw (i : Nat) (f : Follow → Follow) (s : State) : (fmod i f s).fw = s.fw := rfl
@[simp] theorem fmod_reg (i : Nat) (f : Follow → Follow) (s : State) : (fmod i f s).reg = s.reg := rfl
@[simp] theorem fmod_sched (i : Nat) (f : Follow → Follow) (s : State) : (fmod i f s).sched = s.sched := rfl
@[simp] theorem fmod_tb (i : Nat) (f : Follow → Follow) (s : State) : (fmod i f s).tb = s.tb := rfl
@[simp] theorem fmod_clk (i : Nat) (f : Follow → Follow) (s : State) : (fmod i f s).clk = s.clk := rfl
@[simp] theorem fmod_syn (i : Nat) (f : Follow → Follow) (s : State) : (fmod i f s).syn = s.syn := rfl
@[simp] theorem fmod_ports (i : Nat) (f : Follow → Follow) (s : State) : (fmod i f s).ports = s.ports := rfl
@[simp] theorem fmod_tuners (i : Nat) (f : Follow → Follow) (s : State) : (fmod i f s).tuners = s.tuners := rfl
@[simp] theorem fmod_probe (i : Nat) (f : Follow → Follow) (s : State) : (fmod i f s).probe = s.probe := rfl
@[simp] theorem fmod_warps (i : Nat) (f : Follow → Follow) (s : State) : (fmod i f s).warps = s.warps := rfl
@[simp] theorem fmod_calib (i : Nat) (f : Follow → Follow) (s : State) : (fmod i f s).calib = s.calib := rfl
@[simp] theorem fmod_dents (i : Nat) (f : Follow → Follow) (s : State) : (fmod i f s).dents = s.dents := rfl
@[simp] theorem fmod_reed (i : Nat) (f : Follow → Follow) (s : State) : (fmod i f s).reed = s.reed := rfl
@[simp] theorem fmod_weaves (i : Nat) (f : Follow → Follow) (s : State) : (fmod i f s).weaves = s.weaves := rfl
@[simp] theorem fmod_cluster (i : Nat) (f : Follow → Follow) (s : State) : (fmod i f s).cluster = s.cluster := rfl
@[simp] theorem fmod_ana (i : Nat) (f : Follow → Follow) (s : State) : (fmod i f s).ana = s.ana := rfl
@[simp] theorem fmod_dig (i : Nat) (f : Follow → Follow) (s : State) : (fmod i f s).dig = s.dig := rfl
@[simp] theorem fmod_svcs (i : Nat) (f : Follow → Follow) (s : State) : (fmod i f s).svcs = s.svcs := rfl
@[simp] theorem fmod_comps (i : Nat) (f : Follow → Follow) (s : State) : (fmod i f s).comps = s.comps := rfl
@[simp] theorem fmod_svcChg (i : Nat) (f : Follow → Follow) (s : State) : (fmod i f s).svcChg = s.svcChg := rfl
@[simp] theorem fmod_invFull (i : Nat) (f : Follow → Follow) (s : State) : (fmod i f s).invFull = s.invFull := rfl
@[simp] theorem fmod_survey (i : Nat) (f : Follow → Follow) (s : State) : (fmod i f s).survey = s.survey := rfl
@[simp] theorem fmod_time (i : Nat) (f : Follow → Follow) (s : State) : (fmod i f s).time = s.time := rfl
@[simp] theorem fmod_follows (i : Nat) (f : Follow → Follow) (s : State) : (fmod i f s).follows = tmod s.follows i f := rfl
@[simp] theorem fmod_meas (i : Nat) (f : Follow → Follow) (s : State) : (fmod i f s).meas = s.meas := rfl
@[simp] theorem fmod_thrs (i : Nat) (f : Follow → Follow) (s : State) : (fmod i f s).thrs = s.thrs := rfl
@[simp] theorem fmod_louds (i : Nat) (f : Follow → Follow) (s : State) : (fmod i f s).louds = s.louds := rfl
@[simp] theorem fmod_verifs (i : Nat) (f : Follow → Follow) (s : State) : (fmod i f s).verifs = s.verifs := rfl
@[simp] theorem fmod_tdm (i : Nat) (f : Follow → Follow) (s : State) : (fmod i f s).tdm = s.tdm := rfl
@[simp] theorem fmod_streams (i : Nat) (f : Follow → Follow) (s : State) : (fmod i f s).streams = s.streams := rfl
@[simp] theorem fmod_aligns (i : Nat) (f : Follow → Follow) (s : State) : (fmod i f s).aligns = s.aligns := rfl
@[simp] theorem fmod_eth (i : Nat) (f : Follow → Follow) (s : State) : (fmod i f s).eth = s.eth := rfl
@[simp] theorem fmod_mb (i : Nat) (f : Follow → Follow) (s : State) : (fmod i f s).mb = s.mb := rfl
@[simp] theorem fmod_pb (i : Nat) (f : Follow → Follow) (s : State) : (fmod i f s).pb = s.pb := rfl
@[simp] theorem fmod_periphs (i : Nat) (f : Follow → Follow) (s : State) : (fmod i f s).periphs = s.periphs := rfl
@[simp] theorem fmod_rtc (i : Nat) (f : Follow → Follow) (s : State) : (fmod i f s).rtc = s.rtc := rfl
@[simp] theorem fmod_pair (i : Nat) (f : Follow → Follow) (s : State) : (fmod i f s).pair = s.pair := rfl

@[simp] theorem fwmod_pending (f : Firmware → Firmware) (s : State) : (fwmod f s).pending = s.pending := rfl
@[simp] theorem fwmod_ident (f : Firmware → Firmware) (s : State) : (fwmod f s).ident = s.ident := rfl
@[simp] theorem fwmod_sys (f : Firmware → Firmware) (s : State) : (fwmod f s).sys = s.sys := rfl
@[simp] theorem fwmod_proto (f : Firmware → Firmware) (s : State) : (fwmod f s).proto = s.proto := rfl
@[simp] theorem fwmod_auth (f : Firmware → Firmware) (s : State) : (fwmod f s).auth = s.auth := rfl
@[simp] theorem fwmod_audit (f : Firmware → Firmware) (s : State) : (fwmod f s).audit = s.audit := rfl
@[simp] theorem fwmod_recs (f : Firmware → Firmware) (s : State) : (fwmod f s).recs = s.recs := rfl
@[simp] theorem fwmod_fw (f : Firmware → Firmware) (s : State) : (fwmod f s).fw = f s.fw := rfl
@[simp] theorem fwmod_reg (f : Firmware → Firmware) (s : State) : (fwmod f s).reg = s.reg := rfl
@[simp] theorem fwmod_sched (f : Firmware → Firmware) (s : State) : (fwmod f s).sched = s.sched := rfl
@[simp] theorem fwmod_tb (f : Firmware → Firmware) (s : State) : (fwmod f s).tb = s.tb := rfl
@[simp] theorem fwmod_clk (f : Firmware → Firmware) (s : State) : (fwmod f s).clk = s.clk := rfl
@[simp] theorem fwmod_syn (f : Firmware → Firmware) (s : State) : (fwmod f s).syn = s.syn := rfl
@[simp] theorem fwmod_ports (f : Firmware → Firmware) (s : State) : (fwmod f s).ports = s.ports := rfl
@[simp] theorem fwmod_tuners (f : Firmware → Firmware) (s : State) : (fwmod f s).tuners = s.tuners := rfl
@[simp] theorem fwmod_probe (f : Firmware → Firmware) (s : State) : (fwmod f s).probe = s.probe := rfl
@[simp] theorem fwmod_warps (f : Firmware → Firmware) (s : State) : (fwmod f s).warps = s.warps := rfl
@[simp] theorem fwmod_calib (f : Firmware → Firmware) (s : State) : (fwmod f s).calib = s.calib := rfl
@[simp] theorem fwmod_dents (f : Firmware → Firmware) (s : State) : (fwmod f s).dents = s.dents := rfl
@[simp] theorem fwmod_reed (f : Firmware → Firmware) (s : State) : (fwmod f s).reed = s.reed := rfl
@[simp] theorem fwmod_weaves (f : Firmware → Firmware) (s : State) : (fwmod f s).weaves = s.weaves := rfl
@[simp] theorem fwmod_cluster (f : Firmware → Firmware) (s : State) : (fwmod f s).cluster = s.cluster := rfl
@[simp] theorem fwmod_ana (f : Firmware → Firmware) (s : State) : (fwmod f s).ana = s.ana := rfl
@[simp] theorem fwmod_dig (f : Firmware → Firmware) (s : State) : (fwmod f s).dig = s.dig := rfl
@[simp] theorem fwmod_svcs (f : Firmware → Firmware) (s : State) : (fwmod f s).svcs = s.svcs := rfl
@[simp] theorem fwmod_comps (f : Firmware → Firmware) (s : State) : (fwmod f s).comps = s.comps := rfl
@[simp] theorem fwmod_svcChg (f : Firmware → Firmware) (s : State) : (fwmod f s).svcChg = s.svcChg := rfl
@[simp] theorem fwmod_invFull (f : Firmware → Firmware) (s : State) : (fwmod f s).invFull = s.invFull := rfl
@[simp] theorem fwmod_survey (f : Firmware → Firmware) (s : State) : (fwmod f s).survey = s.survey := rfl
@[simp] theorem fwmod_time (f : Firmware → Firmware) (s : State) : (fwmod f s).time = s.time := rfl
@[simp] theorem fwmod_follows (f : Firmware → Firmware) (s : State) : (fwmod f s).follows = s.follows := rfl
@[simp] theorem fwmod_meas (f : Firmware → Firmware) (s : State) : (fwmod f s).meas = s.meas := rfl
@[simp] theorem fwmod_thrs (f : Firmware → Firmware) (s : State) : (fwmod f s).thrs = s.thrs := rfl
@[simp] theorem fwmod_louds (f : Firmware → Firmware) (s : State) : (fwmod f s).louds = s.louds := rfl
@[simp] theorem fwmod_verifs (f : Firmware → Firmware) (s : State) : (fwmod f s).verifs = s.verifs := rfl
@[simp] theorem fwmod_tdm (f : Firmware → Firmware) (s : State) : (fwmod f s).tdm = s.tdm := rfl
@[simp] theorem fwmod_streams (f : Firmware → Firmware) (s : State) : (fwmod f s).streams = s.streams := rfl
@[simp] theorem fwmod_aligns (f : Firmware → Firmware) (s : State) : (fwmod f s).aligns = s.aligns := rfl
@[simp] theorem fwmod_eth (f : Firmware → Firmware) (s : State) : (fwmod f s).eth = s.eth := rfl
@[simp] theorem fwmod_mb (f : Firmware → Firmware) (s : State) : (fwmod f s).mb = s.mb := rfl
@[simp] theorem fwmod_pb (f : Firmware → Firmware) (s : State) : (fwmod f s).pb = s.pb := rfl
@[simp] theorem fwmod_periphs (f : Firmware → Firmware) (s : State) : (fwmod f s).periphs = s.periphs := rfl
@[simp] theorem fwmod_rtc (f : Firmware → Firmware) (s : State) : (fwmod f s).rtc = s.rtc := rfl
@[simp] theorem fwmod_pair (f : Firmware → Firmware) (s : State) : (fwmod f s).pair = s.pair := rfl

@[simp] theorem drawn_pending (s : State) : (drawn s).pending = s.pending := rfl
@[simp] theorem drawn_ident (s : State) : (drawn s).ident = s.ident := rfl
@[simp] theorem drawn_sys (s : State) : (drawn s).sys = { s.sys with free := s.sys.free + 1 } := rfl
@[simp] theorem drawn_proto (s : State) : (drawn s).proto = s.proto := rfl
@[simp] theorem drawn_auth (s : State) : (drawn s).auth = s.auth := rfl
@[simp] theorem drawn_audit (s : State) : (drawn s).audit = s.audit := rfl
@[simp] theorem drawn_recs (s : State) : (drawn s).recs = s.recs := rfl
@[simp] theorem drawn_fw (s : State) : (drawn s).fw = s.fw := rfl
@[simp] theorem drawn_reg (s : State) : (drawn s).reg = s.reg := rfl
@[simp] theorem drawn_sched (s : State) : (drawn s).sched = s.sched := rfl
@[simp] theorem drawn_tb (s : State) : (drawn s).tb = s.tb := rfl
@[simp] theorem drawn_clk (s : State) : (drawn s).clk = s.clk := rfl
@[simp] theorem drawn_syn (s : State) : (drawn s).syn = s.syn := rfl
@[simp] theorem drawn_ports (s : State) : (drawn s).ports = s.ports := rfl
@[simp] theorem drawn_tuners (s : State) : (drawn s).tuners = s.tuners := rfl
@[simp] theorem drawn_probe (s : State) : (drawn s).probe = s.probe := rfl
@[simp] theorem drawn_warps (s : State) : (drawn s).warps = s.warps := rfl
@[simp] theorem drawn_calib (s : State) : (drawn s).calib = s.calib := rfl
@[simp] theorem drawn_dents (s : State) : (drawn s).dents = s.dents := rfl
@[simp] theorem drawn_reed (s : State) : (drawn s).reed = s.reed := rfl
@[simp] theorem drawn_weaves (s : State) : (drawn s).weaves = s.weaves := rfl
@[simp] theorem drawn_cluster (s : State) : (drawn s).cluster = s.cluster := rfl
@[simp] theorem drawn_ana (s : State) : (drawn s).ana = s.ana := rfl
@[simp] theorem drawn_dig (s : State) : (drawn s).dig = s.dig := rfl
@[simp] theorem drawn_svcs (s : State) : (drawn s).svcs = s.svcs := rfl
@[simp] theorem drawn_comps (s : State) : (drawn s).comps = s.comps := rfl
@[simp] theorem drawn_svcChg (s : State) : (drawn s).svcChg = s.svcChg := rfl
@[simp] theorem drawn_invFull (s : State) : (drawn s).invFull = s.invFull := rfl
@[simp] theorem drawn_survey (s : State) : (drawn s).survey = s.survey := rfl
@[simp] theorem drawn_time (s : State) : (drawn s).time = s.time := rfl
@[simp] theorem drawn_follows (s : State) : (drawn s).follows = s.follows := rfl
@[simp] theorem drawn_meas (s : State) : (drawn s).meas = s.meas := rfl
@[simp] theorem drawn_thrs (s : State) : (drawn s).thrs = s.thrs := rfl
@[simp] theorem drawn_louds (s : State) : (drawn s).louds = s.louds := rfl
@[simp] theorem drawn_verifs (s : State) : (drawn s).verifs = s.verifs := rfl
@[simp] theorem drawn_tdm (s : State) : (drawn s).tdm = s.tdm := rfl
@[simp] theorem drawn_streams (s : State) : (drawn s).streams = s.streams := rfl
@[simp] theorem drawn_aligns (s : State) : (drawn s).aligns = s.aligns := rfl
@[simp] theorem drawn_eth (s : State) : (drawn s).eth = s.eth := rfl
@[simp] theorem drawn_mb (s : State) : (drawn s).mb = s.mb := rfl
@[simp] theorem drawn_pb (s : State) : (drawn s).pb = s.pb := rfl
@[simp] theorem drawn_periphs (s : State) : (drawn s).periphs = s.periphs := rfl
@[simp] theorem drawn_rtc (s : State) : (drawn s).rtc = s.rtc := rfl
@[simp] theorem drawn_pair (s : State) : (drawn s).pair = s.pair := rfl

@[simp] theorem schedAlso_pending (p : Pend) (s : State) : (schedAlso p s).pending = s.pending := rfl
@[simp] theorem schedAlso_ident (p : Pend) (s : State) : (schedAlso p s).ident = s.ident := rfl
@[simp] theorem schedAlso_sys (p : Pend) (s : State) : (schedAlso p s).sys = s.sys := rfl
@[simp] theorem schedAlso_proto (p : Pend) (s : State) : (schedAlso p s).proto = s.proto := rfl
@[simp] theorem schedAlso_auth (p : Pend) (s : State) : (schedAlso p s).auth = s.auth := rfl
@[simp] theorem schedAlso_audit (p : Pend) (s : State) : (schedAlso p s).audit = s.audit := rfl
@[simp] theorem schedAlso_recs (p : Pend) (s : State) : (schedAlso p s).recs = s.recs := rfl
@[simp] theorem schedAlso_fw (p : Pend) (s : State) : (schedAlso p s).fw = s.fw := rfl
@[simp] theorem schedAlso_reg (p : Pend) (s : State) : (schedAlso p s).reg = s.reg := rfl
@[simp] theorem schedAlso_sched (p : Pend) (s : State) : (schedAlso p s).sched = s.sched ++ [stamped p s] := rfl
@[simp] theorem schedAlso_tb (p : Pend) (s : State) : (schedAlso p s).tb = s.tb := rfl
@[simp] theorem schedAlso_clk (p : Pend) (s : State) : (schedAlso p s).clk = s.clk := rfl
@[simp] theorem schedAlso_syn (p : Pend) (s : State) : (schedAlso p s).syn = s.syn := rfl
@[simp] theorem schedAlso_ports (p : Pend) (s : State) : (schedAlso p s).ports = s.ports := rfl
@[simp] theorem schedAlso_tuners (p : Pend) (s : State) : (schedAlso p s).tuners = s.tuners := rfl
@[simp] theorem schedAlso_probe (p : Pend) (s : State) : (schedAlso p s).probe = s.probe := rfl
@[simp] theorem schedAlso_warps (p : Pend) (s : State) : (schedAlso p s).warps = s.warps := rfl
@[simp] theorem schedAlso_calib (p : Pend) (s : State) : (schedAlso p s).calib = s.calib := rfl
@[simp] theorem schedAlso_dents (p : Pend) (s : State) : (schedAlso p s).dents = s.dents := rfl
@[simp] theorem schedAlso_reed (p : Pend) (s : State) : (schedAlso p s).reed = s.reed := rfl
@[simp] theorem schedAlso_weaves (p : Pend) (s : State) : (schedAlso p s).weaves = s.weaves := rfl
@[simp] theorem schedAlso_cluster (p : Pend) (s : State) : (schedAlso p s).cluster = s.cluster := rfl
@[simp] theorem schedAlso_ana (p : Pend) (s : State) : (schedAlso p s).ana = s.ana := rfl
@[simp] theorem schedAlso_dig (p : Pend) (s : State) : (schedAlso p s).dig = s.dig := rfl
@[simp] theorem schedAlso_svcs (p : Pend) (s : State) : (schedAlso p s).svcs = s.svcs := rfl
@[simp] theorem schedAlso_comps (p : Pend) (s : State) : (schedAlso p s).comps = s.comps := rfl
@[simp] theorem schedAlso_svcChg (p : Pend) (s : State) : (schedAlso p s).svcChg = s.svcChg := rfl
@[simp] theorem schedAlso_invFull (p : Pend) (s : State) : (schedAlso p s).invFull = s.invFull := rfl
@[simp] theorem schedAlso_survey (p : Pend) (s : State) : (schedAlso p s).survey = s.survey := rfl
@[simp] theorem schedAlso_time (p : Pend) (s : State) : (schedAlso p s).time = s.time := rfl
@[simp] theorem schedAlso_follows (p : Pend) (s : State) : (schedAlso p s).follows = s.follows := rfl
@[simp] theorem schedAlso_meas (p : Pend) (s : State) : (schedAlso p s).meas = s.meas := rfl
@[simp] theorem schedAlso_thrs (p : Pend) (s : State) : (schedAlso p s).thrs = s.thrs := rfl
@[simp] theorem schedAlso_louds (p : Pend) (s : State) : (schedAlso p s).louds = s.louds := rfl
@[simp] theorem schedAlso_verifs (p : Pend) (s : State) : (schedAlso p s).verifs = s.verifs := rfl
@[simp] theorem schedAlso_tdm (p : Pend) (s : State) : (schedAlso p s).tdm = s.tdm := rfl
@[simp] theorem schedAlso_streams (p : Pend) (s : State) : (schedAlso p s).streams = s.streams := rfl
@[simp] theorem schedAlso_aligns (p : Pend) (s : State) : (schedAlso p s).aligns = s.aligns := rfl
@[simp] theorem schedAlso_eth (p : Pend) (s : State) : (schedAlso p s).eth = s.eth := rfl
@[simp] theorem schedAlso_mb (p : Pend) (s : State) : (schedAlso p s).mb = s.mb := rfl
@[simp] theorem schedAlso_pb (p : Pend) (s : State) : (schedAlso p s).pb = s.pb := rfl
@[simp] theorem schedAlso_periphs (p : Pend) (s : State) : (schedAlso p s).periphs = s.periphs := rfl
@[simp] theorem schedAlso_rtc (p : Pend) (s : State) : (schedAlso p s).rtc = s.rtc := rfl
@[simp] theorem schedAlso_pair (p : Pend) (s : State) : (schedAlso p s).pair = s.pair := rfl

@[simp] theorem cfgTouch_pending (role : Nat) (s : State) : (cfgTouch role s).pending = s.pending := rfl
@[simp] theorem cfgTouch_ident (role : Nat) (s : State) : (cfgTouch role s).ident = s.ident := rfl
@[simp] theorem cfgTouch_sys (role : Nat) (s : State) : (cfgTouch role s).sys = s.sys := rfl
@[simp] theorem cfgTouch_proto (role : Nat) (s : State) : (cfgTouch role s).proto = s.proto := rfl
@[simp] theorem cfgTouch_auth (role : Nat) (s : State) : (cfgTouch role s).auth = s.auth := rfl
@[simp] theorem cfgTouch_audit (role : Nat) (s : State) : (cfgTouch role s).audit = s.audit := rfl
@[simp] theorem cfgTouch_recs (role : Nat) (s : State) : (cfgTouch role s).recs = { s.recs with cfgDirty := some role } := rfl
@[simp] theorem cfgTouch_fw (role : Nat) (s : State) : (cfgTouch role s).fw = s.fw := rfl
@[simp] theorem cfgTouch_reg (role : Nat) (s : State) : (cfgTouch role s).reg = s.reg := rfl
@[simp] theorem cfgTouch_sched (role : Nat) (s : State) : (cfgTouch role s).sched = s.sched := rfl
@[simp] theorem cfgTouch_tb (role : Nat) (s : State) : (cfgTouch role s).tb = s.tb := rfl
@[simp] theorem cfgTouch_clk (role : Nat) (s : State) : (cfgTouch role s).clk = s.clk := rfl
@[simp] theorem cfgTouch_syn (role : Nat) (s : State) : (cfgTouch role s).syn = s.syn := rfl
@[simp] theorem cfgTouch_ports (role : Nat) (s : State) : (cfgTouch role s).ports = s.ports := rfl
@[simp] theorem cfgTouch_tuners (role : Nat) (s : State) : (cfgTouch role s).tuners = s.tuners := rfl
@[simp] theorem cfgTouch_probe (role : Nat) (s : State) : (cfgTouch role s).probe = s.probe := rfl
@[simp] theorem cfgTouch_warps (role : Nat) (s : State) : (cfgTouch role s).warps = s.warps := rfl
@[simp] theorem cfgTouch_calib (role : Nat) (s : State) : (cfgTouch role s).calib = s.calib := rfl
@[simp] theorem cfgTouch_dents (role : Nat) (s : State) : (cfgTouch role s).dents = s.dents := rfl
@[simp] theorem cfgTouch_reed (role : Nat) (s : State) : (cfgTouch role s).reed = s.reed := rfl
@[simp] theorem cfgTouch_weaves (role : Nat) (s : State) : (cfgTouch role s).weaves = s.weaves := rfl
@[simp] theorem cfgTouch_cluster (role : Nat) (s : State) : (cfgTouch role s).cluster = s.cluster := rfl
@[simp] theorem cfgTouch_ana (role : Nat) (s : State) : (cfgTouch role s).ana = s.ana := rfl
@[simp] theorem cfgTouch_dig (role : Nat) (s : State) : (cfgTouch role s).dig = s.dig := rfl
@[simp] theorem cfgTouch_svcs (role : Nat) (s : State) : (cfgTouch role s).svcs = s.svcs := rfl
@[simp] theorem cfgTouch_comps (role : Nat) (s : State) : (cfgTouch role s).comps = s.comps := rfl
@[simp] theorem cfgTouch_svcChg (role : Nat) (s : State) : (cfgTouch role s).svcChg = s.svcChg := rfl
@[simp] theorem cfgTouch_invFull (role : Nat) (s : State) : (cfgTouch role s).invFull = s.invFull := rfl
@[simp] theorem cfgTouch_survey (role : Nat) (s : State) : (cfgTouch role s).survey = s.survey := rfl
@[simp] theorem cfgTouch_time (role : Nat) (s : State) : (cfgTouch role s).time = s.time := rfl
@[simp] theorem cfgTouch_follows (role : Nat) (s : State) : (cfgTouch role s).follows = s.follows := rfl
@[simp] theorem cfgTouch_meas (role : Nat) (s : State) : (cfgTouch role s).meas = s.meas := rfl
@[simp] theorem cfgTouch_thrs (role : Nat) (s : State) : (cfgTouch role s).thrs = s.thrs := rfl
@[simp] theorem cfgTouch_louds (role : Nat) (s : State) : (cfgTouch role s).louds = s.louds := rfl
@[simp] theorem cfgTouch_verifs (role : Nat) (s : State) : (cfgTouch role s).verifs = s.verifs := rfl
@[simp] theorem cfgTouch_tdm (role : Nat) (s : State) : (cfgTouch role s).tdm = s.tdm := rfl
@[simp] theorem cfgTouch_streams (role : Nat) (s : State) : (cfgTouch role s).streams = s.streams := rfl
@[simp] theorem cfgTouch_aligns (role : Nat) (s : State) : (cfgTouch role s).aligns = s.aligns := rfl
@[simp] theorem cfgTouch_eth (role : Nat) (s : State) : (cfgTouch role s).eth = s.eth := rfl
@[simp] theorem cfgTouch_mb (role : Nat) (s : State) : (cfgTouch role s).mb = s.mb := rfl
@[simp] theorem cfgTouch_pb (role : Nat) (s : State) : (cfgTouch role s).pb = s.pb := rfl
@[simp] theorem cfgTouch_periphs (role : Nat) (s : State) : (cfgTouch role s).periphs = s.periphs := rfl
@[simp] theorem cfgTouch_rtc (role : Nat) (s : State) : (cfgTouch role s).rtc = s.rtc := rfl
@[simp] theorem cfgTouch_pair (role : Nat) (s : State) : (cfgTouch role s).pair = s.pair := rfl

@[simp] theorem wmod_pending (i : Nat) (f : Warp → Warp) (s : State) : (wmod i f s).pending = s.pending := rfl
@[simp] theorem wmod_ident (i : Nat) (f : Warp → Warp) (s : State) : (wmod i f s).ident = s.ident := rfl
@[simp] theorem wmod_sys (i : Nat) (f : Warp → Warp) (s : State) : (wmod i f s).sys = s.sys := rfl
@[simp] theorem wmod_proto (i : Nat) (f : Warp → Warp) (s : State) : (wmod i f s).proto = s.proto := rfl
@[simp] theorem wmod_auth (i : Nat) (f : Warp → Warp) (s : State) : (wmod i f s).auth = s.auth := rfl
@[simp] theorem wmod_audit (i : Nat) (f : Warp → Warp) (s : State) : (wmod i f s).audit = s.audit := rfl
@[simp] theorem wmod_recs (i : Nat) (f : Warp → Warp) (s : State) : (wmod i f s).recs = s.recs := rfl
@[simp] theorem wmod_fw (i : Nat) (f : Warp → Warp) (s : State) : (wmod i f s).fw = s.fw := rfl
@[simp] theorem wmod_reg (i : Nat) (f : Warp → Warp) (s : State) : (wmod i f s).reg = s.reg := rfl
@[simp] theorem wmod_sched (i : Nat) (f : Warp → Warp) (s : State) : (wmod i f s).sched = s.sched := rfl
@[simp] theorem wmod_tb (i : Nat) (f : Warp → Warp) (s : State) : (wmod i f s).tb = s.tb := rfl
@[simp] theorem wmod_clk (i : Nat) (f : Warp → Warp) (s : State) : (wmod i f s).clk = s.clk := rfl
@[simp] theorem wmod_syn (i : Nat) (f : Warp → Warp) (s : State) : (wmod i f s).syn = s.syn := rfl
@[simp] theorem wmod_ports (i : Nat) (f : Warp → Warp) (s : State) : (wmod i f s).ports = s.ports := rfl
@[simp] theorem wmod_tuners (i : Nat) (f : Warp → Warp) (s : State) : (wmod i f s).tuners = s.tuners := rfl
@[simp] theorem wmod_probe (i : Nat) (f : Warp → Warp) (s : State) : (wmod i f s).probe = s.probe := rfl
@[simp] theorem wmod_warps (i : Nat) (f : Warp → Warp) (s : State) : (wmod i f s).warps = lmod s.warps i f := rfl
@[simp] theorem wmod_calib (i : Nat) (f : Warp → Warp) (s : State) : (wmod i f s).calib = s.calib := rfl
@[simp] theorem wmod_dents (i : Nat) (f : Warp → Warp) (s : State) : (wmod i f s).dents = s.dents := rfl
@[simp] theorem wmod_reed (i : Nat) (f : Warp → Warp) (s : State) : (wmod i f s).reed = s.reed := rfl
@[simp] theorem wmod_weaves (i : Nat) (f : Warp → Warp) (s : State) : (wmod i f s).weaves = s.weaves := rfl
@[simp] theorem wmod_cluster (i : Nat) (f : Warp → Warp) (s : State) : (wmod i f s).cluster = s.cluster := rfl
@[simp] theorem wmod_ana (i : Nat) (f : Warp → Warp) (s : State) : (wmod i f s).ana = s.ana := rfl
@[simp] theorem wmod_dig (i : Nat) (f : Warp → Warp) (s : State) : (wmod i f s).dig = s.dig := rfl
@[simp] theorem wmod_svcs (i : Nat) (f : Warp → Warp) (s : State) : (wmod i f s).svcs = s.svcs := rfl
@[simp] theorem wmod_comps (i : Nat) (f : Warp → Warp) (s : State) : (wmod i f s).comps = s.comps := rfl
@[simp] theorem wmod_svcChg (i : Nat) (f : Warp → Warp) (s : State) : (wmod i f s).svcChg = s.svcChg := rfl
@[simp] theorem wmod_invFull (i : Nat) (f : Warp → Warp) (s : State) : (wmod i f s).invFull = s.invFull := rfl
@[simp] theorem wmod_survey (i : Nat) (f : Warp → Warp) (s : State) : (wmod i f s).survey = s.survey := rfl
@[simp] theorem wmod_time (i : Nat) (f : Warp → Warp) (s : State) : (wmod i f s).time = s.time := rfl
@[simp] theorem wmod_follows (i : Nat) (f : Warp → Warp) (s : State) : (wmod i f s).follows = s.follows := rfl
@[simp] theorem wmod_meas (i : Nat) (f : Warp → Warp) (s : State) : (wmod i f s).meas = s.meas := rfl
@[simp] theorem wmod_thrs (i : Nat) (f : Warp → Warp) (s : State) : (wmod i f s).thrs = s.thrs := rfl
@[simp] theorem wmod_louds (i : Nat) (f : Warp → Warp) (s : State) : (wmod i f s).louds = s.louds := rfl
@[simp] theorem wmod_verifs (i : Nat) (f : Warp → Warp) (s : State) : (wmod i f s).verifs = s.verifs := rfl
@[simp] theorem wmod_tdm (i : Nat) (f : Warp → Warp) (s : State) : (wmod i f s).tdm = s.tdm := rfl
@[simp] theorem wmod_streams (i : Nat) (f : Warp → Warp) (s : State) : (wmod i f s).streams = s.streams := rfl
@[simp] theorem wmod_aligns (i : Nat) (f : Warp → Warp) (s : State) : (wmod i f s).aligns = s.aligns := rfl
@[simp] theorem wmod_eth (i : Nat) (f : Warp → Warp) (s : State) : (wmod i f s).eth = s.eth := rfl
@[simp] theorem wmod_mb (i : Nat) (f : Warp → Warp) (s : State) : (wmod i f s).mb = s.mb := rfl
@[simp] theorem wmod_pb (i : Nat) (f : Warp → Warp) (s : State) : (wmod i f s).pb = s.pb := rfl
@[simp] theorem wmod_periphs (i : Nat) (f : Warp → Warp) (s : State) : (wmod i f s).periphs = s.periphs := rfl
@[simp] theorem wmod_rtc (i : Nat) (f : Warp → Warp) (s : State) : (wmod i f s).rtc = s.rtc := rfl
@[simp] theorem wmod_pair (i : Nat) (f : Warp → Warp) (s : State) : (wmod i f s).pair = s.pair := rfl

@[simp] theorem synMod_pending (i : Nat) (f : Synth → Synth) (s : State) : (synMod i f s).pending = s.pending := rfl
@[simp] theorem synMod_ident (i : Nat) (f : Synth → Synth) (s : State) : (synMod i f s).ident = s.ident := rfl
@[simp] theorem synMod_sys (i : Nat) (f : Synth → Synth) (s : State) : (synMod i f s).sys = s.sys := rfl
@[simp] theorem synMod_proto (i : Nat) (f : Synth → Synth) (s : State) : (synMod i f s).proto = s.proto := rfl
@[simp] theorem synMod_auth (i : Nat) (f : Synth → Synth) (s : State) : (synMod i f s).auth = s.auth := rfl
@[simp] theorem synMod_audit (i : Nat) (f : Synth → Synth) (s : State) : (synMod i f s).audit = s.audit := rfl
@[simp] theorem synMod_recs (i : Nat) (f : Synth → Synth) (s : State) : (synMod i f s).recs = s.recs := rfl
@[simp] theorem synMod_fw (i : Nat) (f : Synth → Synth) (s : State) : (synMod i f s).fw = s.fw := rfl
@[simp] theorem synMod_reg (i : Nat) (f : Synth → Synth) (s : State) : (synMod i f s).reg = s.reg := rfl
@[simp] theorem synMod_sched (i : Nat) (f : Synth → Synth) (s : State) : (synMod i f s).sched = s.sched := rfl
@[simp] theorem synMod_tb (i : Nat) (f : Synth → Synth) (s : State) : (synMod i f s).tb = s.tb := rfl
@[simp] theorem synMod_clk (i : Nat) (f : Synth → Synth) (s : State) : (synMod i f s).clk = s.clk := rfl
@[simp] theorem synMod_syn (i : Nat) (f : Synth → Synth) (s : State) : (synMod i f s).syn = lmod s.syn i f := rfl
@[simp] theorem synMod_ports (i : Nat) (f : Synth → Synth) (s : State) : (synMod i f s).ports = s.ports := rfl
@[simp] theorem synMod_tuners (i : Nat) (f : Synth → Synth) (s : State) : (synMod i f s).tuners = s.tuners := rfl
@[simp] theorem synMod_probe (i : Nat) (f : Synth → Synth) (s : State) : (synMod i f s).probe = s.probe := rfl
@[simp] theorem synMod_warps (i : Nat) (f : Synth → Synth) (s : State) : (synMod i f s).warps = s.warps := rfl
@[simp] theorem synMod_calib (i : Nat) (f : Synth → Synth) (s : State) : (synMod i f s).calib = s.calib := rfl
@[simp] theorem synMod_dents (i : Nat) (f : Synth → Synth) (s : State) : (synMod i f s).dents = s.dents := rfl
@[simp] theorem synMod_reed (i : Nat) (f : Synth → Synth) (s : State) : (synMod i f s).reed = s.reed := rfl
@[simp] theorem synMod_weaves (i : Nat) (f : Synth → Synth) (s : State) : (synMod i f s).weaves = s.weaves := rfl
@[simp] theorem synMod_cluster (i : Nat) (f : Synth → Synth) (s : State) : (synMod i f s).cluster = s.cluster := rfl
@[simp] theorem synMod_ana (i : Nat) (f : Synth → Synth) (s : State) : (synMod i f s).ana = s.ana := rfl
@[simp] theorem synMod_dig (i : Nat) (f : Synth → Synth) (s : State) : (synMod i f s).dig = s.dig := rfl
@[simp] theorem synMod_svcs (i : Nat) (f : Synth → Synth) (s : State) : (synMod i f s).svcs = s.svcs := rfl
@[simp] theorem synMod_comps (i : Nat) (f : Synth → Synth) (s : State) : (synMod i f s).comps = s.comps := rfl
@[simp] theorem synMod_svcChg (i : Nat) (f : Synth → Synth) (s : State) : (synMod i f s).svcChg = s.svcChg := rfl
@[simp] theorem synMod_invFull (i : Nat) (f : Synth → Synth) (s : State) : (synMod i f s).invFull = s.invFull := rfl
@[simp] theorem synMod_survey (i : Nat) (f : Synth → Synth) (s : State) : (synMod i f s).survey = s.survey := rfl
@[simp] theorem synMod_time (i : Nat) (f : Synth → Synth) (s : State) : (synMod i f s).time = s.time := rfl
@[simp] theorem synMod_follows (i : Nat) (f : Synth → Synth) (s : State) : (synMod i f s).follows = s.follows := rfl
@[simp] theorem synMod_meas (i : Nat) (f : Synth → Synth) (s : State) : (synMod i f s).meas = s.meas := rfl
@[simp] theorem synMod_thrs (i : Nat) (f : Synth → Synth) (s : State) : (synMod i f s).thrs = s.thrs := rfl
@[simp] theorem synMod_louds (i : Nat) (f : Synth → Synth) (s : State) : (synMod i f s).louds = s.louds := rfl
@[simp] theorem synMod_verifs (i : Nat) (f : Synth → Synth) (s : State) : (synMod i f s).verifs = s.verifs := rfl
@[simp] theorem synMod_tdm (i : Nat) (f : Synth → Synth) (s : State) : (synMod i f s).tdm = s.tdm := rfl
@[simp] theorem synMod_streams (i : Nat) (f : Synth → Synth) (s : State) : (synMod i f s).streams = s.streams := rfl
@[simp] theorem synMod_aligns (i : Nat) (f : Synth → Synth) (s : State) : (synMod i f s).aligns = s.aligns := rfl
@[simp] theorem synMod_eth (i : Nat) (f : Synth → Synth) (s : State) : (synMod i f s).eth = s.eth := rfl
@[simp] theorem synMod_mb (i : Nat) (f : Synth → Synth) (s : State) : (synMod i f s).mb = s.mb := rfl
@[simp] theorem synMod_pb (i : Nat) (f : Synth → Synth) (s : State) : (synMod i f s).pb = s.pb := rfl
@[simp] theorem synMod_periphs (i : Nat) (f : Synth → Synth) (s : State) : (synMod i f s).periphs = s.periphs := rfl
@[simp] theorem synMod_rtc (i : Nat) (f : Synth → Synth) (s : State) : (synMod i f s).rtc = s.rtc := rfl
@[simp] theorem synMod_pair (i : Nat) (f : Synth → Synth) (s : State) : (synMod i f s).pair = s.pair := rfl

@[simp] theorem pmod_pending (i : Nat) (f : Port → Port) (s : State) : (pmod i f s).pending = s.pending := rfl
@[simp] theorem pmod_ident (i : Nat) (f : Port → Port) (s : State) : (pmod i f s).ident = s.ident := rfl
@[simp] theorem pmod_sys (i : Nat) (f : Port → Port) (s : State) : (pmod i f s).sys = s.sys := rfl
@[simp] theorem pmod_proto (i : Nat) (f : Port → Port) (s : State) : (pmod i f s).proto = s.proto := rfl
@[simp] theorem pmod_auth (i : Nat) (f : Port → Port) (s : State) : (pmod i f s).auth = s.auth := rfl
@[simp] theorem pmod_audit (i : Nat) (f : Port → Port) (s : State) : (pmod i f s).audit = s.audit := rfl
@[simp] theorem pmod_recs (i : Nat) (f : Port → Port) (s : State) : (pmod i f s).recs = s.recs := rfl
@[simp] theorem pmod_fw (i : Nat) (f : Port → Port) (s : State) : (pmod i f s).fw = s.fw := rfl
@[simp] theorem pmod_reg (i : Nat) (f : Port → Port) (s : State) : (pmod i f s).reg = s.reg := rfl
@[simp] theorem pmod_sched (i : Nat) (f : Port → Port) (s : State) : (pmod i f s).sched = s.sched := rfl
@[simp] theorem pmod_tb (i : Nat) (f : Port → Port) (s : State) : (pmod i f s).tb = s.tb := rfl
@[simp] theorem pmod_clk (i : Nat) (f : Port → Port) (s : State) : (pmod i f s).clk = s.clk := rfl
@[simp] theorem pmod_syn (i : Nat) (f : Port → Port) (s : State) : (pmod i f s).syn = s.syn := rfl
@[simp] theorem pmod_ports (i : Nat) (f : Port → Port) (s : State) : (pmod i f s).ports = lmod s.ports i f := rfl
@[simp] theorem pmod_tuners (i : Nat) (f : Port → Port) (s : State) : (pmod i f s).tuners = s.tuners := rfl
@[simp] theorem pmod_probe (i : Nat) (f : Port → Port) (s : State) : (pmod i f s).probe = s.probe := rfl
@[simp] theorem pmod_warps (i : Nat) (f : Port → Port) (s : State) : (pmod i f s).warps = s.warps := rfl
@[simp] theorem pmod_calib (i : Nat) (f : Port → Port) (s : State) : (pmod i f s).calib = s.calib := rfl
@[simp] theorem pmod_dents (i : Nat) (f : Port → Port) (s : State) : (pmod i f s).dents = s.dents := rfl
@[simp] theorem pmod_reed (i : Nat) (f : Port → Port) (s : State) : (pmod i f s).reed = s.reed := rfl
@[simp] theorem pmod_weaves (i : Nat) (f : Port → Port) (s : State) : (pmod i f s).weaves = s.weaves := rfl
@[simp] theorem pmod_cluster (i : Nat) (f : Port → Port) (s : State) : (pmod i f s).cluster = s.cluster := rfl
@[simp] theorem pmod_ana (i : Nat) (f : Port → Port) (s : State) : (pmod i f s).ana = s.ana := rfl
@[simp] theorem pmod_dig (i : Nat) (f : Port → Port) (s : State) : (pmod i f s).dig = s.dig := rfl
@[simp] theorem pmod_svcs (i : Nat) (f : Port → Port) (s : State) : (pmod i f s).svcs = s.svcs := rfl
@[simp] theorem pmod_comps (i : Nat) (f : Port → Port) (s : State) : (pmod i f s).comps = s.comps := rfl
@[simp] theorem pmod_svcChg (i : Nat) (f : Port → Port) (s : State) : (pmod i f s).svcChg = s.svcChg := rfl
@[simp] theorem pmod_invFull (i : Nat) (f : Port → Port) (s : State) : (pmod i f s).invFull = s.invFull := rfl
@[simp] theorem pmod_survey (i : Nat) (f : Port → Port) (s : State) : (pmod i f s).survey = s.survey := rfl
@[simp] theorem pmod_time (i : Nat) (f : Port → Port) (s : State) : (pmod i f s).time = s.time := rfl
@[simp] theorem pmod_follows (i : Nat) (f : Port → Port) (s : State) : (pmod i f s).follows = s.follows := rfl
@[simp] theorem pmod_meas (i : Nat) (f : Port → Port) (s : State) : (pmod i f s).meas = s.meas := rfl
@[simp] theorem pmod_thrs (i : Nat) (f : Port → Port) (s : State) : (pmod i f s).thrs = s.thrs := rfl
@[simp] theorem pmod_louds (i : Nat) (f : Port → Port) (s : State) : (pmod i f s).louds = s.louds := rfl
@[simp] theorem pmod_verifs (i : Nat) (f : Port → Port) (s : State) : (pmod i f s).verifs = s.verifs := rfl
@[simp] theorem pmod_tdm (i : Nat) (f : Port → Port) (s : State) : (pmod i f s).tdm = s.tdm := rfl
@[simp] theorem pmod_streams (i : Nat) (f : Port → Port) (s : State) : (pmod i f s).streams = s.streams := rfl
@[simp] theorem pmod_aligns (i : Nat) (f : Port → Port) (s : State) : (pmod i f s).aligns = s.aligns := rfl
@[simp] theorem pmod_eth (i : Nat) (f : Port → Port) (s : State) : (pmod i f s).eth = s.eth := rfl
@[simp] theorem pmod_mb (i : Nat) (f : Port → Port) (s : State) : (pmod i f s).mb = s.mb := rfl
@[simp] theorem pmod_pb (i : Nat) (f : Port → Port) (s : State) : (pmod i f s).pb = s.pb := rfl
@[simp] theorem pmod_periphs (i : Nat) (f : Port → Port) (s : State) : (pmod i f s).periphs = s.periphs := rfl
@[simp] theorem pmod_rtc (i : Nat) (f : Port → Port) (s : State) : (pmod i f s).rtc = s.rtc := rfl
@[simp] theorem pmod_pair (i : Nat) (f : Port → Port) (s : State) : (pmod i f s).pair = s.pair := rfl

@[simp] theorem pairmod_pending (f : Pair → Pair) (s : State) : (pairmod f s).pending = s.pending := rfl
@[simp] theorem pairmod_ident (f : Pair → Pair) (s : State) : (pairmod f s).ident = s.ident := rfl
@[simp] theorem pairmod_sys (f : Pair → Pair) (s : State) : (pairmod f s).sys = s.sys := rfl
@[simp] theorem pairmod_proto (f : Pair → Pair) (s : State) : (pairmod f s).proto = s.proto := rfl
@[simp] theorem pairmod_auth (f : Pair → Pair) (s : State) : (pairmod f s).auth = s.auth := rfl
@[simp] theorem pairmod_audit (f : Pair → Pair) (s : State) : (pairmod f s).audit = s.audit := rfl
@[simp] theorem pairmod_recs (f : Pair → Pair) (s : State) : (pairmod f s).recs = s.recs := rfl
@[simp] theorem pairmod_fw (f : Pair → Pair) (s : State) : (pairmod f s).fw = s.fw := rfl
@[simp] theorem pairmod_reg (f : Pair → Pair) (s : State) : (pairmod f s).reg = s.reg := rfl
@[simp] theorem pairmod_sched (f : Pair → Pair) (s : State) : (pairmod f s).sched = s.sched := rfl
@[simp] theorem pairmod_tb (f : Pair → Pair) (s : State) : (pairmod f s).tb = s.tb := rfl
@[simp] theorem pairmod_clk (f : Pair → Pair) (s : State) : (pairmod f s).clk = s.clk := rfl
@[simp] theorem pairmod_syn (f : Pair → Pair) (s : State) : (pairmod f s).syn = s.syn := rfl
@[simp] theorem pairmod_ports (f : Pair → Pair) (s : State) : (pairmod f s).ports = s.ports := rfl
@[simp] theorem pairmod_tuners (f : Pair → Pair) (s : State) : (pairmod f s).tuners = s.tuners := rfl
@[simp] theorem pairmod_probe (f : Pair → Pair) (s : State) : (pairmod f s).probe = s.probe := rfl
@[simp] theorem pairmod_warps (f : Pair → Pair) (s : State) : (pairmod f s).warps = s.warps := rfl
@[simp] theorem pairmod_calib (f : Pair → Pair) (s : State) : (pairmod f s).calib = s.calib := rfl
@[simp] theorem pairmod_dents (f : Pair → Pair) (s : State) : (pairmod f s).dents = s.dents := rfl
@[simp] theorem pairmod_reed (f : Pair → Pair) (s : State) : (pairmod f s).reed = s.reed := rfl
@[simp] theorem pairmod_weaves (f : Pair → Pair) (s : State) : (pairmod f s).weaves = s.weaves := rfl
@[simp] theorem pairmod_cluster (f : Pair → Pair) (s : State) : (pairmod f s).cluster = s.cluster := rfl
@[simp] theorem pairmod_ana (f : Pair → Pair) (s : State) : (pairmod f s).ana = s.ana := rfl
@[simp] theorem pairmod_dig (f : Pair → Pair) (s : State) : (pairmod f s).dig = s.dig := rfl
@[simp] theorem pairmod_svcs (f : Pair → Pair) (s : State) : (pairmod f s).svcs = s.svcs := rfl
@[simp] theorem pairmod_comps (f : Pair → Pair) (s : State) : (pairmod f s).comps = s.comps := rfl
@[simp] theorem pairmod_svcChg (f : Pair → Pair) (s : State) : (pairmod f s).svcChg = s.svcChg := rfl
@[simp] theorem pairmod_invFull (f : Pair → Pair) (s : State) : (pairmod f s).invFull = s.invFull := rfl
@[simp] theorem pairmod_survey (f : Pair → Pair) (s : State) : (pairmod f s).survey = s.survey := rfl
@[simp] theorem pairmod_time (f : Pair → Pair) (s : State) : (pairmod f s).time = s.time := rfl
@[simp] theorem pairmod_follows (f : Pair → Pair) (s : State) : (pairmod f s).follows = s.follows := rfl
@[simp] theorem pairmod_meas (f : Pair → Pair) (s : State) : (pairmod f s).meas = s.meas := rfl
@[simp] theorem pairmod_thrs (f : Pair → Pair) (s : State) : (pairmod f s).thrs = s.thrs := rfl
@[simp] theorem pairmod_louds (f : Pair → Pair) (s : State) : (pairmod f s).louds = s.louds := rfl
@[simp] theorem pairmod_verifs (f : Pair → Pair) (s : State) : (pairmod f s).verifs = s.verifs := rfl
@[simp] theorem pairmod_tdm (f : Pair → Pair) (s : State) : (pairmod f s).tdm = s.tdm := rfl
@[simp] theorem pairmod_streams (f : Pair → Pair) (s : State) : (pairmod f s).streams = s.streams := rfl
@[simp] theorem pairmod_aligns (f : Pair → Pair) (s : State) : (pairmod f s).aligns = s.aligns := rfl
@[simp] theorem pairmod_eth (f : Pair → Pair) (s : State) : (pairmod f s).eth = s.eth := rfl
@[simp] theorem pairmod_mb (f : Pair → Pair) (s : State) : (pairmod f s).mb = s.mb := rfl
@[simp] theorem pairmod_pb (f : Pair → Pair) (s : State) : (pairmod f s).pb = s.pb := rfl
@[simp] theorem pairmod_periphs (f : Pair → Pair) (s : State) : (pairmod f s).periphs = s.periphs := rfl
@[simp] theorem pairmod_rtc (f : Pair → Pair) (s : State) : (pairmod f s).rtc = s.rtc := rfl
@[simp] theorem pairmod_pair (f : Pair → Pair) (s : State) : (pairmod f s).pair = f s.pair := rfl

@[simp] theorem pbmod_pending (f : Pb → Pb) (s : State) : (pbmod f s).pending = s.pending := rfl
@[simp] theorem pbmod_ident (f : Pb → Pb) (s : State) : (pbmod f s).ident = s.ident := rfl
@[simp] theorem pbmod_sys (f : Pb → Pb) (s : State) : (pbmod f s).sys = s.sys := rfl
@[simp] theorem pbmod_proto (f : Pb → Pb) (s : State) : (pbmod f s).proto = s.proto := rfl
@[simp] theorem pbmod_auth (f : Pb → Pb) (s : State) : (pbmod f s).auth = s.auth := rfl
@[simp] theorem pbmod_audit (f : Pb → Pb) (s : State) : (pbmod f s).audit = s.audit := rfl
@[simp] theorem pbmod_recs (f : Pb → Pb) (s : State) : (pbmod f s).recs = s.recs := rfl
@[simp] theorem pbmod_fw (f : Pb → Pb) (s : State) : (pbmod f s).fw = s.fw := rfl
@[simp] theorem pbmod_reg (f : Pb → Pb) (s : State) : (pbmod f s).reg = s.reg := rfl
@[simp] theorem pbmod_sched (f : Pb → Pb) (s : State) : (pbmod f s).sched = s.sched := rfl
@[simp] theorem pbmod_tb (f : Pb → Pb) (s : State) : (pbmod f s).tb = s.tb := rfl
@[simp] theorem pbmod_clk (f : Pb → Pb) (s : State) : (pbmod f s).clk = s.clk := rfl
@[simp] theorem pbmod_syn (f : Pb → Pb) (s : State) : (pbmod f s).syn = s.syn := rfl
@[simp] theorem pbmod_ports (f : Pb → Pb) (s : State) : (pbmod f s).ports = s.ports := rfl
@[simp] theorem pbmod_tuners (f : Pb → Pb) (s : State) : (pbmod f s).tuners = s.tuners := rfl
@[simp] theorem pbmod_probe (f : Pb → Pb) (s : State) : (pbmod f s).probe = s.probe := rfl
@[simp] theorem pbmod_warps (f : Pb → Pb) (s : State) : (pbmod f s).warps = s.warps := rfl
@[simp] theorem pbmod_calib (f : Pb → Pb) (s : State) : (pbmod f s).calib = s.calib := rfl
@[simp] theorem pbmod_dents (f : Pb → Pb) (s : State) : (pbmod f s).dents = s.dents := rfl
@[simp] theorem pbmod_reed (f : Pb → Pb) (s : State) : (pbmod f s).reed = s.reed := rfl
@[simp] theorem pbmod_weaves (f : Pb → Pb) (s : State) : (pbmod f s).weaves = s.weaves := rfl
@[simp] theorem pbmod_cluster (f : Pb → Pb) (s : State) : (pbmod f s).cluster = s.cluster := rfl
@[simp] theorem pbmod_ana (f : Pb → Pb) (s : State) : (pbmod f s).ana = s.ana := rfl
@[simp] theorem pbmod_dig (f : Pb → Pb) (s : State) : (pbmod f s).dig = s.dig := rfl
@[simp] theorem pbmod_svcs (f : Pb → Pb) (s : State) : (pbmod f s).svcs = s.svcs := rfl
@[simp] theorem pbmod_comps (f : Pb → Pb) (s : State) : (pbmod f s).comps = s.comps := rfl
@[simp] theorem pbmod_svcChg (f : Pb → Pb) (s : State) : (pbmod f s).svcChg = s.svcChg := rfl
@[simp] theorem pbmod_invFull (f : Pb → Pb) (s : State) : (pbmod f s).invFull = s.invFull := rfl
@[simp] theorem pbmod_survey (f : Pb → Pb) (s : State) : (pbmod f s).survey = s.survey := rfl
@[simp] theorem pbmod_time (f : Pb → Pb) (s : State) : (pbmod f s).time = s.time := rfl
@[simp] theorem pbmod_follows (f : Pb → Pb) (s : State) : (pbmod f s).follows = s.follows := rfl
@[simp] theorem pbmod_meas (f : Pb → Pb) (s : State) : (pbmod f s).meas = s.meas := rfl
@[simp] theorem pbmod_thrs (f : Pb → Pb) (s : State) : (pbmod f s).thrs = s.thrs := rfl
@[simp] theorem pbmod_louds (f : Pb → Pb) (s : State) : (pbmod f s).louds = s.louds := rfl
@[simp] theorem pbmod_verifs (f : Pb → Pb) (s : State) : (pbmod f s).verifs = s.verifs := rfl
@[simp] theorem pbmod_tdm (f : Pb → Pb) (s : State) : (pbmod f s).tdm = s.tdm := rfl
@[simp] theorem pbmod_streams (f : Pb → Pb) (s : State) : (pbmod f s).streams = s.streams := rfl
@[simp] theorem pbmod_aligns (f : Pb → Pb) (s : State) : (pbmod f s).aligns = s.aligns := rfl
@[simp] theorem pbmod_eth (f : Pb → Pb) (s : State) : (pbmod f s).eth = s.eth := rfl
@[simp] theorem pbmod_mb (f : Pb → Pb) (s : State) : (pbmod f s).mb = s.mb := rfl
@[simp] theorem pbmod_pb (f : Pb → Pb) (s : State) : (pbmod f s).pb = f s.pb := rfl
@[simp] theorem pbmod_periphs (f : Pb → Pb) (s : State) : (pbmod f s).periphs = s.periphs := rfl
@[simp] theorem pbmod_rtc (f : Pb → Pb) (s : State) : (pbmod f s).rtc = s.rtc := rfl
@[simp] theorem pbmod_pair (f : Pb → Pb) (s : State) : (pbmod f s).pair = s.pair := rfl

@[simp] theorem recmod_pending (f : Records → Records) (s : State) : (recmod f s).pending = s.pending := rfl
@[simp] theorem recmod_ident (f : Records → Records) (s : State) : (recmod f s).ident = s.ident := rfl
@[simp] theorem recmod_sys (f : Records → Records) (s : State) : (recmod f s).sys = s.sys := rfl
@[simp] theorem recmod_proto (f : Records → Records) (s : State) : (recmod f s).proto = s.proto := rfl
@[simp] theorem recmod_auth (f : Records → Records) (s : State) : (recmod f s).auth = s.auth := rfl
@[simp] theorem recmod_audit (f : Records → Records) (s : State) : (recmod f s).audit = s.audit := rfl
@[simp] theorem recmod_recs (f : Records → Records) (s : State) : (recmod f s).recs = f s.recs := rfl
@[simp] theorem recmod_fw (f : Records → Records) (s : State) : (recmod f s).fw = s.fw := rfl
@[simp] theorem recmod_reg (f : Records → Records) (s : State) : (recmod f s).reg = s.reg := rfl
@[simp] theorem recmod_sched (f : Records → Records) (s : State) : (recmod f s).sched = s.sched := rfl
@[simp] theorem recmod_tb (f : Records → Records) (s : State) : (recmod f s).tb = s.tb := rfl
@[simp] theorem recmod_clk (f : Records → Records) (s : State) : (recmod f s).clk = s.clk := rfl
@[simp] theorem recmod_syn (f : Records → Records) (s : State) : (recmod f s).syn = s.syn := rfl
@[simp] theorem recmod_ports (f : Records → Records) (s : State) : (recmod f s).ports = s.ports := rfl
@[simp] theorem recmod_tuners (f : Records → Records) (s : State) : (recmod f s).tuners = s.tuners := rfl
@[simp] theorem recmod_probe (f : Records → Records) (s : State) : (recmod f s).probe = s.probe := rfl
@[simp] theorem recmod_warps (f : Records → Records) (s : State) : (recmod f s).warps = s.warps := rfl
@[simp] theorem recmod_calib (f : Records → Records) (s : State) : (recmod f s).calib = s.calib := rfl
@[simp] theorem recmod_dents (f : Records → Records) (s : State) : (recmod f s).dents = s.dents := rfl
@[simp] theorem recmod_reed (f : Records → Records) (s : State) : (recmod f s).reed = s.reed := rfl
@[simp] theorem recmod_weaves (f : Records → Records) (s : State) : (recmod f s).weaves = s.weaves := rfl
@[simp] theorem recmod_cluster (f : Records → Records) (s : State) : (recmod f s).cluster = s.cluster := rfl
@[simp] theorem recmod_ana (f : Records → Records) (s : State) : (recmod f s).ana = s.ana := rfl
@[simp] theorem recmod_dig (f : Records → Records) (s : State) : (recmod f s).dig = s.dig := rfl
@[simp] theorem recmod_svcs (f : Records → Records) (s : State) : (recmod f s).svcs = s.svcs := rfl
@[simp] theorem recmod_comps (f : Records → Records) (s : State) : (recmod f s).comps = s.comps := rfl
@[simp] theorem recmod_svcChg (f : Records → Records) (s : State) : (recmod f s).svcChg = s.svcChg := rfl
@[simp] theorem recmod_invFull (f : Records → Records) (s : State) : (recmod f s).invFull = s.invFull := rfl
@[simp] theorem recmod_survey (f : Records → Records) (s : State) : (recmod f s).survey = s.survey := rfl
@[simp] theorem recmod_time (f : Records → Records) (s : State) : (recmod f s).time = s.time := rfl
@[simp] theorem recmod_follows (f : Records → Records) (s : State) : (recmod f s).follows = s.follows := rfl
@[simp] theorem recmod_meas (f : Records → Records) (s : State) : (recmod f s).meas = s.meas := rfl
@[simp] theorem recmod_thrs (f : Records → Records) (s : State) : (recmod f s).thrs = s.thrs := rfl
@[simp] theorem recmod_louds (f : Records → Records) (s : State) : (recmod f s).louds = s.louds := rfl
@[simp] theorem recmod_verifs (f : Records → Records) (s : State) : (recmod f s).verifs = s.verifs := rfl
@[simp] theorem recmod_tdm (f : Records → Records) (s : State) : (recmod f s).tdm = s.tdm := rfl
@[simp] theorem recmod_streams (f : Records → Records) (s : State) : (recmod f s).streams = s.streams := rfl
@[simp] theorem recmod_aligns (f : Records → Records) (s : State) : (recmod f s).aligns = s.aligns := rfl
@[simp] theorem recmod_eth (f : Records → Records) (s : State) : (recmod f s).eth = s.eth := rfl
@[simp] theorem recmod_mb (f : Records → Records) (s : State) : (recmod f s).mb = s.mb := rfl
@[simp] theorem recmod_pb (f : Records → Records) (s : State) : (recmod f s).pb = s.pb := rfl
@[simp] theorem recmod_periphs (f : Records → Records) (s : State) : (recmod f s).periphs = s.periphs := rfl
@[simp] theorem recmod_rtc (f : Records → Records) (s : State) : (recmod f s).rtc = s.rtc := rfl
@[simp] theorem recmod_pair (f : Records → Records) (s : State) : (recmod f s).pair = s.pair := rfl

@[simp] theorem dmod_pending (i : Nat) (f : Dent → Dent) (s : State) : (dmod i f s).pending = s.pending := rfl
@[simp] theorem dmod_ident (i : Nat) (f : Dent → Dent) (s : State) : (dmod i f s).ident = s.ident := rfl
@[simp] theorem dmod_sys (i : Nat) (f : Dent → Dent) (s : State) : (dmod i f s).sys = s.sys := rfl
@[simp] theorem dmod_proto (i : Nat) (f : Dent → Dent) (s : State) : (dmod i f s).proto = s.proto := rfl
@[simp] theorem dmod_auth (i : Nat) (f : Dent → Dent) (s : State) : (dmod i f s).auth = s.auth := rfl
@[simp] theorem dmod_audit (i : Nat) (f : Dent → Dent) (s : State) : (dmod i f s).audit = s.audit := rfl
@[simp] theorem dmod_recs (i : Nat) (f : Dent → Dent) (s : State) : (dmod i f s).recs = s.recs := rfl
@[simp] theorem dmod_fw (i : Nat) (f : Dent → Dent) (s : State) : (dmod i f s).fw = s.fw := rfl
@[simp] theorem dmod_reg (i : Nat) (f : Dent → Dent) (s : State) : (dmod i f s).reg = s.reg := rfl
@[simp] theorem dmod_sched (i : Nat) (f : Dent → Dent) (s : State) : (dmod i f s).sched = s.sched := rfl
@[simp] theorem dmod_tb (i : Nat) (f : Dent → Dent) (s : State) : (dmod i f s).tb = s.tb := rfl
@[simp] theorem dmod_clk (i : Nat) (f : Dent → Dent) (s : State) : (dmod i f s).clk = s.clk := rfl
@[simp] theorem dmod_syn (i : Nat) (f : Dent → Dent) (s : State) : (dmod i f s).syn = s.syn := rfl
@[simp] theorem dmod_ports (i : Nat) (f : Dent → Dent) (s : State) : (dmod i f s).ports = s.ports := rfl
@[simp] theorem dmod_tuners (i : Nat) (f : Dent → Dent) (s : State) : (dmod i f s).tuners = s.tuners := rfl
@[simp] theorem dmod_probe (i : Nat) (f : Dent → Dent) (s : State) : (dmod i f s).probe = s.probe := rfl
@[simp] theorem dmod_warps (i : Nat) (f : Dent → Dent) (s : State) : (dmod i f s).warps = s.warps := rfl
@[simp] theorem dmod_calib (i : Nat) (f : Dent → Dent) (s : State) : (dmod i f s).calib = s.calib := rfl
@[simp] theorem dmod_dents (i : Nat) (f : Dent → Dent) (s : State) : (dmod i f s).dents = tmod s.dents i f := rfl
@[simp] theorem dmod_reed (i : Nat) (f : Dent → Dent) (s : State) : (dmod i f s).reed = s.reed := rfl
@[simp] theorem dmod_weaves (i : Nat) (f : Dent → Dent) (s : State) : (dmod i f s).weaves = s.weaves := rfl
@[simp] theorem dmod_cluster (i : Nat) (f : Dent → Dent) (s : State) : (dmod i f s).cluster = s.cluster := rfl
@[simp] theorem dmod_ana (i : Nat) (f : Dent → Dent) (s : State) : (dmod i f s).ana = s.ana := rfl
@[simp] theorem dmod_dig (i : Nat) (f : Dent → Dent) (s : State) : (dmod i f s).dig = s.dig := rfl
@[simp] theorem dmod_svcs (i : Nat) (f : Dent → Dent) (s : State) : (dmod i f s).svcs = s.svcs := rfl
@[simp] theorem dmod_comps (i : Nat) (f : Dent → Dent) (s : State) : (dmod i f s).comps = s.comps := rfl
@[simp] theorem dmod_svcChg (i : Nat) (f : Dent → Dent) (s : State) : (dmod i f s).svcChg = s.svcChg := rfl
@[simp] theorem dmod_invFull (i : Nat) (f : Dent → Dent) (s : State) : (dmod i f s).invFull = s.invFull := rfl
@[simp] theorem dmod_survey (i : Nat) (f : Dent → Dent) (s : State) : (dmod i f s).survey = s.survey := rfl
@[simp] theorem dmod_time (i : Nat) (f : Dent → Dent) (s : State) : (dmod i f s).time = s.time := rfl
@[simp] theorem dmod_follows (i : Nat) (f : Dent → Dent) (s : State) : (dmod i f s).follows = s.follows := rfl
@[simp] theorem dmod_meas (i : Nat) (f : Dent → Dent) (s : State) : (dmod i f s).meas = s.meas := rfl
@[simp] theorem dmod_thrs (i : Nat) (f : Dent → Dent) (s : State) : (dmod i f s).thrs = s.thrs := rfl
@[simp] theorem dmod_louds (i : Nat) (f : Dent → Dent) (s : State) : (dmod i f s).louds = s.louds := rfl
@[simp] theorem dmod_verifs (i : Nat) (f : Dent → Dent) (s : State) : (dmod i f s).verifs = s.verifs := rfl
@[simp] theorem dmod_tdm (i : Nat) (f : Dent → Dent) (s : State) : (dmod i f s).tdm = s.tdm := rfl
@[simp] theorem dmod_streams (i : Nat) (f : Dent → Dent) (s : State) : (dmod i f s).streams = s.streams := rfl
@[simp] theorem dmod_aligns (i : Nat) (f : Dent → Dent) (s : State) : (dmod i f s).aligns = s.aligns := rfl
@[simp] theorem dmod_eth (i : Nat) (f : Dent → Dent) (s : State) : (dmod i f s).eth = s.eth := rfl
@[simp] theorem dmod_mb (i : Nat) (f : Dent → Dent) (s : State) : (dmod i f s).mb = s.mb := rfl
@[simp] theorem dmod_pb (i : Nat) (f : Dent → Dent) (s : State) : (dmod i f s).pb = s.pb := rfl
@[simp] theorem dmod_periphs (i : Nat) (f : Dent → Dent) (s : State) : (dmod i f s).periphs = s.periphs := rfl
@[simp] theorem dmod_rtc (i : Nat) (f : Dent → Dent) (s : State) : (dmod i f s).rtc = s.rtc := rfl
@[simp] theorem dmod_pair (i : Nat) (f : Dent → Dent) (s : State) : (dmod i f s).pair = s.pair := rfl

@[simp] theorem rmod_pending (f : Rtc → Rtc) (s : State) : (rmod f s).pending = s.pending := rfl
@[simp] theorem rmod_ident (f : Rtc → Rtc) (s : State) : (rmod f s).ident = s.ident := rfl
@[simp] theorem rmod_sys (f : Rtc → Rtc) (s : State) : (rmod f s).sys = s.sys := rfl
@[simp] theorem rmod_proto (f : Rtc → Rtc) (s : State) : (rmod f s).proto = s.proto := rfl
@[simp] theorem rmod_auth (f : Rtc → Rtc) (s : State) : (rmod f s).auth = s.auth := rfl
@[simp] theorem rmod_audit (f : Rtc → Rtc) (s : State) : (rmod f s).audit = s.audit := rfl
@[simp] theorem rmod_recs (f : Rtc → Rtc) (s : State) : (rmod f s).recs = s.recs := rfl
@[simp] theorem rmod_fw (f : Rtc → Rtc) (s : State) : (rmod f s).fw = s.fw := rfl
@[simp] theorem rmod_reg (f : Rtc → Rtc) (s : State) : (rmod f s).reg = s.reg := rfl
@[simp] theorem rmod_sched (f : Rtc → Rtc) (s : State) : (rmod f s).sched = s.sched := rfl
@[simp] theorem rmod_tb (f : Rtc → Rtc) (s : State) : (rmod f s).tb = s.tb := rfl
@[simp] theorem rmod_clk (f : Rtc → Rtc) (s : State) : (rmod f s).clk = s.clk := rfl
@[simp] theorem rmod_syn (f : Rtc → Rtc) (s : State) : (rmod f s).syn = s.syn := rfl
@[simp] theorem rmod_ports (f : Rtc → Rtc) (s : State) : (rmod f s).ports = s.ports := rfl
@[simp] theorem rmod_tuners (f : Rtc → Rtc) (s : State) : (rmod f s).tuners = s.tuners := rfl
@[simp] theorem rmod_probe (f : Rtc → Rtc) (s : State) : (rmod f s).probe = s.probe := rfl
@[simp] theorem rmod_warps (f : Rtc → Rtc) (s : State) : (rmod f s).warps = s.warps := rfl
@[simp] theorem rmod_calib (f : Rtc → Rtc) (s : State) : (rmod f s).calib = s.calib := rfl
@[simp] theorem rmod_dents (f : Rtc → Rtc) (s : State) : (rmod f s).dents = s.dents := rfl
@[simp] theorem rmod_reed (f : Rtc → Rtc) (s : State) : (rmod f s).reed = s.reed := rfl
@[simp] theorem rmod_weaves (f : Rtc → Rtc) (s : State) : (rmod f s).weaves = s.weaves := rfl
@[simp] theorem rmod_cluster (f : Rtc → Rtc) (s : State) : (rmod f s).cluster = s.cluster := rfl
@[simp] theorem rmod_ana (f : Rtc → Rtc) (s : State) : (rmod f s).ana = s.ana := rfl
@[simp] theorem rmod_dig (f : Rtc → Rtc) (s : State) : (rmod f s).dig = s.dig := rfl
@[simp] theorem rmod_svcs (f : Rtc → Rtc) (s : State) : (rmod f s).svcs = s.svcs := rfl
@[simp] theorem rmod_comps (f : Rtc → Rtc) (s : State) : (rmod f s).comps = s.comps := rfl
@[simp] theorem rmod_svcChg (f : Rtc → Rtc) (s : State) : (rmod f s).svcChg = s.svcChg := rfl
@[simp] theorem rmod_invFull (f : Rtc → Rtc) (s : State) : (rmod f s).invFull = s.invFull := rfl
@[simp] theorem rmod_survey (f : Rtc → Rtc) (s : State) : (rmod f s).survey = s.survey := rfl
@[simp] theorem rmod_time (f : Rtc → Rtc) (s : State) : (rmod f s).time = s.time := rfl
@[simp] theorem rmod_follows (f : Rtc → Rtc) (s : State) : (rmod f s).follows = s.follows := rfl
@[simp] theorem rmod_meas (f : Rtc → Rtc) (s : State) : (rmod f s).meas = s.meas := rfl
@[simp] theorem rmod_thrs (f : Rtc → Rtc) (s : State) : (rmod f s).thrs = s.thrs := rfl
@[simp] theorem rmod_louds (f : Rtc → Rtc) (s : State) : (rmod f s).louds = s.louds := rfl
@[simp] theorem rmod_verifs (f : Rtc → Rtc) (s : State) : (rmod f s).verifs = s.verifs := rfl
@[simp] theorem rmod_tdm (f : Rtc → Rtc) (s : State) : (rmod f s).tdm = s.tdm := rfl
@[simp] theorem rmod_streams (f : Rtc → Rtc) (s : State) : (rmod f s).streams = s.streams := rfl
@[simp] theorem rmod_aligns (f : Rtc → Rtc) (s : State) : (rmod f s).aligns = s.aligns := rfl
@[simp] theorem rmod_eth (f : Rtc → Rtc) (s : State) : (rmod f s).eth = s.eth := rfl
@[simp] theorem rmod_mb (f : Rtc → Rtc) (s : State) : (rmod f s).mb = s.mb := rfl
@[simp] theorem rmod_pb (f : Rtc → Rtc) (s : State) : (rmod f s).pb = s.pb := rfl
@[simp] theorem rmod_periphs (f : Rtc → Rtc) (s : State) : (rmod f s).periphs = s.periphs := rfl
@[simp] theorem rmod_rtc (f : Rtc → Rtc) (s : State) : (rmod f s).rtc = f s.rtc := rfl
@[simp] theorem rmod_pair (f : Rtc → Rtc) (s : State) : (rmod f s).pair = s.pair := rfl

@[simp] theorem vsurv_pending (f : Survey → Survey) (s : State) : (vsurv f s).pending = s.pending := rfl
@[simp] theorem vsurv_ident (f : Survey → Survey) (s : State) : (vsurv f s).ident = s.ident := rfl
@[simp] theorem vsurv_sys (f : Survey → Survey) (s : State) : (vsurv f s).sys = s.sys := rfl
@[simp] theorem vsurv_proto (f : Survey → Survey) (s : State) : (vsurv f s).proto = s.proto := rfl
@[simp] theorem vsurv_auth (f : Survey → Survey) (s : State) : (vsurv f s).auth = s.auth := rfl
@[simp] theorem vsurv_audit (f : Survey → Survey) (s : State) : (vsurv f s).audit = s.audit := rfl
@[simp] theorem vsurv_recs (f : Survey → Survey) (s : State) : (vsurv f s).recs = s.recs := rfl
@[simp] theorem vsurv_fw (f : Survey → Survey) (s : State) : (vsurv f s).fw = s.fw := rfl
@[simp] theorem vsurv_reg (f : Survey → Survey) (s : State) : (vsurv f s).reg = s.reg := rfl
@[simp] theorem vsurv_sched (f : Survey → Survey) (s : State) : (vsurv f s).sched = s.sched := rfl
@[simp] theorem vsurv_tb (f : Survey → Survey) (s : State) : (vsurv f s).tb = s.tb := rfl
@[simp] theorem vsurv_clk (f : Survey → Survey) (s : State) : (vsurv f s).clk = s.clk := rfl
@[simp] theorem vsurv_syn (f : Survey → Survey) (s : State) : (vsurv f s).syn = s.syn := rfl
@[simp] theorem vsurv_ports (f : Survey → Survey) (s : State) : (vsurv f s).ports = s.ports := rfl
@[simp] theorem vsurv_tuners (f : Survey → Survey) (s : State) : (vsurv f s).tuners = s.tuners := rfl
@[simp] theorem vsurv_probe (f : Survey → Survey) (s : State) : (vsurv f s).probe = s.probe := rfl
@[simp] theorem vsurv_warps (f : Survey → Survey) (s : State) : (vsurv f s).warps = s.warps := rfl
@[simp] theorem vsurv_calib (f : Survey → Survey) (s : State) : (vsurv f s).calib = s.calib := rfl
@[simp] theorem vsurv_dents (f : Survey → Survey) (s : State) : (vsurv f s).dents = s.dents := rfl
@[simp] theorem vsurv_reed (f : Survey → Survey) (s : State) : (vsurv f s).reed = s.reed := rfl
@[simp] theorem vsurv_weaves (f : Survey → Survey) (s : State) : (vsurv f s).weaves = s.weaves := rfl
@[simp] theorem vsurv_cluster (f : Survey → Survey) (s : State) : (vsurv f s).cluster = s.cluster := rfl
@[simp] theorem vsurv_ana (f : Survey → Survey) (s : State) : (vsurv f s).ana = s.ana := rfl
@[simp] theorem vsurv_dig (f : Survey → Survey) (s : State) : (vsurv f s).dig = s.dig := rfl
@[simp] theorem vsurv_svcs (f : Survey → Survey) (s : State) : (vsurv f s).svcs = s.svcs := rfl
@[simp] theorem vsurv_comps (f : Survey → Survey) (s : State) : (vsurv f s).comps = s.comps := rfl
@[simp] theorem vsurv_svcChg (f : Survey → Survey) (s : State) : (vsurv f s).svcChg = s.svcChg := rfl
@[simp] theorem vsurv_invFull (f : Survey → Survey) (s : State) : (vsurv f s).invFull = s.invFull := rfl
@[simp] theorem vsurv_survey (f : Survey → Survey) (s : State) : (vsurv f s).survey = f s.survey := rfl
@[simp] theorem vsurv_time (f : Survey → Survey) (s : State) : (vsurv f s).time = s.time := rfl
@[simp] theorem vsurv_follows (f : Survey → Survey) (s : State) : (vsurv f s).follows = s.follows := rfl
@[simp] theorem vsurv_meas (f : Survey → Survey) (s : State) : (vsurv f s).meas = s.meas := rfl
@[simp] theorem vsurv_thrs (f : Survey → Survey) (s : State) : (vsurv f s).thrs = s.thrs := rfl
@[simp] theorem vsurv_louds (f : Survey → Survey) (s : State) : (vsurv f s).louds = s.louds := rfl
@[simp] theorem vsurv_verifs (f : Survey → Survey) (s : State) : (vsurv f s).verifs = s.verifs := rfl
@[simp] theorem vsurv_tdm (f : Survey → Survey) (s : State) : (vsurv f s).tdm = s.tdm := rfl
@[simp] theorem vsurv_streams (f : Survey → Survey) (s : State) : (vsurv f s).streams = s.streams := rfl
@[simp] theorem vsurv_aligns (f : Survey → Survey) (s : State) : (vsurv f s).aligns = s.aligns := rfl
@[simp] theorem vsurv_eth (f : Survey → Survey) (s : State) : (vsurv f s).eth = s.eth := rfl
@[simp] theorem vsurv_mb (f : Survey → Survey) (s : State) : (vsurv f s).mb = s.mb := rfl
@[simp] theorem vsurv_pb (f : Survey → Survey) (s : State) : (vsurv f s).pb = s.pb := rfl
@[simp] theorem vsurv_periphs (f : Survey → Survey) (s : State) : (vsurv f s).periphs = s.periphs := rfl
@[simp] theorem vsurv_rtc (f : Survey → Survey) (s : State) : (vsurv f s).rtc = s.rtc := rfl
@[simp] theorem vsurv_pair (f : Survey → Survey) (s : State) : (vsurv f s).pair = s.pair := rfl

@[simp] theorem tmodT_pending (k : Nat) (f : TdmPort → TdmPort) (s : State) : (tmodT k f s).pending = s.pending := rfl
@[simp] theorem tmodT_ident (k : Nat) (f : TdmPort → TdmPort) (s : State) : (tmodT k f s).ident = s.ident := rfl
@[simp] theorem tmodT_sys (k : Nat) (f : TdmPort → TdmPort) (s : State) : (tmodT k f s).sys = s.sys := rfl
@[simp] theorem tmodT_proto (k : Nat) (f : TdmPort → TdmPort) (s : State) : (tmodT k f s).proto = s.proto := rfl
@[simp] theorem tmodT_auth (k : Nat) (f : TdmPort → TdmPort) (s : State) : (tmodT k f s).auth = s.auth := rfl
@[simp] theorem tmodT_audit (k : Nat) (f : TdmPort → TdmPort) (s : State) : (tmodT k f s).audit = s.audit := rfl
@[simp] theorem tmodT_recs (k : Nat) (f : TdmPort → TdmPort) (s : State) : (tmodT k f s).recs = s.recs := rfl
@[simp] theorem tmodT_fw (k : Nat) (f : TdmPort → TdmPort) (s : State) : (tmodT k f s).fw = s.fw := rfl
@[simp] theorem tmodT_reg (k : Nat) (f : TdmPort → TdmPort) (s : State) : (tmodT k f s).reg = s.reg := rfl
@[simp] theorem tmodT_sched (k : Nat) (f : TdmPort → TdmPort) (s : State) : (tmodT k f s).sched = s.sched := rfl
@[simp] theorem tmodT_tb (k : Nat) (f : TdmPort → TdmPort) (s : State) : (tmodT k f s).tb = s.tb := rfl
@[simp] theorem tmodT_clk (k : Nat) (f : TdmPort → TdmPort) (s : State) : (tmodT k f s).clk = s.clk := rfl
@[simp] theorem tmodT_syn (k : Nat) (f : TdmPort → TdmPort) (s : State) : (tmodT k f s).syn = s.syn := rfl
@[simp] theorem tmodT_ports (k : Nat) (f : TdmPort → TdmPort) (s : State) : (tmodT k f s).ports = s.ports := rfl
@[simp] theorem tmodT_tuners (k : Nat) (f : TdmPort → TdmPort) (s : State) : (tmodT k f s).tuners = s.tuners := rfl
@[simp] theorem tmodT_probe (k : Nat) (f : TdmPort → TdmPort) (s : State) : (tmodT k f s).probe = s.probe := rfl
@[simp] theorem tmodT_warps (k : Nat) (f : TdmPort → TdmPort) (s : State) : (tmodT k f s).warps = s.warps := rfl
@[simp] theorem tmodT_calib (k : Nat) (f : TdmPort → TdmPort) (s : State) : (tmodT k f s).calib = s.calib := rfl
@[simp] theorem tmodT_dents (k : Nat) (f : TdmPort → TdmPort) (s : State) : (tmodT k f s).dents = s.dents := rfl
@[simp] theorem tmodT_reed (k : Nat) (f : TdmPort → TdmPort) (s : State) : (tmodT k f s).reed = s.reed := rfl
@[simp] theorem tmodT_weaves (k : Nat) (f : TdmPort → TdmPort) (s : State) : (tmodT k f s).weaves = s.weaves := rfl
@[simp] theorem tmodT_cluster (k : Nat) (f : TdmPort → TdmPort) (s : State) : (tmodT k f s).cluster = s.cluster := rfl
@[simp] theorem tmodT_ana (k : Nat) (f : TdmPort → TdmPort) (s : State) : (tmodT k f s).ana = s.ana := rfl
@[simp] theorem tmodT_dig (k : Nat) (f : TdmPort → TdmPort) (s : State) : (tmodT k f s).dig = s.dig := rfl
@[simp] theorem tmodT_svcs (k : Nat) (f : TdmPort → TdmPort) (s : State) : (tmodT k f s).svcs = s.svcs := rfl
@[simp] theorem tmodT_comps (k : Nat) (f : TdmPort → TdmPort) (s : State) : (tmodT k f s).comps = s.comps := rfl
@[simp] theorem tmodT_svcChg (k : Nat) (f : TdmPort → TdmPort) (s : State) : (tmodT k f s).svcChg = s.svcChg := rfl
@[simp] theorem tmodT_invFull (k : Nat) (f : TdmPort → TdmPort) (s : State) : (tmodT k f s).invFull = s.invFull := rfl
@[simp] theorem tmodT_survey (k : Nat) (f : TdmPort → TdmPort) (s : State) : (tmodT k f s).survey = s.survey := rfl
@[simp] theorem tmodT_time (k : Nat) (f : TdmPort → TdmPort) (s : State) : (tmodT k f s).time = s.time := rfl
@[simp] theorem tmodT_follows (k : Nat) (f : TdmPort → TdmPort) (s : State) : (tmodT k f s).follows = s.follows := rfl
@[simp] theorem tmodT_meas (k : Nat) (f : TdmPort → TdmPort) (s : State) : (tmodT k f s).meas = s.meas := rfl
@[simp] theorem tmodT_thrs (k : Nat) (f : TdmPort → TdmPort) (s : State) : (tmodT k f s).thrs = s.thrs := rfl
@[simp] theorem tmodT_louds (k : Nat) (f : TdmPort → TdmPort) (s : State) : (tmodT k f s).louds = s.louds := rfl
@[simp] theorem tmodT_verifs (k : Nat) (f : TdmPort → TdmPort) (s : State) : (tmodT k f s).verifs = s.verifs := rfl
@[simp] theorem tmodT_tdm (k : Nat) (f : TdmPort → TdmPort) (s : State) : (tmodT k f s).tdm = lmod s.tdm k f := rfl
@[simp] theorem tmodT_streams (k : Nat) (f : TdmPort → TdmPort) (s : State) : (tmodT k f s).streams = s.streams := rfl
@[simp] theorem tmodT_aligns (k : Nat) (f : TdmPort → TdmPort) (s : State) : (tmodT k f s).aligns = s.aligns := rfl
@[simp] theorem tmodT_eth (k : Nat) (f : TdmPort → TdmPort) (s : State) : (tmodT k f s).eth = s.eth := rfl
@[simp] theorem tmodT_mb (k : Nat) (f : TdmPort → TdmPort) (s : State) : (tmodT k f s).mb = s.mb := rfl
@[simp] theorem tmodT_pb (k : Nat) (f : TdmPort → TdmPort) (s : State) : (tmodT k f s).pb = s.pb := rfl
@[simp] theorem tmodT_periphs (k : Nat) (f : TdmPort → TdmPort) (s : State) : (tmodT k f s).periphs = s.periphs := rfl
@[simp] theorem tmodT_rtc (k : Nat) (f : TdmPort → TdmPort) (s : State) : (tmodT k f s).rtc = s.rtc := rfl
@[simp] theorem tmodT_pair (k : Nat) (f : TdmPort → TdmPort) (s : State) : (tmodT k f s).pair = s.pair := rfl

@[simp] theorem gpmod_pending (i : Nat) (f : Align → Align) (s : State) : (gpmod i f s).pending = s.pending := rfl
@[simp] theorem gpmod_ident (i : Nat) (f : Align → Align) (s : State) : (gpmod i f s).ident = s.ident := rfl
@[simp] theorem gpmod_sys (i : Nat) (f : Align → Align) (s : State) : (gpmod i f s).sys = s.sys := rfl
@[simp] theorem gpmod_proto (i : Nat) (f : Align → Align) (s : State) : (gpmod i f s).proto = s.proto := rfl
@[simp] theorem gpmod_auth (i : Nat) (f : Align → Align) (s : State) : (gpmod i f s).auth = s.auth := rfl
@[simp] theorem gpmod_audit (i : Nat) (f : Align → Align) (s : State) : (gpmod i f s).audit = s.audit := rfl
@[simp] theorem gpmod_recs (i : Nat) (f : Align → Align) (s : State) : (gpmod i f s).recs = s.recs := rfl
@[simp] theorem gpmod_fw (i : Nat) (f : Align → Align) (s : State) : (gpmod i f s).fw = s.fw := rfl
@[simp] theorem gpmod_reg (i : Nat) (f : Align → Align) (s : State) : (gpmod i f s).reg = s.reg := rfl
@[simp] theorem gpmod_sched (i : Nat) (f : Align → Align) (s : State) : (gpmod i f s).sched = s.sched := rfl
@[simp] theorem gpmod_tb (i : Nat) (f : Align → Align) (s : State) : (gpmod i f s).tb = s.tb := rfl
@[simp] theorem gpmod_clk (i : Nat) (f : Align → Align) (s : State) : (gpmod i f s).clk = s.clk := rfl
@[simp] theorem gpmod_syn (i : Nat) (f : Align → Align) (s : State) : (gpmod i f s).syn = s.syn := rfl
@[simp] theorem gpmod_ports (i : Nat) (f : Align → Align) (s : State) : (gpmod i f s).ports = s.ports := rfl
@[simp] theorem gpmod_tuners (i : Nat) (f : Align → Align) (s : State) : (gpmod i f s).tuners = s.tuners := rfl
@[simp] theorem gpmod_probe (i : Nat) (f : Align → Align) (s : State) : (gpmod i f s).probe = s.probe := rfl
@[simp] theorem gpmod_warps (i : Nat) (f : Align → Align) (s : State) : (gpmod i f s).warps = s.warps := rfl
@[simp] theorem gpmod_calib (i : Nat) (f : Align → Align) (s : State) : (gpmod i f s).calib = s.calib := rfl
@[simp] theorem gpmod_dents (i : Nat) (f : Align → Align) (s : State) : (gpmod i f s).dents = s.dents := rfl
@[simp] theorem gpmod_reed (i : Nat) (f : Align → Align) (s : State) : (gpmod i f s).reed = s.reed := rfl
@[simp] theorem gpmod_weaves (i : Nat) (f : Align → Align) (s : State) : (gpmod i f s).weaves = s.weaves := rfl
@[simp] theorem gpmod_cluster (i : Nat) (f : Align → Align) (s : State) : (gpmod i f s).cluster = s.cluster := rfl
@[simp] theorem gpmod_ana (i : Nat) (f : Align → Align) (s : State) : (gpmod i f s).ana = s.ana := rfl
@[simp] theorem gpmod_dig (i : Nat) (f : Align → Align) (s : State) : (gpmod i f s).dig = s.dig := rfl
@[simp] theorem gpmod_svcs (i : Nat) (f : Align → Align) (s : State) : (gpmod i f s).svcs = s.svcs := rfl
@[simp] theorem gpmod_comps (i : Nat) (f : Align → Align) (s : State) : (gpmod i f s).comps = s.comps := rfl
@[simp] theorem gpmod_svcChg (i : Nat) (f : Align → Align) (s : State) : (gpmod i f s).svcChg = s.svcChg := rfl
@[simp] theorem gpmod_invFull (i : Nat) (f : Align → Align) (s : State) : (gpmod i f s).invFull = s.invFull := rfl
@[simp] theorem gpmod_survey (i : Nat) (f : Align → Align) (s : State) : (gpmod i f s).survey = s.survey := rfl
@[simp] theorem gpmod_time (i : Nat) (f : Align → Align) (s : State) : (gpmod i f s).time = s.time := rfl
@[simp] theorem gpmod_follows (i : Nat) (f : Align → Align) (s : State) : (gpmod i f s).follows = s.follows := rfl
@[simp] theorem gpmod_meas (i : Nat) (f : Align → Align) (s : State) : (gpmod i f s).meas = s.meas := rfl
@[simp] theorem gpmod_thrs (i : Nat) (f : Align → Align) (s : State) : (gpmod i f s).thrs = s.thrs := rfl
@[simp] theorem gpmod_louds (i : Nat) (f : Align → Align) (s : State) : (gpmod i f s).louds = s.louds := rfl
@[simp] theorem gpmod_verifs (i : Nat) (f : Align → Align) (s : State) : (gpmod i f s).verifs = s.verifs := rfl
@[simp] theorem gpmod_tdm (i : Nat) (f : Align → Align) (s : State) : (gpmod i f s).tdm = s.tdm := rfl
@[simp] theorem gpmod_streams (i : Nat) (f : Align → Align) (s : State) : (gpmod i f s).streams = s.streams := rfl
@[simp] theorem gpmod_aligns (i : Nat) (f : Align → Align) (s : State) : (gpmod i f s).aligns = tmod s.aligns i f := rfl
@[simp] theorem gpmod_eth (i : Nat) (f : Align → Align) (s : State) : (gpmod i f s).eth = s.eth := rfl
@[simp] theorem gpmod_mb (i : Nat) (f : Align → Align) (s : State) : (gpmod i f s).mb = s.mb := rfl
@[simp] theorem gpmod_pb (i : Nat) (f : Align → Align) (s : State) : (gpmod i f s).pb = s.pb := rfl
@[simp] theorem gpmod_periphs (i : Nat) (f : Align → Align) (s : State) : (gpmod i f s).periphs = s.periphs := rfl
@[simp] theorem gpmod_rtc (i : Nat) (f : Align → Align) (s : State) : (gpmod i f s).rtc = s.rtc := rfl
@[simp] theorem gpmod_pair (i : Nat) (f : Align → Align) (s : State) : (gpmod i f s).pair = s.pair := rfl

@[simp] theorem tbmod_pending (f : Timebase → Timebase) (s : State) : (tbmod f s).pending = s.pending := rfl
@[simp] theorem tbmod_ident (f : Timebase → Timebase) (s : State) : (tbmod f s).ident = s.ident := rfl
@[simp] theorem tbmod_sys (f : Timebase → Timebase) (s : State) : (tbmod f s).sys = s.sys := rfl
@[simp] theorem tbmod_proto (f : Timebase → Timebase) (s : State) : (tbmod f s).proto = s.proto := rfl
@[simp] theorem tbmod_auth (f : Timebase → Timebase) (s : State) : (tbmod f s).auth = s.auth := rfl
@[simp] theorem tbmod_audit (f : Timebase → Timebase) (s : State) : (tbmod f s).audit = s.audit := rfl
@[simp] theorem tbmod_recs (f : Timebase → Timebase) (s : State) : (tbmod f s).recs = s.recs := rfl
@[simp] theorem tbmod_fw (f : Timebase → Timebase) (s : State) : (tbmod f s).fw = s.fw := rfl
@[simp] theorem tbmod_reg (f : Timebase → Timebase) (s : State) : (tbmod f s).reg = s.reg := rfl
@[simp] theorem tbmod_sched (f : Timebase → Timebase) (s : State) : (tbmod f s).sched = s.sched := rfl
@[simp] theorem tbmod_tb (f : Timebase → Timebase) (s : State) : (tbmod f s).tb = f s.tb := rfl
@[simp] theorem tbmod_clk (f : Timebase → Timebase) (s : State) : (tbmod f s).clk = s.clk := rfl
@[simp] theorem tbmod_syn (f : Timebase → Timebase) (s : State) : (tbmod f s).syn = s.syn := rfl
@[simp] theorem tbmod_ports (f : Timebase → Timebase) (s : State) : (tbmod f s).ports = s.ports := rfl
@[simp] theorem tbmod_tuners (f : Timebase → Timebase) (s : State) : (tbmod f s).tuners = s.tuners := rfl
@[simp] theorem tbmod_probe (f : Timebase → Timebase) (s : State) : (tbmod f s).probe = s.probe := rfl
@[simp] theorem tbmod_warps (f : Timebase → Timebase) (s : State) : (tbmod f s).warps = s.warps := rfl
@[simp] theorem tbmod_calib (f : Timebase → Timebase) (s : State) : (tbmod f s).calib = s.calib := rfl
@[simp] theorem tbmod_dents (f : Timebase → Timebase) (s : State) : (tbmod f s).dents = s.dents := rfl
@[simp] theorem tbmod_reed (f : Timebase → Timebase) (s : State) : (tbmod f s).reed = s.reed := rfl
@[simp] theorem tbmod_weaves (f : Timebase → Timebase) (s : State) : (tbmod f s).weaves = s.weaves := rfl
@[simp] theorem tbmod_cluster (f : Timebase → Timebase) (s : State) : (tbmod f s).cluster = s.cluster := rfl
@[simp] theorem tbmod_ana (f : Timebase → Timebase) (s : State) : (tbmod f s).ana = s.ana := rfl
@[simp] theorem tbmod_dig (f : Timebase → Timebase) (s : State) : (tbmod f s).dig = s.dig := rfl
@[simp] theorem tbmod_svcs (f : Timebase → Timebase) (s : State) : (tbmod f s).svcs = s.svcs := rfl
@[simp] theorem tbmod_comps (f : Timebase → Timebase) (s : State) : (tbmod f s).comps = s.comps := rfl
@[simp] theorem tbmod_svcChg (f : Timebase → Timebase) (s : State) : (tbmod f s).svcChg = s.svcChg := rfl
@[simp] theorem tbmod_invFull (f : Timebase → Timebase) (s : State) : (tbmod f s).invFull = s.invFull := rfl
@[simp] theorem tbmod_survey (f : Timebase → Timebase) (s : State) : (tbmod f s).survey = s.survey := rfl
@[simp] theorem tbmod_time (f : Timebase → Timebase) (s : State) : (tbmod f s).time = s.time := rfl
@[simp] theorem tbmod_follows (f : Timebase → Timebase) (s : State) : (tbmod f s).follows = s.follows := rfl
@[simp] theorem tbmod_meas (f : Timebase → Timebase) (s : State) : (tbmod f s).meas = s.meas := rfl
@[simp] theorem tbmod_thrs (f : Timebase → Timebase) (s : State) : (tbmod f s).thrs = s.thrs := rfl
@[simp] theorem tbmod_louds (f : Timebase → Timebase) (s : State) : (tbmod f s).louds = s.louds := rfl
@[simp] theorem tbmod_verifs (f : Timebase → Timebase) (s : State) : (tbmod f s).verifs = s.verifs := rfl
@[simp] theorem tbmod_tdm (f : Timebase → Timebase) (s : State) : (tbmod f s).tdm = s.tdm := rfl
@[simp] theorem tbmod_streams (f : Timebase → Timebase) (s : State) : (tbmod f s).streams = s.streams := rfl
@[simp] theorem tbmod_aligns (f : Timebase → Timebase) (s : State) : (tbmod f s).aligns = s.aligns := rfl
@[simp] theorem tbmod_eth (f : Timebase → Timebase) (s : State) : (tbmod f s).eth = s.eth := rfl
@[simp] theorem tbmod_mb (f : Timebase → Timebase) (s : State) : (tbmod f s).mb = s.mb := rfl
@[simp] theorem tbmod_pb (f : Timebase → Timebase) (s : State) : (tbmod f s).pb = s.pb := rfl
@[simp] theorem tbmod_periphs (f : Timebase → Timebase) (s : State) : (tbmod f s).periphs = s.periphs := rfl
@[simp] theorem tbmod_rtc (f : Timebase → Timebase) (s : State) : (tbmod f s).rtc = s.rtc := rfl
@[simp] theorem tbmod_pair (f : Timebase → Timebase) (s : State) : (tbmod f s).pair = s.pair := rfl

@[simp] theorem protomod_pending (f : Proto → Proto) (s : State) : (protomod f s).pending = s.pending := rfl
@[simp] theorem protomod_ident (f : Proto → Proto) (s : State) : (protomod f s).ident = s.ident := rfl
@[simp] theorem protomod_sys (f : Proto → Proto) (s : State) : (protomod f s).sys = s.sys := rfl
@[simp] theorem protomod_proto (f : Proto → Proto) (s : State) : (protomod f s).proto = f s.proto := rfl
@[simp] theorem protomod_auth (f : Proto → Proto) (s : State) : (protomod f s).auth = s.auth := rfl
@[simp] theorem protomod_audit (f : Proto → Proto) (s : State) : (protomod f s).audit = s.audit := rfl
@[simp] theorem protomod_recs (f : Proto → Proto) (s : State) : (protomod f s).recs = s.recs := rfl
@[simp] theorem protomod_fw (f : Proto → Proto) (s : State) : (protomod f s).fw = s.fw := rfl
@[simp] theorem protomod_reg (f : Proto → Proto) (s : State) : (protomod f s).reg = s.reg := rfl
@[simp] theorem protomod_sched (f : Proto → Proto) (s : State) : (protomod f s).sched = s.sched := rfl
@[simp] theorem protomod_tb (f : Proto → Proto) (s : State) : (protomod f s).tb = s.tb := rfl
@[simp] theorem protomod_clk (f : Proto → Proto) (s : State) : (protomod f s).clk = s.clk := rfl
@[simp] theorem protomod_syn (f : Proto → Proto) (s : State) : (protomod f s).syn = s.syn := rfl
@[simp] theorem protomod_ports (f : Proto → Proto) (s : State) : (protomod f s).ports = s.ports := rfl
@[simp] theorem protomod_tuners (f : Proto → Proto) (s : State) : (protomod f s).tuners = s.tuners := rfl
@[simp] theorem protomod_probe (f : Proto → Proto) (s : State) : (protomod f s).probe = s.probe := rfl
@[simp] theorem protomod_warps (f : Proto → Proto) (s : State) : (protomod f s).warps = s.warps := rfl
@[simp] theorem protomod_calib (f : Proto → Proto) (s : State) : (protomod f s).calib = s.calib := rfl
@[simp] theorem protomod_dents (f : Proto → Proto) (s : State) : (protomod f s).dents = s.dents := rfl
@[simp] theorem protomod_reed (f : Proto → Proto) (s : State) : (protomod f s).reed = s.reed := rfl
@[simp] theorem protomod_weaves (f : Proto → Proto) (s : State) : (protomod f s).weaves = s.weaves := rfl
@[simp] theorem protomod_cluster (f : Proto → Proto) (s : State) : (protomod f s).cluster = s.cluster := rfl
@[simp] theorem protomod_ana (f : Proto → Proto) (s : State) : (protomod f s).ana = s.ana := rfl
@[simp] theorem protomod_dig (f : Proto → Proto) (s : State) : (protomod f s).dig = s.dig := rfl
@[simp] theorem protomod_svcs (f : Proto → Proto) (s : State) : (protomod f s).svcs = s.svcs := rfl
@[simp] theorem protomod_comps (f : Proto → Proto) (s : State) : (protomod f s).comps = s.comps := rfl
@[simp] theorem protomod_svcChg (f : Proto → Proto) (s : State) : (protomod f s).svcChg = s.svcChg := rfl
@[simp] theorem protomod_invFull (f : Proto → Proto) (s : State) : (protomod f s).invFull = s.invFull := rfl
@[simp] theorem protomod_survey (f : Proto → Proto) (s : State) : (protomod f s).survey = s.survey := rfl
@[simp] theorem protomod_time (f : Proto → Proto) (s : State) : (protomod f s).time = s.time := rfl
@[simp] theorem protomod_follows (f : Proto → Proto) (s : State) : (protomod f s).follows = s.follows := rfl
@[simp] theorem protomod_meas (f : Proto → Proto) (s : State) : (protomod f s).meas = s.meas := rfl
@[simp] theorem protomod_thrs (f : Proto → Proto) (s : State) : (protomod f s).thrs = s.thrs := rfl
@[simp] theorem protomod_louds (f : Proto → Proto) (s : State) : (protomod f s).louds = s.louds := rfl
@[simp] theorem protomod_verifs (f : Proto → Proto) (s : State) : (protomod f s).verifs = s.verifs := rfl
@[simp] theorem protomod_tdm (f : Proto → Proto) (s : State) : (protomod f s).tdm = s.tdm := rfl
@[simp] theorem protomod_streams (f : Proto → Proto) (s : State) : (protomod f s).streams = s.streams := rfl
@[simp] theorem protomod_aligns (f : Proto → Proto) (s : State) : (protomod f s).aligns = s.aligns := rfl
@[simp] theorem protomod_eth (f : Proto → Proto) (s : State) : (protomod f s).eth = s.eth := rfl
@[simp] theorem protomod_mb (f : Proto → Proto) (s : State) : (protomod f s).mb = s.mb := rfl
@[simp] theorem protomod_pb (f : Proto → Proto) (s : State) : (protomod f s).pb = s.pb := rfl
@[simp] theorem protomod_periphs (f : Proto → Proto) (s : State) : (protomod f s).periphs = s.periphs := rfl
@[simp] theorem protomod_rtc (f : Proto → Proto) (s : State) : (protomod f s).rtc = s.rtc := rfl
@[simp] theorem protomod_pair (f : Proto → Proto) (s : State) : (protomod f s).pair = s.pair := rfl

@[simp] theorem mbmod_pending (f : Mb → Mb) (s : State) : (mbmod f s).pending = s.pending := rfl
@[simp] theorem mbmod_ident (f : Mb → Mb) (s : State) : (mbmod f s).ident = s.ident := rfl
@[simp] theorem mbmod_sys (f : Mb → Mb) (s : State) : (mbmod f s).sys = s.sys := rfl
@[simp] theorem mbmod_proto (f : Mb → Mb) (s : State) : (mbmod f s).proto = s.proto := rfl
@[simp] theorem mbmod_auth (f : Mb → Mb) (s : State) : (mbmod f s).auth = s.auth := rfl
@[simp] theorem mbmod_audit (f : Mb → Mb) (s : State) : (mbmod f s).audit = s.audit := rfl
@[simp] theorem mbmod_recs (f : Mb → Mb) (s : State) : (mbmod f s).recs = s.recs := rfl
@[simp] theorem mbmod_fw (f : Mb → Mb) (s : State) : (mbmod f s).fw = s.fw := rfl
@[simp] theorem mbmod_reg (f : Mb → Mb) (s : State) : (mbmod f s).reg = s.reg := rfl
@[simp] theorem mbmod_sched (f : Mb → Mb) (s : State) : (mbmod f s).sched = s.sched := rfl
@[simp] theorem mbmod_tb (f : Mb → Mb) (s : State) : (mbmod f s).tb = s.tb := rfl
@[simp] theorem mbmod_clk (f : Mb → Mb) (s : State) : (mbmod f s).clk = s.clk := rfl
@[simp] theorem mbmod_syn (f : Mb → Mb) (s : State) : (mbmod f s).syn = s.syn := rfl
@[simp] theorem mbmod_ports (f : Mb → Mb) (s : State) : (mbmod f s).ports = s.ports := rfl
@[simp] theorem mbmod_tuners (f : Mb → Mb) (s : State) : (mbmod f s).tuners = s.tuners := rfl
@[simp] theorem mbmod_probe (f : Mb → Mb) (s : State) : (mbmod f s).probe = s.probe := rfl
@[simp] theorem mbmod_warps (f : Mb → Mb) (s : State) : (mbmod f s).warps = s.warps := rfl
@[simp] theorem mbmod_calib (f : Mb → Mb) (s : State) : (mbmod f s).calib = s.calib := rfl
@[simp] theorem mbmod_dents (f : Mb → Mb) (s : State) : (mbmod f s).dents = s.dents := rfl
@[simp] theorem mbmod_reed (f : Mb → Mb) (s : State) : (mbmod f s).reed = s.reed := rfl
@[simp] theorem mbmod_weaves (f : Mb → Mb) (s : State) : (mbmod f s).weaves = s.weaves := rfl
@[simp] theorem mbmod_cluster (f : Mb → Mb) (s : State) : (mbmod f s).cluster = s.cluster := rfl
@[simp] theorem mbmod_ana (f : Mb → Mb) (s : State) : (mbmod f s).ana = s.ana := rfl
@[simp] theorem mbmod_dig (f : Mb → Mb) (s : State) : (mbmod f s).dig = s.dig := rfl
@[simp] theorem mbmod_svcs (f : Mb → Mb) (s : State) : (mbmod f s).svcs = s.svcs := rfl
@[simp] theorem mbmod_comps (f : Mb → Mb) (s : State) : (mbmod f s).comps = s.comps := rfl
@[simp] theorem mbmod_svcChg (f : Mb → Mb) (s : State) : (mbmod f s).svcChg = s.svcChg := rfl
@[simp] theorem mbmod_invFull (f : Mb → Mb) (s : State) : (mbmod f s).invFull = s.invFull := rfl
@[simp] theorem mbmod_survey (f : Mb → Mb) (s : State) : (mbmod f s).survey = s.survey := rfl
@[simp] theorem mbmod_time (f : Mb → Mb) (s : State) : (mbmod f s).time = s.time := rfl
@[simp] theorem mbmod_follows (f : Mb → Mb) (s : State) : (mbmod f s).follows = s.follows := rfl
@[simp] theorem mbmod_meas (f : Mb → Mb) (s : State) : (mbmod f s).meas = s.meas := rfl
@[simp] theorem mbmod_thrs (f : Mb → Mb) (s : State) : (mbmod f s).thrs = s.thrs := rfl
@[simp] theorem mbmod_louds (f : Mb → Mb) (s : State) : (mbmod f s).louds = s.louds := rfl
@[simp] theorem mbmod_verifs (f : Mb → Mb) (s : State) : (mbmod f s).verifs = s.verifs := rfl
@[simp] theorem mbmod_tdm (f : Mb → Mb) (s : State) : (mbmod f s).tdm = s.tdm := rfl
@[simp] theorem mbmod_streams (f : Mb → Mb) (s : State) : (mbmod f s).streams = s.streams := rfl
@[simp] theorem mbmod_aligns (f : Mb → Mb) (s : State) : (mbmod f s).aligns = s.aligns := rfl
@[simp] theorem mbmod_eth (f : Mb → Mb) (s : State) : (mbmod f s).eth = s.eth := rfl
@[simp] theorem mbmod_mb (f : Mb → Mb) (s : State) : (mbmod f s).mb = f s.mb := rfl
@[simp] theorem mbmod_pb (f : Mb → Mb) (s : State) : (mbmod f s).pb = s.pb := rfl
@[simp] theorem mbmod_periphs (f : Mb → Mb) (s : State) : (mbmod f s).periphs = s.periphs := rfl
@[simp] theorem mbmod_rtc (f : Mb → Mb) (s : State) : (mbmod f s).rtc = s.rtc := rfl
@[simp] theorem mbmod_pair (f : Mb → Mb) (s : State) : (mbmod f s).pair = s.pair := rfl

@[simp] theorem tunmod_pending (p : Nat) (f : Tuner → Tuner) (s : State) : (tunmod p f s).pending = s.pending := rfl
@[simp] theorem tunmod_ident (p : Nat) (f : Tuner → Tuner) (s : State) : (tunmod p f s).ident = s.ident := rfl
@[simp] theorem tunmod_sys (p : Nat) (f : Tuner → Tuner) (s : State) : (tunmod p f s).sys = s.sys := rfl
@[simp] theorem tunmod_proto (p : Nat) (f : Tuner → Tuner) (s : State) : (tunmod p f s).proto = s.proto := rfl
@[simp] theorem tunmod_auth (p : Nat) (f : Tuner → Tuner) (s : State) : (tunmod p f s).auth = s.auth := rfl
@[simp] theorem tunmod_audit (p : Nat) (f : Tuner → Tuner) (s : State) : (tunmod p f s).audit = s.audit := rfl
@[simp] theorem tunmod_recs (p : Nat) (f : Tuner → Tuner) (s : State) : (tunmod p f s).recs = s.recs := rfl
@[simp] theorem tunmod_fw (p : Nat) (f : Tuner → Tuner) (s : State) : (tunmod p f s).fw = s.fw := rfl
@[simp] theorem tunmod_reg (p : Nat) (f : Tuner → Tuner) (s : State) : (tunmod p f s).reg = s.reg := rfl
@[simp] theorem tunmod_sched (p : Nat) (f : Tuner → Tuner) (s : State) : (tunmod p f s).sched = s.sched := rfl
@[simp] theorem tunmod_tb (p : Nat) (f : Tuner → Tuner) (s : State) : (tunmod p f s).tb = s.tb := rfl
@[simp] theorem tunmod_clk (p : Nat) (f : Tuner → Tuner) (s : State) : (tunmod p f s).clk = s.clk := rfl
@[simp] theorem tunmod_syn (p : Nat) (f : Tuner → Tuner) (s : State) : (tunmod p f s).syn = s.syn := rfl
@[simp] theorem tunmod_ports (p : Nat) (f : Tuner → Tuner) (s : State) : (tunmod p f s).ports = s.ports := rfl
@[simp] theorem tunmod_tuners (p : Nat) (f : Tuner → Tuner) (s : State) : (tunmod p f s).tuners = lmod s.tuners p f := rfl
@[simp] theorem tunmod_probe (p : Nat) (f : Tuner → Tuner) (s : State) : (tunmod p f s).probe = s.probe := rfl
@[simp] theorem tunmod_warps (p : Nat) (f : Tuner → Tuner) (s : State) : (tunmod p f s).warps = s.warps := rfl
@[simp] theorem tunmod_calib (p : Nat) (f : Tuner → Tuner) (s : State) : (tunmod p f s).calib = s.calib := rfl
@[simp] theorem tunmod_dents (p : Nat) (f : Tuner → Tuner) (s : State) : (tunmod p f s).dents = s.dents := rfl
@[simp] theorem tunmod_reed (p : Nat) (f : Tuner → Tuner) (s : State) : (tunmod p f s).reed = s.reed := rfl
@[simp] theorem tunmod_weaves (p : Nat) (f : Tuner → Tuner) (s : State) : (tunmod p f s).weaves = s.weaves := rfl
@[simp] theorem tunmod_cluster (p : Nat) (f : Tuner → Tuner) (s : State) : (tunmod p f s).cluster = s.cluster := rfl
@[simp] theorem tunmod_ana (p : Nat) (f : Tuner → Tuner) (s : State) : (tunmod p f s).ana = s.ana := rfl
@[simp] theorem tunmod_dig (p : Nat) (f : Tuner → Tuner) (s : State) : (tunmod p f s).dig = s.dig := rfl
@[simp] theorem tunmod_svcs (p : Nat) (f : Tuner → Tuner) (s : State) : (tunmod p f s).svcs = s.svcs := rfl
@[simp] theorem tunmod_comps (p : Nat) (f : Tuner → Tuner) (s : State) : (tunmod p f s).comps = s.comps := rfl
@[simp] theorem tunmod_svcChg (p : Nat) (f : Tuner → Tuner) (s : State) : (tunmod p f s).svcChg = s.svcChg := rfl
@[simp] theorem tunmod_invFull (p : Nat) (f : Tuner → Tuner) (s : State) : (tunmod p f s).invFull = s.invFull := rfl
@[simp] theorem tunmod_survey (p : Nat) (f : Tuner → Tuner) (s : State) : (tunmod p f s).survey = s.survey := rfl
@[simp] theorem tunmod_time (p : Nat) (f : Tuner → Tuner) (s : State) : (tunmod p f s).time = s.time := rfl
@[simp] theorem tunmod_follows (p : Nat) (f : Tuner → Tuner) (s : State) : (tunmod p f s).follows = s.follows := rfl
@[simp] theorem tunmod_meas (p : Nat) (f : Tuner → Tuner) (s : State) : (tunmod p f s).meas = s.meas := rfl
@[simp] theorem tunmod_thrs (p : Nat) (f : Tuner → Tuner) (s : State) : (tunmod p f s).thrs = s.thrs := rfl
@[simp] theorem tunmod_louds (p : Nat) (f : Tuner → Tuner) (s : State) : (tunmod p f s).louds = s.louds := rfl
@[simp] theorem tunmod_verifs (p : Nat) (f : Tuner → Tuner) (s : State) : (tunmod p f s).verifs = s.verifs := rfl
@[simp] theorem tunmod_tdm (p : Nat) (f : Tuner → Tuner) (s : State) : (tunmod p f s).tdm = s.tdm := rfl
@[simp] theorem tunmod_streams (p : Nat) (f : Tuner → Tuner) (s : State) : (tunmod p f s).streams = s.streams := rfl
@[simp] theorem tunmod_aligns (p : Nat) (f : Tuner → Tuner) (s : State) : (tunmod p f s).aligns = s.aligns := rfl
@[simp] theorem tunmod_eth (p : Nat) (f : Tuner → Tuner) (s : State) : (tunmod p f s).eth = s.eth := rfl
@[simp] theorem tunmod_mb (p : Nat) (f : Tuner → Tuner) (s : State) : (tunmod p f s).mb = s.mb := rfl
@[simp] theorem tunmod_pb (p : Nat) (f : Tuner → Tuner) (s : State) : (tunmod p f s).pb = s.pb := rfl
@[simp] theorem tunmod_periphs (p : Nat) (f : Tuner → Tuner) (s : State) : (tunmod p f s).periphs = s.periphs := rfl
@[simp] theorem tunmod_rtc (p : Nat) (f : Tuner → Tuner) (s : State) : (tunmod p f s).rtc = s.rtc := rfl
@[simp] theorem tunmod_pair (p : Nat) (f : Tuner → Tuner) (s : State) : (tunmod p f s).pair = s.pair := rfl

@[simp] theorem prmod_pending (f : Probe → Probe) (s : State) : (prmod f s).pending = s.pending := rfl
@[simp] theorem prmod_ident (f : Probe → Probe) (s : State) : (prmod f s).ident = s.ident := rfl
@[simp] theorem prmod_sys (f : Probe → Probe) (s : State) : (prmod f s).sys = s.sys := rfl
@[simp] theorem prmod_proto (f : Probe → Probe) (s : State) : (prmod f s).proto = s.proto := rfl
@[simp] theorem prmod_auth (f : Probe → Probe) (s : State) : (prmod f s).auth = s.auth := rfl
@[simp] theorem prmod_audit (f : Probe → Probe) (s : State) : (prmod f s).audit = s.audit := rfl
@[simp] theorem prmod_recs (f : Probe → Probe) (s : State) : (prmod f s).recs = s.recs := rfl
@[simp] theorem prmod_fw (f : Probe → Probe) (s : State) : (prmod f s).fw = s.fw := rfl
@[simp] theorem prmod_reg (f : Probe → Probe) (s : State) : (prmod f s).reg = s.reg := rfl
@[simp] theorem prmod_sched (f : Probe → Probe) (s : State) : (prmod f s).sched = s.sched := rfl
@[simp] theorem prmod_tb (f : Probe → Probe) (s : State) : (prmod f s).tb = s.tb := rfl
@[simp] theorem prmod_clk (f : Probe → Probe) (s : State) : (prmod f s).clk = s.clk := rfl
@[simp] theorem prmod_syn (f : Probe → Probe) (s : State) : (prmod f s).syn = s.syn := rfl
@[simp] theorem prmod_ports (f : Probe → Probe) (s : State) : (prmod f s).ports = s.ports := rfl
@[simp] theorem prmod_tuners (f : Probe → Probe) (s : State) : (prmod f s).tuners = s.tuners := rfl
@[simp] theorem prmod_probe (f : Probe → Probe) (s : State) : (prmod f s).probe = f s.probe := rfl
@[simp] theorem prmod_warps (f : Probe → Probe) (s : State) : (prmod f s).warps = s.warps := rfl
@[simp] theorem prmod_calib (f : Probe → Probe) (s : State) : (prmod f s).calib = s.calib := rfl
@[simp] theorem prmod_dents (f : Probe → Probe) (s : State) : (prmod f s).dents = s.dents := rfl
@[simp] theorem prmod_reed (f : Probe → Probe) (s : State) : (prmod f s).reed = s.reed := rfl
@[simp] theorem prmod_weaves (f : Probe → Probe) (s : State) : (prmod f s).weaves = s.weaves := rfl
@[simp] theorem prmod_cluster (f : Probe → Probe) (s : State) : (prmod f s).cluster = s.cluster := rfl
@[simp] theorem prmod_ana (f : Probe → Probe) (s : State) : (prmod f s).ana = s.ana := rfl
@[simp] theorem prmod_dig (f : Probe → Probe) (s : State) : (prmod f s).dig = s.dig := rfl
@[simp] theorem prmod_svcs (f : Probe → Probe) (s : State) : (prmod f s).svcs = s.svcs := rfl
@[simp] theorem prmod_comps (f : Probe → Probe) (s : State) : (prmod f s).comps = s.comps := rfl
@[simp] theorem prmod_svcChg (f : Probe → Probe) (s : State) : (prmod f s).svcChg = s.svcChg := rfl
@[simp] theorem prmod_invFull (f : Probe → Probe) (s : State) : (prmod f s).invFull = s.invFull := rfl
@[simp] theorem prmod_survey (f : Probe → Probe) (s : State) : (prmod f s).survey = s.survey := rfl
@[simp] theorem prmod_time (f : Probe → Probe) (s : State) : (prmod f s).time = s.time := rfl
@[simp] theorem prmod_follows (f : Probe → Probe) (s : State) : (prmod f s).follows = s.follows := rfl
@[simp] theorem prmod_meas (f : Probe → Probe) (s : State) : (prmod f s).meas = s.meas := rfl
@[simp] theorem prmod_thrs (f : Probe → Probe) (s : State) : (prmod f s).thrs = s.thrs := rfl
@[simp] theorem prmod_louds (f : Probe → Probe) (s : State) : (prmod f s).louds = s.louds := rfl
@[simp] theorem prmod_verifs (f : Probe → Probe) (s : State) : (prmod f s).verifs = s.verifs := rfl
@[simp] theorem prmod_tdm (f : Probe → Probe) (s : State) : (prmod f s).tdm = s.tdm := rfl
@[simp] theorem prmod_streams (f : Probe → Probe) (s : State) : (prmod f s).streams = s.streams := rfl
@[simp] theorem prmod_aligns (f : Probe → Probe) (s : State) : (prmod f s).aligns = s.aligns := rfl
@[simp] theorem prmod_eth (f : Probe → Probe) (s : State) : (prmod f s).eth = s.eth := rfl
@[simp] theorem prmod_mb (f : Probe → Probe) (s : State) : (prmod f s).mb = s.mb := rfl
@[simp] theorem prmod_pb (f : Probe → Probe) (s : State) : (prmod f s).pb = s.pb := rfl
@[simp] theorem prmod_periphs (f : Probe → Probe) (s : State) : (prmod f s).periphs = s.periphs := rfl
@[simp] theorem prmod_rtc (f : Probe → Probe) (s : State) : (prmod f s).rtc = s.rtc := rfl
@[simp] theorem prmod_pair (f : Probe → Probe) (s : State) : (prmod f s).pair = s.pair := rfl

@[simp] theorem vmod_pending (i : Nat) (f : Weave → Weave) (s : State) : (vmod i f s).pending = s.pending := rfl
@[simp] theorem vmod_ident (i : Nat) (f : Weave → Weave) (s : State) : (vmod i f s).ident = s.ident := rfl
@[simp] theorem vmod_sys (i : Nat) (f : Weave → Weave) (s : State) : (vmod i f s).sys = s.sys := rfl
@[simp] theorem vmod_proto (i : Nat) (f : Weave → Weave) (s : State) : (vmod i f s).proto = s.proto := rfl
@[simp] theorem vmod_auth (i : Nat) (f : Weave → Weave) (s : State) : (vmod i f s).auth = s.auth := rfl
@[simp] theorem vmod_audit (i : Nat) (f : Weave → Weave) (s : State) : (vmod i f s).audit = s.audit := rfl
@[simp] theorem vmod_recs (i : Nat) (f : Weave → Weave) (s : State) : (vmod i f s).recs = s.recs := rfl
@[simp] theorem vmod_fw (i : Nat) (f : Weave → Weave) (s : State) : (vmod i f s).fw = s.fw := rfl
@[simp] theorem vmod_reg (i : Nat) (f : Weave → Weave) (s : State) : (vmod i f s).reg = s.reg := rfl
@[simp] theorem vmod_sched (i : Nat) (f : Weave → Weave) (s : State) : (vmod i f s).sched = s.sched := rfl
@[simp] theorem vmod_tb (i : Nat) (f : Weave → Weave) (s : State) : (vmod i f s).tb = s.tb := rfl
@[simp] theorem vmod_clk (i : Nat) (f : Weave → Weave) (s : State) : (vmod i f s).clk = s.clk := rfl
@[simp] theorem vmod_syn (i : Nat) (f : Weave → Weave) (s : State) : (vmod i f s).syn = s.syn := rfl
@[simp] theorem vmod_ports (i : Nat) (f : Weave → Weave) (s : State) : (vmod i f s).ports = s.ports := rfl
@[simp] theorem vmod_tuners (i : Nat) (f : Weave → Weave) (s : State) : (vmod i f s).tuners = s.tuners := rfl
@[simp] theorem vmod_probe (i : Nat) (f : Weave → Weave) (s : State) : (vmod i f s).probe = s.probe := rfl
@[simp] theorem vmod_warps (i : Nat) (f : Weave → Weave) (s : State) : (vmod i f s).warps = s.warps := rfl
@[simp] theorem vmod_calib (i : Nat) (f : Weave → Weave) (s : State) : (vmod i f s).calib = s.calib := rfl
@[simp] theorem vmod_dents (i : Nat) (f : Weave → Weave) (s : State) : (vmod i f s).dents = s.dents := rfl
@[simp] theorem vmod_reed (i : Nat) (f : Weave → Weave) (s : State) : (vmod i f s).reed = s.reed := rfl
@[simp] theorem vmod_weaves (i : Nat) (f : Weave → Weave) (s : State) : (vmod i f s).weaves = tmod s.weaves i f := rfl
@[simp] theorem vmod_cluster (i : Nat) (f : Weave → Weave) (s : State) : (vmod i f s).cluster = s.cluster := rfl
@[simp] theorem vmod_ana (i : Nat) (f : Weave → Weave) (s : State) : (vmod i f s).ana = s.ana := rfl
@[simp] theorem vmod_dig (i : Nat) (f : Weave → Weave) (s : State) : (vmod i f s).dig = s.dig := rfl
@[simp] theorem vmod_svcs (i : Nat) (f : Weave → Weave) (s : State) : (vmod i f s).svcs = s.svcs := rfl
@[simp] theorem vmod_comps (i : Nat) (f : Weave → Weave) (s : State) : (vmod i f s).comps = s.comps := rfl
@[simp] theorem vmod_svcChg (i : Nat) (f : Weave → Weave) (s : State) : (vmod i f s).svcChg = s.svcChg := rfl
@[simp] theorem vmod_invFull (i : Nat) (f : Weave → Weave) (s : State) : (vmod i f s).invFull = s.invFull := rfl
@[simp] theorem vmod_survey (i : Nat) (f : Weave → Weave) (s : State) : (vmod i f s).survey = s.survey := rfl
@[simp] theorem vmod_time (i : Nat) (f : Weave → Weave) (s : State) : (vmod i f s).time = s.time := rfl
@[simp] theorem vmod_follows (i : Nat) (f : Weave → Weave) (s : State) : (vmod i f s).follows = s.follows := rfl
@[simp] theorem vmod_meas (i : Nat) (f : Weave → Weave) (s : State) : (vmod i f s).meas = s.meas := rfl
@[simp] theorem vmod_thrs (i : Nat) (f : Weave → Weave) (s : State) : (vmod i f s).thrs = s.thrs := rfl
@[simp] theorem vmod_louds (i : Nat) (f : Weave → Weave) (s : State) : (vmod i f s).louds = s.louds := rfl
@[simp] theorem vmod_verifs (i : Nat) (f : Weave → Weave) (s : State) : (vmod i f s).verifs = s.verifs := rfl
@[simp] theorem vmod_tdm (i : Nat) (f : Weave → Weave) (s : State) : (vmod i f s).tdm = s.tdm := rfl
@[simp] theorem vmod_streams (i : Nat) (f : Weave → Weave) (s : State) : (vmod i f s).streams = s.streams := rfl
@[simp] theorem vmod_aligns (i : Nat) (f : Weave → Weave) (s : State) : (vmod i f s).aligns = s.aligns := rfl
@[simp] theorem vmod_eth (i : Nat) (f : Weave → Weave) (s : State) : (vmod i f s).eth = s.eth := rfl
@[simp] theorem vmod_mb (i : Nat) (f : Weave → Weave) (s : State) : (vmod i f s).mb = s.mb := rfl
@[simp] theorem vmod_pb (i : Nat) (f : Weave → Weave) (s : State) : (vmod i f s).pb = s.pb := rfl
@[simp] theorem vmod_periphs (i : Nat) (f : Weave → Weave) (s : State) : (vmod i f s).periphs = s.periphs := rfl
@[simp] theorem vmod_rtc (i : Nat) (f : Weave → Weave) (s : State) : (vmod i f s).rtc = s.rtc := rfl
@[simp] theorem vmod_pair (i : Nat) (f : Weave → Weave) (s : State) : (vmod i f s).pair = s.pair := rfl

end Sys2Proof.Laws
end

