-- ==== Sys2Proof/Tests/Demo.lean ====
section
/-! SUPPORT. Small states for the tests: a module in WATCH with every domain on and three proven sessions, and the same with one object of
each kind. -/

namespace Sys2Proof.Tests

open Machine

/-- A chain of checks answers, and what it answers passes. -/
def okB {ε α : Type} (x : Except ε α) (f : α → Bool) : Bool :=
  match x with
  | .ok v => f v
  | .error _ => false

/-- An outcome is a next state that passes. -/
def nextB (o : Host.Outcome State Fault Refusal) (f : State → Bool) : Bool :=
  match o with
  | .next s => f s
  | _ => false

/-- Headers of SPI packets in the sessions of an installer, a maker and an operator. -/
def hd : Hdr := ⟨.spi, 1, 0, false⟩
def hm : Hdr := ⟨.spi, 1, 1, false⟩
def ho : Hdr := ⟨.spi, 1, 2, false⟩
def han : Hdr := ⟨.spi, 1, 0xFF, false⟩

def pH : Handle := mkHandle 1 0 1
def wH : Handle := mkHandle 2 0 1
def dH : Handle := mkHandle 3 0 1
def d1H : Handle := mkHandle 3 1 1
def fmH : Handle := mkHandle 4 0 1
def dabH : Handle := mkHandle 4 1 1
def amH : Handle := mkHandle 4 2 1
def drmH : Handle := mkHandle 4 3 1
def sH : Handle := mkHandle 5 0 1
def cH : Handle := mkHandle 6 0 1
def c1H : Handle := mkHandle 6 1 1
def folH : Handle := mkHandle 7 0 1
def tsH : Handle := mkHandle 8 0 1
def esH : Handle := mkHandle 8 1 1
def tpH : Handle := mkHandle 9 0 1
def alH : Handle := mkHandle 0x0A 0 1
def recH : Handle := mkHandle 0x0B 0 1
def epH : Handle := mkHandle 0x0D 0 1
def perH : Handle := mkHandle 0x0E 0 1

/-- An object of generation 1 in a state. -/
def ob (c i : Nat) (st : OState) (inp : List Handle) : Obj := ⟨c, i, 1, st, st, inp, [], .none, false, false, 0, 0, nullHandle⟩

/-- WATCH: every domain on, the fixed objects IDLE, LOs at 100 MHz, three proven sessions. -/
def rdy : State :=
  let s := State.reset
  { s with
    ident := { s.ident with serial := 0x1234 }
    sys := { s.sys with mode := .watch, domains := 0x3FF, ord := 5000 }
    fw := { s.fw with running := 0 }
    tb := { s.tb with pick := 5000 }
    clk := { s.clk with mdll := true }
    reg := { s.reg with objs := fixedObjects.map fun o => { o with st := .idle, cause := .none } }
    auth := { s.auth with sess := [(0, ⟨true, 2, .spi, 1, 0, 0, 0⟩), (1, ⟨true, 3, .spi, 1, 0, 0, 0⟩), (2, ⟨true, 1, .spi, 1, 0, 0, 0⟩)] }
    warps := s.warps.map fun w => { w with lo := some 100000000 } }

def tdmDemo : TdmCfg := ⟨1, 0, 1, 4, 24, 24, 0, 0, 0xFF, 0⟩
def ethDemo : EthCfg := ⟨0x0B, 0, 0, 1500, 24, 0, 0x0A000001, 0, 0, 0, 34, 46, 0, 49440⟩
def infoDemo : CompInfo := ⟨1, 0, 0, 0, 0, 1, 48, 0⟩
def dentReq : DentReq := ⟨wH, 4, 0, 1, 1, 102000000000000, 100000, 0⟩
def srcDemo (c : Handle) : SrcReq := ⟨c, nullHandle, 0x1234, 0xFFFF, 0, 0⟩
def polDemo : FollowCfg := ⟨0, 0, 50, 500, 3, 10, 100, nullHandle, 128, 64, 10⟩
def weaveDemo (type : Nat) (d : Handle) : Weave :=
  newWeave rdy ⟨type, 1, 128, 0, 0, 0, 8, [d], defaultBlock type 4⟩ 0
def svcDemo (tech weave : Nat) : Service :=
  ⟨tech, 0x1234, 0, 0, true, false, false, false, false, false, false, false, 0, some weave, 100000000, 100, 0, 0xFF, [], [], 0, 0, 0⟩
def followDemo : Follow :=
  { srcs := [newSrc rdy (srcDemo cH) .current, { newSrc rdy (srcDemo c1H) .primed with d := 10 }], hold := 4800, group := 0, notify := true
    cfg := polDemo, fade := none, lastFade := (0, 0), replaced := 0, switches := 0, undos := 0, aborts := 0, commitAt := 0
    stopped := false, visitEnd := none, visiting := none, visitAt := 0, charged := 2, legs := [] }
def ethReqDemo : EthReq := ⟨1, 1, 0, 0, 0, 96, 1, 0xEF000001000000000000000000000000, 5004, 5004, 1, 0, 0, 0, [cH]⟩
def ethStreamDemo : EthStream :=
  { req := ethReqDemo, unres := [false, false], under := 0, holds := 0, dropped := 0, queue := [], dropNext := false, sent := 0
    seqs := [0, 0], first := true, marker := 0, lastUnder := none, lastDrop := none, prevQ := 0, heldAt := [], last := [], out := [], pay := [], ready := [], fed := false }
def verifDemo : VerifyReq := ⟨0, 1, 0, 0xFF, cH, c1H, 0, 0xFF, 0, 100, 800, 500, 3, 3⟩
def thrDemo : ThrReq := ⟨1, 0, 1, some (-500), none, 0⟩

/-- WATCH with one object of each kind: two dents, a weave of each type, an FM service and a DAB component, a follow set, a TDM and an
Ethernet stream, an alignment group and a peripheral. -/
def bsy : State :=
  { rdy with
    reg := { rdy.reg with
      objs := rdy.reg.objs ++ [ob 3 0 .active [wH], ob 3 1 .active [wH], ob 4 0 .active [d1H], ob 4 1 .active [], ob 4 2 .idle []
        , ob 4 3 .idle [], ob 5 0 .active [fmH], ob 5 1 .active [dabH], ob 6 0 .active [sH], ob 6 1 .active [mkHandle 5 1 1]
        , ob 7 0 .active [cH, c1H], ob 8 0 .active [cH], ob 8 1 .active [cH], ob 0x0A 0 .active [], ob 0x0E 0 .idle []]
      fresh := [(3, 2), (4, 4), (5, 2), (6, 2), (7, 1), (8, 2), (0x0A, 1), (0x0E, 1)] }
    dents := [(0, dentOf rdy dentReq 5000), (1, dentOf rdy dentReq 5000)]
    weaves := [(0, weaveDemo 2 d1H), (1, weaveDemo 3 d1H), (2, weaveDemo 1 d1H), (3, weaveDemo 4 d1H)]
    ana := [(0, Analogue.none), (2, Analogue.none)]
    dig := [(1, { Digital.none with slots := List.replicate 4 DecSlot.vacant, subch := [⟨1, 0, 0, 84, 128, 0, 0, 0, 0, 0⟩] })
      , (3, { Digital.none with slots := List.replicate 4 DecSlot.vacant })]
    svcs := [(0, svcDemo 2 0), (1, svcDemo 3 1)]
    comps := [(0, ⟨0, infoDemo, [], 0, []⟩), (1, ⟨1, infoDemo, [], 0, []⟩)]
    follows := [(0, followDemo)]
    tdm := rdy.tdm.set 0 { TdmPort.reset with cfg := tdmDemo, st := .running }
    streams := [(0, ⟨.tdm ⟨tpH, cH, 0, 1, 0, 0⟩ [] [], none⟩), (1, ⟨.eth ethStreamDemo, none⟩)]
    eth := rdy.eth.set 0 { EthPort.reset with cfg := ethDemo, link := 1 }
    aligns := [(0, ⟨0, 0, [], 0, 0, 0⟩)]
    periphs := [(0, ⟨0x20, 0, 10⟩)]
    pb := { rdy.pb with enable := true, state := .idle } }

/-- A session of the operator is open, and the operator's key is all zeros. -/
def sesDemo : State :=
  { bsy with
    auth := { bsy.auth with sess := bsy.auth.sess ++ [(3, ⟨false, 1, .spi, 1, 77, 0, 0⟩)] }
    reg := { bsy.reg with objs := bsy.reg.objs ++ [ob 0x0C 3 .idle []] }
    recs := { bsy.recs with recs := bsy.recs.recs.set 3 (Record.made 3 (byte 1 ++ zeros 107)) } }

/-- The second source of the follow set is in sync, aligned and decoded. -/
def primedDemo : State :=
  { bsy with
    follows := [(0, { followDemo with
      srcs := [newSrc rdy (srcDemo cH) .current
        , { newSrc rdy (srcDemo c1H) .primed with d := 10, rho := 10000, agree := 3, lags := [10, 10, 10] }] })]
    dig := tset bsy.dig 1 { Digital.none with sync := 2, slots := [{ DecSlot.vacant with comp := c1H }] } }

/-- What comes with a boundary on which nothing happens. -/
def quiet : PickInputs :=
  ⟨true, true, 12000, 300, 300, 0x3FF, none, (List.range 8).map fun _ => ⟨-300, -400, 0, false, 3000⟩, [], [], [], [], [], [], [], [], [], [], []⟩

/-- A frame of a partner that agrees. -/
def plDemo : PlFrame := ⟨1, 5000, 0x99, 5, 1, 1, [0, 1, 2, 3], 0x1234, 0, 4, 1, [], [], [], 0, 100⟩

/-- An image of one byte under key slot 1, whose key is the base point and whose signature is made with the private key 1 and nonce 1. -/
def imgDemo : List Byte :=
  beBytes 24 0x4d4c46570100010007000000010000000000000000000000
    ++ beBytes 32 0x6e340b9cffb37a989ca544e6bb780a2c78901d3fb33738768511a30617afa01d
    ++ beBytes 32 0x6b17d1f2e12c4247f8bce6e563a440f277037d812deb33a0f4a13945d898c296
    ++ beBytes 32 0x861249548723a35d0fdaee816cd1719e6582dff4c20674971a6db84b99afe9d3 ++ zeros 136 ++ zeros 1

end Sys2Proof.Tests
end

