-- ==== Sys2Proof/Tests/MetEvents.lean ====
section
/-! SUPPORT. For each clause of the completion statements of the other rows, a state and operands that meet its hypotheses together. -/

set_option Elab.async false
set_option linter.unusedVariables false

namespace Sys2Proof.Tests

open Machine

theorem met_spiWrite_1 : (
  let stated : Nat := 20
  let bytes : List Byte := zeros 12
  let s : State := bsy
  decide (s.sys.mode ≠ .backup) &&
  decide ((bytes.length < stated || !inR 12 stated 4108 || s.proto.spi.prog.isSome || closed s) = true) &&
  true) = true := by decide +kernel

theorem met_spiWrite_2 : (
  let stated : Nat := 12
  let bytes : List Byte := zeros 12
  let s : State := bsy
  decide (s.sys.mode ≠ .backup) &&
  decide ((bytes.length < stated || !inR 12 stated 4108 || s.proto.spi.prog.isSome || closed s) = false) &&
  true) = true := by decide +kernel

theorem met_spiRead : (
  let clocked : Nat := 16
  let s : State := bsy
  decide (s.sys.mode ≠ .backup) &&
  let (b, held) := slotBytesOut s.proto.spi s
  true) = true := by decide +kernel

theorem met_spiStatusOnly : (
  let s : State := bsy
  decide (s.sys.mode ≠ .backup) &&
  true) = true := by decide +kernel

theorem met_udpPacketArrival_1 : (
  let port : Fin 2 := 0
  let addr : IpAddr := ⟨false, 1⟩
  let sport : Nat := 7
  let bytes : List Byte := zeros 12
  let s : State := bsy
  decide (udpServed s port addr = true) &&
  decide (8 ≤ bytes.length) &&
  decide (udpFind s port addr sport (fu bytes 6 1) = none) &&
  decide (closed s = false) &&
  decide (udpFree s < 16) &&
  true) = true := by decide +kernel

theorem met_udpPacketArrival_2 : (
  let port : Fin 2 := 0
  let addr : IpAddr := ⟨false, 1⟩
  let sport : Nat := 7
  let bytes : List Byte := zeros 12
  let s : State := { bsy with sys := { bsy.sys with resetReq := some ⟨.command, false, none, .spi⟩ } }
  decide (udpServed s port addr = true) &&
  decide (8 ≤ bytes.length) &&
  decide (udpFind s port addr sport (fu bytes 6 1) = none) &&
  decide ((closed s || decide (16 ≤ udpFree s)) = true) &&
  true) = true := by decide +kernel

theorem met_udpPacketArrival_3 : (
  let port : Fin 2 := 0
  let addr : IpAddr := ⟨false, 1⟩
  let sport : Nat := 7
  let bytes : List Byte := zeros 12
  let s : State := { bsy with proto := { bsy.proto with udp := [(0, ⟨0, ⟨false, 1⟩, 7, 0, zeros 12, some ⟨0x0101, 0, 0⟩, none, none⟩)] } }
  decide (udpServed s port addr = true) &&
  decide (8 ≤ bytes.length) &&
  (udpFind s port addr sport (fu bytes 6 1)).any fun k =>
  (tget s.proto.udp k).any fun u =>
  (u.prog).any fun g =>
  true) = true := by decide +kernel

theorem met_udpPacketArrival_4 : (
  let port : Fin 2 := 0
  let addr : IpAddr := ⟨false, 1⟩
  let sport : Nat := 7
  let bytes : List Byte := zeros 12
  let s : State := { bsy with proto := { bsy.proto with udp := [(0, ⟨0, ⟨false, 1⟩, 7, 0, zeros 12, none, some ⟨0x0101, .ok, 0, 0, [], false, false, false⟩, none⟩)] } }
  decide (udpServed s port addr = true) &&
  decide (8 ≤ bytes.length) &&
  (udpFind s port addr sport (fu bytes 6 1)).any fun k =>
  (tget s.proto.udp k).any fun u =>
  decide (u.prog = none) &&
  (u.reply).any fun r =>
  decide (u.cmd = bytes) &&
  decide (u.cmd ≠ []) &&
  true) = true := by decide +kernel

theorem met_udpPacketArrival_5 : (
  let port : Fin 2 := 0
  let addr : IpAddr := ⟨false, 1⟩
  let sport : Nat := 7
  let bytes : List Byte := zeros 13
  let s : State := { bsy with proto := { bsy.proto with udp := [(0, ⟨0, ⟨false, 1⟩, 7, 0, zeros 12, none, none, none⟩)] } }
  decide (udpServed s port addr = true) &&
  decide (8 ≤ bytes.length) &&
  (udpFind s port addr sport (fu bytes 6 1)).any fun k =>
  (tget s.proto.udp k).any fun u =>
  decide (u.prog = none) &&
  decide ((u.cmd ≠ bytes ∨ u.cmd = [] ∨ u.reply = none)) &&
  decide (closed s = false) &&
  true) = true := by decide +kernel

theorem met_udpPacketArrival_6 : (
  let port : Fin 2 := 0
  let addr : IpAddr := ⟨false, 1⟩
  let sport : Nat := 7
  let bytes : List Byte := zeros 13
  let s : State := { bsy with proto := { bsy.proto with udp := [(0, ⟨0, ⟨false, 1⟩, 7, 0, zeros 12, none, none, none⟩)] }, sys := { bsy.sys with resetReq := some ⟨.command, false, none, .spi⟩ } }
  decide (udpServed s port addr = true) &&
  decide (8 ≤ bytes.length) &&
  (udpFind s port addr sport (fu bytes 6 1)).any fun k =>
  (tget s.proto.udp k).any fun u =>
  decide (u.prog = none) &&
  decide ((u.cmd ≠ bytes ∨ u.cmd = [] ∨ u.reply = none)) &&
  decide (closed s = true) &&
  true) = true := by decide +kernel

theorem met_udpReplyExpiry : (
  let slot : Fin 16 := 0
  let s : State := { bsy with proto := { bsy.proto with udp := [(0, ⟨0, ⟨false, 1⟩, 7, 0, [], none, none, some (5, 0)⟩)] }, sys := { bsy.sys with ord := 20000 } }
  decide (((tget s.proto.udp slot).any fun u => u.sent.any fun n => decide (n.2 + 10000 ≤ s.sys.ord)) = true) &&
  true) = true := by decide +kernel

theorem met_mbIdent : (
  let s : State := bsy
  decide (s.sys.mode ≠ .backup) &&
  true) = true := by decide +kernel

theorem met_mbStatus : (
  let s : State := bsy
  decide (s.sys.mode ≠ .backup) &&
  true) = true := by decide +kernel

theorem met_mbCmdPut_1 : (
  let data : List Byte := zeros 4
  let check : Option Byte := none
  let extra : Bool := false
  let s : State := bsy
  decide (s.sys.mode ≠ .backup) &&
  decide (inR 2 data.length 255 = true) &&
  decide (pecOk (mbTransfer s) 0x10 (byte data.length ++ data) check extra = true) &&
  true) = true := by decide +kernel

theorem met_mbCmdPut_2 : (
  let data : List Byte := zeros 4
  let check : Option Byte := none
  let extra : Bool := true
  let s : State := bsy
  decide (s.sys.mode ≠ .backup) &&
  decide (inR 2 data.length 255 = true) &&
  decide (pecOk (mbTransfer s) 0x10 (byte data.length ++ data) check extra = false) &&
  true) = true := by decide +kernel

theorem met_mbReplyGet_1 : (
  let stop : Bool := true
  let s : State := bsy
  decide (s.sys.mode ≠ .backup) &&
  let (b, held) := slotBytesOut (mbTransfer s).proto.mb (mbTransfer s)
  true) = true := by decide +kernel

theorem met_mbReplyGet_2 : (
  let stop : Bool := true
  let s : State := bsy
  decide (s.sys.mode ≠ .backup) &&
  let (b, held) := slotBytesOut (mbTransfer s).proto.mb (mbTransfer s)
  true) = true := by decide +kernel

theorem met_mbCmdPut_3 : (
  let data : List Byte := []
  let check : Option Byte := none
  let extra : Bool := false
  let s : State := bsy
  decide (s.sys.mode ≠ .backup) &&
  decide (inR 2 data.length 255 = false) &&
  true) = true := by decide +kernel

theorem met_mbAttnAck_1 : (
  let check : Option Byte := none
  let extra : Bool := false
  let s : State := bsy
  decide (s.sys.mode ≠ .backup) &&
  decide (pecOk (mbTransfer s) 0x18 [] check extra = true) &&
  true) = true := by decide +kernel

theorem met_mbAttnAck_2 : (
  let check : Option Byte := none
  let extra : Bool := true
  let s : State := bsy
  decide (s.sys.mode ≠ .backup) &&
  decide (pecOk (mbTransfer s) 0x18 [] check extra = false) &&
  true) = true := by decide +kernel

theorem met_mbRtcSnap : (
  let ended : Bool := true
  let s : State := { bsy with mb := { bsy.mb with rtcOpen := true } }
  decide (s.sys.mode ≠ .backup) &&
  decide ((mbTransfer s).mb.rtcOpen = true) &&
  true) = true := by decide +kernel

theorem met_mbRtcWeekday : (
  let ended : Bool := true
  let s : State := { bsy with mb := { bsy.mb with rtcOpen := true } }
  decide (s.sys.mode ≠ .backup) &&
  decide ((mbTransfer s).mb.rtcOpen = true) &&
  true) = true := by decide +kernel

theorem met_mbUnassignedCode : (
  let code : Byte := 0x55#8
  let s : State := bsy
  decide (s.sys.mode ≠ .backup) &&
  true) = true := by decide +kernel

theorem met_mbSegmentTimeout : (
  let s : State := { bsy with mb := { bsy.mb with partialPkt := some [] } }
  decide (s.mb.partialPkt.isSome = true) &&
  true) = true := by decide +kernel

theorem met_mbStuckBus : (
  let s : State := bsy
  decide (s.sys.mode ≠ .backup) &&
  true) = true := by decide +kernel

theorem met_attnAttempt : (
  let s : State := { bsy with mb := { bsy.mb with attn := true }, proto := { bsy.proto with notify := ⟨2, 0, nullHandle, 0, 0⟩, events := [⟨1, 0x0101, []⟩], nextSeq := 2, newestSeq := 1 } }
  decide (s.sys.mode ≠ .backup) &&
  decide (attnArmed s = true) &&
  true) = true := by decide +kernel

theorem met_vmainGood : (
  let addr : Fin 8 := 0
  let boot : Fin 4 := 1
  let s : State := { State.reset with sys := { Sys.reset with mode := .backup } }
  decide (s.sys.mode = .backup) &&
  true) = true := by decide +kernel

theorem met_fwVerifyComplete_1 : (
  let s : State := { State.reset with sys := { Sys.reset with mode := .loading, source := some 0 }, fw := { Firmware.made with slot0 := ⟨imgDemo, 2⟩, keys := Firmware.made.keys.set 1 ⟨true, false, beBytes 32 g256.1 ++ beBytes 32 g256.2⟩ } }
  decide (s.sys.mode = .loading) &&
  decide (s.fw.chosen = none) &&
  decide (started s = false) &&
  decide ((verifyOrder (bootOrder s) s.fw).chosen.isSome = true) &&
  true) = true := by decide +kernel

theorem met_fwVerifyComplete_2 : (
  let s : State := { State.reset with sys := { Sys.reset with mode := .loading, source := some 0 } }
  decide (s.sys.mode = .loading) &&
  decide (s.fw.chosen = none) &&
  decide (started s = false) &&
  decide ((verifyOrder (bootOrder s) s.fw).chosen = none) &&
  true) = true := by decide +kernel

theorem met_firmwareStart : (
  let s : State := { State.reset with sys := { Sys.reset with mode := .loading }, fw := { Firmware.made with chosen := some 0 } }
  (s.fw.chosen).any fun k =>
  decide (s.sys.mode = .loading) &&
  decide (started s = false) &&
  true) = true := by decide +kernel

theorem met_resetNRelease : (
  let addr : Fin 8 := 0
  let boot : Fin 4 := 1
  let s : State := { State.reset with sys := { Sys.reset with mode := .backup, resetN := false } }
  decide (s.sys.resetN = false) &&
  true) = true := by decide +kernel

theorem met_watchdogExpiry : (
  let s : State := { bsy with sys := { bsy.sys with missedAck := 100 } }
  decide (started s = true) &&
  decide ((100 ≤ s.sys.missedAck ∨ s.sys.ord = 0)) &&
  true) = true := by decide +kernel

theorem met_railFault_1 : (
  let d : Fin 10 := 1
  let s : State := bsy
  decide (domOn s d = true) &&
  decide ((d = 1 ∨ d = 2 ∨ d = 9)) &&
  true) = true := by decide +kernel

theorem met_railFault_2 : (
  let d : Fin 10 := 5
  let s : State := bsy
  decide (domOn s d = true) &&
  decide (3 ≤ d.val) &&
  decide (d.val ≤ 8) &&
  true) = true := by decide +kernel

theorem met_pickBoundary_1 : (
  let i : PickInputs := quiet
  let s : State := { bsy with sys := { bsy.sys with ord := 0 } }
  decide (started s = true) &&
  decide (s.sys.ord = 0) &&
  true) = true := by decide +kernel

theorem met_pickBoundary_2 : (
  let i : PickInputs := quiet
  let s : State := bsy
  decide (started s = true) &&
  decide (s.sys.ord ≠ 0) &&
  true) = true := by decide +kernel

theorem met_ptpMessage_1 : (
  let port : Fin 2 := 0
  let domain : Nat := 0
  let b : Bool := true
  let s : State := bsy
  decide (domOn s 2 = true) &&
  decide (port.val = s.tb.cfg.ptpPort) &&
  decide (domain = s.tb.cfg.ptpDomain) &&
  true) = true := by decide +kernel

theorem met_ptpMessage_2 : (
  let port : Fin 2 := 0
  let domain : Nat := 0
  let s : State := { bsy with tb := { bsy.tb with ptpBest := [true, false] } }
  decide (domOn s 2 = true) &&
  decide (port.val = s.tb.cfg.ptpPort) &&
  decide (domain = s.tb.cfg.ptpDomain) &&
  decide (nth s.tb.ptpBest port false = true) &&
  true) = true := by decide +kernel

theorem met_sourceQualified_1 : (
  let i : TbInput := .refIn
  let s : State := bsy
  decide (domOn s 2 = true) &&
  decide ((∀ p, i ≠ .ptp p)) &&
  decide (nth s.tb.qual (inputIx i) false = false) &&
  true) = true := by decide +kernel

theorem met_sourceQualified_2 : (
  let p : Fin 2 := 0
  let s : State := { bsy with tb := { bsy.tb with ptpBest := [true, false], exchanges := [16, 0] } }
  decide (domOn s 2 = true) &&
  decide (p.val = s.tb.cfg.ptpPort) &&
  decide (nth s.tb.ptpBest p false = true) &&
  decide (16 ≤ nth s.tb.exchanges p 0) &&
  decide (nth s.tb.qual (inputIx (.ptp p)) false = false) &&
  true) = true := by decide +kernel

theorem met_sourceLost_1 : (
  let i : TbInput := .refIn
  let word : Int := 0
  let s : State := { bsy with tb := { bsy.tb with source := 1 } }
  decide (domOn s 2 = true) &&
  decide ((srcInputs s.tb.source).contains (inputIx i) = true) &&
  true) = true := by decide +kernel

theorem met_sourceLost_2 : (
  let i : TbInput := .refIn
  let word : Int := 0
  let s : State := bsy
  decide (domOn s 2 = true) &&
  decide ((srcInputs s.tb.source).contains (inputIx i) = false) &&
  true) = true := by decide +kernel

theorem met_sourceSelect : (
  let code : Nat := 1
  let s : State := { bsy with tb := { bsy.tb with qual := [true, true, true, true, true], cfg := { tbCfgReset with sources := 3 } } }
  decide (domOn s 2 = true) &&
  decide ((s.tb.state = .freerun ∨ s.tb.state = .holdover)) &&
  decide (srcBest s = some code) &&
  true) = true := by decide +kernel

theorem met_sourceDisplace : (
  let code : Nat := 1
  let s : State := { bsy with tb := { bsy.tb with qual := [true, true, true, true, true], cfg := { tbCfgReset with sources := 3, flags := 3, holdOff := 0 }, state := .locked, source := 3 } }
  decide (domOn s 2 = true) &&
  decide (s.tb.state = .locked) &&
  decide (bit s.tb.cfg.flags 1 = true) &&
  decide (srcPrio code < srcPrio s.tb.source) &&
  decide (srcReady s code = true) &&
  decide (srcSince s code + s.tb.cfg.holdOff * 1000 ≤ s.sys.ord) &&
  true) = true := by decide +kernel

theorem met_freqAcquired : (
  let e : Int := 0
  let s : State := { bsy with tb := { bsy.tb with state := .acqFreq, source := 1 } }
  decide (domOn s 2 = true) &&
  decide (s.tb.state = .acqFreq) &&
  true) = true := by decide +kernel

theorem met_timebaseLocked : (
  let s : State := { bsy with tb := { bsy.tb with state := .acqPhase, source := 1 } }
  decide (domOn s 2 = true) &&
  decide (s.tb.state = .acqPhase) &&
  decide (s.tb.slewRem = 0) &&
  decide (s.tb.plan = none) &&
  decide (s.tb.e.natAbs ≤ lockWindow s) &&
  true) = true := by decide +kernel

theorem met_phaseErrorExceeded : (
  let e : Int := 100000
  let s : State := { bsy with tb := { bsy.tb with state := .locked, source := 1 } }
  decide (domOn s 2 = true) &&
  decide (s.tb.state = .locked) &&
  decide (s.tb.cfg.threshold < (compensated s e - wholeSeconds (compensated s e) * 1000000000).natAbs) &&
  true) = true := by decide +kernel

theorem met_ptpSecondsPersist : (
  let es : Int := 1
  let s : State := { bsy with tb := { bsy.tb with state := .locked, source := 3 } }
  decide (domOn s 2 = true) &&
  decide (s.tb.state = .locked) &&
  decide (onPtp s = true) &&
  decide (s.tb.secs = none) &&
  true) = true := by decide +kernel

theorem met_phaseStepComplete : (
  let obj : Option (Fin 8) := none
  let s : State := { bsy with tb := { bsy.tb with moves := [⟨0, true, 5000, 0, 1⟩] } }
  decide (domOn s 2 = true) &&
  ((movesOf s (obj.elim 0 fun w => w.val + 1)).head?).any fun m =>
  decide (m.running = true) &&
  true) = true := by decide +kernel

theorem met_phaseInputEdge_1 : (
  let pick : Bool := true
  let width : Nat := 100
  let offset : Int := 0
  let s : State := bsy
  decide (domOn s 2 = true) &&
  decide ((s.tb.source ≠ (if pick then 2 else 1) ∨ edgeMs pick width s.tb.pickMs = none)) &&
  true) = true := by decide +kernel

theorem met_phaseInputEdge_2 : (
  let width : Nat := 500
  let offset : Int := 0
  let s : State := { bsy with tb := { bsy.tb with source := 1 } }
  decide (domOn s 2 = true) &&
  decide (s.tb.source = 1) &&
  (edgeMs false width s.tb.pickMs).any fun m =>
  true) = true := by decide +kernel

theorem met_phaseInputEdge_3 : (
  let width : Nat := 500
  let offset : Int := 0
  let s : State := { bsy with tb := { bsy.tb with source := 2 } }
  decide (domOn s 2 = true) &&
  decide (s.tb.source = 2) &&
  (edgeMs true width s.tb.pickMs).any fun m =>
  true) = true := by decide +kernel

theorem met_mdllUnlock_1 : (
  let s : State := bsy
  decide (domOn s 2 = true) &&
  decide (s.clk.mdll = true) &&
  decide (s.clk.state = .normal) &&
  true) = true := by decide +kernel

theorem met_mdllUnlock_2 : (
  let s : State := { bsy with clk := { bsy.clk with state := .returning } }
  decide (domOn s 2 = true) &&
  decide (s.clk.mdll = true) &&
  decide (s.clk.state = .returning) &&
  true) = true := by decide +kernel

theorem met_mdllLock_1 : (
  let s : State := { bsy with clk := { bsy.clk with state := .degraded } }
  decide (domOn s 2 = true) &&
  decide (s.clk.state = .degraded) &&
  true) = true := by decide +kernel

theorem met_mdllLock_2 : (
  let s : State := bsy
  decide (domOn s 2 = true) &&
  decide (s.clk.state = .normal) &&
  true) = true := by decide +kernel

theorem met_mdllRetryTimer : (
  let s : State := { bsy with clk := { bsy.clk with state := .degraded } }
  decide (domOn s 2 = true) &&
  decide (s.clk.state = .degraded) &&
  true) = true := by decide +kernel

theorem met_tcxoFail : (
  let s : State := bsy
  decide (domOn s 2 = true) &&
  decide (s.clk.state ≠ .fault) &&
  true) = true := by decide +kernel

theorem met_audioPllUnlock : (
  let s : State := bsy
  decide (domOn s 2 = true) &&
  decide (s.clk.audio = true) &&
  true) = true := by decide +kernel

theorem met_audioPllLock : (
  let s : State := bsy
  decide (domOn s 2 = true) &&
  true) = true := by decide +kernel

theorem met_synthUnlock_1 : (
  let k : Fin 7 := 0
  let sample : Nat := 100
  let s : State := { bsy with syn := bsy.syn.set 0 { Synth.off 1 with state := .locked } }
  decide ((synAt s k).state = .locked) &&
  decide (sample < 98304) &&
  decide (k.val < 6) &&
  true) = true := by decide +kernel

theorem met_synthUnlock_2 : (
  let sample : Nat := 100
  let s : State := { bsy with syn := bsy.syn.set 6 { Synth.off 1 with state := .locked } }
  decide ((synAt s 6).state = .locked) &&
  decide (sample < 98304) &&
  decide ((sample < windowStart ∨ s.probe.measActive = true)) &&
  true) = true := by decide +kernel

theorem met_synthUnlock_3 : (
  let sample : Nat := 50000
  let s : State := { bsy with syn := bsy.syn.set 6 { Synth.off 1 with state := .locked } }
  decide ((synAt s 6).state = .locked) &&
  decide (sample < 98304) &&
  decide (windowStart ≤ sample) &&
  decide (s.probe.measActive = false) &&
  true) = true := by decide +kernel

theorem met_synthLock_1 : (
  let k : Fin 7 := 0
  let r : LockFacts := ⟨1, 1, 1, 1, 1, 10, 0⟩
  let s : State := { bsy with syn := bsy.syn.set 0 { Synth.off 1 with state := .searching }, follows := [(0, { followDemo with cfg := { polDemo with hop := wH } })] }
  decide ((synAt s k).state = .searching) &&
  decide (k.val < 6) &&
  decide ((synAt s k).lossMark = false) &&
  decide (isHop s k = true) &&
  true) = true := by decide +kernel

theorem met_synthLock_2 : (
  let k : Fin 7 := 0
  let r : LockFacts := ⟨1, 1, 1, 1, 1, 10, 0⟩
  let s : State := { bsy with syn := bsy.syn.set 0 { Synth.off 1 with state := .searching } }
  decide ((synAt s k).state = .searching) &&
  decide (k.val < 6) &&
  decide ((synAt s k).lossMark = false) &&
  decide (isHop s k = false) &&
  true) = true := by decide +kernel

theorem met_synthLock_3 : (
  let k : Fin 7 := 0
  let r : LockFacts := ⟨1, 1, 1, 1, 1, 10, 0⟩
  let s : State := { bsy with syn := bsy.syn.set 0 { Synth.off 1 with state := .searching, lossMark := true } }
  decide ((synAt s k).state = .searching) &&
  decide (k.val < 6) &&
  decide ((synAt s k).lossMark = true) &&
  true) = true := by decide +kernel

theorem met_synthLock_4 : (
  let r : LockFacts := ⟨1, 1, 1, 1, 1, 10, 0⟩
  let s : State := { bsy with syn := bsy.syn.set 6 { Synth.off 1 with state := .searching } }
  decide ((synAt s 6).state = .searching) &&
  decide ((synAt s 6).lossMark = false) &&
  true) = true := by decide +kernel

theorem met_synthLock_5 : (
  let r : LockFacts := ⟨1, 1, 1, 1, 1, 10, 0⟩
  let s : State := { bsy with syn := bsy.syn.set 6 { Synth.off 1 with state := .searching, lossMark := true } }
  decide ((synAt s 6).state = .searching) &&
  decide ((synAt s 6).lossMark = true) &&
  true) = true := by decide +kernel

theorem met_synthLock_6 : (
  let k : Fin 7 := 0
  let r : LockFacts := ⟨1, 1, 1, 1, 1, 10, 0⟩
  let s : State := { bsy with syn := bsy.syn.set 0 { Synth.off 1 with state := .settling } }
  decide ((synAt s k).state = .settling) &&
  decide (k.val < 6) &&
  decide ((synAt s k).lossMark = false) &&
  true) = true := by decide +kernel

theorem met_synthLock_7 : (
  let k : Fin 7 := 0
  let r : LockFacts := ⟨1, 1, 1, 1, 1, 10, 0⟩
  let s : State := { bsy with syn := bsy.syn.set 0 { Synth.off 1 with state := .settling, lossMark := true } }
  decide ((synAt s k).state = .settling) &&
  decide (k.val < 6) &&
  decide ((synAt s k).lossMark = true) &&
  true) = true := by decide +kernel

theorem met_synthLock_8 : (
  let r : LockFacts := ⟨1, 1, 1, 1, 1, 10, 0⟩
  let s : State := { bsy with syn := bsy.syn.set 6 { Synth.off 1 with state := .settling } }
  decide ((synAt s 6).state = .settling) &&
  decide ((synAt s 6).lossMark = false) &&
  true) = true := by decide +kernel

theorem met_synthLock_9 : (
  let r : LockFacts := ⟨1, 1, 1, 1, 1, 10, 0⟩
  let s : State := { bsy with syn := bsy.syn.set 6 { Synth.off 1 with state := .settling, lossMark := true } }
  decide ((synAt s 6).state = .settling) &&
  decide ((synAt s 6).lossMark = true) &&
  true) = true := by decide +kernel

theorem met_bandSearchFailed : (
  let k : Fin 7 := 0
  let s : State := { bsy with syn := bsy.syn.set 0 { Synth.off 1 with state := .searching } }
  decide ((synAt s k).state = .searching) &&
  true) = true := by decide +kernel

theorem met_searchRepeatTimer : (
  let k : Fin 7 := 0
  let s : State := { bsy with syn := bsy.syn.set 0 { Synth.off 1 with state := .unlocked } }
  decide ((synAt s k).state = .unlocked) &&
  true) = true := by decide +kernel

theorem met_profileLockTimeout_1 : (
  let k : Fin 7 := 0
  let s : State := { bsy with syn := bsy.syn.set 0 { Synth.off 1 with state := .settling } }
  decide ((synAt s k).state = .settling) &&
  decide (k.val < 6) &&
  true) = true := by decide +kernel

theorem met_profileLockTimeout_2 : (
  let s : State := { bsy with syn := bsy.syn.set 6 { Synth.off 1 with state := .settling } }
  decide ((synAt s 6).state = .settling) &&
  true) = true := by decide +kernel

theorem met_feedRampComplete : (
  let p : Fin 4 := 0
  let m : FeedMeas := ⟨0, 0⟩
  let s : State := { bsy with ports := bsy.ports.set 0 { Port.reset with feed := { Port.reset.feed with state := .starting, flags := 0, queued := true } } }
  decide (domOn s 6 = true) &&
  decide ((portAt s p).feed.state = .starting) &&
  true) = true := by decide +kernel

theorem met_feedOvercurrent : (
  let p : Fin 4 := 0
  let m : FeedMeas := ⟨0, 0⟩
  let s : State := { bsy with ports := bsy.ports.set 0 { Port.reset with feed := { Port.reset.feed with state := .on, flags := 0, queued := true } } }
  decide (domOn s 6 = true) &&
  decide (((portAt s p).feed.state = .starting ∨ (portAt s p).feed.state = .on)) &&
  true) = true := by decide +kernel

theorem met_feedFoldRecovered : (
  let p : Fin 4 := 0
  let m : FeedMeas := ⟨0, 20000⟩
  let s : State := { bsy with ports := bsy.ports.set 0 { Port.reset with feed := { Port.reset.feed with state := .foldback, flags := 0, queued := true } } }
  decide (domOn s 6 = true) &&
  decide ((portAt s p).feed.state = .foldback) &&
  decide (9 * setMv (portAt s p).feed.flags ≤ 10 * m.mv) &&
  true) = true := by decide +kernel

theorem met_feedFoldWindowEnd : (
  let p : Fin 4 := 0
  let m : FeedMeas := ⟨0, 0⟩
  let s : State := { bsy with ports := bsy.ports.set 0 { Port.reset with feed := { Port.reset.feed with state := .foldback, flags := 0, queued := true } } }
  decide (domOn s 6 = true) &&
  decide ((portAt s p).feed.state = .foldback) &&
  true) = true := by decide +kernel

theorem met_feedRetryTimer : (
  let p : Fin 4 := 0
  let m : FeedMeas := ⟨0, 0⟩
  let s : State := { bsy with ports := bsy.ports.set 0 { Port.reset with feed := { Port.reset.feed with state := .retryWait, flags := 0, queued := true } } }
  decide (domOn s 6 = true) &&
  decide ((portAt s p).feed.state = .retryWait) &&
  decide ((portAt s p).feed.since + 1000 ≤ s.sys.ord) &&
  true) = true := by decide +kernel

theorem met_feedOvervoltage : (
  let p : Fin 4 := 0
  let m : FeedMeas := ⟨0, 20000⟩
  let s : State := { bsy with ports := bsy.ports.set 0 { Port.reset with feed := { Port.reset.feed with state := .on, flags := 0, queued := true } } }
  decide (domOn s 6 = true) &&
  decide (((portAt s p).feed.state = .starting ∨ (portAt s p).feed.state = .on ∨ (portAt s p).feed.state = .foldback)) &&
  decide ((if bit (portAt s p).feed.flags 1 then 13500 else 5600) < m.mv) &&
  true) = true := by decide +kernel

theorem met_vfeedFault : (
  let s : State := bsy
  decide (domOn s 6 = true) &&
  true) = true := by decide +kernel

theorem met_vfeedReturn : (
  let s : State := bsy
  decide (domOn s 6 = true) &&
  true) = true := by decide +kernel

theorem met_feedStartStagger : (
  let p : Fin 4 := 0
  let m : FeedMeas := ⟨0, 0⟩
  let s : State := { bsy with ports := bsy.ports.set 0 { Port.reset with feed := { Port.reset.feed with state := .hold, flags := 0, queued := true } } }
  decide (domOn s 6 = true) &&
  decide ((portAt s p).feed.waits = true) &&
  true) = true := by decide +kernel

theorem met_feedEpisodeClear : (
  let p : Fin 4 := 0
  let s : State := { bsy with ports := bsy.ports.set 0 { Port.reset with feed := { Port.reset.feed with state := .on, flags := 0, queued := true } }, sys := { bsy.sys with ord := 900000 } }
  decide ((portAt s p).feed.state = .on) &&
  decide ((portAt s p).feed.since + 60000 ≤ s.sys.ord) &&
  true) = true := by decide +kernel

theorem met_feedFaultClear : (
  let p : Fin 4 := 0
  let m : FeedMeas := ⟨0, 0⟩
  let s : State := { bsy with ports := bsy.ports.set 0 { Port.reset with feed := { Port.reset.feed with state := .on, flags := 0, queued := true } } }
  decide (domOn s 6 = true) &&
  decide ((portAt s p).feed.state = .on) &&
  decide ((portAt s p).feed.since + 1000 ≤ s.sys.ord) &&
  true) = true := by decide +kernel

theorem met_feedOpenDetect : (
  let p : Fin 4 := 0
  let m : FeedMeas := ⟨0, 0⟩
  let s : State := { bsy with ports := bsy.ports.set 0 { Port.reset with feed := { Port.reset.feed with state := .on, flags := 8, queued := true } } }
  decide (domOn s 6 = true) &&
  decide ((portAt s p).feed.state = .on) &&
  decide (bit (portAt s p).feed.flags 3 = true) &&
  decide (m.ma < 50) &&
  true) = true := by decide +kernel

theorem met_feedOpenClear : (
  let p : Fin 4 := 0
  let m : FeedMeas := ⟨100, 0⟩
  let s : State := bsy
  decide (domOn s 6 = true) &&
  decide (70 ≤ m.ma) &&
  true) = true := by decide +kernel

theorem met_portBackfeedDetect : (
  let p : Fin 4 := 0
  let m : FeedMeas := ⟨0, 2000⟩
  let s : State := bsy
  decide (domOn s 6 = true) &&
  decide ((portAt s p).feed.idle = true) &&
  decide (1000 < m.mv) &&
  true) = true := by decide +kernel

theorem met_portBackfeedClear : (
  let p : Fin 4 := 0
  let m : FeedMeas := ⟨0, 0⟩
  let s : State := bsy
  decide (domOn s 6 = true) &&
  decide ((portAt s p).feed.idle = true) &&
  decide (m.mv < 500) &&
  true) = true := by decide +kernel

theorem met_coexGntFall_1 : (
  let s : State := { bsy with probe := { bsy.probe with state := .radiating } }
  decide (s.probe.state = .radiating) &&
  true) = true := by decide +kernel

theorem met_coexGntFall_2 : (
  let s : State := bsy
  decide (s.probe.state ≠ .radiating) &&
  true) = true := by decide +kernel

theorem met_probeGrantTimeout : (
  let s : State := { bsy with probe := { bsy.probe with state := .held, lowCount := 100 } }
  decide (s.probe.state = .held) &&
  decide (100 ≤ s.probe.lowCount) &&
  true) = true := by decide +kernel

theorem met_probeStartTimeout : (
  let s : State := { bsy with probe := { bsy.probe with state := .waiting, due := 100 } }
  decide (s.probe.state = .waiting) &&
  decide (s.probe.due + 5 ≤ s.sys.ord) &&
  true) = true := by decide +kernel

theorem met_probeDurationEnd : (
  let s : State := { bsy with probe := { bsy.probe with state := .radiating, startOrd := 10, req := ⟨pH, -100, 1, 0, 0, 100, 0, [100000000]⟩ } }
  decide ((s.probe.state = .radiating ∨ s.probe.state = .held)) &&
  decide (probeEnds s = true) &&
  true) = true := by decide +kernel

theorem met_probeLevelCalDone : (
  let s : State := { bsy with probe := { bsy.probe with calibrating := true } }
  decide (s.probe.calibrating = true) &&
  true) = true := by decide +kernel

theorem met_probeLevelLoop : (
  let level : Int := 0
  let s : State := { bsy with probe := { bsy.probe with state := .radiating, gnt := true }, syn := bsy.syn.set 6 { Synth.off 1 with state := .locked } }
  decide (probeGate s = true) &&
  true) = true := by decide +kernel

theorem met_probeLimiter : (
  let s : State := { bsy with probe := { bsy.probe with state := .radiating, gnt := true }, syn := bsy.syn.set 6 { Synth.off 1 with state := .locked } }
  decide (probeGate s = true) &&
  true) = true := by decide +kernel

theorem met_mismatchComplete_1 : (
  let points : List LossPoint := []
  let low : List Nat := []
  let s : State := { bsy with probe := { bsy.probe with measOwed := some 0 } }
  (s.probe.measOwed).any fun k =>
  true) = true := by decide +kernel

theorem met_mismatchComplete_2 : (
  let points : List LossPoint := []
  let low : List Nat := []
  let s : State := { bsy with probe := { bsy.probe with measPort := some 0, measActive := true, measDue := 100, measFreqs := [100000000] } }
  decide (s.probe.measOwed = none) &&
  (s.probe.measPort).any fun k =>
  decide (s.probe.measActive = true) &&
  decide (s.probe.measDue + s.probe.measFreqs.length ≤ s.sys.ord) &&
  true) = true := by decide +kernel

theorem met_tempFaultEnd : (
  let w : Fin 8 := 0
  let s : State := { bsy with warps := bsy.warps.set 0 { Warp.reset 60 with sensor := ⟨[], none, 0, none, true, 1000⟩ } }
  decide (domOn s (hostDomain 2 w) = true) &&
  decide ((warpAt s w).sensor.fault = true) &&
  decide (1000 ≤ (warpAt s w).sensor.run) &&
  true) = true := by decide +kernel

theorem met_overloadClear : (
  let w : Fin 8 := 0
  let s : State := { bsy with warps := bsy.warps.set 0 { Warp.reset 60 with ovlOpen := true, clean := 100 } }
  decide (domOn s (hostDomain 2 w) = true) &&
  decide ((warpAt s w).ovlOpen = true) &&
  decide (100 ≤ (warpAt s w).clean) &&
  true) = true := by decide +kernel

theorem met_calInitialTimeout : (
  let w : Fin 8 := 0
  let s : State := bsy
  decide (domOn s (hostDomain 2 w) = true) &&
  decide ((warpAt s w).cal.state = .initial) &&
  decide ((warpAt s w).cal.wantInitial = false) &&
  decide ((warpAt s w).cal.since + 400 ≤ s.sys.ord) &&
  true) = true := by decide +kernel

theorem met_calNoGapTimeout : (
  let w : Fin 8 := 0
  let s : State := { bsy with warps := bsy.warps.set 0 { Warp.reset 60 with cal := { WarpCal.reset with state := .due } }, syn := bsy.syn.set 0 { Synth.off 1 with state := .locked }, sys := { bsy.sys with ord := 900000 } }
  decide (domOn s (hostDomain 2 w) = true) &&
  decide ((warpAt s w).cal.state = .due) &&
  decide ((6 ≤ w.val ∨ locked s w = true)) &&
  decide (held s w = false) &&
  decide (max (warpAt s w).cal.tried (warpAt s w).cal.since + 60000 ≤ s.sys.ord) &&
  true) = true := by decide +kernel

theorem met_calStaleTempTimeout : (
  let w : Fin 8 := 0
  let s : State := { bsy with warps := bsy.warps.set 0 { Warp.reset 60 with cal := { WarpCal.reset with state := .stale }, sensor := ⟨[], none, 0, none, true, 0⟩ }, sys := { bsy.sys with ord := 900000 } }
  decide (domOn s (hostDomain 2 w) = true) &&
  decide ((warpAt s w).cal.state = .stale) &&
  decide ((warpAt s w).sensor.fault = true) &&
  decide ((warpAt s w).cal.since + 600000 ≤ s.sys.ord) &&
  true) = true := by decide +kernel

theorem met_calTempFaultTimer : (
  let w : Fin 8 := 0
  let s : State := { bsy with warps := bsy.warps.set 0 { Warp.reset 60 with cal := { WarpCal.reset with state := .current }, sensor := ⟨[], none, 0, none, true, 0⟩ } }
  decide (domOn s (hostDomain 2 w) = true) &&
  decide ((warpAt s w).sensor.fault = true) &&
  decide ((warpAt s w).cal.state = .current) &&
  decide ((warpAt s w).cal.wantInitial = false) &&
  true) = true := by decide +kernel

theorem met_calSnapshotTimer_1 : (
  let s : State := { bsy with calib := { bsy.calib with dirty := true, cfg := ⟨30, 15, 0, 5⟩ } }
  decide (running s = true) &&
  decide (s.calib.dirty = true) &&
  decide (s.calib.lastSnap + s.calib.cfg.interval * 1000 ≤ s.sys.ord) &&
  decide (inConflict s 1 = false) &&
  true) = true := by decide +kernel

theorem met_calSnapshotTimer_2 : (
  let s : State := { bsy with calib := { bsy.calib with dirty := true, cfg := ⟨30, 15, 0, 5⟩ }, recs := { bsy.recs with recs := bsy.recs.recs.set 1 { Record.made 1 (zeros 4) with st := .conflict } } }
  decide (running s = true) &&
  decide (s.calib.dirty = true) &&
  decide (s.calib.lastSnap + s.calib.cfg.interval * 1000 ≤ s.sys.ord) &&
  decide (inConflict s 1 = true) &&
  true) = true := by decide +kernel

theorem met_stageReady : (
  let weave : Fin 512 := 0
  let cap : Nat := 4999
  let stage : Nat := 1
  let tasks : List TaskReq := [⟨100, 10⟩]
  let jobs : List JobReq := []
  let s : State := { bsy with weaves := tset bsy.weaves 0 { weaveDemo 2 d1H with sinceOrd := 4000 } }
  (weaveAt s weave).any fun w =>
  decide (stCode s (handleOf s 4 weave) = 2) &&
  decide (stageTimely s w weave cap stage = true) &&
  decide (workOk w stage tasks jobs = true) &&
  let (now, late) := jobsNow s w weave cap jobs
  true) = true := by decide +kernel

theorem met_taskComplete : (
  let shuttle : Fin 64 := 0
  let cycles : Nat := 10
  let s : State := { bsy with cluster := { bsy.cluster with shuttles := [(0, ⟨0, 4999, 1, 10, 0⟩)], stages := [⟨0, 4999, 1, 1, 0, false, []⟩] } }
  (tget s.cluster.shuttles shuttle).any fun t =>
  true) = true := by decide +kernel

theorem met_engineJobComplete : (
  let cls : Fin 4 := 0
  let engine : Fin 4 := 0
  let s : State := { bsy with cluster := { bsy.cluster with engines := [(0, ⟨0, 4999, 1, 0, 1, 0, false⟩)] } }
  (tget s.cluster.engines (cls.val * 4 + engine.val)).any fun j =>
  true) = true := by decide +kernel

theorem met_stageComplete_1 : (
  let weave : Fin 512 := 0
  let cap : Nat := 4999
  let stage : Nat := 1
  let r : StageResult := ⟨[]⟩
  let s : State := { bsy with cluster := { bsy.cluster with stages := [⟨0, 4999, 1, 0, 0, false, []⟩] } }
  (stageOf s weave cap stage).any fun x =>
  decide (x.complete = true) &&
  decide (gridOf s s.sys.ord < deadline s cap stage) &&
  decide ((stageOver weave cap stage s).cluster.dead.contains (weave.val, cap) = false) &&
  true) = true := by decide +kernel

theorem met_stageComplete_2 : (
  let weave : Fin 512 := 0
  let cap : Nat := 4999
  let stage : Nat := 1
  let r : StageResult := ⟨[]⟩
  let s : State := { bsy with cluster := { bsy.cluster with stages := [⟨0, 4999, 1, 0, 0, false, []⟩], dead := [(0, 4999)] } }
  (stageOf s weave cap stage).any fun x =>
  decide (x.complete = true) &&
  decide (gridOf s s.sys.ord < deadline s cap stage) &&
  decide ((stageOver weave cap stage s).cluster.dead.contains (weave.val, cap) = true) &&
  true) = true := by decide +kernel

theorem met_stageDeadline : (
  let weave : Fin 512 := 0
  let cap : Nat := 4999
  let cut : StageCut := ⟨1, []⟩
  let s : State := { bsy with cluster := { bsy.cluster with stages := [⟨0, 4999, 1, 1, 0, false, []⟩] } }
  (stageOf s weave cap cut.stage).any fun x =>
  decide (x.complete = false) &&
  decide (deadline s cap cut.stage ≤ gridOf s (s.sys.ord + 1)) &&
  true) = true := by decide +kernel

theorem met_runAheadRetry : (
  let set : Fin 64 := 0
  let entry : Fin 4 := 1
  let s : State := { bsy with follows := [(0, { followDemo with srcs := [newSrc rdy (srcDemo cH) .current, newSrc rdy (srcDemo c1H) .waiting] })] }
  decide (((followAt s set).any fun f => (f.srcs[entry.val]?).any fun x => x.st == .waiting && !x.onHop && decide (x.tried + 1000 ≤ s.sys.ord)) = true) &&
  true) = true := by decide +kernel

theorem met_surveyFieldMeasured_1 : (
  let dent : Fin 512 := 0
  let power : Nat := 524288000 ^ 2
  let s : State := { bsy with survey := { bsy.survey with running := true, entries := [⟨wH, 2, 300, 87500000, 108000000, 100000, 1000⟩], chans := [⟨100000000, 1, 0, 0, 0⟩] } }
  (surveyEntry s).any fun e =>
  ((s.survey.chans.find? fun c => c.dent == dent.val && c.st == 1)).any fun c =>
  decide (s.survey.running = true) &&
  decide (fieldDone s c = true) &&
  decide ((((dentAt s c.dent).bind fun x => fieldLevel x.warp power).any fun v => (e.thr : Int) ≤ v) = true) &&
  true) = true := by decide +kernel

theorem met_surveyFieldMeasured_2 : (
  let dent : Fin 512 := 0
  let power : Nat := 0
  let s : State := { bsy with survey := { bsy.survey with running := true, entries := [⟨wH, 2, 300, 87500000, 108000000, 100000, 1000⟩], chans := [⟨100000000, 1, 0, 0, 0⟩] } }
  (surveyEntry s).any fun e =>
  ((s.survey.chans.find? fun c => c.dent == dent.val && c.st == 1)).any fun c =>
  decide (s.survey.running = true) &&
  decide (fieldDone s c = true) &&
  decide ((((dentAt s c.dent).bind fun x => fieldLevel x.warp power).any fun v => (e.thr : Int) ≤ v) = false) &&
  true) = true := by decide +kernel

theorem met_surveyDwellEnd : (
  let weave : Fin 512 := 0
  let s : State := { bsy with survey := { bsy.survey with running := true, entries := [⟨wH, 2, 300, 87500000, 108000000, 100000, 1000⟩], chans := [⟨100000000, 3, 0, 0, 0⟩] } }
  ((s.survey.chans.find? fun c => c.weave == weave.val && c.st == 3)).any fun c =>
  decide (s.survey.running = true) &&
  (surveyEntry s).any fun e =>
  decide (c.since + e.dwell ≤ s.sys.ord + 1) &&
  true) = true := by decide +kernel

theorem met_surveyStarved : (
  let s : State := { bsy with survey := { bsy.survey with running := true, entries := [⟨wH, 2, 300, 87500000, 108000000, 100000, 1000⟩], chans := [] }, sys := { bsy.sys with ord := 900000 } }
  (surveyEntry s).any fun e =>
  decide (s.survey.running = true) &&
  decide (s.survey.posDue = none) &&
  decide ((chanFreq e s.survey.pos s.survey.next).isSome = true) &&
  decide (s.survey.made + 10000 ≤ s.sys.ord + 1) &&
  true) = true := by decide +kernel

theorem met_ethLinkChange_1 : (
  let port : Fin 2 := 0
  let s : State := bsy
  decide (domOn s 9 = true) &&
  decide (bit (ethPort s port.val).cfg.flags 0 = true) &&
  true) = true := by decide +kernel

theorem met_ethLinkChange_2 : (
  let port : Fin 2 := 0
  let s : State := bsy
  decide (domOn s 9 = true) &&
  decide (bit (ethPort s port.val).cfg.flags 0 = true) &&
  true) = true := by decide +kernel

theorem met_ethFrameReceive_1 : (
  let port : Fin 2 := 0
  let a : IpAddr := ⟨false, 1⟩
  let s : State := bsy
  decide (ethUp s port.val = true) &&
  true) = true := by decide +kernel

theorem met_ethFrameReceive_2 : (
  let port : Fin 2 := 0
  let s : State := bsy
  decide (ethUp s port.val = true) &&
  true) = true := by decide +kernel

theorem met_ethFrameReceive_3 : (
  let port : Fin 2 := 0
  let f : EthFrame := .ptp
  let s : State := bsy
  decide ((f = .ptp ∨ f = .echo)) &&
  true) = true := by decide +kernel

theorem met_pbBusFree_1 : (
  let s : State := { bsy with pb := { bsy.pb with state := .waitFree, queue := [⟨hd, ⟨perH, 1, 0, 0, [0#8]⟩, 0, false⟩] } }
  decide (pbServed s = true) &&
  decide (s.pb.state = .waitFree) &&
  (s.pb.queue).head?.any fun x => let l := (s.pb.queue).drop 1
  decide ((shadowed s = false ∨ readForm x.req = true)) &&
  true) = true := by decide +kernel

theorem met_pbBusFree_2 : (
  let s : State := { bsy with pb := { bsy.pb with state := .waitFree, queue := [⟨hd, ⟨perH, 1, 0, 0, [0#8]⟩, 0, false⟩] }, pair := { bsy.pair with cfg := { bsy.pair.cfg with flags := 1 }, owner := false, st := .joining } }
  decide (pbServed s = true) &&
  decide (s.pb.state = .waitFree) &&
  (s.pb.queue).head?.any fun x => let l := (s.pb.queue).drop 1
  decide (shadowed s = true) &&
  decide (readForm x.req = false) &&
  true) = true := by decide +kernel

theorem met_pbTransferDone : (
  let r : PbDone := ⟨0, [], 0#8, 100⟩
  let s : State := { bsy with pb := { bsy.pb with state := .busy, queue := [⟨hd, ⟨perH, 1, 0, 0, [0#8]⟩, 0, false⟩] } }
  decide (s.pb.state = .busy) &&
  (s.pb.queue).head?.any fun x => let l := (s.pb.queue).drop 1
  true) = true := by decide +kernel

theorem met_pbArbLost_1 : (
  let s : State := { bsy with pb := { bsy.pb with state := .busy, queue := [⟨hd, ⟨perH, 1, 0, 0, [0#8]⟩, 0, false⟩] } }
  decide (s.pb.state = .busy) &&
  (s.pb.queue).head?.any fun x => let l := (s.pb.queue).drop 1
  decide (x.late = false) &&
  true) = true := by decide +kernel

theorem met_pbArbLost_2 : (
  let s : State := { bsy with pb := { bsy.pb with state := .busy, queue := [⟨hd, ⟨perH, 1, 0, 0, [0#8]⟩, 0, true⟩] } }
  decide (s.pb.state = .busy) &&
  (s.pb.queue).head?.any fun x => let l := (s.pb.queue).drop 1
  decide (x.late = true) &&
  true) = true := by decide +kernel

theorem met_pbArbLostCond : (
  let s : State := { bsy with pb := { bsy.pb with state := .busy, queue := [⟨hd, ⟨perH, 1, 0, 0, [0#8]⟩, 0, false⟩] } }
  decide (s.pb.state = .busy) &&
  true) = true := by decide +kernel

theorem met_pbStretchTimeout : (
  let s : State := { bsy with pb := { bsy.pb with state := .busy, queue := [⟨hd, ⟨perH, 1, 0, 0, [0#8]⟩, 0, false⟩] } }
  decide (s.pb.state = .busy) &&
  true) = true := by decide +kernel

theorem met_pbBusReleased_1 : (
  let s : State := { bsy with pb := { bsy.pb with state := .reset, queue := [] } }
  decide ((s.pb.state = .reset ∨ s.pb.state = .sclStuck)) &&
  true) = true := by decide +kernel

theorem met_pbBusReleased_2 : (
  let s : State := { bsy with pb := { bsy.pb with state := .reset, queue := [] } }
  decide (s.pb.state = .reset) &&
  true) = true := by decide +kernel

theorem met_pbBusReleased_3 : (
  let s : State := { bsy with pb := { bsy.pb with state := .sclStuck, queue := [] } }
  decide (s.pb.state = .sclStuck) &&
  true) = true := by decide +kernel

theorem met_pbSclStuck_1 : (
  let s : State := { bsy with pb := { bsy.pb with state := .busy, queue := [⟨hd, ⟨perH, 1, 0, 0, [0#8]⟩, 0, false⟩] } }
  decide (pbServed s = true) &&
  decide (s.pb.state = .busy) &&
  (s.pb.queue).head?.any fun x => let l := (s.pb.queue).drop 1
  true) = true := by decide +kernel

theorem met_pbSclStuck_2 : (
  let s : State := bsy
  decide (pbServed s = true) &&
  decide (s.pb.state ≠ .sclStuck) &&
  decide (s.pb.state ≠ .busy) &&
  true) = true := by decide +kernel

theorem met_pbSdaStuck : (
  let s : State := bsy
  decide ((s.pb.state = .idle ∨ s.pb.state = .waitFree)) &&
  true) = true := by decide +kernel

theorem met_pbRecoveryDone_1 : (
  let s : State := { bsy with pb := { bsy.pb with state := .recovering, queue := [] } }
  decide (s.pb.state = .recovering) &&
  decide (shadowed s = false) &&
  true) = true := by decide +kernel

theorem met_pbRecoveryDone_2 : (
  let s : State := { bsy with pb := { bsy.pb with state := .recovering, queue := [] } }
  decide (s.pb.state = .recovering) &&
  decide (shadowed s = false) &&
  true) = true := by decide +kernel

theorem met_pbSdaRetry : (
  let s : State := { bsy with pb := { bsy.pb with state := .sdaStuck, queue := [] } }
  decide (s.pb.state = .sdaStuck) &&
  true) = true := by decide +kernel

theorem met_pbTransferTimeout_1 : (
  let s : State := { bsy with pb := { bsy.pb with state := .busy, queue := [⟨hd, ⟨perH, 1, 0, 0, [0#8]⟩, 0, false⟩] } }
  (s.pb.queue.find? (fun x => !x.late)).any fun x =>
  decide (s.pb.state = .busy) &&
  decide (s.pb.queue.head? = some x) &&
  true) = true := by decide +kernel

theorem met_pbTransferTimeout_2 : (
  let s : State := { bsy with pb := { bsy.pb with state := .waitFree, queue := [⟨hd, ⟨perH, 1, 0, 0, [0#8]⟩, 0, false⟩] } }
  (s.pb.queue.find? (fun x => !x.late)).any fun x =>
  decide ((s.pb.state ≠ .busy ∨ s.pb.queue.head? ≠ some x)) &&
  true) = true := by decide +kernel

theorem met_pbBothLinesHigh : (
  let s : State := { bsy with pb := { bsy.pb with state := .recovering, queue := [] }, pair := { bsy.pair with cfg := { bsy.pair.cfg with flags := 1 }, owner := false, st := .joining } }
  decide (shadowed s = true) &&
  decide ((s.pb.state = .recovering ∨ s.pb.state = .sdaStuck)) &&
  true) = true := by decide +kernel

theorem met_rtcTick_1 : (
  let s : State := bsy
  decide (s.rtc.running = true) &&
  decide (s.rtc.powered = true) &&
  decide ((s.rtc.cycle + 1) % 2 ^ 20 % 8192 ≠ 0) &&
  true) = true := by decide +kernel

theorem met_rtcTick_2 : (
  let s : State := { bsy with rtc := { bsy.rtc with cycle := 8191 } }
  decide (s.rtc.running = true) &&
  decide (s.rtc.powered = true) &&
  decide ((s.rtc.cycle + 1) % 2 ^ 20 % 8192 = 0) &&
  decide (corrects s.rtc.trimRun (s.rtc.cycle / 8192) = false) &&
  true) = true := by decide +kernel

theorem met_rtcTick_3 : (
  let s : State := { bsy with rtc := { bsy.rtc with cycle := 1048575, trimRun := -127 } }
  decide (s.rtc.running = true) &&
  decide (s.rtc.powered = true) &&
  decide ((s.rtc.cycle + 1) % 2 ^ 20 % 8192 = 0) &&
  decide (corrects s.rtc.trimRun (s.rtc.cycle / 8192) = true) &&
  decide (s.rtc.trimRun < 0) &&
  true) = true := by decide +kernel

theorem met_rtcTick_4 : (
  let s : State := { bsy with rtc := { bsy.rtc with cycle := 1048575, trimRun := 127 } }
  decide (s.rtc.running = true) &&
  decide (s.rtc.powered = true) &&
  decide ((s.rtc.cycle + 1) % 2 ^ 20 % 8192 = 0) &&
  decide (corrects s.rtc.trimRun (s.rtc.cycle / 8192) = true) &&
  decide (0 ≤ s.rtc.trimRun) &&
  true) = true := by decide +kernel

theorem met_rtcOscStop : (
  let s : State := bsy
  decide (s.rtc.running = true) &&
  true) = true := by decide +kernel

theorem met_rtcToBackup : (
  let s : State := bsy
  decide (s.rtc.onBackup = false) &&
  decide (s.rtc.powered = true) &&
  true) = true := by decide +kernel

theorem met_rtcToMain : (
  let s : State := { bsy with rtc := { bsy.rtc with onBackup := true } }
  decide (s.rtc.onBackup = true) &&
  true) = true := by decide +kernel

theorem met_backupCollapse : (
  let s : State := { bsy with rtc := { bsy.rtc with onBackup := true } }
  decide (s.rtc.onBackup = true) &&
  true) = true := by decide +kernel

theorem met_vbackupMeasure : (
  let mv : Nat := 3000
  let s : State := bsy
  decide (running s = true) &&
  true) = true := by decide +kernel

theorem met_d0PowerUp : (
  let s : State := { bsy with rtc := { bsy.rtc with powered := false } }
  decide (s.rtc.powered = false) &&
  true) = true := by decide +kernel

theorem met_recordWriteComplete_1 : (
  let s : State := { bsy with recs := { bsy.recs with jobs := [⟨0, zeros 4, 2, none, some 1, 2, 0, false⟩] } }
  (s.recs.jobs).head?.any fun j => let l := (s.recs.jobs).drop 1
  (j.target).any fun k =>
  decide (j.cmd = none) &&
  true) = true := by decide +kernel

theorem met_recordWriteComplete_2 : (
  let s : State := { bsy with recs := { bsy.recs with jobs := [⟨0, zeros 4, 2, some (.calSnapshot hd), some 1, 2, 0, false⟩] } }
  (s.recs.jobs).head?.any fun j => let l := (s.recs.jobs).drop 1
  (j.target).any fun k =>
  (j.cmd).any fun c =>
  true) = true := by decide +kernel

theorem met_recordWriteComplete_3 : (
  let s : State := { bsy with recs := { bsy.recs with jobs := [⟨0, zeros 4, 2, none, some 1, 2, 0, false⟩] } }
  (s.recs.jobs).head?.any fun j => let l := (s.recs.jobs).drop 1
  (j.target).any fun k =>
  decide (j.second = false) &&
  true) = true := by decide +kernel

theorem met_recordWriteComplete_4 : (
  let s : State := { bsy with recs := { bsy.recs with jobs := [⟨0, zeros 4, 2, none, some 1, 2, 0, true⟩] } }
  (s.recs.jobs).head?.any fun j => let l := (s.recs.jobs).drop 1
  (j.target).any fun k =>
  decide (j.second = true) &&
  decide (j.cmd = none) &&
  true) = true := by decide +kernel

theorem met_recordWriteComplete_5 : (
  let s : State := { bsy with recs := { bsy.recs with jobs := [⟨0, zeros 4, 2, some (.calSnapshot hd), some 1, 2, 0, true⟩] } }
  (s.recs.jobs).head?.any fun j => let l := (s.recs.jobs).drop 1
  (j.target).any fun k =>
  decide (j.second = true) &&
  (j.cmd).any fun c =>
  true) = true := by decide +kernel

theorem met_proveBackoffEnd : (
  let s : State := bsy
  decide (spentMs s s.auth.failedAt (backoffMs s) = true) &&
  true) = true := by decide +kernel

theorem met_plFrameReceive_1 : (
  let f : PlFrame := plDemo
  let s : State := { bsy with pair := { bsy.pair with link := true } }
  decide (s.pair.link = true) &&
  decide (domOn s 2 = true) &&
  decide (s.pair.st = .unpaired) &&
  true) = true := by decide +kernel

theorem met_plFrameReceive_2 : (
  let f : PlFrame := plDemo
  let s : State := { bsy with pair := { bsy.pair with link := true, st := .joining } }
  decide (s.pair.link = true) &&
  decide (domOn s 2 = true) &&
  decide (s.pair.st ≠ .unpaired) &&
  decide (partnersAgree f s = false) &&
  true) = true := by decide +kernel

theorem met_plFrameReceive_3 : (
  let f : PlFrame := plDemo
  let s : State := { bsy with pair := { bsy.pair with cfg := ⟨1, 0x99, 0, 1, [0, 1, 2, 3]⟩, link := true, st := .primary } }
  decide (s.pair.link = true) &&
  decide (domOn s 2 = true) &&
  decide (s.pair.st = .primary) &&
  decide (s.pair.handover ≠ some s.sys.ord) &&
  decide (partnersAgree f s = true) &&
  true) = true := by decide +kernel

theorem met_plFrameReceive_4 : (
  let f : PlFrame := plDemo
  let s : State := { bsy with pair := { bsy.pair with cfg := ⟨1, 0x99, 0, 1, [0, 1, 2, 3]⟩, link := true, st := .joining } }
  decide (s.pair.link = true) &&
  decide (domOn s 2 = true) &&
  decide ((s.pair.st = .joining ∨ s.pair.st = .syncing ∨ s.pair.st = .synced)) &&
  decide (partnersAgree f s = true) &&
  true) = true := by decide +kernel

theorem met_plLinkChange : (
  let up : Bool := true
  let s : State := bsy
  decide (domOn s 2 = true) &&
  true) = true := by decide +kernel

theorem met_heartbeatMiss_1 : (
  let s : State := { bsy with pair := { bsy.pair with st := .primary } }
  decide (s.pair.st ≠ .unpaired) &&
  decide (s.pair.missRun < 2) &&
  true) = true := by decide +kernel

theorem met_heartbeatMiss_2 : (
  let s : State := { bsy with pair := { bsy.pair with st := .primary, missRun := 2 } }
  decide (s.pair.st = .primary) &&
  decide (2 ≤ s.pair.missRun) &&
  true) = true := by decide +kernel

theorem met_heartbeatMiss_3 : (
  let s : State := { bsy with pair := { bsy.pair with st := .synced, missRun := 2 } }
  decide ((s.pair.st = .syncing ∨ s.pair.st = .synced)) &&
  decide (2 ≤ s.pair.missRun) &&
  true) = true := by decide +kernel

theorem met_ownHwRelease : (
  let s : State := { bsy with pair := { bsy.pair with drive := true }, sys := { bsy.sys with missedAck := 2 } }
  decide (s.pair.drive = true) &&
  decide (2 ≤ s.sys.missedAck) &&
  true) = true := by decide +kernel

theorem met_ownRelease_1 : (
  let s : State := { bsy with pair := { bsy.pair with st := .primary, handover := some 5 } }
  decide (s.pair.drive = false) &&
  decide (s.pair.st ≠ .unpaired) &&
  decide (s.pair.handover.isSome = true) &&
  true) = true := by decide +kernel

theorem met_ownRelease_2 : (
  let s : State := { bsy with pair := { bsy.pair with st := .joining } }
  decide (s.pair.drive = false) &&
  decide (s.pair.handover = none) &&
  decide (s.pair.st = .joining) &&
  true) = true := by decide +kernel

theorem met_ownRelease_3 : (
  let s : State := { bsy with pair := { bsy.pair with st := .synced }, sys := { bsy.sys with mode := .mirror } }
  decide (s.pair.drive = false) &&
  decide (s.pair.handover = none) &&
  decide (s.pair.st ≠ .unpaired) &&
  decide (s.pair.st ≠ .joining) &&
  decide (s.sys.mode = .mirror) &&
  true) = true := by decide +kernel

theorem met_ownRelease_4 : (
  let s : State := { bsy with pair := { bsy.pair with st := .isolated } }
  decide (s.pair.drive = false) &&
  decide (s.pair.handover = none) &&
  decide (s.pair.st = .isolated) &&
  decide (s.sys.mode ≠ .mirror) &&
  true) = true := by decide +kernel

theorem met_failoverTdmDrive : (
  let ns : Nat := 5
  let s : State := { bsy with pair := { bsy.pair with takeDue := some 5001 } }
  decide (s.pair.takeDue.isSome = true) &&
  true) = true := by decide +kernel

theorem met_joinWaitEnd : (
  let ownHeld : Bool := true
  let s : State := { bsy with pair := { bsy.pair with st := .joining, join := some 0 } }
  decide (s.pair.st = .joining) &&
  decide (joinOver s = true) &&
  true) = true := by decide +kernel

theorem met_mirrorJoin_1 : (
  let s : State := { bsy with pair := { bsy.pair with link := true, partner := some ⟨1, 0x99, 5, 4, 1, 0, true, 0⟩, skew := some 0, joinRun := 1000, st := .joining } }
  decide (joinable s = true) &&
  decide (1000 ≤ s.pair.joinRun) &&
  decide (s.pair.st = .joining) &&
  decide (partnerOwns s = true) &&
  true) = true := by decide +kernel

theorem met_mirrorJoin_2 : (
  let s : State := { bsy with pair := { bsy.pair with link := true, partner := some ⟨1, 0x99, 5, 4, 1, 0, true, 0⟩, skew := some 0, joinRun := 1000, st := .syncing } }
  decide (joinable s = true) &&
  decide (1000 ≤ s.pair.joinRun) &&
  decide ((s.pair.st = .syncing ∨ s.pair.st = .synced)) &&
  true) = true := by decide +kernel

theorem met_mirrorJoin_3 : (
  let s : State := { bsy with pair := { bsy.pair with link := true, partner := some ⟨1, 0x99, 5, 4, 1, 0, true, 0⟩, skew := some 0, joinRun := 1000, st := .primary } }
  decide (joinable s = true) &&
  decide (1000 ≤ s.pair.joinRun) &&
  decide (s.pair.st = .primary) &&
  true) = true := by decide +kernel

theorem met_mirrorSynced : (
  let s : State := { bsy with pair := { bsy.pair with st := .syncing, equalRun := 1000 } }
  decide (s.pair.st = .syncing) &&
  decide (1000 ≤ s.pair.equalRun) &&
  true) = true := by decide +kernel

theorem met_mirrorUnsynced : (
  let s : State := { bsy with pair := { bsy.pair with st := .synced, diffRun := 100 } }
  decide (s.pair.st = .synced) &&
  decide (100 ≤ s.pair.diffRun) &&
  true) = true := by decide +kernel

theorem met_alignFault_1 : (
  let s : State := { bsy with pair := { bsy.pair with st := .primary, pickDiff := true } }
  decide ((s.pair.pickDiff = true ∨ 1000 ≤ s.pair.skewRun)) &&
  decide ((s.pair.st = .primary ∨ s.pair.st = .syncing)) &&
  true) = true := by decide +kernel

theorem met_alignFault_2 : (
  let s : State := { bsy with pair := { bsy.pair with st := .synced, skewRun := 1000 } }
  decide ((s.pair.pickDiff = true ∨ 1000 ≤ s.pair.skewRun)) &&
  decide (s.pair.st = .synced) &&
  true) = true := by decide +kernel

end Sys2Proof.Tests
end

