-- ==== Sys2Proof/Tests/MetHost.lean ====
section
/-! SUPPORT. For each clause of the completion statements of host commands, a state and operands that meet its hypotheses together, and a reply that
fits the transport. -/

set_option Elab.async false
set_option linter.unusedVariables false

namespace Sys2Proof.Tests

open Machine

theorem met_sysIdent : (
  let h : Hdr := hd
  let s₀ : State := bsy
  let s := sessNamed h s₀
  admits (.sysIdent h) s₀ &&
  decide (((identBytes s)).length ≤ payloadLimit (sessNamed h s₀) h.via)) = true := by decide +kernel

theorem met_sysStatus : (
  let h : Hdr := hd
  let s₀ : State := bsy
  let s := sessNamed h s₀
  admits (.sysStatus h) s₀ &&
  decide (((sysStatusBytes s)).length ≤ payloadLimit (sessNamed h s₀) h.via)) = true := by decide +kernel

theorem met_sysModeSet : (
  let h : Hdr := hd
  let mode : Nat := 4
  let target : Nat := 0
  let s₀ : State := bsy
  let s := sessNamed h s₀
  admits (.sysModeSet h mode target) s₀ &&
  decide ((inR 3 mode 5) = true) &&
  (dueOf s target).any fun due =>
  decide ((modeMove s.sys.mode.code mode) = true) &&
  decide (((posReply s due 0)).length ≤ payloadLimit (sessNamed h s₀) h.via)) = true := by decide +kernel

theorem met_sysDomainSet : (
  let h : Hdr := hd
  let on : Nat := 0
  let off : Nat := 8
  let target : Nat := 0
  let s₀ : State := bsy
  let s := sessNamed h s₀
  admits (.sysDomainSet h on off target) s₀ &&
  decide ((on % 4 == 0 && on < 1024 && off % 4 == 0 && off < 1024 && on &&& off == 0 && (on != 0 || off != 0)) = true) &&
  (dueOf s target).any fun due =>
  let (a, b) := switched s on off
  decide (((a ||| b) &&& ~~~ switchable s.sys.mode == 0#10 && domainsOk ((s.sys.domains ||| a) &&& ~~~ b)) = true) &&
  decide (((posReply s due 0)).length ≤ payloadLimit (sessNamed h s₀) h.via)) = true := by decide +kernel

theorem met_sysReset : (
  let h : Hdr := hd
  let kind : Nat := 1
  let confirm : Nat := 0x7440A55A
  let s₀ : State := bsy
  let s := sessNamed h s₀
  admits (.sysReset h kind confirm) s₀ &&
  decide ((inR 1 kind 2 && confirm == 0x7440A55A) = true) &&
  true) = true := by decide +kernel

theorem met_sysEventRead : (
  let h : Hdr := hd
  let ack : Nat := 0
  let max : Nat := 8
  let s₀ : State := bsy
  let s := sessNamed h s₀
  admits (.sysEventRead h ack max) s₀ &&
  decide ((max ≤ 64 && (ack == 0 || seqLe ack s.proto.newestSeq)) = true) &&
  let l := if ack = 0 then s.proto.events else s.proto.events.filter fun e => !seqLe e.seq ack
  let bs := eventsFit max (payloadLimit s h.via - 8) l
  decide (((byte bs.length ++ byte (flag (decide (bs.length < l.length))) ++ leBytes 2 l.length ++ leBytes 4 ((l.getLast?.map (·.seq)).getD 0) ++ bs.flatten)).length ≤ payloadLimit (sessNamed h s₀) h.via)) = true := by decide +kernel

theorem met_sysEventNotify : (
  let h : Hdr := hd
  let c : NotifyCfg := ⟨1, 0, nullHandle, 0, 0⟩
  let s₀ : State := bsy
  let s := sessNamed h s₀
  admits (.sysEventNotify h c) s₀ &&
  decide ((only c.mask 3 && only c.flags 1 && (bit c.flags 0 || c.addr % 2 ^ 96 == 0)) = true) &&
  decide (((c.eth == nullHandle && !bit c.mask 2) || (hClass c.eth == 0x0D && (objOf s c.eth).isSome)) = true) &&
  decide (inConflict s 0 = false) &&
  let p := (ethPort s (hIndex c.eth)).cfg
  decide ((!bit c.mask 2 || (bit p.flags 0 && bit p.flags (if bit c.flags 0 then 4 else 3))) = true) &&
  let arm := bit c.mask 1 && !bit s.proto.notify.mask 1 && !s.proto.events.isEmpty
  true) = true := by decide +kernel

theorem met_sysProtoStatus : (
  let h : Hdr := hd
  let s₀ : State := bsy
  let s := sessNamed h s₀
  admits (.sysProtoStatus h) s₀ &&
  decide (((protoBytes s)).length ≤ payloadLimit (sessNamed h s₀) h.via)) = true := by decide +kernel

theorem met_sysEventCount : (
  let h : Hdr := hd
  let s₀ : State := bsy
  let s := sessNamed h s₀
  admits (.sysEventCount h) s₀ &&
  decide (((leBytes 2 s.proto.events.length ++ zeros 2)).length ≤ payloadLimit (sessNamed h s₀) h.via)) = true := by decide +kernel

theorem met_pbConfig : (
  let h : Hdr := hd
  let flags : Nat := 1
  let stretch : Nat := 10
  let s₀ : State := bsy
  let s := sessNamed h s₀
  admits (.pbConfig h flags stretch) s₀ &&
  decide ((only flags 4 && inR 1 stretch 50) = true) &&
  decide (inConflict s 0 = false) &&
  let b := s.pb
  decide ((b.queue.isEmpty || (bit flags 0 == b.enable && bit flags 1 == b.fast && stretch == b.stretch)) = true) &&
  true) = true := by decide +kernel

theorem met_pbPeriphCreate : (
  let h : Hdr := hd
  let p : Periph := ⟨0x30, 0, 10⟩
  let s₀ : State := bsy
  let s := sessNamed h s₀
  admits (.pbPeriphCreate h p) s₀ &&
  decide ((inR 0x08 p.addr 0x77 && only p.flags 1 && p.stretch ≤ 50) = true) &&
  decide ((s.periphs.all fun x => x.2.addr != p.addr) = true) &&
  (issue 0x0E .idle [] [] s.sys.ord s).any fun (hd, t) =>
  decide (((handleBytes hd)).length ≤ payloadLimit (sessNamed h s₀) h.via)) = true := by decide +kernel

theorem met_pbPeriphRelease : (
  let h : Hdr := hd
  let periph : Handle := perH
  let s₀ : State := bsy
  let s := sessNamed h s₀
  admits (.pbPeriphRelease h periph) s₀ &&
  okB (objIs s periph 0x0E) fun o =>
  decide ((s.pb.queue.all fun x => x.req.periph != periph) = true) &&
  true) = true := by decide +kernel

theorem met_pbTransfer : (
  let h : Hdr := hd
  let r : PbReq := ⟨perH, 1, 1, 0, [0#8]⟩
  let s₀ : State := bsy
  let s := sessNamed h s₀
  admits (.pbTransfer h r) s₀ &&
  decide (r.data.length = r.w) &&
  decide ((r.w ≤ 32 && r.r ≤ 32 && only r.flags 1) = true) &&
  okB (objIs s r.periph 0x0E) fun o =>
  decide ((s.pb.enable && s.pb.state != .sclStuck && s.pb.state != .sdaStuck) = true) &&
  decide ((!shadowed s || readForm r) = true) &&
  decide ((s.pb.queue.length < 4) = true) &&
  true) = true := by decide +kernel

theorem met_pbStatus : (
  let h : Hdr := hd
  let s₀ : State := bsy
  let s := sessNamed h s₀
  admits (.pbStatus h) s₀ &&
  decide (((pbStatusBytes s)).length ≤ payloadLimit (sessNamed h s₀) h.via)) = true := by decide +kernel

theorem met_sessionOpen : (
  let h : Hdr := han
  let role : Nat := 2
  let s₀ : State := bsy
  let s := sessNamed h s₀
  admits (.sessionOpen h role) s₀ &&
  decide ((inR 1 role 3) = true) &&
  decide ((!s.auth.waiting) = true) &&
  let v := if s.auth.sess.length < 8 then s else (oldestOpened s).elim s fun k => freeSess k s
  (issue 0x0C .idle [] [] s.sys.ord v).any fun (hd, t) =>
  let nonce := (draw t).toNat
  let x : Sess := ⟨false, role, h.via, hGen hd, nonce, t.auth.openings, t.sys.ord⟩
  decide (((handleBytes hd ++ leBytes 16 nonce)).length ≤ payloadLimit (sessNamed h s₀) h.via)) = true := by decide +kernel

theorem met_sessionProve : (
  let h : Hdr := han
  let sess : Handle := mkHandle 0x0C 3 1
  let proof : List Byte := proofOf (sessNamed han sesDemo) ⟨false, 1, .spi, 1, 77, 0, 0⟩ (zeros 32)
  let s₀ : State := sesDemo
  let s := sessNamed h s₀
  admits (.sessionProve h sess proof) s₀ &&
  decide (proof.length = 32) &&
  okB (objIs s sess 0x0C) fun o =>
  (tget s.auth.sess (hIndex sess)).any fun x =>
  decide ((!x.proven) = true) &&
  decide (x.via = h.via) &&
  decide ((!domOn s 2 || x.named == 0 || s.sys.ord ≤ x.named + 10000) = true) &&
  (keyOf s x.role).any fun k =>
  decide (proof = proofOf s x k) &&
  decide (((byte (hIndex sess) ++ byte x.role ++ leBytes 2 900)).length ≤ payloadLimit (sessNamed h s₀) h.via)) = true := by decide +kernel

theorem met_sessionClose : (
  let h : Hdr := hd
  let s₀ : State := bsy
  let s := sessNamed h s₀
  admits (.sessionClose h) s₀ &&
  true) = true := by decide +kernel

theorem met_sessionStatus : (
  let h : Hdr := hd
  let s₀ : State := bsy
  let s := sessNamed h s₀
  admits (.sessionStatus h) s₀ &&
  decide (((sessionStatusBytes s)).length ≤ payloadLimit (sessNamed h s₀) h.via)) = true := by decide +kernel

theorem met_rolekeySet : (
  let h : Hdr := hd
  let role : Nat := 1
  let key : List Byte := zeros 32
  let s₀ : State := bsy
  let s := sessNamed h s₀
  admits (.rolekeySet h role key) s₀ &&
  decide (key.length = 32) &&
  decide ((inR 1 role 3) = true) &&
  decide (¬(role = 3 ∧ key.all (· == 0#8) = true)) &&
  decide (¬(roleOf s h = 2 ∧ role = 3)) &&
  decide (¬(roleOf s h = 3 ∧ role = 1)) &&
  decide (inConflict s 3 = false) &&
  true) = true := by decide +kernel

theorem met_auditRead : (
  let h : Hdr := hd
  let start : Nat := 0
  let max : Nat := 8
  let s₀ : State := bsy
  let s := sessNamed h s₀
  admits (.auditRead h start max) s₀ &&
  decide ((inR 1 max 127) = true) &&
  let es := ((s.audit.entries.filter fun e => start ≤ e.number).take max).take ((payloadLimit s h.via - 16) / 32)
  decide (((leBytes 4 ((s.audit.entries.head?.map (·.number)).getD 0) ++ leBytes 4 s.audit.next ++ leCount 4 s.audit.overflow ++ byte es.length ++ zeros 3 ++ es.flatMap auditBytes)).length ≤ payloadLimit (sessNamed h s₀) h.via)) = true := by decide +kernel

theorem met_auditClear : (
  let h : Hdr := hm
  let confirm : Nat := 0x7440C1EA
  let s₀ : State := bsy
  let s := sessNamed h s₀
  admits (.auditClear h confirm) s₀ &&
  decide ((confirm == 0x7440C1EA) = true) &&
  true) = true := by decide +kernel

theorem met_tbConfig : (
  let h : Hdr := hd
  let c : TbCfg := tbCfgReset
  let s₀ : State := bsy
  let s := sessNamed h s₀
  admits (.tbConfig h c) s₀ &&
  decide ((tbOk c) = true) &&
  decide (inConflict s 0 = false) &&
  true) = true := by decide +kernel

theorem met_tbStatus : (
  let h : Hdr := hd
  let s₀ : State := bsy
  let s := sessNamed h s₀
  admits (.tbStatus h) s₀ &&
  decide (((tbStatusBytes s)).length ≤ payloadLimit (sessNamed h s₀) h.via)) = true := by decide +kernel

theorem met_tbPhaseStep : (
  let h : Hdr := hd
  let obj : Handle := wH
  let target : Nat := 0
  let steps : Int := 10
  let s₀ : State := bsy
  let s := sessNamed h s₀
  admits (.tbPhaseStep h obj target steps) s₀ &&
  decide ((inI (-5086) steps 5086 && steps != 0) = true) &&
  (dueOf s target).any fun due =>
  (!decide (obj != nullHandle) || okB (objIs s obj 2) fun _ => true) &&
  let k := if obj = nullHandle then 0 else hIndex obj + 1
  let base := (movesOf s k).foldl (fun (n : Int) m => n + m.steps) (nth s.tb.trims k 0)
  let final := max (-(trimTop k)) (min (trimTop k) (base + steps))
  let start := moveFrom s k due ((movesOf s k).filter fun m => m.running || m.due ≤ due)
  let move : TrimMove := ⟨k, false, due, start, final - base⟩
  let t := if final = base then s else tbmod (fun t => { t with moves := moveInsert s move t.moves }) s
  decide (((leBytes 8 (pickAt s (start / 98304)) ++ leBytes 4 (start % 98304) ++ leSigned 4 final)).length ≤ payloadLimit (sessNamed h s₀) h.via)) = true := by decide +kernel

theorem met_tbSetSeconds : (
  let h : Hdr := hd
  let target : Nat := 6000
  let secs : Nat := 100
  let s₀ : State := bsy
  let s := sessNamed h s₀
  admits (.tbSetSeconds h target secs) s₀ &&
  decide ((1000 * (secs + 1) ≤ 2 ^ 64) = true) &&
  (dueOf s target).any fun due =>
  decide ((pickAt s due % 1000 == 0) = true) &&
  decide ((s.tb.label != 2) = true) &&
  decide (((posReply s due 0)).length ≤ payloadLimit (sessNamed h s₀) h.via)) = true := by decide +kernel

theorem met_clkConfig : (
  let h : Hdr := hd
  let mode : Nat := 1
  let amount : Nat := 5
  let target : Nat := 0
  let s₀ : State := bsy
  let s := sessNamed h s₀
  admits (.clkConfig h mode amount target) s₀ &&
  decide ((spreadOk mode amount) = true) &&
  (dueOf s target).any fun due =>
  decide ((loadOf s ≤ fullLimit mode amount) = true) &&
  decide (((posReply s due 0 ++ leBytes 4 (fullLimit mode amount))).length ≤ payloadLimit (sessNamed h s₀) h.via)) = true := by decide +kernel

theorem met_clkStatus : (
  let h : Hdr := hd
  let s₀ : State := bsy
  let s := sessNamed h s₀
  admits (.clkStatus h) s₀ &&
  decide (((clkStatusBytes s)).length ≤ payloadLimit (sessNamed h s₀) h.via)) = true := by decide +kernel

theorem met_portConfig : (
  let h : Hdr := hd
  let port : Handle := pH
  let loop : Nat := 1
  let flags : Nat := 0
  let target : Nat := 0
  let s₀ : State := bsy
  let s := sessNamed h s₀
  admits (.portConfig h port loop flags target) s₀ &&
  decide ((loop < 2 && only flags 1) = true) &&
  (dueOf s target).any fun due =>
  okB (objIs s port 1) fun o =>
  decide (inConflict s 0 = false) &&
  decide (((posReply s due 0)).length ≤ payloadLimit (sessNamed h s₀) h.via)) = true := by decide +kernel

theorem met_portStatus : (
  let h : Hdr := hd
  let port : Handle := pH
  let s₀ : State := bsy
  let s := sessNamed h s₀
  admits (.portStatus h port) s₀ &&
  okB (objNow s port 1) fun o =>
  decide (((portStatusBytes s (hIndex port))).length ≤ payloadLimit (sessNamed h s₀) h.via)) = true := by decide +kernel

theorem met_feedSet : (
  let h : Hdr := hd
  let port : Handle := pH
  let flags : Nat := 1
  let limit : Nat := 2
  let target : Nat := 0
  let s₀ : State := bsy
  let s := sessNamed h s₀
  admits (.feedSet h port flags limit target) s₀ &&
  decide ((only flags 4 && inR 1 limit 14) = true) &&
  (dueOf s target).any fun due =>
  okB (objIs s port 1) fun o =>
  let p := hIndex port
  decide ((!(bit flags 1 && bit (portLimit s p).flags 0)) = true) &&
  decide ((!(bit flags 0 && backfed s p)) = true) &&
  decide (inConflict s 0 = false) &&
  decide ((!bit flags 0 || 0 < allowance s p) = true) &&
  let l := if bit flags 0 then min (ceilLimit s p limit) (allowance s p) else ceilLimit s p limit
  decide (((posReply s due 0 ++ leBytes 2 (25 * l))).length ≤ payloadLimit (sessNamed h s₀) h.via)) = true := by decide +kernel

theorem met_feedReset : (
  let h : Hdr := hd
  let port : Handle := pH
  let s₀ : State := { bsy with ports := bsy.ports.set 0 { Port.reset with feed := { Port.reset.feed with state := .latched } } }
  let s := sessNamed h s₀
  admits (.feedReset h port) s₀ &&
  okB (objIs s port 1) fun o =>
  decide (((portAt s (hIndex port)).feed.state == .latched) = true) &&
  decide ((!backfed s (hIndex port)) = true) &&
  true) = true := by decide +kernel

theorem met_heddleRoute : (
  let h : Hdr := hd
  let warp : Handle := wH
  let port : Handle := pH
  let target : Nat := 0
  let s₀ : State := bsy
  let s := sessNamed h s₀
  admits (.heddleRoute h warp port target) s₀ &&
  (dueOf s target).any fun due =>
  okB (objIs s warp 2) fun o =>
  (!decide (port != nullHandle) || okB (objIs s port 1) fun _ => true) &&
  decide ((!isHop s (hIndex warp)) = true) &&
  decide ((!(port == nullHandle && liveDents s (hIndex warp))) = true) &&
  decide (inConflict s 0 = false) &&
  decide (((posReply s due 0)).length ≤ payloadLimit (sessNamed h s₀) h.via)) = true := by decide +kernel

theorem met_warpTune : (
  let h : Hdr := hd
  let warp : Handle := wH
  let r : TuneReq := ⟨100000000, 0, 0xFF, 0, 0⟩
  let target : Nat := 0
  let s₀ : State := bsy
  let s := sessNamed h s₀
  admits (.warpTune h warp r target) s₀ &&
  decide ((tuneOk r) = true) &&
  (dueOf s target).any fun due =>
  okB (objIs s warp 2) fun o =>
  decide ((hIndex warp < 6) = true) &&
  decide ((!isHop s (hIndex warp)) = true) &&
  decide (inConflict s 0 = false) &&
  decide ((dentsFit s (hIndex warp) (placedLo r)) = true) &&
  decide (((tuneReply s (hIndex warp) r due)).length ≤ payloadLimit (sessNamed h s₀) h.via)) = true := by decide +kernel

theorem met_warpGain : (
  let h : Hdr := hd
  let warp : Handle := wH
  let gain : Nat := 10
  let target : Nat := 0
  let s₀ : State := bsy
  let s := sessNamed h s₀
  admits (.warpGain h warp gain target) s₀ &&
  decide ((gain ≤ gTop 0) = true) &&
  (dueOf s target).any fun due =>
  okB (objIs s warp 2) fun o =>
  decide ((gain ≤ gTop (hIndex warp)) = true) &&
  decide (((warpAt s (hIndex warp)).agc.mode == 0) = true) &&
  decide (inConflict s 0 = false) &&
  decide (((posReply s due 0)).length ≤ payloadLimit (sessNamed h s₀) h.via)) = true := by decide +kernel

theorem met_warpAgc : (
  let h : Hdr := hd
  let warp : Handle := wH
  let c : AgcCfg := ⟨1, 0, 0, 60, -60, -100, -200, 6, 200⟩
  let s₀ : State := bsy
  let s := sessNamed h s₀
  admits (.warpAgc h warp c) s₀ &&
  decide ((agcOk 0 c) = true) &&
  okB (objIs s warp 2) fun o =>
  decide ((c.gMax ≤ gTop (hIndex warp)) = true) &&
  decide (inConflict s 0 = false) &&
  true) = true := by decide +kernel

theorem met_warpStatus : (
  let h : Hdr := hd
  let warp : Handle := wH
  let s₀ : State := bsy
  let s := sessNamed h s₀
  admits (.warpStatus h warp) s₀ &&
  okB (objNow s warp 2) fun o =>
  decide (((warpStatusBytes s (hIndex warp))).length ≤ payloadLimit (sessNamed h s₀) h.via)) = true := by decide +kernel

theorem met_synStatus : (
  let h : Hdr := hd
  let index : Nat := 0
  let s₀ : State := bsy
  let s := sessNamed h s₀
  admits (.synStatus h index) s₀ &&
  decide ((index < 7) = true) &&
  decide (((synStatusBytes s index)).length ≤ payloadLimit (sessNamed h s₀) h.via)) = true := by decide +kernel

theorem met_synDitherSet : (
  let h : Hdr := hd
  let index : Nat := 0
  let flags : Nat := 0
  let seed : Nat := 1
  let s₀ : State := bsy
  let s := sessNamed h s₀
  admits (.synDitherSet h index flags seed) s₀ &&
  decide ((index < 7 && only flags 1 && only seed 23 && seed != 0) = true) &&
  true) = true := by decide +kernel

theorem met_synProfileStore : (
  let h : Hdr := hd
  let index : Nat := 0
  let num : Nat := 1
  let s₀ : State := { bsy with syn := bsy.syn.set 0 { Synth.off 1 with state := .locked } }
  let s := sessNamed h s₀
  admits (.synProfileStore h index num) s₀ &&
  decide ((index < 7 && num < 64) = true) &&
  decide ((!(num ≥ 48 && isHop s index)) = true) &&
  decide ((locked s index) = true) &&
  let p := capture s index
  decide (((profileBytes p)).length ≤ payloadLimit (sessNamed h s₀) h.via)) = true := by decide +kernel

theorem met_synProfileRead : (
  let h : Hdr := hd
  let index : Nat := 0
  let num : Nat := 1
  let s₀ : State := bsy
  let s := sessNamed h s₀
  admits (.synProfileRead h index num) s₀ &&
  decide ((index < 7 && num < 64) = true) &&
  decide ((!(num ≥ 48 && isHop s index)) = true) &&
  decide (((profileBytes ((tget (synAt s index).profiles num).getD noProfile))).length ≤ payloadLimit (sessNamed h s₀) h.via)) = true := by decide +kernel

theorem met_synProfileClear : (
  let h : Hdr := hd
  let index : Nat := 0
  let num : Nat := 1
  let s₀ : State := bsy
  let s := sessNamed h s₀
  admits (.synProfileClear h index num) s₀ &&
  decide ((index < 7 && num < 64) = true) &&
  decide ((!(num ≥ 48 && isHop s index)) = true) &&
  true) = true := by decide +kernel

theorem met_dentCreate : (
  let h : Hdr := hd
  let r : DentReq := dentReq
  let target : Nat := 0
  let s₀ : State := bsy
  let s := sessNamed h s₀
  admits (.dentCreate h r target) s₀ &&
  decide ((dentReqOk r) = true) &&
  (dueOf s target).any fun due =>
  okB (objIs s r.warp 2) fun o =>
  decide ((!isHop s (hIndex r.warp)) = true) &&
  okB (dentCreate h r target due s) fun (hd, x, t) =>
  decide (((handleBytes hd ++ posReply s due 0 ++ leBytes 2 (dentCost x.rate x.taps) ++ leSigned 4 x.nco ++ leBytes 4 x.delay ++ leBytes 2 x.fill)).length ≤ payloadLimit (sessNamed h s₀) h.via)) = true := by decide +kernel

theorem met_dentSet : (
  let h : Hdr := hd
  let dent : Handle := dH
  let c : DentChg := ⟨1, 103000000000000, nullHandle, 0, 0, 0⟩
  let target : Nat := 0
  let s₀ : State := bsy
  let s := sessNamed h s₀
  admits (.dentSet h dent c target) s₀ &&
  decide ((dentChgForm c) = true) &&
  (dueOf s target).any fun due =>
  okB (objIs s dent 3) fun o =>
  (dentAt s (hIndex dent)).any fun x =>
  decide ((dentChgOk s x due c) = true) &&
  (!decide (bit c.flags 1) || okB (objIs s c.warp 2) fun _ => true) &&
  decide ((!releasing s dent && !ownedDent s (hIndex dent)) = true) &&
  (okB (pendingOk o due false) fun _ => true) &&
  let (w, f, b) := dentChg x c
  (!decide (c.flags % 8 ≠ 0) || okB (laneOk s w f b) fun _ => true) &&
  decide ((!(bit c.flags 3 && c.tau != x.tau && (weaveOf s dent).isSome)) = true) &&
  let s1 := if c.flags % 8 != 0 then sched ⟨due, c.sample, dent, 40, .dentSet h dent { c with flags := c.flags % 8 } target, 0⟩ s else s
  let s2 := if bit c.flags 3 then sched ⟨due, c.sample, dent, 43, .dentSet h dent { c with flags := 8 } target, 0⟩ s1 else s1
  decide (((posReply s due c.sample ++ zeros 2 ++ leSigned 4 (ncoWord w (loAt s w due) f) ++ byte (flag (resets x c)) ++ zeros 3)).length ≤ payloadLimit (sessNamed h s₀) h.via)) = true := by decide +kernel

theorem met_dentBankLoad : (
  let h : Hdr := hd
  let dent : Handle := dH
  let b : BankReq := ⟨1, 2, 0, 0, 0, []⟩
  let s₀ : State := bsy
  let s := sessNamed h s₀
  admits (.dentBankLoad h dent b) s₀ &&
  decide ((b.bank < 2 && bankForm b) = true) &&
  okB (objIs s dent 3) fun o =>
  (dentAt s (hIndex dent)).any fun x =>
  (loadBank x b).any fun k =>
  decide ((!releasing s dent && !ownedDent s (hIndex dent) && o.st != .pending) = true) &&
  decide ((b.bank != x.active) = true) &&
  decide (((pendOf s dent 42).isNone && x.defer.isNone) = true) &&
  true &&
  let y : Dent := if b.bank = 0 then { x with bankA := k } else { x with bankB := k }
  decide ((reedLoad s + dentCost x.rate y.taps ≤ 16384 + dentCost x.rate x.taps) = true) &&
  let z : Dent := { y with loading := some (b.bank, k, s.sys.ord + 2), fillLeft := if x.fillLeft > 0 then x.fillLeft + (y.fill - x.fill) else 0, segs := y.segs.map fun g => { g with fill := if g.reset then g.fill + (y.fill - x.fill) else y.fill } }
  decide (((leBytes 2 (dentCost x.rate y.taps) ++ zeros 2 ++ leBytes 4 k.delay)).length ≤ payloadLimit (sessNamed h s₀) h.via)) = true := by decide +kernel

theorem met_dentBankSwap_1 : (
  let h : Hdr := hd
  let dent : Handle := dH
  let sample : Nat := 0
  let target : Nat := 0
  let s₀ : State := bsy
  let s := sessNamed h s₀
  admits (.dentBankSwap h dent sample target) s₀ &&
  (dueOf s target).any fun due =>
  okB (objIs s dent 3) fun o =>
  (dentAt s (hIndex dent)).any fun x =>
  decide ((sampleIn s x.rate due sample) = true) &&
  decide ((!releasing s dent && !ownedDent s (hIndex dent)) = true) &&
  (okB (pendingOk o due false) fun _ => true) &&
  decide ((x.other.n != 0) = true) &&
  decide (fading s dent = false) &&
  let n := flag (pendOf s dent 44).isSome
  let t := omod dent (fun o => { o with repl := o.repl + n }) (unsched dent 44 s)
  decide (((posReply t due sample)).length ≤ payloadLimit (sessNamed h s₀) h.via)) = true := by decide +kernel

theorem met_dentBankSwap_2 : (
  let h : Hdr := hd
  let dent : Handle := d1H
  let sample : Nat := 0
  let target : Nat := 0
  let s₀ : State := { bsy with follows := [(0, { followDemo with fade := some ⟨1, 5000, 0, 5000, 2400, 0, none, none⟩ })] }
  let s := sessNamed h s₀
  admits (.dentBankSwap h dent sample target) s₀ &&
  (dueOf s target).any fun due =>
  okB (objIs s dent 3) fun o =>
  (dentAt s (hIndex dent)).any fun x =>
  decide ((sampleIn s x.rate due sample) = true) &&
  decide ((!releasing s dent && !ownedDent s (hIndex dent)) = true) &&
  (okB (pendingOk o due false) fun _ => true) &&
  decide ((x.other.n != 0) = true) &&
  decide (fading s dent = true) &&
  decide (((posReply s due sample)).length ≤ payloadLimit (sessNamed h s₀) h.via)) = true := by decide +kernel

theorem met_dentFlush : (
  let h : Hdr := hd
  let dent : Handle := dH
  let sample : Nat := 0
  let target : Nat := 0
  let s₀ : State := bsy
  let s := sessNamed h s₀
  admits (.dentFlush h dent sample target) s₀ &&
  (dueOf s target).any fun due =>
  okB (objIs s dent 3) fun o =>
  (dentAt s (hIndex dent)).any fun x =>
  decide ((sampleIn s x.rate due sample) = true) &&
  decide ((!releasing s dent && !ownedDent s (hIndex dent)) = true) &&
  (okB (pendingOk o due false) fun _ => true) &&
  decide (((posReply s due sample)).length ≤ payloadLimit (sessNamed h s₀) h.via)) = true := by decide +kernel

theorem met_dentRelease : (
  let h : Hdr := hd
  let dent : Handle := dH
  let sample : Nat := 0
  let target : Nat := 0
  let s₀ : State := bsy
  let s := sessNamed h s₀
  admits (.dentRelease h dent sample target) s₀ &&
  decide ((sample == 0) = true) &&
  (dueOf s target).any fun due =>
  okB (objIs s dent 3) fun o =>
  decide ((!releasing s dent && !ownedDent s (hIndex dent)) = true) &&
  (okB (pendingOk o due true) fun _ => true) &&
  decide (((posReply s due 0)).length ≤ payloadLimit (sessNamed h s₀) h.via)) = true := by decide +kernel

theorem met_dentStatus : (
  let h : Hdr := hd
  let dent : Handle := dH
  let s₀ : State := bsy
  let s := sessNamed h s₀
  admits (.dentStatus h dent) s₀ &&
  okB (objNow s dent 3) fun o =>
  (dentAt s (hIndex dent)).any fun x =>
  decide ((!releasing s dent) = true) &&
  decide (((dentStatusBytes s o x)).length ≤ payloadLimit (sessNamed h s₀) h.via)) = true := by decide +kernel

theorem met_reedStatus : (
  let h : Hdr := hd
  let s₀ : State := bsy
  let s := sessNamed h s₀
  admits (.reedStatus h) s₀ &&
  decide (((reedStatusBytes s)).length ≤ payloadLimit (sessNamed h s₀) h.via)) = true := by decide +kernel

theorem met_dentBankRead : (
  let h : Hdr := hd
  let dent : Handle := dH
  let bank : Nat := 0
  let s₀ : State := bsy
  let s := sessNamed h s₀
  admits (.dentBankRead h dent bank) s₀ &&
  decide ((bank < 2) = true) &&
  okB (objNow s dent 3) fun o =>
  (dentAt s (hIndex dent)).any fun x =>
  decide ((!releasing s dent) = true) &&
  decide (((bankBytes (if bank = 0 then x.bankA else x.bankB))).length ≤ payloadLimit (sessNamed h s₀) h.via)) = true := by decide +kernel

theorem met_weaveCreate : (
  let h : Hdr := hd
  let r : WeaveReq := ⟨2, 1, 128, 0xFF, 0, 0, 16, [dH], defaultBlock 1 0⟩
  let target : Nat := 0
  let s₀ : State := { bsy with calib := { bsy.calib with factory := [(0x23, 0, [0#8, 0#8])] } }
  let s := sessNamed h s₀
  admits (.weaveCreate h r target) s₀ &&
  decide (r.dents.length = r.n) &&
  decide (r.block.length = r.m) &&
  decide ((weaveReqOk r) = true) &&
  (dueOf s target).any fun due =>
  decide ((r.dents.all fun d => hClass d == 3 && (objOf s d).isSome) = true) &&
  decide ((dentsSuit s r) = true) &&
  decide ((r.dents.all fun d => (dentAt s (hIndex d)).any fun x => x.bank.n != 0) = true) &&
  decide ((r.dents.all (dentJoins s due)) = true) &&
  decide ((objsOf s 4).length < 512) &&
  decide (slotSum s none + slotsOf r.type r.block ≤ 256) &&
  okB (roomFor s (charges s) r.group (costOf r.type r.n r.block)) fun g =>
  (issue 4 .pending r.dents (optDents r.dents r.opt) due s).any fun (hd, t) =>
  let w := newWeave s r g
  let t : State := { t with weaves := tset t.weaves (hIndex hd) w, cluster := { t.cluster with admitted := t.cluster.admitted + 1 } }
  let d : Digital := { Digital.none with slots := List.replicate (slotsOf r.type r.block) DecSlot.vacant }
  let t : State := if r.type ≤ 2 then { t with ana := tset t.ana (hIndex hd) Analogue.none } else { t with dig := tset t.dig (hIndex hd) d }
  decide (((weaveReply s hd w due)).length ≤ payloadLimit (sessNamed h s₀) h.via)) = true := by decide +kernel

theorem met_weaveStart_1 : (
  let h : Hdr := hd
  let weave : Handle := amH
  let target : Nat := 0
  let s₀ : State := bsy
  let s := sessNamed h s₀
  admits (.weaveStart h weave target) s₀ &&
  (dueOf s target).any fun due =>
  okB (weaveFor s weave) fun (o, w) =>
  (okB (pendingOk o due false) fun _ => true) &&
  decide (o.shed = false) &&
  decide ((weaveSt o w == .idle) = true) &&
  decide (((posReply s due 0)).length ≤ payloadLimit (sessNamed h s₀) h.via)) = true := by decide +kernel

theorem met_weaveStart_2 : (
  let h : Hdr := hd
  let weave : Handle := amH
  let target : Nat := 0
  let s₀ : State := { bsy with reg := { bsy.reg with objs := bsy.reg.objs.map fun o => if o.cls = 4 ∧ o.idx = 2 then { o with shed := true, st := .suspended } else o } }
  let s := sessNamed h s₀
  admits (.weaveStart h weave target) s₀ &&
  (dueOf s target).any fun due =>
  okB (weaveFor s weave) fun (o, w) =>
  (okB (pendingOk o due false) fun _ => true) &&
  decide (o.shed = true) &&
  okB (roomFor s (chargesBut s (hIndex weave)) w.group (weaveNeed s (hIndex weave) w)) fun g =>
  decide (((posReply s due 0)).length ≤ payloadLimit (sessNamed h s₀) h.via)) = true := by decide +kernel

theorem met_weaveStop : (
  let h : Hdr := hd
  let weave : Handle := fmH
  let target : Nat := 0
  let s₀ : State := bsy
  let s := sessNamed h s₀
  admits (.weaveStop h weave target) s₀ &&
  (dueOf s target).any fun due =>
  okB (weaveFor s weave) fun (o, w) =>
  (okB (pendingOk o due false) fun _ => true) &&
  decide ((weaveSt o w == .active) = true) &&
  decide (((posReply s due 0)).length ≤ payloadLimit (sessNamed h s₀) h.via)) = true := by decide +kernel

theorem met_weaveRelease : (
  let h : Hdr := hd
  let weave : Handle := fmH
  let target : Nat := 0
  let s₀ : State := bsy
  let s := sessNamed h s₀
  admits (.weaveRelease h weave target) s₀ &&
  (dueOf s target).any fun due =>
  okB (weaveFor s weave) fun (o, y1) =>
  (okB (pendingOk o due true) fun _ => true) &&
  decide (((posReply s due 0)).length ≤ payloadLimit (sessNamed h s₀) h.via)) = true := by decide +kernel

theorem met_weaveSet : (
  let h : Hdr := hd
  let weave : Handle := fmH
  let prio : Nat := 100
  let m : Nat := 0
  let target : Nat := 0
  let block : List Byte := []
  let s₀ : State := bsy
  let s := sessNamed h s₀
  admits (.weaveSet h weave prio m target block) s₀ &&
  decide (block.length = m) &&
  (dueOf s target).any fun due =>
  okB (objIs s weave 4) fun o =>
  (weaveAt s (hIndex weave)).any fun w =>
  decide ((setBlockOk w block) = true) &&
  decide ((!ownedWeave s (hIndex weave)) = true) &&
  (okB (pendingOk o due false) fun _ => true) &&
  let b := if block.isEmpty then w.block else block
  let c := costOf w.type w.dents.length b
  decide (slotSum s (some (hIndex weave)) + slotsOf w.type b ≤ 256) &&
  (!decide (exceeds c w.cost) || okB (roomFor s (chargesBut s (hIndex weave)) w.group c) fun _ => true) &&
  decide (((posReply s due 0 ++ zeros 2 ++ leBytes 4 c.cycles ++ byte (depthByte (depthOf w.type b)) ++ zeros 3)).length ≤ payloadLimit (sessNamed h s₀) h.via)) = true := by decide +kernel

theorem met_weaveStatus : (
  let h : Hdr := hd
  let weave : Handle := fmH
  let s₀ : State := bsy
  let s := sessNamed h s₀
  admits (.weaveStatus h weave) s₀ &&
  okB (objNow s weave 4) fun o =>
  (weaveAt s (hIndex weave)).any fun w =>
  decide (((weaveStatusBytes s o w)).length ≤ payloadLimit (sessNamed h s₀) h.via)) = true := by decide +kernel

theorem met_schedStatus : (
  let h : Hdr := hd
  let s₀ : State := bsy
  let s := sessNamed h s₀
  admits (.schedStatus h) s₀ &&
  decide (((schedStatusBytes s)).length ≤ payloadLimit (sessNamed h s₀) h.via)) = true := by decide +kernel

theorem met_fmStatus : (
  let h : Hdr := hd
  let weave : Handle := fmH
  let s₀ : State := bsy
  let s := sessNamed h s₀
  admits (.fmStatus h weave) s₀ &&
  okB (anaFor s weave 2) fun (w, a) =>
  decide (((fmStatusBytes s weave w a)).length ≤ payloadLimit (sessNamed h s₀) h.via)) = true := by decide +kernel

theorem met_amStatus : (
  let h : Hdr := hd
  let weave : Handle := amH
  let s₀ : State := bsy
  let s := sessNamed h s₀
  admits (.amStatus h weave) s₀ &&
  okB (anaFor s weave 1) fun (w, a) =>
  decide (((amStatusBytes s weave w a)).length ≤ payloadLimit (sessNamed h s₀) h.via)) = true := by decide +kernel

theorem met_fmAfRead : (
  let h : Hdr := hd
  let weave : Handle := fmH
  let index : Nat := 0
  let s₀ : State := bsy
  let s := sessNamed h s₀
  admits (.fmAfRead h weave index) s₀ &&
  decide ((index ≤ 12) = true) &&
  okB (anaFor s weave 2) fun (y0, a) =>
  decide (((afReadBytes weave a index)).length ≤ payloadLimit (sessNamed h s₀) h.via)) = true := by decide +kernel

theorem met_dabStatus : (
  let h : Hdr := hd
  let weave : Handle := dabH
  let s₀ : State := bsy
  let s := sessNamed h s₀
  admits (.dabStatus h weave) s₀ &&
  okB (digFor s weave 3) fun (o, w, d) =>
  decide (((dabStatusBytes s o w d)).length ≤ payloadLimit (sessNamed h s₀) h.via)) = true := by decide +kernel

theorem met_dabSubchRead : (
  let h : Hdr := hd
  let weave : Handle := dabH
  let id : Nat := 1
  let s₀ : State := bsy
  let s := sessNamed h s₀
  admits (.dabSubchRead h weave id) s₀ &&
  decide ((id < 64) = true) &&
  okB (digFor s weave 3) fun (y0, y1, d) =>
  ((d.subch.find? fun x => x.id == id)).any fun x =>
  decide (((subchBytes s weave x)).length ≤ payloadLimit (sessNamed h s₀) h.via)) = true := by decide +kernel

theorem met_dabTiiRead : (
  let h : Hdr := hd
  let weave : Handle := dabH
  let s₀ : State := bsy
  let s := sessNamed h s₀
  admits (.dabTiiRead h weave) s₀ &&
  okB (digFor s weave 3) fun (y0, y1, d) =>
  decide (((tiiBytes weave d)).length ≤ payloadLimit (sessNamed h s₀) h.via)) = true := by decide +kernel

theorem met_drmStatus : (
  let h : Hdr := hd
  let weave : Handle := drmH
  let s₀ : State := bsy
  let s := sessNamed h s₀
  admits (.drmStatus h weave) s₀ &&
  okB (digFor s weave 4) fun (o, w, d) =>
  decide (((drmStatusBytes s o w d)).length ≤ payloadLimit (sessNamed h s₀) h.via)) = true := by decide +kernel

theorem met_digDecodeSet : (
  let h : Hdr := hd
  let weave : Handle := dabH
  let n : Nat := 1
  let target : Nat := 0
  let comps : List Handle := [c1H]
  let s₀ : State := bsy
  let s := sessNamed h s₀
  admits (.digDecodeSet h weave n target comps) s₀ &&
  decide (comps.length = n) &&
  decide ((n ≤ 16) = true) &&
  (dueOf s target).any fun due =>
  okB (objIs s weave 4) fun o =>
  (weaveAt s (hIndex weave)).any fun w =>
  decide ((comps.all fun c => hClass c == 6 && (objOf s c).isSome) = true) &&
  decide ((w.type == 3 || w.type == 4) = true) &&
  decide ((comps.all (audioOf s (hIndex weave)) && distinct comps) = true) &&
  decide ((!ownedWeave s (hIndex weave)) = true) &&
  (okB (pendingOk o due false) fun _ => true) &&
  decide ((n ≤ slotsOf w.type w.block) = true) &&
  decide (((posReply s due 0)).length ≤ payloadLimit (sessNamed h s₀) h.via)) = true := by decide +kernel

theorem met_surveyStart : (
  let h : Hdr := hd
  let n : Nat := 1
  let flags : Nat := 0
  let target : Nat := 0
  let entries : List SurveyEntry := [⟨wH, 2, 300, 87500000, 108000000, 100000, 1000⟩]
  let s₀ : State := { rdy with sys := { rdy.sys with mode := .survey } }
  let s := sessNamed h s₀
  admits (.surveyStart h n flags target entries) s₀ &&
  decide (entries.length = n) &&
  decide ((inR 1 n 16 && only flags 2 && entries.all surveyEntryOk) = true) &&
  (dueOf s target).any fun due =>
  (okB ((entries.forM fun e => discard (objIs s e.warp 2)) : Chk Unit) fun _ => true) &&
  decide ((entries.all entryFits) = true) &&
  decide ((!s.survey.running && (pendOf s nullHandle 80).isNone) = true) &&
  decide ((entries.all fun e => s.dents.all (fun x => x.2.warp != hIndex e.warp) && !isHop s (hIndex e.warp)) = true) &&
  decide (((posReply s due 0)).length ≤ payloadLimit (sessNamed h s₀) h.via)) = true := by decide +kernel

theorem met_surveyStop : (
  let h : Hdr := hd
  let s₀ : State := { rdy with survey := { rdy.survey with running := true } }
  let s := sessNamed h s₀
  admits (.surveyStop h) s₀ &&
  decide ((s.survey.running || (pendOf s nullHandle 80).isSome) = true) &&
  decide (((posReply s (s.sys.ord + 2) 0)).length ≤ payloadLimit (sessNamed h s₀) h.via)) = true := by decide +kernel

theorem met_surveyStatus : (
  let h : Hdr := hd
  let s₀ : State := bsy
  let s := sessNamed h s₀
  admits (.surveyStatus h) s₀ &&
  decide (((surveyStatusBytes s)).length ≤ payloadLimit (sessNamed h s₀) h.via)) = true := by decide +kernel

theorem met_serviceList : (
  let h : Hdr := hd
  let start : Nat := 0
  let s₀ : State := bsy
  let s := sessNamed h s₀
  admits (.serviceList h start) s₀ &&
  let l := (objsOf s 5).filter fun o => start ≤ o.idx
  let n := min (min l.length 256) ((payloadLimit s h.via - 4) / 4)
  decide (((leBytes 2 (objsOf s 5).length ++ leBytes 2 n ++ (l.take n).flatMap fun o => handleBytes o.handle)).length ≤ payloadLimit (sessNamed h s₀) h.via)) = true := by decide +kernel

theorem met_serviceRead : (
  let h : Hdr := hd
  let svc : Handle := sH
  let s₀ : State := bsy
  let s := sessNamed h s₀
  admits (.serviceRead h svc) s₀ &&
  okB (objNow s svc 5) fun o =>
  (svcAt s (hIndex svc)).any fun v =>
  decide (((serviceBytes s o v)).length ≤ payloadLimit (sessNamed h s₀) h.via)) = true := by decide +kernel

theorem met_componentRead : (
  let h : Hdr := hd
  let comp : Handle := cH
  let s₀ : State := bsy
  let s := sessNamed h s₀
  admits (.componentRead h comp) s₀ &&
  okB (objNow s comp 6) fun o =>
  (compAt s (hIndex comp)).any fun c =>
  decide (((componentBytes s o c)).length ≤ payloadLimit (sessNamed h s₀) h.via)) = true := by decide +kernel

theorem met_labelRead_1 : (
  let h : Hdr := hd
  let obj : Handle := sH
  let kind : Nat := 1
  let s₀ : State := bsy
  let s := sessNamed h s₀
  admits (.labelRead h obj kind) s₀ &&
  decide ((inR 1 kind 9) = true) &&
  decide (hClass obj = 5) &&
  okB (objNow s obj 5) fun o =>
  ((svcAt s (hIndex obj)).map (·.labels)).any fun ls =>
  decide (((labelBytes ((ls.find? fun l => l.kind == kind).getD ⟨kind, 0, 0, [], []⟩))).length ≤ payloadLimit (sessNamed h s₀) h.via)) = true := by decide +kernel

theorem met_labelRead_2 : (
  let h : Hdr := hd
  let obj : Handle := cH
  let kind : Nat := 1
  let s₀ : State := bsy
  let s := sessNamed h s₀
  admits (.labelRead h obj kind) s₀ &&
  decide ((inR 1 kind 9) = true) &&
  decide (hClass obj = 6) &&
  okB (objNow s obj 6) fun o =>
  ((compAt s (hIndex obj)).map (·.labels)).any fun ls =>
  decide (((labelBytes ((ls.find? fun l => l.kind == kind).getD ⟨kind, 0, 0, [], []⟩))).length ≤ payloadLimit (sessNamed h s₀) h.via)) = true := by decide +kernel

theorem met_linkRead : (
  let h : Hdr := hd
  let svc : Handle := sH
  let start : Nat := 0
  let s₀ : State := bsy
  let s := sessNamed h s₀
  admits (.linkRead h svc start) s₀ &&
  okB (objNow s svc 5) fun o =>
  (svcAt s (hIndex svc)).any fun v =>
  let l := v.links.drop start
  let n := min l.length ((payloadLimit s h.via - 4) / 16)
  decide (((leBytes 2 v.links.length ++ leBytes 2 n ++ (l.take n).flatMap (linkBytes s))).length ≤ payloadLimit (sessNamed h s₀) h.via)) = true := by decide +kernel

theorem met_serviceRelease : (
  let h : Hdr := hd
  let svc : Handle := sH
  let target : Nat := 0
  let s₀ : State := { bsy with reg := { bsy.reg with objs := bsy.reg.objs.map fun o => if o.cls = 5 ∧ o.idx = 0 then { o with st := .suspended, relIn := true } else o } }
  let s := sessNamed h s₀
  admits (.serviceRelease h svc target) s₀ &&
  (dueOf s target).any fun due =>
  okB (objIs s svc 5) fun o =>
  decide ((svcReleased o) = true) &&
  decide (((posReply s due 0)).length ≤ payloadLimit (sessNamed h s₀) h.via)) = true := by decide +kernel

theorem met_timePolicy : (
  let h : Hdr := hd
  let c : TimeCfg := ⟨1, 1, 2, 37, 1000, 2000, 10⟩
  let s₀ : State := bsy
  let s := sessNamed h s₀
  admits (.timePolicy h c) s₀ &&
  decide ((timeOk c) = true) &&
  decide (inConflict s 0 = false) &&
  decide (((posReply s (s.sys.ord + 2) 0)).length ≤ payloadLimit (sessNamed h s₀) h.via)) = true := by decide +kernel

theorem met_timeStatus : (
  let h : Hdr := hd
  let s₀ : State := bsy
  let s := sessNamed h s₀
  admits (.timeStatus h) s₀ &&
  let p := s.time
  decide (((byte p.cfg.mode ++ byte p.members ++ zeros 2 ++ leSigned 4 (p.cand.getD (-2147483648)) ++ leBytes 8 p.lastSet ++ leCount 2 p.count ++ zeros 2 ++ leBytes 8 (now s))).length ≤ payloadLimit (sessNamed h s₀) h.via)) = true := by decide +kernel

theorem met_followCreate : (
  let h : Hdr := hd
  let n : Nat := 1
  let group : Nat := 0xFF
  let flags : Nat := 0
  let hold : Nat := 4800
  let target : Nat := 0
  let entries : List SrcReq := [srcDemo cH]
  let s₀ : State := bsy
  let s := sessNamed h s₀
  admits (.followCreate h n group flags hold target entries) s₀ &&
  decide (entries.length = n) &&
  decide ((inR 1 n 4 && (group < 8 || group == 0xFF) && only flags 1 && hold ≤ 384000 && entries.all entryOk) = true) &&
  (dueOf s target).any fun due =>
  (okB (entries.forM (entryHandles s) : Chk Unit) fun _ => true) &&
  decide ((entries.all (entrySuits s) && distinct (entries.map (·.comp))) = true) &&
  decide ((objsOf s 7).length < 64) &&
  okB (roomFor s (charges s) group (followCost n)) fun g =>
  (issue 7 .pending (entries.map (·.comp)) [] due s).any fun (hd, t) =>
  let srcs := entries.zipIdx.map fun e => newSrc s e.1 (if e.2 = 0 then .current else .absent)
  let f : Follow := { srcs := srcs, hold := hold, group := g, notify := bit flags 0, cfg := policyReset, fade := none, lastFade := (0, 0), replaced := 0, switches := 0, undos := 0, aborts := 0, commitAt := 0, stopped := false, visitEnd := none, visiting := none, visitAt := 0, charged := n, legs := [] }
  let c := followCost n
  decide (((handleBytes hd ++ leBytes 8 (pickAt s due) ++ byte g ++ zeros 3 ++ leBytes 4 c.cycles ++ leBytes 4 c.fft ++ leBytes 4 c.dram)).length ≤ payloadLimit (sessNamed h s₀) h.via)) = true := by decide +kernel

theorem met_followSet : (
  let h : Hdr := hd
  let set : Handle := folH
  let n : Nat := 1
  let target : Nat := 0
  let entries : List SrcReq := [srcDemo c1H]
  let s₀ : State := bsy
  let s := sessNamed h s₀
  admits (.followSet h set n target entries) s₀ &&
  decide (entries.length = n) &&
  decide ((n ≤ 3 && entries.all entryOk) = true) &&
  (dueOf s target).any fun due =>
  okB (followFor s set) fun (o, f) =>
  (okB (entries.forM (entryHandles s) : Chk Unit) fun _ => true) &&
  decide ((entries.all (entrySuits s) && distinct (((f.srcs.head?).map (·.req.comp)).toList ++ entries.map (·.comp))) = true) &&
  (okB (pendingOk o due false) fun _ => true) &&
  decide (f.fade.isNone = true) &&
  (!decide (n + 1 > f.srcs.length) || okB (roomFor s (charges { s with follows := tdel s.follows (hIndex set) }) f.group (followCost (n + 1))) fun _ => true) &&
  decide (((posReply s due 0)).length ≤ payloadLimit (sessNamed h s₀) h.via)) = true := by decide +kernel

theorem met_followCommit : (
  let h : Hdr := hd
  let set : Handle := folH
  let entry : Nat := 1
  let sample : Nat := 0
  let target : Nat := 0
  let fade : Nat := 0
  let s₀ : State := primedDemo
  let s := sessNamed h s₀
  admits (.followCommit h set entry sample target fade) s₀ &&
  decide ((inR 1 entry 3 && sample < 48 && (fade == 0 || inR 5 fade 200)) = true) &&
  (dueOf s target).any fun due =>
  okB (followFor s set) fun (o, f) =>
  (okB (pendingOk o due false) fun _ => true) &&
  decide (f.fade.isNone = true) &&
  (f.srcs[entry]?).any fun x =>
  decide ((x.st == .primed && mayPrime s f x) = true) &&
  let len := (if fade = 0 then f.cfg.fade else fade) * 48
  decide (((posReply s due sample ++ zeros 2 ++ leBytes 4 len ++ leSigned 4 ((f.hold : Int) - x.d))).length ≤ payloadLimit (sessNamed h s₀) h.via)) = true := by decide +kernel

theorem met_followRelease : (
  let h : Hdr := hd
  let set : Handle := folH
  let target : Nat := 0
  let s₀ : State := bsy
  let s := sessNamed h s₀
  admits (.followRelease h set target) s₀ &&
  (dueOf s target).any fun due =>
  okB (followFor s set) fun (o, y1) =>
  (okB (pendingOk o due true) fun _ => true) &&
  decide (((posReply s due 0)).length ≤ payloadLimit (sessNamed h s₀) h.via)) = true := by decide +kernel

theorem met_followStatus : (
  let h : Hdr := hd
  let set : Handle := folH
  let s₀ : State := bsy
  let s := sessNamed h s₀
  admits (.followStatus h set) s₀ &&
  okB (objNow s set 7) fun o =>
  (followAt s (hIndex set)).any fun f =>
  decide (((followBytes s o f)).length ≤ payloadLimit (sessNamed h s₀) h.via)) = true := by decide +kernel

theorem met_followPolicy : (
  let h : Hdr := hd
  let set : Handle := folH
  let c : FollowCfg := { polDemo with thr := 60, visit := 1000 }
  let s₀ : State := bsy
  let s := sessNamed h s₀
  admits (.followPolicy h set c) s₀ &&
  decide ((policyOk c) = true) &&
  okB (followFor s set) fun (o, f) =>
  (!decide (c.hop ≠ nullHandle) || (okB (objIs s c.hop 2) (fun _ => true) && decide (hIndex c.hop < 6))) &&
  (okB (pendingOk o (s.sys.ord + 2) false) fun _ => true) &&
  decide ((c.hop == nullHandle || hopOk s (hIndex set) f c.hop) = true) &&
  decide (((posReply s (s.sys.ord + 2) 0)).length ≤ payloadLimit (sessNamed h s₀) h.via)) = true := by decide +kernel

theorem met_measRead : (
  let h : Hdr := hd
  let obj : Handle := dH
  let s₀ : State := bsy
  let s := sessNamed h s₀
  admits (.measRead h obj) s₀ &&
  okB (measFor s obj) fun o =>
  decide ((!(codesOf s obj).isEmpty) = true) &&
  decide ((o.st != .pending) = true) &&
  decide (((measBytes s obj)).length ≤ payloadLimit (sessNamed h s₀) h.via)) = true := by decide +kernel

theorem met_measWindow : (
  let h : Hdr := hd
  let obj : Handle := dH
  let w : Nat := 60
  let s₀ : State := bsy
  let s := sessNamed h s₀
  admits (.measWindow h obj w) s₀ &&
  decide ((inR 1 w 3600) = true) &&
  okB (measFor s obj) fun o =>
  decide ((!(codesOf s obj).isEmpty) = true) &&
  (okB (pendingOk o (s.sys.ord + 2) false) fun _ => true) &&
  true) = true := by decide +kernel

theorem met_measThreshold_1 : (
  let h : Hdr := hd
  let obj : Handle := dH
  let t : ThrReq := thrDemo
  let s₀ : State := { bsy with thrs := [⟨0, dH, thrDemo, true, false, false, 0⟩] }
  let s := sessNamed h s₀
  admits (.measThreshold h obj t) s₀ &&
  decide ((t.basis ≤ 2 && inR 1 t.hold 3600 && (t.low.all fun l => t.high.all fun u => l ≤ u)) = true) &&
  okB (measFor s obj) fun o =>
  decide (((codesOf s obj).contains t.code) = true) &&
  (okB (pendingOk o (s.sys.ord + 2) false) fun _ => true) &&
  ((s.thrs.find? fun x => x.obj = obj && x.req.code == t.code)).any fun x =>
  decide (((leBytes 2 x.index ++ zeros 2)).length ≤ payloadLimit (sessNamed h s₀) h.via)) = true := by decide +kernel

theorem met_measThreshold_2 : (
  let h : Hdr := hd
  let obj : Handle := dH
  let t : ThrReq := thrDemo
  let s₀ : State := bsy
  let s := sessNamed h s₀
  admits (.measThreshold h obj t) s₀ &&
  decide ((t.basis ≤ 2 && inR 1 t.hold 3600 && (t.low.all fun l => t.high.all fun u => l ≤ u)) = true) &&
  okB (measFor s obj) fun o =>
  decide (((codesOf s obj).contains t.code) = true) &&
  (okB (pendingOk o (s.sys.ord + 2) false) fun _ => true) &&
  decide ((s.thrs.find? fun x => x.obj = obj && x.req.code == t.code) = none) &&
  decide ((t.basis != 2) = true) &&
  (((List.range 1024).find? fun k => s.thrs.all fun x => x.index != k)).any fun i =>
  decide (((leBytes 2 i ++ zeros 2)).length ≤ payloadLimit (sessNamed h s₀) h.via)) = true := by decide +kernel

theorem met_loudnessRead : (
  let h : Hdr := hd
  let comp : Handle := cH
  let s₀ : State := bsy
  let s := sessNamed h s₀
  admits (.loudnessRead h comp) s₀ &&
  okB (audioFor s comp) fun o =>
  decide ((o.st != .pending) = true) &&
  decide (((loudBytes s comp)).length ≤ payloadLimit (sessNamed h s₀) h.via)) = true := by decide +kernel

theorem met_loudnessReset : (
  let h : Hdr := hd
  let comp : Handle := cH
  let target : Nat := 0
  let s₀ : State := bsy
  let s := sessNamed h s₀
  admits (.loudnessReset h comp target) s₀ &&
  (dueOf s target).any fun due =>
  okB (audioFor s comp) fun o =>
  (okB (pendingOk o due false) fun _ => true) &&
  decide (((posReply s due 0)).length ≤ payloadLimit (sessNamed h s₀) h.via)) = true := by decide +kernel

theorem met_audioMonSet : (
  let h : Hdr := hd
  let comp : Handle := cH
  let c : MonCfg := ⟨3, 10, -600, 10, 10⟩
  let s₀ : State := bsy
  let s := sessNamed h s₀
  admits (.audioMonSet h comp c) s₀ &&
  decide ((only c.flags 4 && inR 2 c.units 255 && inI (-900) c.silThr (-300) && inR 1 c.silHold 600 && inR 1 c.frzHold 600) = true) &&
  okB (audioFor s comp) fun o =>
  (okB (pendingOk o (s.sys.ord + 2) false) fun _ => true) &&
  true) = true := by decide +kernel

theorem met_verifySet : (
  let h : Hdr := hd
  let r : VerifyReq := { verifDemo with match_ := 80, mismatch := 50 }
  let target : Nat := 0
  let s₀ : State := bsy
  let s := sessNamed h s₀
  admits (.verifySet h r target) s₀ &&
  decide ((verifyOk r) = true) &&
  (dueOf s target).any fun due =>
  okB (objIs s r.prog 6) fun o =>
  okB (objIs s r.ref (if r.kind = 0 then 9 else 6)) fun q =>
  decide ((audioComp s r.prog && (if r.kind = 0 then refSlot s r.ref r.slotL && (r.slotR == 0xFF || refSlot s r.ref r.slotR) else audioComp s r.ref)) = true) &&
  (okB (pendingOk o due false) fun _ => true) &&
  (okB (pendingOk q due false) fun _ => true) &&
  okB (roomFor s (charges { s with verifs := tdel s.verifs r.index }) r.group verifCost) fun g =>
  let v := ((tget s.verifs r.index).map fun v => { v with group := g }).getD (Verif.fresh r g 0 false)
  decide (((posReply s due 0 ++ byte g ++ zeros 1)).length ≤ payloadLimit (sessNamed h s₀) h.via)) = true := by decide +kernel

theorem met_verifyClear : (
  let h : Hdr := hd
  let index : Nat := 0
  let target : Nat := 0
  let s₀ : State := { bsy with verifs := [(0, Verif.fresh verifDemo 0 0 true)] }
  let s := sessNamed h s₀
  admits (.verifyClear h index target) s₀ &&
  decide ((index < 64) = true) &&
  (dueOf s target).any fun due =>
  decide (((tget s.verifs index).isSome) = true) &&
  decide (((posReply s due 0)).length ≤ payloadLimit (sessNamed h s₀) h.via)) = true := by decide +kernel

theorem met_verifyStatus : (
  let h : Hdr := hd
  let index : Nat := 0
  let s₀ : State := bsy
  let s := sessNamed h s₀
  admits (.verifyStatus h index) s₀ &&
  decide ((index < 64) = true) &&
  decide (((verifyBytes s index)).length ≤ payloadLimit (sessNamed h s₀) h.via)) = true := by decide +kernel

theorem met_tdmPortConfig : (
  let h : Hdr := hd
  let port : Handle := mkHandle 9 1 1
  let c : TdmCfg := tdmDemo
  let target : Nat := 0
  let s₀ : State := bsy
  let s := sessNamed h s₀
  admits (.tdmPortConfig h port c target) s₀ &&
  decide ((tdmCfgOk c) = true) &&
  (dueOf s target).any fun due =>
  okB (objIs s port 9) fun o =>
  decide (inConflict s 0 = false) &&
  decide ((tdmCfgFits s (hIndex port) due c) = true) &&
  decide (((posReply s due 0)).length ≤ payloadLimit (sessNamed h s₀) h.via)) = true := by decide +kernel

theorem met_tdmPortStatus : (
  let h : Hdr := hd
  let port : Handle := tpH
  let s₀ : State := bsy
  let s := sessNamed h s₀
  admits (.tdmPortStatus h port) s₀ &&
  okB (objIs s port 9) fun o =>
  decide (((tdmBytes s port)).length ≤ payloadLimit (sessNamed h s₀) h.via)) = true := by decide +kernel

theorem met_tdmStreamCreate : (
  let h : Hdr := hd
  let r : TdmStreamReq := ⟨tpH, c1H, 2, 3, 0, 0⟩
  let target : Nat := 0
  let s₀ : State := bsy
  let s := sessNamed h s₀
  admits (.tdmStreamCreate h r target) s₀ &&
  decide ((r.chan ≤ 3 && r.slotA < 32 && (if r.chan = 0 then r.slotB < 32 && r.slotB != r.slotA else r.slotB == 0xFF) && r.shift ≤ 15) = true) &&
  (dueOf s target).any fun due =>
  okB (objIs s r.port 9) fun o =>
  okB (sourceIs s r.src) fun o =>
  let c := tdmCfgAt s (hIndex r.port) due
  let dent := dentAt s (hIndex r.src)
  decide ((sourceSuits s r.src && (if hClass r.src = 3 then dent.any fun x => rateS x.rate == (frameKHz c) && c.rate != 0 else r.shift == 0)) = true) &&
  decide (((streamSlots r).all fun n => n < c.n || c.dir != 1) = true) &&
  (okB (pendingOk o due false) fun _ => true) &&
  decide ((c.dir == 1 && (streamSlots r).all fun n => !(slotsUsed s (hIndex r.port) due).contains n) = true) &&
  decide ((hClass r.src == 3 || outputsOf s r.src < 8) = true) &&
  (issue 8 .pending [r.src] [] due s).any fun (hd, t) =>
  let lat := if hClass r.src = 3 then 2000 else audioLatency s r.src + (if c.rate = 1 then 0 else 1000)
  decide (((handleBytes hd ++ posReply s due 0 ++ zeros 2 ++ leBytes 4 lat)).length ≤ payloadLimit (sessNamed h s₀) h.via)) = true := by decide +kernel

theorem met_tdmStreamRelease : (
  let h : Hdr := hd
  let stream : Handle := tsH
  let target : Nat := 0
  let s₀ : State := bsy
  let s := sessNamed h s₀
  admits (.tdmStreamRelease h stream target) s₀ &&
  (dueOf s target).any fun due =>
  okB (tdmStreamIs s stream) fun o =>
  (okB (pendingOk o due true) fun _ => true) &&
  decide (((posReply s due 0)).length ≤ payloadLimit (sessNamed h s₀) h.via)) = true := by decide +kernel

theorem met_alignCreate : (
  let h : Hdr := hd
  let target : Nat := 0
  let s₀ : State := bsy
  let s := sessNamed h s₀
  admits (.alignCreate h target) s₀ &&
  (dueOf s target).any fun due =>
  (issue 0x0A .pending [] [] due s).any fun (hd, t) =>
  decide (((handleBytes hd ++ leBytes 8 (pickAt s due))).length ≤ payloadLimit (sessNamed h s₀) h.via)) = true := by decide +kernel

theorem met_alignAdd : (
  let h : Hdr := hd
  let group : Handle := alH
  let stream : Handle := tsH
  let target : Nat := 0
  let s₀ : State := bsy
  let s := sessNamed h s₀
  admits (.alignAdd h group stream target) s₀ &&
  (dueOf s target).any fun due =>
  okB (objIs s group 0x0A) fun g =>
  okB (objIs s stream 8) fun o =>
  (okB (pendingOk g due false) fun _ => true) &&
  (okB (pendingOk o due false) fun _ => true) &&
  let m := membersAt (unsched stream 72 s) group due
  decide (((streamAt s stream).any (·.group.isNone) && m.head?.all fun x => paceOf s x due == paceOf s stream due) = true) &&
  decide ((m.length < 64) = true) &&
  decide (((posReply s due 0)).length ≤ payloadLimit (sessNamed h s₀) h.via)) = true := by decide +kernel

theorem met_alignRemove : (
  let h : Hdr := hd
  let group : Handle := alH
  let stream : Handle := tsH
  let target : Nat := 0
  let s₀ : State := { bsy with aligns := [(0, ⟨0, 0, [(tsH, 0, 0, 0, 0)], 0, 0, 0⟩)], streams := [(0, ⟨.tdm ⟨tpH, cH, 0, 1, 0, 0⟩ [] [], some 0⟩)] }
  let s := sessNamed h s₀
  admits (.alignRemove h group stream target) s₀ &&
  (dueOf s target).any fun due =>
  okB (objIs s group 0x0A) fun g =>
  okB (objIs s stream 8) fun o =>
  (okB (pendingOk g due false) fun _ => true) &&
  (okB (pendingOk o due false) fun _ => true) &&
  decide (((membersAt s group due).contains stream) = true) &&
  decide (((posReply s due 0)).length ≤ payloadLimit (sessNamed h s₀) h.via)) = true := by decide +kernel

theorem met_alignRelease : (
  let h : Hdr := hd
  let group : Handle := alH
  let target : Nat := 0
  let s₀ : State := bsy
  let s := sessNamed h s₀
  admits (.alignRelease h group target) s₀ &&
  (dueOf s target).any fun due =>
  okB (objIs s group 0x0A) fun g =>
  (okB (pendingOk g due true) fun _ => true) &&
  decide (((posReply s due 0)).length ≤ payloadLimit (sessNamed h s₀) h.via)) = true := by decide +kernel

theorem met_alignStatus : (
  let h : Hdr := hd
  let group : Handle := alH
  let s₀ : State := bsy
  let s := sessNamed h s₀
  admits (.alignStatus h group) s₀ &&
  okB (objNow s group 0x0A) fun o =>
  (alignAt s group).any fun a =>
  decide (((alignBytes group a ++ leBytes 8 (now s) ++ (sortBy (fun m => m.1.toNat) a.members).flatMap fun m => handleBytes m.1 ++ leCount 4 m.2.1 ++ leCount 4 m.2.2.1 ++ leCount 4 m.2.2.2.1 ++ leCount 4 m.2.2.2.2)).length ≤ payloadLimit (sessNamed h s₀) h.via)) = true := by decide +kernel

theorem met_ethPortConfig : (
  let h : Hdr := hd
  let port : Handle := mkHandle 0x0D 1 1
  let c : EthCfg := ethDemo
  let target : Nat := 0
  let s₀ : State := bsy
  let s := sessNamed h s₀
  admits (.ethPortConfig h port c target) s₀ &&
  decide ((ethCfgOk c) = true) &&
  (dueOf s target).any fun due =>
  okB (objIs s port 0x0D) fun o =>
  decide (inConflict s 0 = false) &&
  decide ((ethCfgFits s (hIndex port) due c) = true) &&
  decide (((posReply s due 0)).length ≤ payloadLimit (sessNamed h s₀) h.via)) = true := by decide +kernel

theorem met_ethPortStatus : (
  let h : Hdr := hd
  let port : Handle := epH
  let s₀ : State := bsy
  let s := sessNamed h s₀
  admits (.ethPortStatus h port) s₀ &&
  okB (objIs s port 0x0D) fun o =>
  decide (((ethPortBytes s port)).length ≤ payloadLimit (sessNamed h s₀) h.via)) = true := by decide +kernel

theorem met_ethStreamCreate : (
  let h : Hdr := hd
  let r : EthReq := { ethReqDemo with sources := [c1H], dest := 0xEF000001000000000000000000000000 }
  let target : Nat := 0
  let s₀ : State := bsy
  let s := sessNamed h s₀
  admits (.ethStreamCreate h r target) s₀ &&
  decide (r.sources.length = r.n) &&
  decide ((ethReqOk r) = true) &&
  (dueOf s target).any fun due =>
  okB (r.sources.mapM (ethSource s r.kind)) fun os =>
  decide ((r.sources.all (ethSuits s r.kind)) = true) &&
  (okB ((os.forM fun o => pendingOk o due false) : Chk Unit) fun _ => true) &&
  decide (([0, 1].all fun p => !bit r.ports p || familyOn (ethCfgAt s p due) r) = true) &&
  decide ((r.sources.all fun x => (hClass x != 6 && hClass x != 7) || outputsOf s x < 8) = true) &&
  decide ((r.kind != 6 || (((ethReqs s due).filter fun x => x.kind == 6).length < 2 && [0, 1].all fun p => !bit r.ports p || !bit (ethCfgAt s p due).flags 1)) = true) &&
  decide ((ethFits s (fun p => ethCfgAt s p due) (ethReqs s due ++ [r])) = true) &&
  (issue 8 .pending r.sources [] due s).any fun (hd, t) =>
  let e : EthStream := { req := r, unres := [0, 1].map fun p => bit r.ports p && !multicast (ethDest r), under := 0, holds := 0, dropped := 0, queue := [], dropNext := false, sent := 0, seqs := [0, 0], first := true, marker := 0, lastUnder := none, lastDrop := none, prevQ := 0, heldAt := [], last := [], out := [], pay := [], ready := [], fed := false }
  let load := fun p => if bit r.ports p then wireLoad s (ethCfgAt s p due) r else 0
  decide (((handleBytes hd ++ posReply s due 0 ++ zeros 2 ++ leBytes 4 (load 0) ++ leBytes 4 (load 1) ++ leBytes 4 (if r.kind ≤ 2 then audioLatency s (r.sources.headD nullHandle) else 0))).length ≤ payloadLimit (sessNamed h s₀) h.via)) = true := by decide +kernel

theorem met_ethStreamRelease : (
  let h : Hdr := hd
  let stream : Handle := esH
  let target : Nat := 0
  let s₀ : State := bsy
  let s := sessNamed h s₀
  admits (.ethStreamRelease h stream target) s₀ &&
  (dueOf s target).any fun due =>
  okB (ethStreamIs s stream) fun (o, y1) =>
  (okB (pendingOk o due true) fun _ => true) &&
  decide (((posReply s due 0)).length ≤ payloadLimit (sessNamed h s₀) h.via)) = true := by decide +kernel

theorem met_ethStreamStatus : (
  let h : Hdr := hd
  let stream : Handle := esH
  let s₀ : State := bsy
  let s := sessNamed h s₀
  admits (.ethStreamStatus h stream) s₀ &&
  okB (ethStreamIs s stream) fun (o, e) =>
  decide ((o.st != .pending) = true) &&
  decide (((ethStreamBytes s stream o e)).length ≤ payloadLimit (sessNamed h s₀) h.via)) = true := by decide +kernel

theorem met_rtcRead : (
  let h : Hdr := hd
  let s₀ : State := bsy
  let s := sessNamed h s₀
  admits (.rtcRead h) s₀ &&
  let c := if domOn s 2 then s.rtc.latched else s.rtc.count
  decide (((leBytes 8 c.toNat ++ leBytes 8 (now s) ++ byte (flagBits [s.rtc.osf, rtcPending s]) ++ byte s.rtc.weekday ++ zeros 2)).length ≤ payloadLimit (sessNamed h s₀) h.via)) = true := by decide +kernel

theorem met_rtcSet : (
  let h : Hdr := hd
  let kind : Nat := 1
  let value : Nat := 0
  let target : Nat := 0
  let s₀ : State := bsy
  let s := sessNamed h s₀
  admits (.rtcSet h kind value target) s₀ &&
  decide ((kind < 2) = true) &&
  decide ((value < 2 ^ 64 && (if kind = 0 then value < 2 ^ 56 else value < 2 ^ 55 || 2 ^ 64 - 2 ^ 55 ≤ value)) = true) &&
  (dueOf s target).any fun due =>
  decide (((posReply s due 0)).length ≤ payloadLimit (sessNamed h s₀) h.via)) = true := by decide +kernel

theorem met_rtcTrim : (
  let h : Hdr := hd
  let trim : Int := -5
  let s₀ : State := bsy
  let s := sessNamed h s₀
  admits (.rtcTrim h trim) s₀ &&
  decide ((inI (-127) trim 127) = true) &&
  decide (inConflict s 0 = false) &&
  true) = true := by decide +kernel

theorem met_rtcAlarmSet : (
  let h : Hdr := hd
  let alarm : Nat := 1
  let flags : Nat := 1
  let value : Nat := 5
  let s₀ : State := bsy
  let s := sessNamed h s₀
  admits (.rtcAlarmSet h alarm flags value) s₀ &&
  decide ((alarm < 2 && only flags 1 && value < 2 ^ 56) = true) &&
  let put := fun (st : AlarmState) (s : State) => rmod (fun r => { r with alarms := lmod r.alarms alarm fun _ => ⟨value, st, false, false⟩ }) s
  let off := fun (a : Alarm) => { a with st := .disarmed, skipped := false, down := false }
  true) = true := by decide +kernel

theorem met_rtcStatus : (
  let h : Hdr := hd
  let s₀ : State := bsy
  let s := sessNamed h s₀
  admits (.rtcStatus h) s₀ &&
  decide (((rtcStatusBytes s)).length ≤ payloadLimit (sessNamed h s₀) h.via)) = true := by decide +kernel

theorem met_rtcWeekdaySet : (
  let h : Hdr := hd
  let weekday : Nat := 3
  let offset : Nat := 0
  let s₀ : State := bsy
  let s := sessNamed h s₀
  admits (.rtcWeekdaySet h weekday offset) s₀ &&
  decide ((weekday < 7 && (offset < dayTicks || offset == 0xFFFFFFFF)) = true) &&
  decide (inConflict s 0 = false) &&
  let keep := offset == 0xFFFFFFFF
  let s := rmod (fun r => { r with weekday := weekday, dayOff := if keep then r.dayOff else offset }) s
  true) = true := by decide +kernel

theorem met_rtcConfig : (
  let h : Hdr := hd
  let vsw : Nat := 960
  let low : Nat := 2200
  let s₀ : State := bsy
  let s := sessNamed h s₀
  admits (.rtcConfig h vsw low) s₀ &&
  decide ((inR 900 vsw 1050 && inR 2000 low 3300) = true) &&
  decide (inConflict s 0 = false) &&
  true) = true := by decide +kernel

theorem met_dateToTicks : (
  let h : Hdr := hd
  let d : Date := ⟨2028, 2, 29, 12, 0, 0, 0⟩
  let s₀ : State := bsy
  let s := sessNamed h s₀
  admits (.dateToTicks h d) s₀ &&
  decide ((inR 1970 d.year 9999 && d.sub ≤ 32767) = true) &&
  decide ((dateOk d) = true) &&
  decide (((leBytes 8 (dateTicks d))).length ≤ payloadLimit (sessNamed h s₀) h.via)) = true := by decide +kernel

theorem met_ticksToDate : (
  let h : Hdr := hd
  let count : Nat := 60143645491200
  let s₀ : State := bsy
  let s := sessNamed h s₀
  admits (.ticksToDate h count) s₀ &&
  decide ((count < 8303486592614400) = true) &&
  decide (((dateBytes (ticksDate count) (ticksWeekday count))).length ≤ payloadLimit (sessNamed h s₀) h.via)) = true := by decide +kernel

theorem met_recordStatus : (
  let h : Hdr := hd
  let rcd : Handle := recH
  let s₀ : State := bsy
  let s := sessNamed h s₀
  admits (.recordStatus h rcd) s₀ &&
  okB (recIs s rcd) fun i =>
  decide (((recordStatusBytes s i)).length ≤ payloadLimit (sessNamed h s₀) h.via)) = true := by decide +kernel

theorem met_recordRead : (
  let h : Hdr := hd
  let rcd : Handle := recH
  let copy : Nat := 0xFF
  let len : Nat := 4
  let offset : Nat := 0
  let s₀ : State := bsy
  let s := sessNamed h s₀
  admits (.recordRead h rcd copy len offset) s₀ &&
  decide ((copy ≤ 1 || copy == 0xFF) = true) &&
  okB (recIs s rcd) fun i =>
  decide ((offset + len ≤ copyArea i) = true) &&
  ((if copy = 0xFF then (recAt s i).force else some copy)).any fun k =>
  let c := (recAt s i).copy k
  let b := if i = 3 then hideKeys (copyBytes s i c) else copyBytes s i c
  decide (((copyHeader c ++ (b.drop offset).take len)).length ≤ payloadLimit (sessNamed h s₀) h.via)) = true := by decide +kernel

theorem met_recordResolve : (
  let h : Hdr := hd
  let rcd : Handle := recH
  let keep : Nat := 0
  let s₀ : State := { bsy with recs := { bsy.recs with recs := bsy.recs.recs.set 0 { Record.made 0 (zeros 4) with st := .conflict } } }
  let s := sessNamed h s₀
  admits (.recordResolve h rcd keep) s₀ &&
  decide ((keep ≤ 1) = true) &&
  okB (recIs s rcd) fun i =>
  decide ((recAt s i).st = .conflict) &&
  decide ((intact i ((recAt s i).copy keep)) = true) &&
  true) = true := by decide +kernel

theorem met_limitsWrite : (
  let h : Hdr := hm
  let l : Limits := limitsReset
  let s₀ : State := bsy
  let s := sessNamed h s₀
  admits (.limitsWrite h l) s₀ &&
  decide ((limitsOk l) = true) &&
  decide (s.fw.locked = false) &&
  decide (inConflict s 4 = false) &&
  true) = true := by decide +kernel

theorem met_trimWrite_1 : (
  let h : Hdr := hm
  let offset : Nat := 0
  let total : Nat := 8
  let flags : Nat := 0
  let data : List Byte := zeros 4
  let s₀ : State := bsy
  let s := sessNamed h s₀
  admits (.trimWrite h offset total flags data) s₀ &&
  decide ((inR 4 total 49152 && only flags 1) = true) &&
  let seg := if offset = 0 then [] else s.recs.trimSeg
  let all := seg ++ data
  decide (offset = seg.length) &&
  decide (all.length ≤ total) &&
  decide (s.fw.locked = false) &&
  decide (bit flags 0 = false) &&
  true) = true := by decide +kernel

theorem met_trimWrite_2 : (
  let h : Hdr := hm
  let offset : Nat := 0
  let total : Nat := 4
  let flags : Nat := 1
  let data : List Byte := zeros 4
  let s₀ : State := bsy
  let s := sessNamed h s₀
  admits (.trimWrite h offset total flags data) s₀ &&
  decide ((inR 4 total 49152 && only flags 1) = true) &&
  let seg := if offset = 0 then [] else s.recs.trimSeg
  let all := seg ++ data
  decide (offset = seg.length) &&
  decide (all.length ≤ total) &&
  decide (s.fw.locked = false) &&
  decide (bit flags 0 = true) &&
  decide (all.length = total) &&
  decide (inConflict s 1 = false) &&
  let body := calBodyWith ((items all).filter fun x => inR 0x20 x.kind 0x25) s
  decide (body.length ≤ 65508) &&
  true) = true := by decide +kernel

theorem met_fwStatus : (
  let h : Hdr := hd
  let s₀ : State := bsy
  let s := sessNamed h s₀
  admits (.fwStatus h) s₀ &&
  decide (((fwStatusBytes s)).length ≤ payloadLimit (sessNamed h s₀) h.via)) = true := by decide +kernel

theorem met_fwLoadBegin : (
  let h : Hdr := hd
  let target : Nat := 1
  let len : Nat := 300
  let s₀ : State := bsy
  let s := sessNamed h s₀
  admits (.fwLoadBegin h target len) s₀ &&
  decide ((target ≤ 2 && inR 257 len 3145728) = true) &&
  decide ((target != 2 || s.sys.mode == .dormant) = true) &&
  decide ((!(target < 2 && s.fw.running == target)) = true) &&
  decide (((leBytes 2 (paramLimit s h.via - 4) ++ zeros 2 ++ leBytes 4 len)).length ≤ payloadLimit (sessNamed h s₀) h.via)) = true := by decide +kernel

theorem met_fwLoadData : (
  let h : Hdr := hd
  let offset : Nat := 0
  let data : List Byte := zeros 4
  let s₀ : State := { bsy with fw := { bsy.fw with loadState := 1, loadTarget := 1, loadLen := 300 } }
  let s := sessNamed h s₀
  admits (.fwLoadData h offset data) s₀ &&
  decide ((s.fw.loadState == 1) = true) &&
  let b := s.fw.loadBytes ++ data
  decide ((offset == s.fw.loadBytes.length && b.length ≤ s.fw.loadLen) = true) &&
  decide (((leBytes 4 b.length)).length ≤ payloadLimit (sessNamed h s₀) h.via)) = true := by decide +kernel

theorem met_fwLoadEnd : (
  let h : Hdr := hd
  let s₀ : State := { bsy with fw := { bsy.fw with loadState := 1, loadTarget := 1, loadLen := 257, loadBytes := imgDemo, keys := bsy.fw.keys.set 1 ⟨true, false, beBytes 32 g256.1 ++ beBytes 32 g256.2⟩ } }
  let s := sessNamed h s₀
  admits (.fwLoadEnd h) s₀ &&
  decide (s.fw.loadState = 1) &&
  decide (s.fw.loadBytes.length = s.fw.loadLen) &&
  decide (fwVerify s.fw s.fw.loadBytes = 1) &&
  let b := s.fw.loadBytes
  decide (((leBytes 4 (fwVersion b) ++ byte (fwRollback b) ++ byte (fu b 6 1) ++ zeros 2)).length ≤ payloadLimit (sessNamed h s₀) h.via)) = true := by decide +kernel

theorem met_fwBoot : (
  let h : Hdr := hd
  let source : Nat := 0
  let flags : Nat := 0
  let confirm : Nat := 0x7440B007
  let s₀ : State := { bsy with fw := { bsy.fw with slot0 := ⟨zeros 4, 1⟩ } }
  let s := sessNamed h s₀
  admits (.fwBoot h source flags confirm) s₀ &&
  decide ((source < 3 && only flags 1 && confirm == 0x7440B007) = true) &&
  decide (((s.fw.image source).result == 1 && !(s.fw.image source).bytes.isEmpty) = true) &&
  let s := if bit flags 0 && source < 2 then fwmod (fun f => { f with preferred := source }) s else s
  true) = true := by decide +kernel

theorem met_fwKeyWrite_1 : (
  let h : Hdr := hm
  let slot : Nat := 0
  let flags : Nat := 1
  let key : List Byte := zeros 64
  let s₀ : State := { bsy with fw := { bsy.fw with keys := [⟨true, false, []⟩, ⟨true, false, []⟩, ⟨false, false, []⟩, ⟨false, false, []⟩] } }
  let s := sessNamed h s₀
  admits (.fwKeyWrite h slot flags key) s₀ &&
  decide (key.length = 64) &&
  decide ((slot ≤ 3 && only flags 1) = true) &&
  decide (bit flags 0 = true) &&
  decide ((key.all (· == 0#8)) = true) &&
  let k := nth s.fw.keys slot ⟨false, false, []⟩
  let other := (List.range 4).any fun j => j != slot && (nth s.fw.keys j ⟨false, false, []⟩).present && !(nth s.fw.keys j ⟨false, false, []⟩).revoked
  decide ((k.present && other) = true) &&
  true) = true := by decide +kernel

theorem met_fwKeyWrite_2 : (
  let h : Hdr := hm
  let slot : Nat := 1
  let flags : Nat := 0
  let key : List Byte := beBytes 32 g256.1 ++ beBytes 32 g256.2
  let s₀ : State := bsy
  let s := sessNamed h s₀
  admits (.fwKeyWrite h slot flags key) s₀ &&
  decide (key.length = 64) &&
  decide ((slot ≤ 3 && only flags 1) = true) &&
  decide (bit flags 0 = false) &&
  decide ((onCurve key) = true) &&
  decide ((!s.fw.locked && slot != 0 && !(nth s.fw.keys slot ⟨false, false, []⟩).present) = true) &&
  true) = true := by decide +kernel

theorem met_lifecycleLock : (
  let h : Hdr := hm
  let confirm : Nat := 0x744010CC
  let s₀ : State := bsy
  let s := sessNamed h s₀
  admits (.lifecycleLock h confirm) s₀ &&
  decide ((confirm == 0x744010CC) = true) &&
  decide ((!s.fw.locked) = true) &&
  true) = true := by decide +kernel

theorem met_pairConfig : (
  let h : Hdr := hd
  let c : PairCfg := ⟨1, 2, 0, 1, [0, 1, 2, 3]⟩
  let target : Nat := 0
  let s₀ : State := bsy
  let s := sessNamed h s₀
  admits (.pairConfig h c target) s₀ &&
  let used := c.map.filter fun x => x != 0xFF
  decide ((c.id != 0 && c.partner != s.ident.serial && used.eraseDups.length == used.length && used.all (· < 4) && c.position < 2 && only c.flags 1) = true) &&
  (dueOf s target).any fun due =>
  decide ((!inConflict s 2) = true) &&
  decide ((!s.pair.link || (s.pair.owner && !bit c.flags 0)) = true) &&
  decide ((c.position == 0 || (List.range 4).all fun k => nth c.map k 0xFF == 0xFF || !bit (portAt s k).feed.flags 0) = true) &&
  let t := schedQ ⟨due, 0, nullHandle, 25, .pairConfig h c target, 0⟩ s
  decide (((posReply s due 0)).length ≤ payloadLimit (sessNamed h s₀) h.via)) = true := by decide +kernel

theorem met_pairStatus : (
  let h : Hdr := hd
  let s₀ : State := bsy
  let s := sessNamed h s₀
  admits (.pairStatus h) s₀ &&
  decide (((pairStatusBytes s)).length ≤ payloadLimit (sessNamed h s₀) h.via)) = true := by decide +kernel

theorem met_pairHandover_1 : (
  let h : Hdr := hd
  let flags : Nat := 0
  let target : Nat := 0
  let s₀ : State := { bsy with pair := { bsy.pair with st := .synced, link := true, ownerMode := 4 } }
  let s := sessNamed h s₀
  admits (.pairHandover h flags target) s₀ &&
  decide ((only flags 1) = true) &&
  decide (s.pair.st = .synced) &&
  decide (s.pair.link = true) &&
  ((if target = 0 then some (s.sys.ord + 3) else dueOf s target)).any fun due =>
  decide (s.sys.ord + 3 ≤ due) &&
  decide (s.pair.ownerMode ≠ 6) &&
  decide (((posReply s due 0)).length ≤ payloadLimit (sessNamed h s₀) h.via)) = true := by decide +kernel

theorem met_pairHandover_2 : (
  let h : Hdr := hd
  let flags : Nat := 1
  let target : Nat := 0
  let s₀ : State := { bsy with pair := { bsy.pair with st := .primary, link := true, owner := true } }
  let s := sessNamed h s₀
  admits (.pairHandover h flags target) s₀ &&
  decide ((only flags 1) = true) &&
  decide (s.pair.st ≠ .synced) &&
  decide (s.pair.st ≠ .syncing) &&
  (dueOf s target).any fun due =>
  (okB (handoverOk (bit flags 0) s) fun _ => true) &&
  decide (((posReply s due 0)).length ≤ payloadLimit (sessNamed h s₀) h.via)) = true := by decide +kernel

theorem met_deviceIdSet : (
  let h : Hdr := hd
  let id : Nat := 1
  let s₀ : State := bsy
  let s := sessNamed h s₀
  admits (.deviceIdSet h id) s₀ &&
  decide ((only id 10) = true) &&
  decide (inConflict s 0 = false) &&
  true) = true := by decide +kernel

theorem met_farmStatus : (
  let h : Hdr := hd
  let s₀ : State := bsy
  let s := sessNamed h s₀
  admits (.farmStatus h) s₀ &&
  decide (((farmBytes s)).length ≤ payloadLimit (sessNamed h s₀) h.via)) = true := by decide +kernel

theorem met_calPolicy : (
  let h : Hdr := hd
  let c : CalCfg := ⟨30, 0x0F, 0, 600⟩
  let s₀ : State := bsy
  let s := sessNamed h s₀
  admits (.calPolicy h c) s₀ &&
  decide ((inR 5 c.dT 200 && only c.flags 5 && only c.hold 8 && inR 60 c.interval 3600) = true) &&
  decide (inConflict s 0 = false) &&
  true) = true := by decide +kernel

theorem met_calRequest : (
  let h : Hdr := hd
  let warp : Handle := wH
  let flags : Nat := 0
  let s₀ : State := bsy
  let s := sessNamed h s₀
  admits (.calRequest h warp flags) s₀ &&
  decide ((only flags 1) = true) &&
  okB (objIs s warp 2) fun o =>
  let w := hIndex warp
  decide ((!held s w) = true) &&
  decide ((o.st != .suspended && (w ≥ 6 || (warpAt s w).lo.isSome)) = true) &&
  true) = true := by decide +kernel

theorem met_calStatus : (
  let h : Hdr := hd
  let warp : Handle := wH
  let s₀ : State := bsy
  let s := sessNamed h s₀
  admits (.calStatus h warp) s₀ &&
  okB (objNow s warp 2) fun o =>
  decide (((calStatusBytes s (hIndex warp))).length ≤ payloadLimit (sessNamed h s₀) h.via)) = true := by decide +kernel

theorem met_calResultRead : (
  let h : Hdr := hd
  let warp : Handle := wH
  let gainBand : Nat := 0
  let loBand : Nat := 3
  let s₀ : State := bsy
  let s := sessNamed h s₀
  admits (.calResultRead h warp gainBand loBand) s₀ &&
  decide ((bandsOk 0 gainBand loBand || bandsOk 6 gainBand loBand) = true) &&
  okB (objIs s warp 2) fun o =>
  decide ((bandsOk (hIndex warp) gainBand loBand) = true) &&
  decide (((entryBytes (calEntry s (hIndex warp) gainBand loBand))).length ≤ payloadLimit (sessNamed h s₀) h.via)) = true := by decide +kernel

theorem met_calSnapshot : (
  let h : Hdr := hd
  let s₀ : State := bsy
  let s := sessNamed h s₀
  admits (.calSnapshot h) s₀ &&
  decide (inConflict s 1 = false) &&
  true) = true := by decide +kernel

theorem met_tunerPresetWrite : (
  let h : Hdr := hd
  let port : Handle := pH
  let num : Nat := 1
  let p : Preset := ⟨1, 1, 1, 1, 100000000, 0⟩
  let s₀ : State := bsy
  let s := sessNamed h s₀
  admits (.tunerPresetWrite h port num p) s₀ &&
  decide ((inR 1 num 31 && p.c1 < 128 && p.c2 < 128 && p.l < 5 && only p.flags 1) = true) &&
  okB (objIs s port 1) fun o =>
  decide (((tunerAt s (hIndex port)).inForce != num) = true) &&
  decide (inConflict s 0 = false) &&
  true) = true := by decide +kernel

theorem met_tunerPresetRead : (
  let h : Hdr := hd
  let port : Handle := pH
  let num : Nat := 1
  let s₀ : State := bsy
  let s := sessNamed h s₀
  admits (.tunerPresetRead h port num) s₀ &&
  decide ((num < 32) = true) &&
  (okB (handleOk s port 1) fun _ => true) &&
  decide (((presetBytes (presetOf (tunerNow s (hIndex port)) num))).length ≤ payloadLimit (sessNamed h s₀) h.via)) = true := by decide +kernel

theorem met_tunerSelect : (
  let h : Hdr := hd
  let port : Handle := pH
  let num : Nat := 1
  let flags : Nat := 0
  let target : Nat := 0
  let s₀ : State := { bsy with tuners := bsy.tuners.set 0 { Tuner.reset with presets := [(1, ⟨1, 1, 1, 1, 100000000, 0⟩)] } }
  let s := sessNamed h s₀
  admits (.tunerSelect h port num flags target) s₀ &&
  decide ((num < 32 && only flags 1) = true) &&
  (dueOf s target).any fun due =>
  okB (objIs s port 1) fun o =>
  let p := hIndex port
  decide ((bit (presetOf (tunerAt s p) num).flags 0) = true) &&
  decide (((tunerAt s p).lastOrd.all fun n => n + 100 ≤ due) = true) &&
  decide ((!probes s p) = true) &&
  decide (inConflict s 0 = false) &&
  decide (((posReply s due 0)).length ≤ payloadLimit (sessNamed h s₀) h.via)) = true := by decide +kernel

theorem met_tunerStatus : (
  let h : Hdr := hd
  let port : Handle := pH
  let s₀ : State := bsy
  let s := sessNamed h s₀
  admits (.tunerStatus h port) s₀ &&
  (okB (handleOk s port 1) fun _ => true) &&
  decide (((tunerStatusBytes s (hIndex port))).length ≤ payloadLimit (sessNamed h s₀) h.via)) = true := by decide +kernel

theorem met_probeStart : (
  let h : Hdr := hd
  let r : ProbeReq := ⟨pH, -100, 1, 0, 0, 100, 0, [100000000]⟩
  let s₀ : State := bsy
  let s := sessNamed h s₀
  admits (.probeStart h r) s₀ &&
  decide (r.freqs.length = r.points) &&
  decide ((decide (-280 ≤ r.level) && inR 1 r.points 64 && only r.flags 2 && (r.points == 1 || r.duration == 0) && (!bit r.flags 1 || inR 10 r.threshold 200) && r.freqs.all synRange) = true) &&
  (dueOf s r.target).any fun due =>
  okB (objIs s r.port 1) fun o =>
  decide (((modePend s).isNone) = true) &&
  decide ((domOn s 6) = true) &&
  decide ((s.probe.state == .idle && !measuring s && (pendOf s r.port 27).isNone) = true) &&
  let level := min r.level (portLimit s (hIndex r.port)).probe
  let t := prmod (fun p => { p with state := .waiting, req := { r with level := level }, level := level, due := due, start := 0, startOrd := s.sys.ord, point := 0, losses := 0, lowCount := 0, lostNow := [], openNow := [], stopAt := none, limited := false }) s
  decide (((posReply t due 0)).length ≤ payloadLimit (sessNamed h s₀) h.via)) = true := by decide +kernel

theorem met_probeStop : (
  let h : Hdr := hd
  let s₀ : State := { bsy with sys := { bsy.sys with mode := .probe } }
  let s := sessNamed h s₀
  admits (.probeStop h) s₀ &&
  true) = true := by decide +kernel

theorem met_probeStatus : (
  let h : Hdr := hd
  let s₀ : State := bsy
  let s := sessNamed h s₀
  admits (.probeStatus h) s₀ &&
  decide (((probeStatusBytes s)).length ≤ payloadLimit (sessNamed h s₀) h.via)) = true := by decide +kernel

theorem met_mismatchMeasure : (
  let h : Hdr := hd
  let port : Handle := pH
  let points : Nat := 1
  let threshold : Nat := 50
  let target : Nat := 0
  let freqs : List Nat := [100000000]
  let s₀ : State := bsy
  let s := sessNamed h s₀
  admits (.mismatchMeasure h port points threshold target freqs) s₀ &&
  decide (freqs.length = points) &&
  decide ((inR 1 points 16 && inR 10 threshold 200 && freqs.all synRange) = true) &&
  (dueOf s target).any fun due =>
  okB (objIs s port 1) fun o =>
  decide ((domOn s 6) = true) &&
  decide ((s.probe.state == .idle && !measuring s) = true) &&
  decide (((posReply s due 0)).length ≤ payloadLimit (sessNamed h s₀) h.via)) = true := by decide +kernel

theorem met_mismatchRead : (
  let h : Hdr := hd
  let port : Handle := pH
  let s₀ : State := bsy
  let s := sessNamed h s₀
  admits (.mismatchRead h port) s₀ &&
  (okB (handleOk s port 1) fun _ => true) &&
  decide (((mismatchBytes s (hIndex port))).length ≤ payloadLimit (sessNamed h s₀) h.via)) = true := by decide +kernel

end Sys2Proof.Tests
end

