-- ==== Sys2Proof/Tests/Slice0.lean ====
section
/-! SUPPORT. The tests of the model: WellFormed refuses a term for each of its checks, values the spec works out, and for each statement with
hypotheses that is no completion statement a state and operands that meet them together (the completion statements' are in MetHost and
MetEvents). -/

set_option Elab.async false
set_option linter.unusedVariables false

namespace Sys2Proof.Tests

open Machine

/-! WellFormed: for each command a well-formed term, and for each check of it a term that fails it, which `Instr.wf` refuses. -/

/-- A list that is not empty, with its first element once more. -/
def long {α : Type} (l : List α) : List α := l ++ l.take 1

/-- A header whose tag does not fit its byte. -/
def hbad : Hdr := { hd with tag := 256 }

theorem wf_hdr : (hd.wf && !hbad.wf && !({ hd with sess := 256 } : Hdr).wf) = true := by decide

theorem wf_tbCfg : (
  let x : TbCfg := tbCfgReset
  x.wf && !([{ x with sources := 2 ^ 8 }, { x with ptpPort := 2 ^ 8 }, { x with ptpDomain := 2 ^ 8 }, { x with flags := 2 ^ 8 }, { x with threshold := 2 ^ 32 }, { x with slew := 2 ^ 16 }, { x with holdOff := 2 ^ 16 }, { x with comp := 2 ^ 32 }, { x with asym := 2 ^ 31 }, { x with asym := -2 ^ 31 - 1 }] : List TbCfg).any TbCfg.wf) = true := by decide

theorem wf_notifyCfg : (
  let x : NotifyCfg := ⟨1, 0, nullHandle, 0, 0⟩
  x.wf && !([{ x with mask := 2 ^ 8 }, { x with dport := 2 ^ 16 }, { x with addr := 2 ^ 128 }, { x with flags := 2 ^ 8 }] : List NotifyCfg).any NotifyCfg.wf) = true := by decide

theorem wf_portLimit : (
  let x : PortLimit := limitsReset.ports.getD 0 ⟨0, 0, 0⟩
  x.wf && !([{ x with feed := 2 ^ 16 }, { x with probe := 2 ^ 15 }, { x with probe := -2 ^ 15 - 1 }, { x with flags := 2 ^ 8 }] : List PortLimit).any PortLimit.wf) = true := by decide

theorem wf_preset : (
  let x : Preset := ⟨1, 1, 1, 1, 100000000, 0⟩
  x.wf && !([{ x with c1 := 2 ^ 8 }, { x with c2 := 2 ^ 8 }, { x with l := 2 ^ 8 }, { x with flags := 2 ^ 8 }, { x with freq := 2 ^ 32 }, { x with loss := 2 ^ 16 }] : List Preset).any Preset.wf) = true := by decide

theorem wf_agcCfg : (
  let x : AgcCfg := ⟨1, 0, 0, 60, -60, -100, -200, 6, 200⟩
  x.wf && !([{ x with mode := 2 ^ 8 }, { x with flags := 2 ^ 8 }, { x with gMin := 2 ^ 8 }, { x with gMax := 2 ^ 8 }, { x with high := 2 ^ 15 }, { x with high := -2 ^ 15 - 1 }, { x with target := 2 ^ 15 }, { x with target := -2 ^ 15 - 1 }, { x with low := 2 ^ 15 }, { x with low := -2 ^ 15 - 1 }, { x with attack := 2 ^ 8 }, { x with window := 2 ^ 16 }] : List AgcCfg).any AgcCfg.wf) = true := by decide

theorem wf_tuneReq : (
  let x : TuneReq := ⟨100000000, 0, 0xFF, 0, 0⟩
  x.wf && !([{ x with freq := 2 ^ 32 }, { x with placement := 2 ^ 8 }, { x with profile := 2 ^ 8 }, { x with origin := 2 ^ 32 }, { x with step := 2 ^ 32 }] : List TuneReq).any TuneReq.wf) = true := by decide

theorem wf_calCfg : (
  let x : CalCfg := ⟨30, 0x0F, 0, 600⟩
  x.wf && !([{ x with dT := 2 ^ 16 }, { x with flags := 2 ^ 8 }, { x with hold := 2 ^ 8 }, { x with interval := 2 ^ 16 }] : List CalCfg).any CalCfg.wf) = true := by decide

theorem wf_surveyEntry : (
  let x : SurveyEntry := ⟨wH, 2, 300, 87500000, 108000000, 100000, 1000⟩
  x.wf && !([{ x with kind := 2 ^ 8 }, { x with thr := 2 ^ 16 }, { x with low := 2 ^ 32 }, { x with high := 2 ^ 32 }, { x with step := 2 ^ 32 }, { x with dwell := 2 ^ 16 }] : List SurveyEntry).any SurveyEntry.wf) = true := by decide

theorem wf_timeCfg : (
  let x : TimeCfg := ⟨1, 1, 2, 37, 1000, 2000, 10⟩
  x.wf && !([{ x with mode := 2 ^ 8 }, { x with sources := 2 ^ 8 }, { x with agree := 2 ^ 8 }, { x with tai := 2 ^ 8 }, { x with tol := 2 ^ 16 }, { x with hold := 2 ^ 16 }, { x with window := 2 ^ 8 }] : List TimeCfg).any TimeCfg.wf) = true := by decide

theorem wf_srcReq : (
  let x : SrcReq := srcDemo cH
  x.wf && !([{ x with ident := 2 ^ 32 }, { x with mask := 2 ^ 32 }, { x with rank := 2 ^ 8 }, { x with flags := 2 ^ 8 }] : List SrcReq).any SrcReq.wf) = true := by decide

theorem wf_tdmCfg : (
  let x : TdmCfg := tdmDemo
  x.wf && !([{ x with dir := 2 ^ 8 }, { x with role := 2 ^ 8 }, { x with rate := 2 ^ 8 }, { x with n := 2 ^ 8 }, { x with w := 2 ^ 8 }, { x with word := 2 ^ 8 }, { x with o := 2 ^ 8 }, { x with flags := 2 ^ 8 }, { x with clk := 2 ^ 8 }, { x with mask := 2 ^ 32 }] : List TdmCfg).any TdmCfg.wf) = true := by decide

theorem wf_ethCfg : (
  let x : EthCfg := ethDemo
  x.wf && !([{ x with flags := 2 ^ 8 }, { x with pcp := 2 ^ 8 }, { x with vlan := 2 ^ 16 }, { x with mtu := 2 ^ 16 }, { x with pfx4 := 2 ^ 8 }, { x with pfx6 := 2 ^ 8 }, { x with addr4 := 2 ^ 32 }, { x with gate4 := 2 ^ 32 }, { x with addr6 := 2 ^ 128 }, { x with gate6 := 2 ^ 128 }, { x with dMedia := 2 ^ 8 }, { x with dPtp := 2 ^ 8 }, { x with dLsc := 2 ^ 8 }, { x with cport := 2 ^ 16 }] : List EthCfg).any EthCfg.wf) = true := by decide

theorem wf_commands_1 : (
  ([ .sysIdent hd
  , .sysStatus hd
  , .sysModeSet hd 4 0
  , .sysDomainSet hd 0 8 0
  , .sysReset hd 1 0x7440A55A
  , .sysEventRead hd 0 8
  , .sysEventNotify hd (⟨1, 0, nullHandle, 0, 0⟩)
  , .sysProtoStatus hd
  , .sysEventCount hd
  , .pbConfig hd 1 10
  , .pbPeriphCreate hd (⟨0x30, 0, 10⟩)
  , .pbPeriphRelease hd perH
  , .pbTransfer hd (⟨perH, 1, 1, 0, [0#8]⟩)
  , .pbStatus hd
  , .sessionOpen han 2] : List Instr).all Instr.wf
  && !([ .sysIdent hbad
  , .sysStatus hbad
  , .sysModeSet hbad 4 0
  , .sysModeSet hd (2 ^ 8) 0
  , .sysModeSet hd 4 (2 ^ 64)
  , .sysDomainSet hbad 0 8 0
  , .sysDomainSet hd (2 ^ 16) 8 0
  , .sysDomainSet hd 0 (2 ^ 16) 0
  , .sysDomainSet hd 0 8 (2 ^ 64)
  , .sysReset hbad 1 0x7440A55A
  , .sysReset hd (2 ^ 8) 0x7440A55A
  , .sysReset hd 1 (2 ^ 32)
  , .sysEventRead hbad 0 8
  , .sysEventRead hd (2 ^ 32) 8
  , .sysEventRead hd 0 (2 ^ 8)
  , .sysEventNotify hbad (⟨1, 0, nullHandle, 0, 0⟩)
  , .sysEventNotify hd ({ (⟨1, 0, nullHandle, 0, 0⟩ : NotifyCfg) with mask := 256 })
  , .sysProtoStatus hbad
  , .sysEventCount hbad
  , .pbConfig hbad 1 10
  , .pbConfig hd (2 ^ 8) 10
  , .pbConfig hd 1 (2 ^ 16)
  , .pbPeriphCreate hbad (⟨0x30, 0, 10⟩)
  , .pbPeriphCreate hd ({ (⟨0x30, 0, 10⟩ : Periph) with addr := 2 ^ 8 })
  , .pbPeriphCreate hd ({ (⟨0x30, 0, 10⟩ : Periph) with flags := 2 ^ 8 })
  , .pbPeriphCreate hd ({ (⟨0x30, 0, 10⟩ : Periph) with stretch := 2 ^ 16 })
  , .pbPeriphRelease hbad perH
  , .pbTransfer hbad (⟨perH, 1, 1, 0, [0#8]⟩)
  , .pbTransfer hd ({ (⟨perH, 1, 1, 0, [0#8]⟩ : PbReq) with w := 2 ^ 8 })
  , .pbTransfer hd ({ (⟨perH, 1, 1, 0, [0#8]⟩ : PbReq) with r := 2 ^ 8 })
  , .pbTransfer hd ({ (⟨perH, 1, 1, 0, [0#8]⟩ : PbReq) with flags := 2 ^ 8 })
  , .pbTransfer hd ({ (⟨perH, 1, 1, 0, [0#8]⟩ : PbReq) with data := long ((⟨perH, 1, 1, 0, [0#8]⟩ : PbReq).data) })
  , .pbStatus hbad
  , .sessionOpen hbad 2
  , .sessionOpen han (2 ^ 8)] : List Instr).any Instr.wf) = true := by decide +kernel

theorem wf_commands_2 : (
  ([ .sessionProve han (mkHandle 0x0C 3 1) (proofOf (sessNamed han sesDemo) ⟨false, 1, .spi, 1, 77, 0, 0⟩ (zeros 32))
  , .sessionClose hd
  , .sessionStatus hd
  , .rolekeySet hd 1 (zeros 32)
  , .auditRead hd 0 8
  , .auditClear hm 0x7440C1EA
  , .tbConfig hd tbCfgReset
  , .tbStatus hd
  , .tbPhaseStep hd wH 0 10
  , .tbSetSeconds hd 6000 100
  , .clkConfig hd 1 5 0
  , .clkStatus hd
  , .portConfig hd pH 1 0 0
  , .portStatus hd pH
  , .feedSet hd pH 1 2 0] : List Instr).all Instr.wf
  && !([ .sessionProve hbad (mkHandle 0x0C 3 1) (proofOf (sessNamed han sesDemo) ⟨false, 1, .spi, 1, 77, 0, 0⟩ (zeros 32))
  , .sessionProve han (mkHandle 0x0C 3 1) (long (proofOf (sessNamed han sesDemo) ⟨false, 1, .spi, 1, 77, 0, 0⟩ (zeros 32)))
  , .sessionClose hbad
  , .sessionStatus hbad
  , .rolekeySet hbad 1 (zeros 32)
  , .rolekeySet hd (2 ^ 8) (zeros 32)
  , .rolekeySet hd 1 (long (zeros 32))
  , .auditRead hbad 0 8
  , .auditRead hd (2 ^ 32) 8
  , .auditRead hd 0 (2 ^ 8)
  , .auditClear hbad 0x7440C1EA
  , .auditClear hm (2 ^ 32)
  , .tbConfig hbad tbCfgReset
  , .tbConfig hd ({ (tbCfgReset : TbCfg) with sources := 256 })
  , .tbStatus hbad
  , .tbPhaseStep hbad wH 0 10
  , .tbPhaseStep hd wH (2 ^ 64) 10
  , .tbPhaseStep hd wH 0 (2 ^ 15)
  , .tbPhaseStep hd wH 0 (-2 ^ 15 - 1)
  , .tbSetSeconds hbad 6000 100
  , .tbSetSeconds hd (2 ^ 64) 100
  , .tbSetSeconds hd 6000 (2 ^ 64)
  , .clkConfig hbad 1 5 0
  , .clkConfig hd (2 ^ 8) 5 0
  , .clkConfig hd 1 (2 ^ 8) 0
  , .clkConfig hd 1 5 (2 ^ 64)
  , .clkStatus hbad
  , .portConfig hbad pH 1 0 0
  , .portConfig hd pH (2 ^ 8) 0 0
  , .portConfig hd pH 1 (2 ^ 8) 0
  , .portConfig hd pH 1 0 (2 ^ 64)
  , .portStatus hbad pH
  , .feedSet hbad pH 1 2 0
  , .feedSet hd pH (2 ^ 8) 2 0
  , .feedSet hd pH 1 (2 ^ 8) 0
  , .feedSet hd pH 1 2 (2 ^ 64)] : List Instr).any Instr.wf) = true := by decide +kernel

theorem wf_commands_3 : (
  ([ .feedReset hd pH
  , .heddleRoute hd wH pH 0
  , .warpTune hd wH (⟨100000000, 0, 0xFF, 0, 0⟩) 0
  , .warpGain hd wH 10 0
  , .warpAgc hd wH (⟨1, 0, 0, 60, -60, -100, -200, 6, 200⟩)
  , .warpStatus hd wH
  , .synStatus hd 0
  , .synDitherSet hd 0 0 1
  , .synProfileStore hd 0 1
  , .synProfileRead hd 0 1
  , .synProfileClear hd 0 1
  , .dentCreate hd dentReq 0
  , .dentSet hd dH (⟨1, 103000000000000, nullHandle, 0, 0, 0⟩) 0
  , .dentBankLoad hd dH (⟨1, 2, 0, 0, 0, []⟩)
  , .dentBankSwap hd dH 0 0] : List Instr).all Instr.wf
  && !([ .feedReset hbad pH
  , .heddleRoute hbad wH pH 0
  , .heddleRoute hd wH pH (2 ^ 64)
  , .warpTune hbad wH (⟨100000000, 0, 0xFF, 0, 0⟩) 0
  , .warpTune hd wH ({ (⟨100000000, 0, 0xFF, 0, 0⟩ : TuneReq) with freq := 2 ^ 32 }) 0
  , .warpTune hd wH (⟨100000000, 0, 0xFF, 0, 0⟩) (2 ^ 64)
  , .warpGain hbad wH 10 0
  , .warpGain hd wH (2 ^ 8) 0
  , .warpGain hd wH 10 (2 ^ 64)
  , .warpAgc hbad wH (⟨1, 0, 0, 60, -60, -100, -200, 6, 200⟩)
  , .warpAgc hd wH ({ (⟨1, 0, 0, 60, -60, -100, -200, 6, 200⟩ : AgcCfg) with mode := 256 })
  , .warpStatus hbad wH
  , .synStatus hbad 0
  , .synStatus hd (2 ^ 8)
  , .synDitherSet hbad 0 0 1
  , .synDitherSet hd (2 ^ 8) 0 1
  , .synDitherSet hd 0 (2 ^ 8) 1
  , .synDitherSet hd 0 0 (2 ^ 32)
  , .synProfileStore hbad 0 1
  , .synProfileStore hd (2 ^ 8) 1
  , .synProfileStore hd 0 (2 ^ 8)
  , .synProfileRead hbad 0 1
  , .synProfileRead hd (2 ^ 8) 1
  , .synProfileRead hd 0 (2 ^ 8)
  , .synProfileClear hbad 0 1
  , .synProfileClear hd (2 ^ 8) 1
  , .synProfileClear hd 0 (2 ^ 8)
  , .dentCreate hbad dentReq 0
  , .dentCreate hd ({ (dentReq : DentReq) with rate := 2 ^ 8 }) 0
  , .dentCreate hd ({ (dentReq : DentReq) with d := 2 ^ 8 }) 0
  , .dentCreate hd ({ (dentReq : DentReq) with bankA := 2 ^ 8 }) 0
  , .dentCreate hd ({ (dentReq : DentReq) with bankB := 2 ^ 8 }) 0
  , .dentCreate hd ({ (dentReq : DentReq) with freq := 2 ^ 64 }) 0
  , .dentCreate hd ({ (dentReq : DentReq) with bw := 2 ^ 32 }) 0
  , .dentCreate hd ({ (dentReq : DentReq) with tau := 2 ^ 16 }) 0
  , .dentCreate hd dentReq (2 ^ 64)
  , .dentSet hbad dH (⟨1, 103000000000000, nullHandle, 0, 0, 0⟩) 0
  , .dentSet hd dH ({ (⟨1, 103000000000000, nullHandle, 0, 0, 0⟩ : DentChg) with flags := 2 ^ 8 }) 0
  , .dentSet hd dH ({ (⟨1, 103000000000000, nullHandle, 0, 0, 0⟩ : DentChg) with freq := 2 ^ 64 }) 0
  , .dentSet hd dH ({ (⟨1, 103000000000000, nullHandle, 0, 0, 0⟩ : DentChg) with bw := 2 ^ 32 }) 0
  , .dentSet hd dH ({ (⟨1, 103000000000000, nullHandle, 0, 0, 0⟩ : DentChg) with tau := 2 ^ 16 }) 0
  , .dentSet hd dH ({ (⟨1, 103000000000000, nullHandle, 0, 0, 0⟩ : DentChg) with sample := 2 ^ 16 }) 0
  , .dentSet hd dH (⟨1, 103000000000000, nullHandle, 0, 0, 0⟩) (2 ^ 64)
  , .dentBankLoad hbad dH (⟨1, 2, 0, 0, 0, []⟩)
  , .dentBankLoad hd dH ({ (⟨1, 2, 0, 0, 0, []⟩ : BankReq) with bank := 2 ^ 8 })
  , .dentBankLoad hd dH ({ (⟨1, 2, 0, 0, 0, []⟩ : BankReq) with kind := 2 ^ 8 })
  , .dentBankLoad hd dH ({ (⟨1, 2, 0, 0, 0, []⟩ : BankReq) with n := 2 ^ 8 })
  , .dentBankLoad hd dH ({ (⟨1, 2, 0, 0, 0, []⟩ : BankReq) with flags := 2 ^ 8 })
  , .dentBankLoad hd dH ({ (⟨1, 2, 0, 0, 0, []⟩ : BankReq) with delay := 2 ^ 32 })
  , .dentBankLoad hd dH (⟨1, 2, 0, 0, 0, [0]⟩)
  , .dentBankLoad hd dH (⟨1, 0, 1, 0, 0, [2 ^ 31]⟩)
  , .dentBankSwap hbad dH 0 0
  , .dentBankSwap hd dH (2 ^ 16) 0
  , .dentBankSwap hd dH 0 (2 ^ 64)] : List Instr).any Instr.wf) = true := by decide +kernel

theorem wf_commands_4 : (
  ([ .dentFlush hd dH 0 0
  , .dentRelease hd dH 0 0
  , .dentStatus hd dH
  , .reedStatus hd
  , .dentBankRead hd dH 0
  , .weaveCreate hd (⟨2, 1, 128, 0xFF, 0, 0, 16, [dH], defaultBlock 1 0⟩) 0
  , .weaveStart hd amH 0
  , .weaveStop hd fmH 0
  , .weaveRelease hd fmH 0
  , .weaveSet hd fmH 100 0 0 ([])
  , .weaveStatus hd fmH
  , .schedStatus hd
  , .fmStatus hd fmH
  , .amStatus hd amH
  , .fmAfRead hd fmH 0] : List Instr).all Instr.wf
  && !([ .dentFlush hbad dH 0 0
  , .dentFlush hd dH (2 ^ 16) 0
  , .dentFlush hd dH 0 (2 ^ 64)
  , .dentRelease hbad dH 0 0
  , .dentRelease hd dH (2 ^ 16) 0
  , .dentRelease hd dH 0 (2 ^ 64)
  , .dentStatus hbad dH
  , .reedStatus hbad
  , .dentBankRead hbad dH 0
  , .dentBankRead hd dH (2 ^ 8)
  , .weaveCreate hbad (⟨2, 1, 128, 0xFF, 0, 0, 16, [dH], defaultBlock 1 0⟩) 0
  , .weaveCreate hd ({ (⟨2, 1, 128, 0xFF, 0, 0, 16, [dH], defaultBlock 1 0⟩ : WeaveReq) with type := 2 ^ 8 }) 0
  , .weaveCreate hd ({ (⟨2, 1, 128, 0xFF, 0, 0, 16, [dH], defaultBlock 1 0⟩ : WeaveReq) with n := 2 ^ 8 }) 0
  , .weaveCreate hd ({ (⟨2, 1, 128, 0xFF, 0, 0, 16, [dH], defaultBlock 1 0⟩ : WeaveReq) with prio := 2 ^ 8 }) 0
  , .weaveCreate hd ({ (⟨2, 1, 128, 0xFF, 0, 0, 16, [dH], defaultBlock 1 0⟩ : WeaveReq) with group := 2 ^ 8 }) 0
  , .weaveCreate hd ({ (⟨2, 1, 128, 0xFF, 0, 0, 16, [dH], defaultBlock 1 0⟩ : WeaveReq) with flags := 2 ^ 8 }) 0
  , .weaveCreate hd ({ (⟨2, 1, 128, 0xFF, 0, 0, 16, [dH], defaultBlock 1 0⟩ : WeaveReq) with opt := 2 ^ 8 }) 0
  , .weaveCreate hd ({ (⟨2, 1, 128, 0xFF, 0, 0, 16, [dH], defaultBlock 1 0⟩ : WeaveReq) with m := 2 ^ 16 }) 0
  , .weaveCreate hd (⟨2, 1, 128, 0xFF, 0, 0, 16, [dH], defaultBlock 1 0⟩) (2 ^ 64)
  , .weaveCreate hd ({ (⟨2, 1, 128, 0xFF, 0, 0, 16, [dH], defaultBlock 1 0⟩ : WeaveReq) with dents := long ((⟨2, 1, 128, 0xFF, 0, 0, 16, [dH], defaultBlock 1 0⟩ : WeaveReq).dents) }) 0
  , .weaveCreate hd ({ (⟨2, 1, 128, 0xFF, 0, 0, 16, [dH], defaultBlock 1 0⟩ : WeaveReq) with block := long ((⟨2, 1, 128, 0xFF, 0, 0, 16, [dH], defaultBlock 1 0⟩ : WeaveReq).block) }) 0
  , .weaveStart hbad amH 0
  , .weaveStart hd amH (2 ^ 64)
  , .weaveStop hbad fmH 0
  , .weaveStop hd fmH (2 ^ 64)
  , .weaveRelease hbad fmH 0
  , .weaveRelease hd fmH (2 ^ 64)
  , .weaveSet hbad fmH 100 0 0 ([])
  , .weaveSet hd fmH (2 ^ 8) 0 0 ([])
  , .weaveSet hd fmH 100 (2 ^ 16) 0 ([])
  , .weaveSet hd fmH 100 0 (2 ^ 64) ([])
  , .weaveSet hd fmH 100 0 0 ([default])
  , .weaveStatus hbad fmH
  , .schedStatus hbad
  , .fmStatus hbad fmH
  , .amStatus hbad amH
  , .fmAfRead hbad fmH 0
  , .fmAfRead hd fmH (2 ^ 8)] : List Instr).any Instr.wf) = true := by decide +kernel

theorem wf_commands_5 : (
  ([ .dabStatus hd dabH
  , .dabSubchRead hd dabH 1
  , .dabTiiRead hd dabH
  , .drmStatus hd drmH
  , .digDecodeSet hd dabH 1 0 ([c1H])
  , .surveyStart hd 1 0 0 ([⟨wH, 2, 300, 87500000, 108000000, 100000, 1000⟩])
  , .surveyStop hd
  , .surveyStatus hd
  , .serviceList hd 0
  , .serviceRead hd sH
  , .componentRead hd cH
  , .labelRead hd sH 1
  , .linkRead hd sH 0
  , .serviceRelease hd sH 0
  , .timePolicy hd (⟨1, 1, 2, 37, 1000, 2000, 10⟩)] : List Instr).all Instr.wf
  && !([ .dabStatus hbad dabH
  , .dabSubchRead hbad dabH 1
  , .dabSubchRead hd dabH (2 ^ 8)
  , .dabTiiRead hbad dabH
  , .drmStatus hbad drmH
  , .digDecodeSet hbad dabH 1 0 ([c1H])
  , .digDecodeSet hd dabH (2 ^ 8) 0 ([c1H])
  , .digDecodeSet hd dabH 1 (2 ^ 64) ([c1H])
  , .digDecodeSet hd dabH 1 0 (long ([c1H]))
  , .surveyStart hbad 1 0 0 ([⟨wH, 2, 300, 87500000, 108000000, 100000, 1000⟩])
  , .surveyStart hd (2 ^ 8) 0 0 ([⟨wH, 2, 300, 87500000, 108000000, 100000, 1000⟩])
  , .surveyStart hd 1 (2 ^ 8) 0 ([⟨wH, 2, 300, 87500000, 108000000, 100000, 1000⟩])
  , .surveyStart hd 1 0 (2 ^ 64) ([⟨wH, 2, 300, 87500000, 108000000, 100000, 1000⟩])
  , .surveyStart hd 1 0 0 (long ([⟨wH, 2, 300, 87500000, 108000000, 100000, 1000⟩]))
  , .surveyStart hd 1 0 0 ([⟨wH, 256, 300, 87500000, 108000000, 100000, 1000⟩])
  , .surveyStop hbad
  , .surveyStatus hbad
  , .serviceList hbad 0
  , .serviceList hd (2 ^ 16)
  , .serviceRead hbad sH
  , .componentRead hbad cH
  , .labelRead hbad sH 1
  , .labelRead hd sH (2 ^ 8)
  , .linkRead hbad sH 0
  , .linkRead hd sH (2 ^ 16)
  , .serviceRelease hbad sH 0
  , .serviceRelease hd sH (2 ^ 64)
  , .timePolicy hbad (⟨1, 1, 2, 37, 1000, 2000, 10⟩)
  , .timePolicy hd ({ (⟨1, 1, 2, 37, 1000, 2000, 10⟩ : TimeCfg) with mode := 256 })] : List Instr).any Instr.wf) = true := by decide +kernel

theorem wf_commands_6 : (
  ([ .timeStatus hd
  , .followCreate hd 1 0xFF 0 4800 0 ([srcDemo cH])
  , .followSet hd folH 1 0 ([srcDemo c1H])
  , .followCommit hd folH 1 0 0 0
  , .followRelease hd folH 0
  , .followStatus hd folH
  , .followPolicy hd folH ({ polDemo with thr := 60, visit := 1000 })
  , .measRead hd dH
  , .measWindow hd dH 60
  , .measThreshold hd dH thrDemo
  , .loudnessRead hd cH
  , .loudnessReset hd cH 0
  , .audioMonSet hd cH (⟨3, 10, -600, 10, 10⟩)
  , .verifySet hd ({ verifDemo with match_ := 80, mismatch := 50 }) 0
  , .verifyClear hd 0 0] : List Instr).all Instr.wf
  && !([ .timeStatus hbad
  , .followCreate hbad 1 0xFF 0 4800 0 ([srcDemo cH])
  , .followCreate hd (2 ^ 8) 0xFF 0 4800 0 ([srcDemo cH])
  , .followCreate hd 1 (2 ^ 8) 0 4800 0 ([srcDemo cH])
  , .followCreate hd 1 0xFF (2 ^ 8) 4800 0 ([srcDemo cH])
  , .followCreate hd 1 0xFF 0 (2 ^ 32) 0 ([srcDemo cH])
  , .followCreate hd 1 0xFF 0 4800 (2 ^ 64) ([srcDemo cH])
  , .followCreate hd 1 0xFF 0 4800 0 (long ([srcDemo cH]))
  , .followCreate hd 1 0xFF 0 4800 0 ([{ srcDemo cH with mask := 2 ^ 32 }])
  , .followSet hbad folH 1 0 ([srcDemo c1H])
  , .followSet hd folH (2 ^ 8) 0 ([srcDemo c1H])
  , .followSet hd folH 1 (2 ^ 64) ([srcDemo c1H])
  , .followSet hd folH 1 0 (long ([srcDemo c1H]))
  , .followSet hd folH 1 0 ([{ srcDemo cH with mask := 2 ^ 32 }])
  , .followCommit hbad folH 1 0 0 0
  , .followCommit hd folH (2 ^ 8) 0 0 0
  , .followCommit hd folH 1 (2 ^ 16) 0 0
  , .followCommit hd folH 1 0 (2 ^ 64) 0
  , .followCommit hd folH 1 0 0 (2 ^ 16)
  , .followRelease hbad folH 0
  , .followRelease hd folH (2 ^ 64)
  , .followStatus hbad folH
  , .followPolicy hbad folH ({ polDemo with thr := 60, visit := 1000 })
  , .followPolicy hd folH ({ ({ polDemo with thr := 60, visit := 1000 } : FollowCfg) with mode := 2 ^ 8 })
  , .followPolicy hd folH ({ ({ polDemo with thr := 60, visit := 1000 } : FollowCfg) with flags := 2 ^ 8 })
  , .followPolicy hd folH ({ ({ polDemo with thr := 60, visit := 1000 } : FollowCfg) with fade := 2 ^ 16 })
  , .followPolicy hd folH ({ ({ polDemo with thr := 60, visit := 1000 } : FollowCfg) with thr := 2 ^ 16 })
  , .followPolicy hd folH ({ ({ polDemo with thr := 60, visit := 1000 } : FollowCfg) with k := 2 ^ 8 })
  , .followPolicy hd folH ({ ({ polDemo with thr := 60, visit := 1000 } : FollowCfg) with revert := 2 ^ 16 })
  , .followPolicy hd folH ({ ({ polDemo with thr := 60, visit := 1000 } : FollowCfg) with visit := 2 ^ 16 })
  , .followPolicy hd folH ({ ({ polDemo with thr := 60, visit := 1000 } : FollowCfg) with curPrio := 2 ^ 8 })
  , .followPolicy hd folH ({ ({ polDemo with thr := 60, visit := 1000 } : FollowCfg) with runPrio := 2 ^ 8 })
  , .followPolicy hd folH ({ ({ polDemo with thr := 60, visit := 1000 } : FollowCfg) with lossHold := 2 ^ 16 })
  , .measRead hbad dH
  , .measWindow hbad dH 60
  , .measWindow hd dH (2 ^ 16)
  , .measThreshold hbad dH thrDemo
  , .measThreshold hd dH ({ (thrDemo : ThrReq) with code := 2 ^ 8 })
  , .measThreshold hd dH ({ (thrDemo : ThrReq) with basis := 2 ^ 8 })
  , .measThreshold hd dH ({ (thrDemo : ThrReq) with hold := 2 ^ 16 })
  , .measThreshold hd dH ({ thrDemo with low := some (-2 ^ 31) })
  , .measThreshold hd dH ({ thrDemo with low := some (2 ^ 31) })
  , .measThreshold hd dH ({ thrDemo with high := some (2 ^ 31 - 1) })
  , .measThreshold hd dH ({ thrDemo with high := some (-2 ^ 31 - 1) })
  , .measThreshold hd dH ({ (thrDemo : ThrReq) with hyst := 2 ^ 32 })
  , .loudnessRead hbad cH
  , .loudnessReset hbad cH 0
  , .loudnessReset hd cH (2 ^ 64)
  , .audioMonSet hbad cH (⟨3, 10, -600, 10, 10⟩)
  , .audioMonSet hd cH ({ (⟨3, 10, -600, 10, 10⟩ : MonCfg) with flags := 2 ^ 8 })
  , .audioMonSet hd cH ({ (⟨3, 10, -600, 10, 10⟩ : MonCfg) with units := 2 ^ 8 })
  , .audioMonSet hd cH ({ (⟨3, 10, -600, 10, 10⟩ : MonCfg) with silThr := 2 ^ 15 })
  , .audioMonSet hd cH ({ (⟨3, 10, -600, 10, 10⟩ : MonCfg) with silThr := -2 ^ 15 - 1 })
  , .audioMonSet hd cH ({ (⟨3, 10, -600, 10, 10⟩ : MonCfg) with silHold := 2 ^ 16 })
  , .audioMonSet hd cH ({ (⟨3, 10, -600, 10, 10⟩ : MonCfg) with frzHold := 2 ^ 16 })
  , .verifySet hbad ({ verifDemo with match_ := 80, mismatch := 50 }) 0
  , .verifySet hd ({ ({ verifDemo with match_ := 80, mismatch := 50 } : VerifyReq) with index := 2 ^ 8 }) 0
  , .verifySet hd ({ ({ verifDemo with match_ := 80, mismatch := 50 } : VerifyReq) with kind := 2 ^ 8 }) 0
  , .verifySet hd ({ ({ verifDemo with match_ := 80, mismatch := 50 } : VerifyReq) with flags := 2 ^ 8 }) 0
  , .verifySet hd ({ ({ verifDemo with match_ := 80, mismatch := 50 } : VerifyReq) with group := 2 ^ 8 }) 0
  , .verifySet hd ({ ({ verifDemo with match_ := 80, mismatch := 50 } : VerifyReq) with slotL := 2 ^ 8 }) 0
  , .verifySet hd ({ ({ verifDemo with match_ := 80, mismatch := 50 } : VerifyReq) with slotR := 2 ^ 8 }) 0
  , .verifySet hd ({ ({ verifDemo with match_ := 80, mismatch := 50 } : VerifyReq) with min := 2 ^ 31 }) 0
  , .verifySet hd ({ ({ verifDemo with match_ := 80, mismatch := 50 } : VerifyReq) with min := -2 ^ 31 - 1 }) 0
  , .verifySet hd ({ ({ verifDemo with match_ := 80, mismatch := 50 } : VerifyReq) with max := 2 ^ 31 }) 0
  , .verifySet hd ({ ({ verifDemo with match_ := 80, mismatch := 50 } : VerifyReq) with max := -2 ^ 31 - 1 }) 0
  , .verifySet hd ({ ({ verifDemo with match_ := 80, mismatch := 50 } : VerifyReq) with match_ := 2 ^ 16 }) 0
  , .verifySet hd ({ ({ verifDemo with match_ := 80, mismatch := 50 } : VerifyReq) with mismatch := 2 ^ 16 }) 0
  , .verifySet hd ({ ({ verifDemo with match_ := 80, mismatch := 50 } : VerifyReq) with k := 2 ^ 8 }) 0
  , .verifySet hd ({ ({ verifDemo with match_ := 80, mismatch := 50 } : VerifyReq) with m := 2 ^ 8 }) 0
  , .verifySet hd ({ verifDemo with match_ := 80, mismatch := 50 }) (2 ^ 64)
  , .verifyClear hbad 0 0
  , .verifyClear hd (2 ^ 8) 0
  , .verifyClear hd 0 (2 ^ 64)] : List Instr).any Instr.wf) = true := by decide +kernel

theorem wf_commands_7 : (
  ([ .verifyStatus hd 0
  , .tdmPortConfig hd (mkHandle 9 1 1) tdmDemo 0
  , .tdmPortStatus hd tpH
  , .tdmStreamCreate hd (⟨tpH, c1H, 2, 3, 0, 0⟩) 0
  , .tdmStreamRelease hd tsH 0
  , .alignCreate hd 0
  , .alignAdd hd alH tsH 0
  , .alignRemove hd alH tsH 0
  , .alignRelease hd alH 0
  , .alignStatus hd alH
  , .ethPortConfig hd (mkHandle 0x0D 1 1) ethDemo 0
  , .ethPortStatus hd epH
  , .ethStreamCreate hd ({ ethReqDemo with sources := [c1H], dest := 0xEF000001000000000000000000000000 }) 0
  , .ethStreamRelease hd esH 0
  , .ethStreamStatus hd esH] : List Instr).all Instr.wf
  && !([ .verifyStatus hbad 0
  , .verifyStatus hd (2 ^ 8)
  , .tdmPortConfig hbad (mkHandle 9 1 1) tdmDemo 0
  , .tdmPortConfig hd (mkHandle 9 1 1) ({ (tdmDemo : TdmCfg) with dir := 256 }) 0
  , .tdmPortConfig hd (mkHandle 9 1 1) tdmDemo (2 ^ 64)
  , .tdmPortStatus hbad tpH
  , .tdmStreamCreate hbad (⟨tpH, c1H, 2, 3, 0, 0⟩) 0
  , .tdmStreamCreate hd ({ (⟨tpH, c1H, 2, 3, 0, 0⟩ : TdmStreamReq) with slotA := 2 ^ 8 }) 0
  , .tdmStreamCreate hd ({ (⟨tpH, c1H, 2, 3, 0, 0⟩ : TdmStreamReq) with slotB := 2 ^ 8 }) 0
  , .tdmStreamCreate hd ({ (⟨tpH, c1H, 2, 3, 0, 0⟩ : TdmStreamReq) with chan := 2 ^ 8 }) 0
  , .tdmStreamCreate hd ({ (⟨tpH, c1H, 2, 3, 0, 0⟩ : TdmStreamReq) with shift := 2 ^ 8 }) 0
  , .tdmStreamCreate hd (⟨tpH, c1H, 2, 3, 0, 0⟩) (2 ^ 64)
  , .tdmStreamRelease hbad tsH 0
  , .tdmStreamRelease hd tsH (2 ^ 64)
  , .alignCreate hbad 0
  , .alignCreate hd (2 ^ 64)
  , .alignAdd hbad alH tsH 0
  , .alignAdd hd alH tsH (2 ^ 64)
  , .alignRemove hbad alH tsH 0
  , .alignRemove hd alH tsH (2 ^ 64)
  , .alignRelease hbad alH 0
  , .alignRelease hd alH (2 ^ 64)
  , .alignStatus hbad alH
  , .ethPortConfig hbad (mkHandle 0x0D 1 1) ethDemo 0
  , .ethPortConfig hd (mkHandle 0x0D 1 1) ({ (ethDemo : EthCfg) with flags := 256 }) 0
  , .ethPortConfig hd (mkHandle 0x0D 1 1) ethDemo (2 ^ 64)
  , .ethPortStatus hbad epH
  , .ethStreamCreate hbad ({ ethReqDemo with sources := [c1H], dest := 0xEF000001000000000000000000000000 }) 0
  , .ethStreamCreate hd ({ ({ ethReqDemo with sources := [c1H], dest := 0xEF000001000000000000000000000000 } : EthReq) with kind := 2 ^ 8 }) 0
  , .ethStreamCreate hd ({ ({ ethReqDemo with sources := [c1H], dest := 0xEF000001000000000000000000000000 } : EthReq) with ports := 2 ^ 8 }) 0
  , .ethStreamCreate hd ({ ({ ethReqDemo with sources := [c1H], dest := 0xEF000001000000000000000000000000 } : EthReq) with flags := 2 ^ 8 }) 0
  , .ethStreamCreate hd ({ ({ ethReqDemo with sources := [c1H], dest := 0xEF000001000000000000000000000000 } : EthReq) with chan := 2 ^ 8 }) 0
  , .ethStreamCreate hd ({ ({ ethReqDemo with sources := [c1H], dest := 0xEF000001000000000000000000000000 } : EthReq) with shift := 2 ^ 8 }) 0
  , .ethStreamCreate hd ({ ({ ethReqDemo with sources := [c1H], dest := 0xEF000001000000000000000000000000 } : EthReq) with ptype := 2 ^ 8 }) 0
  , .ethStreamCreate hd ({ ({ ethReqDemo with sources := [c1H], dest := 0xEF000001000000000000000000000000 } : EthReq) with n := 2 ^ 16 }) 0
  , .ethStreamCreate hd ({ ethReqDemo with sources := [c1H], dest := 0xEF000001000000000000000000000000 }) (2 ^ 64)
  , .ethStreamCreate hd ({ ({ ethReqDemo with sources := [c1H], dest := 0xEF000001000000000000000000000000 } : EthReq) with dest := 2 ^ 128 }) 0
  , .ethStreamCreate hd ({ ({ ethReqDemo with sources := [c1H], dest := 0xEF000001000000000000000000000000 } : EthReq) with dport := 2 ^ 16 }) 0
  , .ethStreamCreate hd ({ ({ ethReqDemo with sources := [c1H], dest := 0xEF000001000000000000000000000000 } : EthReq) with sport := 2 ^ 16 }) 0
  , .ethStreamCreate hd ({ ({ ethReqDemo with sources := [c1H], dest := 0xEF000001000000000000000000000000 } : EthReq) with ssrc := 2 ^ 32 }) 0
  , .ethStreamCreate hd ({ ({ ethReqDemo with sources := [c1H], dest := 0xEF000001000000000000000000000000 } : EthReq) with seqOff := 2 ^ 16 }) 0
  , .ethStreamCreate hd ({ ({ ethReqDemo with sources := [c1H], dest := 0xEF000001000000000000000000000000 } : EthReq) with tsOff := 2 ^ 32 }) 0
  , .ethStreamCreate hd ({ ({ ethReqDemo with sources := [c1H], dest := 0xEF000001000000000000000000000000 } : EthReq) with budget := 2 ^ 32 }) 0
  , .ethStreamCreate hd ({ ({ ethReqDemo with sources := [c1H], dest := 0xEF000001000000000000000000000000 } : EthReq) with sources := long (({ ethReqDemo with sources := [c1H], dest := 0xEF000001000000000000000000000000 } : EthReq).sources) }) 0
  , .ethStreamRelease hbad esH 0
  , .ethStreamRelease hd esH (2 ^ 64)
  , .ethStreamStatus hbad esH] : List Instr).any Instr.wf) = true := by decide +kernel

theorem wf_commands_8 : (
  ([ .rtcRead hd
  , .rtcSet hd 1 0 0
  , .rtcTrim hd (-5)
  , .rtcAlarmSet hd 1 1 5
  , .rtcStatus hd
  , .rtcWeekdaySet hd 3 0
  , .rtcConfig hd 960 2200
  , .dateToTicks hd (⟨2028, 2, 29, 12, 0, 0, 0⟩)
  , .ticksToDate hd 60143645491200
  , .recordStatus hd recH
  , .recordRead hd recH 0xFF 4 0
  , .recordResolve hd recH 0
  , .limitsWrite hm limitsReset
  , .trimWrite hm 0 8 0 (zeros 4)
  , .fwStatus hd] : List Instr).all Instr.wf
  && !([ .rtcRead hbad
  , .rtcSet hbad 1 0 0
  , .rtcSet hd (2 ^ 8) 0 0
  , .rtcSet hd 1 (2 ^ 64) 0
  , .rtcSet hd 1 0 (2 ^ 64)
  , .rtcTrim hbad (-5)
  , .rtcTrim hd (2 ^ 7)
  , .rtcTrim hd (-2 ^ 7 - 1)
  , .rtcAlarmSet hbad 1 1 5
  , .rtcAlarmSet hd (2 ^ 8) 1 5
  , .rtcAlarmSet hd 1 (2 ^ 8) 5
  , .rtcAlarmSet hd 1 1 (2 ^ 64)
  , .rtcStatus hbad
  , .rtcWeekdaySet hbad 3 0
  , .rtcWeekdaySet hd (2 ^ 8) 0
  , .rtcWeekdaySet hd 3 (2 ^ 32)
  , .rtcConfig hbad 960 2200
  , .rtcConfig hd (2 ^ 16) 2200
  , .rtcConfig hd 960 (2 ^ 16)
  , .dateToTicks hbad (⟨2028, 2, 29, 12, 0, 0, 0⟩)
  , .dateToTicks hd ({ (⟨2028, 2, 29, 12, 0, 0, 0⟩ : Date) with year := 2 ^ 16 })
  , .dateToTicks hd ({ (⟨2028, 2, 29, 12, 0, 0, 0⟩ : Date) with month := 2 ^ 8 })
  , .dateToTicks hd ({ (⟨2028, 2, 29, 12, 0, 0, 0⟩ : Date) with day := 2 ^ 8 })
  , .dateToTicks hd ({ (⟨2028, 2, 29, 12, 0, 0, 0⟩ : Date) with hour := 2 ^ 8 })
  , .dateToTicks hd ({ (⟨2028, 2, 29, 12, 0, 0, 0⟩ : Date) with minute := 2 ^ 8 })
  , .dateToTicks hd ({ (⟨2028, 2, 29, 12, 0, 0, 0⟩ : Date) with second := 2 ^ 8 })
  , .dateToTicks hd ({ (⟨2028, 2, 29, 12, 0, 0, 0⟩ : Date) with sub := 2 ^ 16 })
  , .ticksToDate hbad 60143645491200
  , .ticksToDate hd (2 ^ 64)
  , .recordStatus hbad recH
  , .recordRead hbad recH 0xFF 4 0
  , .recordRead hd recH (2 ^ 8) 4 0
  , .recordRead hd recH 0xFF (2 ^ 16) 0
  , .recordRead hd recH 0xFF 4 (2 ^ 32)
  , .recordResolve hbad recH 0
  , .recordResolve hd recH (2 ^ 8)
  , .limitsWrite hbad limitsReset
  , .limitsWrite hm ({ (limitsReset : Limits) with allowance := 2 ^ 16 })
  , .limitsWrite hm ({ (limitsReset : Limits) with ports := long ((limitsReset : Limits).ports) })
  , .limitsWrite hm ({ limitsReset with ports := limitsReset.ports.map fun p => { p with feed := 2 ^ 16 } })
  , .trimWrite hbad 0 8 0 (zeros 4)
  , .trimWrite hm (2 ^ 32) 8 0 (zeros 4)
  , .trimWrite hm 0 (2 ^ 32) 0 (zeros 4)
  , .trimWrite hm 0 8 (2 ^ 8) (zeros 4)
  , .trimWrite hm 0 8 0 (zeros 4085)
  , .fwStatus hbad] : List Instr).any Instr.wf) = true := by decide +kernel

theorem wf_commands_9 : (
  ([ .fwLoadBegin hd 1 300
  , .fwLoadData hd 0 (zeros 4)
  , .fwLoadEnd hd
  , .fwBoot hd 0 0 0x7440B007
  , .fwKeyWrite hm 0 1 (zeros 64)
  , .lifecycleLock hm 0x744010CC
  , .pairConfig hd (⟨1, 2, 0, 1, [0, 1, 2, 3]⟩) 0
  , .pairStatus hd
  , .pairHandover hd 0 0
  , .deviceIdSet hd 1
  , .farmStatus hd
  , .calPolicy hd (⟨30, 0x0F, 0, 600⟩)
  , .calRequest hd wH 0
  , .calStatus hd wH
  , .calResultRead hd wH 0 3] : List Instr).all Instr.wf
  && !([ .fwLoadBegin hbad 1 300
  , .fwLoadBegin hd (2 ^ 8) 300
  , .fwLoadBegin hd 1 (2 ^ 32)
  , .fwLoadData hbad 0 (zeros 4)
  , .fwLoadData hd (2 ^ 32) (zeros 4)
  , .fwLoadData hd 0 (zeros 4093)
  , .fwLoadEnd hbad
  , .fwBoot hbad 0 0 0x7440B007
  , .fwBoot hd (2 ^ 8) 0 0x7440B007
  , .fwBoot hd 0 (2 ^ 8) 0x7440B007
  , .fwBoot hd 0 0 (2 ^ 32)
  , .fwKeyWrite hbad 0 1 (zeros 64)
  , .fwKeyWrite hm (2 ^ 8) 1 (zeros 64)
  , .fwKeyWrite hm 0 (2 ^ 8) (zeros 64)
  , .fwKeyWrite hm 0 1 (long (zeros 64))
  , .lifecycleLock hbad 0x744010CC
  , .lifecycleLock hm (2 ^ 32)
  , .pairConfig hbad (⟨1, 2, 0, 1, [0, 1, 2, 3]⟩) 0
  , .pairConfig hd ({ (⟨1, 2, 0, 1, [0, 1, 2, 3]⟩ : PairCfg) with id := 2 ^ 32 }) 0
  , .pairConfig hd ({ (⟨1, 2, 0, 1, [0, 1, 2, 3]⟩ : PairCfg) with partner := 2 ^ 32 }) 0
  , .pairConfig hd ({ (⟨1, 2, 0, 1, [0, 1, 2, 3]⟩ : PairCfg) with position := 2 ^ 8 }) 0
  , .pairConfig hd ({ (⟨1, 2, 0, 1, [0, 1, 2, 3]⟩ : PairCfg) with flags := 2 ^ 8 }) 0
  , .pairConfig hd ({ (⟨1, 2, 0, 1, [0, 1, 2, 3]⟩ : PairCfg) with map := long ((⟨1, 2, 0, 1, [0, 1, 2, 3]⟩ : PairCfg).map) }) 0
  , .pairConfig hd ({ (⟨1, 2, 0, 1, [0, 1, 2, 3]⟩ : PairCfg) with map := [256, 1, 2, 3] }) 0
  , .pairConfig hd (⟨1, 2, 0, 1, [0, 1, 2, 3]⟩) (2 ^ 64)
  , .pairStatus hbad
  , .pairHandover hbad 0 0
  , .pairHandover hd (2 ^ 8) 0
  , .pairHandover hd 0 (2 ^ 64)
  , .deviceIdSet hbad 1
  , .deviceIdSet hd (2 ^ 16)
  , .farmStatus hbad
  , .calPolicy hbad (⟨30, 0x0F, 0, 600⟩)
  , .calPolicy hd ({ (⟨30, 0x0F, 0, 600⟩ : CalCfg) with dT := 2 ^ 16 })
  , .calRequest hbad wH 0
  , .calRequest hd wH (2 ^ 8)
  , .calStatus hbad wH
  , .calResultRead hbad wH 0 3
  , .calResultRead hd wH (2 ^ 8) 3
  , .calResultRead hd wH 0 (2 ^ 8)] : List Instr).any Instr.wf) = true := by decide +kernel

theorem wf_commands_10 : (
  ([ .calSnapshot hd
  , .tunerPresetWrite hd pH 1 (⟨1, 1, 1, 1, 100000000, 0⟩)
  , .tunerPresetRead hd pH 1
  , .tunerSelect hd pH 1 0 0
  , .tunerStatus hd pH
  , .probeStart hd (⟨pH, -100, 1, 0, 0, 100, 0, [100000000]⟩)
  , .probeStop hd
  , .probeStatus hd
  , .mismatchMeasure hd pH 1 50 0 ([100000000])
  , .mismatchRead hd pH] : List Instr).all Instr.wf
  && !([ .calSnapshot hbad
  , .tunerPresetWrite hbad pH 1 (⟨1, 1, 1, 1, 100000000, 0⟩)
  , .tunerPresetWrite hd pH (2 ^ 8) (⟨1, 1, 1, 1, 100000000, 0⟩)
  , .tunerPresetWrite hd pH 1 ({ (⟨1, 1, 1, 1, 100000000, 0⟩ : Preset) with c1 := 256 })
  , .tunerPresetRead hbad pH 1
  , .tunerPresetRead hd pH (2 ^ 8)
  , .tunerSelect hbad pH 1 0 0
  , .tunerSelect hd pH (2 ^ 8) 0 0
  , .tunerSelect hd pH 1 (2 ^ 8) 0
  , .tunerSelect hd pH 1 0 (2 ^ 64)
  , .tunerStatus hbad pH
  , .probeStart hbad (⟨pH, -100, 1, 0, 0, 100, 0, [100000000]⟩)
  , .probeStart hd ({ (⟨pH, -100, 1, 0, 0, 100, 0, [100000000]⟩ : ProbeReq) with level := 2 ^ 15 })
  , .probeStart hd ({ (⟨pH, -100, 1, 0, 0, 100, 0, [100000000]⟩ : ProbeReq) with level := -2 ^ 15 - 1 })
  , .probeStart hd ({ (⟨pH, -100, 1, 0, 0, 100, 0, [100000000]⟩ : ProbeReq) with points := 2 ^ 8 })
  , .probeStart hd ({ (⟨pH, -100, 1, 0, 0, 100, 0, [100000000]⟩ : ProbeReq) with flags := 2 ^ 8 })
  , .probeStart hd ({ (⟨pH, -100, 1, 0, 0, 100, 0, [100000000]⟩ : ProbeReq) with target := 2 ^ 64 })
  , .probeStart hd ({ (⟨pH, -100, 1, 0, 0, 100, 0, [100000000]⟩ : ProbeReq) with duration := 2 ^ 32 })
  , .probeStart hd ({ (⟨pH, -100, 1, 0, 0, 100, 0, [100000000]⟩ : ProbeReq) with threshold := 2 ^ 16 })
  , .probeStart hd ({ (⟨pH, -100, 1, 0, 0, 100, 0, [100000000]⟩ : ProbeReq) with freqs := long ((⟨pH, -100, 1, 0, 0, 100, 0, [100000000]⟩ : ProbeReq).freqs) })
  , .probeStart hd ({ (⟨pH, -100, 1, 0, 0, 100, 0, [100000000]⟩ : ProbeReq) with freqs := [2 ^ 32] })
  , .probeStop hbad
  , .probeStatus hbad
  , .mismatchMeasure hbad pH 1 50 0 ([100000000])
  , .mismatchMeasure hd pH (2 ^ 8) 50 0 ([100000000])
  , .mismatchMeasure hd pH 1 (2 ^ 16) 0 ([100000000])
  , .mismatchMeasure hd pH 1 50 (2 ^ 64) ([100000000])
  , .mismatchMeasure hd pH 1 50 0 (long ([100000000]))
  , .mismatchMeasure hd pH 1 50 0 ([2 ^ 32])
  , .mismatchRead hbad pH] : List Instr).any Instr.wf) = true := by decide +kernel

/-! Values the spec works out. -/

/-- The ASCII string 123456789. -/
def digits : List Byte := (List.range 9).map fun k => BitVec.ofNat 8 (0x31 + k)

/-- R445. -/
theorem test_crc32c : crc32c digits = 0xE3069283#32 := by decide +kernel

/-- R511. -/
theorem test_pec : pec digits = 0xF4#8 := by decide +kernel

/-- The worked example of chapter 20: 2028-02-29 12:00:00 is a Tuesday. -/
theorem test_date : (dateTicks ⟨2028, 2, 29, 12, 0, 0, 0⟩ == 60143645491200 && ticksDate 60143645491200 == ⟨2028, 2, 29, 12, 0, 0, 0⟩
    && ticksWeekday 60143645491200 == 1) = true := by decide +kernel

/-- R543: 2000 is a leap year and 2100 is not, and no second 60 exists. -/
theorem test_calendar : (dateOk ⟨2000, 2, 29, 0, 0, 0, 0⟩ && !dateOk ⟨2100, 2, 29, 0, 0, 0, 0⟩ && !dateOk ⟨2016, 12, 31, 23, 59, 60, 0⟩)
    = true := by decide +kernel

/-- The table gives no row any bits. -/
theorem test_no_word : decodeTableWord 16 0x0101 = none := rfl

/-- Parameter bytes written out from the layouts of the spec, one command of each family of opcodes. -/
theorem test_decode :
    (decodeCmd hd 0x0103 [5, 0, 0, 0, 0, 0, 0, 0, 0x34, 0x12, 0, 0, 0, 0, 0, 0] == some (.sysModeSet hd 5 0x1234)
    && decodeCmd hd 0x0201 [2, 0, 0, 0] == some (.sessionOpen hd 2)
    && decodeCmd hd 0x0221 [0xEA, 0xC1, 0x40, 0x74, 0, 0, 0, 0] == some (.auditClear hd 0x7440C1EA)
    && decodeCmd hd 0x0D11 [0, 0x80, 0, 0, 0, 0, 0, 0] == some (.ticksToDate hd 32768)
    && decodeCmd hd 0x01FF [] == none && decodeCmd hd 0x0101 [0] == none) = true := by decide +kernel

/-- A packet of SYS_IDENT, checked and read (R443, R447). -/
def identPacket : List Byte := withCrc [1, 0, 1, 1, 0, 0, 7, 0xFF]

theorem test_packet : (match interpret ⟨.spi, identPacket⟩ rdy with
    | .run i _ => i == .sysIdent ⟨.spi, 7, 0xFF, false⟩
    | .reply _ => false) = true := by decide +kernel

/-- One wrong bit in the checksum: S_BAD_CRC, counted, and no effect. -/
theorem test_bad_crc : (match interpret ⟨.spi, identPacket.set 8 (identPacket.getD 8 0 ^^^ 1)⟩ rdy with
    | .run _ _ => false
    | .reply s => s.proto.badCrc == 1 && s.sys == rdy.sys && (s.proto.spi.reply.isSome)) = true := by decide +kernel

/-- SYS_MODE_SET to SURVEY waits for its boundary (R37, R38). -/
theorem test_mode_set : nextB (exec (.sysModeSet hd 4 0) rdy) (fun s => s.sys.mode == .watch && s.sched.map (·.due) == [5002]) = true := by
  decide +kernel

/-- An operator may not switch the domains (R468, R481). -/
theorem test_domain_right : nextB (exec (.sysDomainSet ho 0 0x200 0) rdy) (fun s => s.sched == []) = true := by decide +kernel

/-! What the statements assume, met together: a state and operands for each. -/

/-- StepRunsFrontCommand. -/
theorem meets_front : ({ rdy with pending := [.sysIdent hd, .sysStatus hd] } : State).pending = .sysIdent hd :: [.sysStatus hd] := rfl

/-- EmptyQueueIdles: nothing waits, a packet is refused, a packet is run, and BACKUP. -/
theorem meets_idle :
    (let q : List Byte → State := fun b => { rdy with proto := { rdy.proto with queue := [⟨.spi, b⟩] } }
    rdy.pending == [] && (nextTaken rdy).isNone
    && (q [1]).pending == [] && ((nextTaken (q [1])).any fun x => match interpret x.1 x.2 with | .reply _ => true | .run _ _ => false)
    && ((nextTaken (q identPacket)).any fun x => match interpret x.1 x.2 with | .run _ _ => true | .reply _ => false)
    && ({ q identPacket with sys := { rdy.sys with mode := .backup } } : State).sys.mode == .backup) = true := by decide +kernel

/-- StepsKeepTheInvariant, at both bounds of the queue and with the fuse blown. -/
def fullQueue (n last : Nat) : List Event := List.replicate (n - 1) ⟨1, 0x0101, []⟩ ++ [⟨2, last, zeros 24⟩]
theorem meets_invariant :
    (let s : State := { rdy with pending := [.sysIdent hd], proto := { rdy.proto with events := fullQueue 1024 0x0102 }
                                 rtc := { rdy.rtc with weekday := 6 }, fw := { rdy.fw with locked := true } }
    let u : State := { s with proto := { rdy.proto with events := fullQueue 1023 0x0101 } }
    nextB (step s) (fun _ => true) && nextB (step u) (fun _ => true) && s.fw.locked && decide (s.rtc.weekday < 7)
    && s.proto.events.length == 1024 && s.proto.events.getLast?.map (·.code) == some 0x0102 && u.proto.events.length == 1023) = true := by
  decide +kernel

/-- PacketsReadBack, at the longest parameters. -/
theorem meets_read_back :
    ((.trimWrite hd 0xFFFFFFFF 0xFFFFFFFF 255 (zeros 4084) : Instr).wf && hdrOf (.trimWrite hd 0xFFFFFFFF 0xFFFFFFFF 255 (zeros 4084)) == some hd
    && (.rtcTrim hd (-128) : Instr).wf && (.sysIdent hd : Instr).wf) = true := by decide +kernel

/-- FieldsAreLittleEndian, at the ends of a two-byte field. -/
theorem meets_fields : (-(256 ^ 2 : Int) ≤ 2 * (-32768) ∧ (2 * 32767 : Int) < 256 ^ 2 ∧ (2 * (-32768) : Int) < 256 ^ 2 ∧ 1 < 2) := by decide

/-- HandleLayout: the largest fields, an index never issued and one issued again after generation 255. -/
theorem meets_handles :
    (let full : State := { rdy with reg := { rdy.reg with fresh := [(3, classSize 3)], freed := [(3, 7, 255)] } }
    decide (255 < 256 ∧ 65535 < 65536) && nextIndex rdy 3 == some (0, 1) && decide ((tget rdy.reg.fresh 3).getD 0 < classSize 3)
    && !decide ((tget full.reg.fresh 3).getD 0 < classSize 3) && (full.reg.freed.find? fun x => x.1 == 3) == some (3, 7, 255)
    && nextIndex full 3 == some (7, 1)) = true := by decide +kernel

/-- The premise of BadHandlesAreRefused and RegistryStaysSound, as a check. -/
def soundB (s : State) : Bool :=
  (s.reg.objs.all fun o => 1 ≤ o.gen && o.gen < 256 && o.idx < classSize o.cls && o.cls < 256)
    && s.reg.freed.all fun x => 1 ≤ x.2.2 && x.2.2 < 256 && x.2.1 < classSize x.1

/-- BadHandlesAreRefused: generation 0, no such class, beyond the class, another class, the null handle, another generation. -/
theorem meets_bad_handles :
    (soundB bsy && hGen (mkHandle 3 0 0) == 0 && classSize (hClass (mkHandle 0x0F 0 1)) == 0
    && decide (classSize (hClass (mkHandle 3 (classSize 3) 1)) ≤ hIndex (mkHandle 3 (classSize 3) 1)) && hClass wH != 3
    && bsy.reg.objs.all fun o => !(o.cls == 3 && o.idx == 0 && o.gen == 2)) = true := by decide +kernel

/-- RegistryStaysSound: an object is issued, also from an index freed with generation 255. -/
theorem meets_registry :
    (let full : State := { rdy with reg := { rdy.reg with fresh := [(3, classSize 3)], freed := [(3, 7, 255)] } }
    soundB bsy && soundB full && bsy.pair.applying.isNone && (issue 3 .active [] [] 5000 bsy).isSome && (issue 3 .active [] [] 5000 full).isSome)
    = true := by decide +kernel

/-- NoRightIsRefused: an anonymous packet, also of a command that resets. -/
theorem meets_no_right :
    ([.sysModeSet han 4 0, .sysReset han 1 0x7440A55A].all fun (i : Instr) => hdrOf i == some han && rdy.sys.mode != .backup
    && rdy.pair.applying.isNone && rdy.sys.resetReq.isNone && (opRow (opOf i)).any fun x => !rightOk x.1 han rdy) = true := by decide +kernel

/-- WrongModeIsRefused: an installer's packet in DORMANT. -/
theorem meets_wrong_mode :
    (let s : State := { rdy with sys := { rdy.sys with mode := .dormant } }
    [.sysModeSet hd 4 0, .heddleRoute hd pH wH 0].all fun (i : Instr) => hdrOf i == some hd && s.sys.mode != .backup
    && s.pair.applying.isNone && s.sys.resetReq.isNone
    && (opRow (opOf i)).any fun x => rightOk x.1 hd s && (x.2.refuses s.sys.mode).isSome) = true := by decide +kernel

/-- BackupServesNoCommand. -/
theorem meets_backup : (hdrOf (.sysReset hd 1 0) == some hd && ({ rdy with sys := { rdy.sys with mode := .backup } } : State).sys.mode == .backup
    && rdy.sys.resetReq.isNone) = true := by decide +kernel

/-- RefusalsHaveNoEffect: a command whose body refuses. -/
theorem meets_refusal :
    (let i : Instr := .rtcTrim hd 127
    admits i rdy && hdrOf i == some hd && !Status.good .badParam && (opRow (opOf i)).any fun x =>
    nextB (serve i (opOf i) x.1 x.2 hd nullHandle (fun _ => .fail .badParam) rdy) fun _ => true) = true := by decide +kernel

/-- EventQueueRule: 1,023 entries or more with EV_QUEUE_OVERFLOW newest, exactly 1,023 without, 1,022, and 1,024 without. -/
theorem meets_queue :
    (let q : List Event → State := fun l => { rdy with proto := { rdy.proto with events := l } }
    running (q []) && (q (fullQueue 1023 0x0102)).proto.events.length == 1023 && (q (fullQueue 1024 0x0102)).proto.events.length == 1024
    && (q (fullQueue 1023 0x0102)).proto.events.getLast?.map (·.code) == some 0x0102
    && (q (fullQueue 1023 0x0101)).proto.events.getLast?.map (·.code) != some 0x0102 && (fullQueue 1022 0x0101).length == 1022
    && (fullQueue 1024 0x0101).length == 1024 && (fullQueue 1024 0x0101).getLast?.map (·.code) != some 0x0102) = true := by decide +kernel

/-- EventQueueRule: the boundary between its clauses, run. -/
theorem test_queue :
    (let q : List Event → State := fun l => { rdy with proto := { rdy.proto with events := l } }
    let after : Nat → Nat → Nat × Option Nat := fun n c =>
      let l := (ev 0x0103 [] (q (fullQueue n c))).proto.events
      (l.length, l.getLast?.map (·.code))
    after 1022 0x0101 == (1023, some 0x0103) && after 1023 0x0101 == (1024, some 0x0102) && after 1024 0x0102 == (1024, some 0x0102)
    && after 1023 0x0102 == (1023, some 0x0102) && after 1022 0x0102 == (1023, some 0x0103)) = true := by decide +kernel

/-- EventNumbers: firmware starts; a full queue; a queue whose numbers follow each other, over the wrap. -/
theorem meets_numbers :
    (let s : State := { State.reset with sys := { State.reset.sys with mode := .loading }, fw := { State.reset.fw with chosen := some 0 } }
    let w : State := { rdy with proto := { rdy.proto with events := [⟨0xFFFFFFFF, 0x0101, []⟩, ⟨1, 0x0101, []⟩], newestSeq := 1, nextSeq := 2 } }
    !started s && nextB (exec .firmwareStart s) (fun t => t.proto.nextSeq == 1) && seqNext 0xFFFFFFFF == 1 && seqNext 1 == w.proto.nextSeq
    && (ev 0x0103 [] w).proto.events.map (·.seq) == [0xFFFFFFFF, 1, 2]) = true := by decide +kernel

/-- InterruptLine: a reply is clocked out whole. -/
theorem meets_irq :
    (nextB (exec (.sysIdent hd) rdy) fun s => irqLow s && s.sys.mode != .backup && s.sys.resetReq.isNone && s.proto.events == []
    && (let b := slotBytesOut s.proto.spi s
        b.2 && nextB (exec (.spiRead b.1.length) s) fun t => !irqLow t)) = true := by decide +kernel

/-- TargetPicks: the first and the last pick accepted and their neighbours, and a position. -/
theorem meets_targets :
    (rdy.pair.applying.isNone && dueOf rdy 5002 == some 5002 && dueOf rdy 65000 == some 65000 && dueOf rdy 5001 == none
    && dueOf rdy 65001 == none && dueOf rdy 0 == some 5002 && decide (5002 < 2 ^ 32 ∧ pickAt rdy 5002 < 2 ^ 64 ∧ 65535 < 65536)) = true := by
  decide +kernel

/-- OnePendingChangeOfAKind: with a change pending of its kind and without. -/
theorem meets_pending :
    (let p : Pend := ⟨5002, 0, dH, 3, .sysIdent hd, 2⟩
    (pendOf bsy p.obj p.kind).isNone && (pendOf (sched p bsy) p.obj p.kind).isSome && (pendOf bsy p.obj p.kind).isNone) = true := by
  decide +kernel

/-- DomainWiring: D2 is to go while others hang on it. -/
theorem meets_wiring :
    (admits (.sysDomainSet hd 0 4 0) bsy && dueOf bsy 0 == some 5002
    && (let (a, b) := switched (sessNamed hd bsy) 0 4
        !domainsOk ((bsy.sys.domains ||| a) &&& ~~~ b))) = true := by decide +kernel

/-- KeysAreNeverRead: bodies that differ in a key, and a read of a copy to its last byte. -/
theorem meets_keys :
    (let a := byte 1 ++ zeros 107
    let b := a.set 35 7
    a.length == b.length && ((List.range 108).all fun k => 4 ≤ k % 36 || a[k]? == b[k]?) && a != b && hideKeys a == hideKeys b
    && okB (recIs bsy (mkHandle 0x0B 3 1)) (· == 3) && decide (1 ≤ 1 ∧ 4000 + 72 ≤ copyArea 3)
    && admits (.recordRead hd (mkHandle 0x0B 3 1) 1 72 4000) bsy) = true := by decide +kernel

/-- ProofOpensSession: the right proof, and a wrong one. -/
theorem meets_proof :
    (let x : Sess := ⟨false, 1, .spi, 1, 77, 0, 0⟩
    let h := mkHandle 0x0C 3 1
    let good := hmac (zeros 32) (leBytes 16 x.nonce ++ leBytes 4 sesDemo.ident.serial ++ byte 1)
    [good, zeros 32].all fun p => admits (.sessionProve han h p) sesDemo && p.length == 32 && okB (objIs sesDemo h 0x0C) (fun _ => true)
      && tget sesDemo.auth.sess 3 == some x && decide (4 ≤ payloadLimit sesDemo .spi) && keyOf sesDemo 1 == some (zeros 32)
      && nextB (exec (.sessionProve han h p) sesDemo) fun t => ((tget t.auth.sess 3).any (·.proven)) == (p == good)) = true := by decide +kernel

/-- The digest of "abc" that the hash standard prints. -/
theorem test_sha256 : (sha256 [0x61#8, 0x62#8, 0x63#8]
    == beBytes 32 0xba7816bf8f01cfea414140de5dae2223b00361a396177a9cb410ff61f20015ad) = true := by decide +kernel

/-- The feedback of x²³ + x¹⁸ + 1: the bits 22 and 17 come back as bit 0, and cancel (R87). -/
theorem test_lfsr : ([1, 0x400000, 0x020000, 0x420000].map lfsrNext == [2, 1, 0x040001, 0x040000]) = true := by decide +kernel

/-- At u = 0 the Farrow stage gives x₁, and at u = 128 the weights of the middle (R217). -/
theorem test_farrow : (farrow 0 == [0, 65536, 0, 0] && farrow 128 == [-4096, 36864, 36864, -4096]) = true := by decide +kernel

/-- LifecycleLock: open, and each command refused once locked. -/
theorem meets_lock :
    (let s : State := { bsy with fw := { bsy.fw with locked := true } }
    let k := beBytes 32 g256.1 ++ beBytes 32 g256.2
    admits (.lifecycleLock hm 0x744010CC) bsy && !bsy.fw.locked && admits (.lifecycleLock hm 0x744010CC) s
    && admits (.limitsWrite hm limitsReset) s && limitsOk limitsReset && !inConflict s 4
    && admits (.trimWrite hm 0 4 0 (zeros 4)) s && (inR 4 4 49152 && only 0 1) && decide (0 + (zeros 4).length ≤ 4)
    && admits (.fwKeyWrite hm 3 0 k) s && k.length == 64 && onCurve k) = true := by decide +kernel

/-- LifecycleLock: a second lock is refused. -/
theorem test_lock : (nextB (exec (.lifecycleLock hm 0x744010CC) bsy) fun s => s.fw.locked
    && nextB (exec (.limitsWrite hm limitsReset) s) fun t => t.recs.limits == s.recs.limits && t.recs.jobs == [] && t.fw.locked) = true := by decide +kernel

/-- TrimCorrections: the ends of the range. -/
theorem meets_trim : (((List.range 128).filter (corrects (-127))).length == 127 && ((List.range 128).filter (corrects 127)).length == 127
    && ((List.range 128).filter (corrects 0)).length == 0) = true := by decide +kernel

/-- WeekdayCounter: the largest weekday and offset. -/
theorem meets_weekday : (admits (.rtcWeekdaySet hd 6 2831155199) bsy && !inConflict bsy 0 && decide (6 < 7 ∧ 2831155199 < 2831155200)) = true := by
  decide +kernel

/-- CalendarRoundTrip: the first and the last instant. -/
theorem meets_calendar :
    (let d : Date := ⟨9999, 12, 31, 23, 59, 59, 32767⟩
    decide (8303486592614399 < 8303486592614400) && ticksDate 8303486592614399 == d && dateOk d && decide (1970 ≤ d.year ∧ d.year ≤ 9999 ∧ d.sub ≤ 32767)
    && dateTicks d == 8303486592614399) = true := by decide +kernel

/-- FrameOfReads and FrameOfScheduling: a command of each kind answers. -/
theorem meets_command_frames :
    ((hdrOf (.sysStatus hd)).isSome && readsOnly (opOf (.sysStatus hd)) && opOf (.sysStatus hd) != 0x0F01 && opOf (.sysStatus hd) != 0x0F03
    && nextB (exec (.sysStatus hd) bsy) (fun _ => true) && (hdrOf (.heddleRoute hd pH wH 0)).isSome
    && schedulingOps.contains (opOf (.sysModeSet hd 4 0)) && nextB (exec (.sysModeSet hd 4 0) bsy) (fun t => t.sched != [])) = true := by
  decide +kernel

/-- FrameOfRtcEvents, FrameOfFeedEvents and FrameOfSessionTimers: an event of each kind answers. -/
theorem meets_event_frames :
    (nextB (exec .rtcTick bsy) (fun t => t.rtc.count == 1) && nextB (exec .vfeedFault bsy) (fun t => t.sys == bsy.sys)
    && nextB (exec (.sessionOpenExpiry 3) sesDemo) (fun t => t.auth.sess.length == 3)
    && nextB (exec (.sessionIdleTimeout 0) bsy) (fun t => t.auth.sess.length == 2)
    && nextB (exec .proveBackoffEnd { bsy with auth := { bsy.auth with waiting := true } }) (fun t => !t.auth.waiting)) = true := by decide +kernel

end Sys2Proof.Tests
end

/-! PROOFS. Handles: the layout of R13 (class, index and generation in one 32-bit word) and which index and generation the registry issues
next (R15, R457). -/

namespace Sys2Proof.Proofs

open Sys2Proof Sys2Proof.Machine

/-- A handle made of fields within their widths is their positional sum: nothing is cut off at 32 bits. -/
theorem mkHandle_toNat {c i g : Nat} (hc : c < 256) (hi : i < 65536) (hg : g < 256) :
    (mkHandle c i g).toNat = c * 0x1000000 + i * 0x100 + g := by
  rw [mkHandle, BitVec.toNat_ofNat]
  omega

/-- The class of a handle made of fields. -/
theorem hClass_mkHandle {c i g : Nat} (hc : c < 256) (hi : i < 65536) (hg : g < 256) : hClass (mkHandle c i g) = c := by
  rw [hClass, mkHandle_toNat hc hi hg]
  omega

/-- The index of a handle made of fields. -/
theorem hIndex_mkHandle {c i g : Nat} (hc : c < 256) (hi : i < 65536) (hg : g < 256) : hIndex (mkHandle c i g) = i := by
  rw [hIndex, mkHandle_toNat hc hi hg]
  omega

/-- The generation of a handle made of fields. -/
theorem hGen_mkHandle {c i g : Nat} (hc : c < 256) (hi : i < 65536) (hg : g < 256) : hGen (mkHandle c i g) = g := by
  rw [hGen, mkHandle_toNat hc hi hg]
  omega

/-- Bits [31:24] of R13. -/
theorem hClass_eq_extractLsb' (h : Handle) : hClass h = (h.extractLsb' 24 8).toNat := by
  rw [hClass, BitVec.extractLsb'_toNat, Nat.shiftRight_eq_div_pow]
  have := h.isLt
  omega

/-- Bits [23:8] of R13. -/
theorem hIndex_eq_extractLsb' (h : Handle) : hIndex h = (h.extractLsb' 8 16).toNat := by
  rw [hIndex, BitVec.extractLsb'_toNat, Nat.shiftRight_eq_div_pow]

/-- Bits [7:0] of R13. -/
theorem hGen_eq_extractLsb' (h : Handle) : hGen h = (h.extractLsb' 0 8).toNat := by
  rw [hGen, BitVec.extractLsb'_toNat, Nat.shiftRight_zero]

/-- The three fields leave no bit of a handle out. -/
theorem mkHandle_fields (h : Handle) : mkHandle (hClass h) (hIndex h) (hGen h) = h := by
  have hsum : hClass h * 0x1000000 + hIndex h * 0x100 + hGen h = h.toNat := by
    rw [hClass, hIndex, hGen]
    omega
  rw [mkHandle, hsum, BitVec.ofNat_toNat, BitVec.setWidth_eq]

/-- While a class has indices never issued since reset, the lowest of them is issued, with generation 1 (R15, R457). -/
theorem nextIndex_of_fresh {s : State} {c : Nat} (hf : (tget s.reg.fresh c).getD 0 < classSize c) :
    nextIndex s c = some ((tget s.reg.fresh c).getD 0, 1) := by
  rw [nextIndex]
  exact if_pos hf

/-- A class with no such index issues the one released longest ago, with the generation after its last (R13, R457). -/
theorem nextIndex_of_freed {s : State} {c : Nat} {x : Nat × Nat × Nat} (hf : ¬ (tget s.reg.fresh c).getD 0 < classSize c)
    (hx : (s.reg.freed.find? fun y => y.1 == c) = some x) :
    nextIndex s c = some (x.2.1, if x.2.2 = 255 then 1 else x.2.2 + 1) := by
  rw [nextIndex]
  simp only [if_neg hf, hx]

/-- Settles O35: the fields by arithmetic below their widths (R13), the issue of an index by the two cases of the registry (R15, R457). -/
theorem handleLayout : Obligations.HandleLayout := by
  unfold Obligations.HandleLayout
  refine ⟨fun c i g hc hi hg => ?_, fun h => ?_, fun s c i g hn hf => ?_, fun s c x hf hx => ?_⟩
  · exact ⟨hClass_mkHandle hc hi hg, hIndex_mkHandle hc hi hg, hGen_mkHandle hc hi hg⟩
  · exact ⟨hClass_eq_extractLsb' h, hIndex_eq_extractLsb' h, hGen_eq_extractLsb' h, mkHandle_fields h⟩
  · have hissue : ((tget s.reg.fresh c).getD 0, 1) = (i, g) := Option.some.inj ((nextIndex_of_fresh hf).symm.trans hn)
    exact (congrArg Prod.snd hissue).symm
  · exact nextIndex_of_freed hf hx

end Sys2Proof.Proofs

/-! PROOFS. Fields: the bytes of a little-endian field (R7) and the number they hold. -/

namespace Sys2Proof.Proofs

open Sys2Proof Sys2Proof.Machine

/-- Byte `k` of a field is the number shifted down by `k` bytes. -/
theorem leBytes_eq_map_range (n v : Nat) : leBytes n v = (List.range n).map fun k => BitVec.ofNat 8 (v / 256 ^ k) := by
  induction n generalizing v with
  | zero => rfl
  | succ n ih => simp [leBytes, ih, List.range_succ_eq_map, Function.comp_def, Nat.div_div_eq_div_mul, Nat.pow_succ']

@[simp] theorem length_leBytes (n v : Nat) : (leBytes n v).length = n := by
  simp [leBytes_eq_map_range]

/-- Reading a field back gives the number modulo the field's range. -/
theorem ofLe_leBytes (n v : Nat) : ofLe (leBytes n v) = v % 256 ^ n := by
  induction n generalizing v with
  | zero => simp [leBytes, ofLe, Nat.mod_one]
  | succ n ih => simp [leBytes, ofLe, ih, Nat.pow_succ', Nat.mod_mul]

theorem ofLe_leBytes_of_lt {n v : Nat} (h : v < 256 ^ n) : ofLe (leBytes n v) = v := by
  rw [ofLe_leBytes, Nat.mod_eq_of_lt h]

/-- A counter within its field's range is not saturated (R475). -/
theorem leCount_of_lt {n v : Nat} (h : v < 256 ^ n) : leCount n v = leBytes n v := by
  rw [leCount, Nat.min_eq_left (Nat.le_sub_one_of_lt h)]

@[simp] theorem length_leCount (n v : Nat) : (leCount n v).length = n := by
  rw [leCount, length_leBytes]

@[simp] theorem length_zeros (n : Nat) : (zeros n).length = n := List.length_replicate

end Sys2Proof.Proofs

/-! PROOFS. The checksum of a packet (R445): the model's register runs reflected, least significant bit first; the definition of the rule
runs most significant bit first. The two registers are each other's reversal after every bit. -/

namespace Sys2Proof.Proofs

open Sys2Proof Sys2Proof.Machine

/-- One bit of the CRC-32C register with the polynomial as R445 writes it, most significant bit first. -/
def msbFirstBit (c : BitVec 32) : BitVec 32 := if c.msb then (c <<< 1) ^^^ 0x1EDC6F41#32 else c <<< 1

/-- One input byte through that register, reflected on its way in. -/
def msbFirstByte (c : BitVec 32) (x : Byte) : BitVec 32 :=
  (List.range 8).foldl (fun c _ => msbFirstBit c) (c ^^^ ((x.reverse.setWidth 32 : BitVec 32) <<< (24 : Nat)))

theorem reverse_xor {w : Nat} (x y : BitVec w) : (x ^^^ y).reverse = x.reverse ^^^ y.reverse := by
  ext i hi
  simp [← BitVec.getLsbD_eq_getElem, BitVec.getLsbD_reverse]

theorem reverse_ushiftRight_one {w : Nat} (x : BitVec w) : (x >>> 1).reverse = x.reverse <<< 1 := by
  ext i hi
  simp only [← BitVec.getLsbD_eq_getElem, BitVec.getLsbD_reverse, BitVec.getMsbD, BitVec.getLsbD_ushiftRight, BitVec.getLsbD_shiftLeft]
  rcases i with _ | i
  · simp [show w ≤ 1 + (w - 1) by omega]
  · have hbit : 1 + (w - 1 - (i + 1)) = w - 1 - i := by omega
    simp [hi, Nat.lt_of_succ_lt hi, hbit]

/-- A byte stands in the low bits of the reflected register and, reversed, in the high bits of the other. -/
theorem reverse_setWidth_byte (x : Byte) : (x.setWidth 32 : BitVec 32).reverse = (x.reverse.setWidth 32) <<< (24 : Nat) := by
  ext i hi
  simp only [← BitVec.getLsbD_eq_getElem, BitVec.getLsbD_reverse, BitVec.getMsbD, BitVec.getLsbD_setWidth, BitVec.getLsbD_shiftLeft]
  by_cases hlow : i < 24
  · simp [hlow, show 8 ≤ 31 - i by omega]
  · have hbit : 7 - (i - 24) = 31 - i := by omega
    simp [hi, hlow, hbit, show 31 - i < 32 by omega, show i - 24 < 8 by omega, show i - 24 < 32 by omega]

/-- The reflected register and the other stay each other's reversal over one bit. -/
theorem msbFirstBit_reverse (c : BitVec 32) : msbFirstBit c.reverse = (crcBit c).reverse := by
  have hpoly : (0x82F63B78#32).reverse = 0x1EDC6F41#32 := by decide +kernel
  rw [msbFirstBit, crcBit, BitVec.msb_reverse]
  split
  · rw [reverse_xor, reverse_ushiftRight_one, hpoly]
  · rw [reverse_ushiftRight_one]

/-- The same over one byte: its eight bits, after the byte has gone in. -/
theorem msbFirstByte_reverse (c : BitVec 32) (x : Byte) : msbFirstByte c.reverse x = (crcByte c x).reverse := by
  rw [msbFirstByte, ← reverse_setWidth_byte, ← reverse_xor]
  simp only [List.range_succ, List.range_zero, List.foldl_append, List.foldl_nil, List.foldl_cons, List.nil_append, msbFirstBit_reverse, crcByte]

/-- The same over a byte string from the preset of ones, which is its own reversal. -/
theorem foldl_msbFirstByte (b : List Byte) :
    b.foldl msbFirstByte 0xFFFFFFFF#32 = (b.foldl crcByte 0xFFFFFFFF#32).reverse := by
  have hones : (0xFFFFFFFF#32).reverse = 0xFFFFFFFF#32 := by decide +kernel
  calc b.foldl msbFirstByte 0xFFFFFFFF#32
      = b.foldl msbFirstByte (0xFFFFFFFF#32).reverse := by rw [hones]
    _ = (b.foldl crcByte 0xFFFFFFFF#32).reverse := List.foldl_hom BitVec.reverse msbFirstByte_reverse

/-- The CRC of the model is the one of R445, most significant bit first with input and output reversed. -/
theorem crc32c_eq_msbFirst (b : List Byte) : crc32c b = ~~~ (b.foldl msbFirstByte 0xFFFFFFFF#32).reverse := by
  rw [crc32c, foldl_msbFirstByte, BitVec.reverse_reverse_eq]

/-- A checksum is written least significant byte first (R7). -/
theorem leBytes_toNat (c : BitVec 32) : leBytes 4 c.toNat = (List.range 4).map fun k => (c >>> (8 * k)).setWidth 8 := by
  rw [leBytes_eq_map_range]
  refine List.map_congr_left fun k _ => BitVec.eq_of_toNat_eq ?_
  simp [Nat.shiftRight_eq_div_pow, Nat.pow_mul]

/-- Settles O33: the two registers are each other's reversal, and a field of four bytes is the checksum shifted down byte by byte. -/
theorem checksumIsCastagnoli : Obligations.ChecksumIsCastagnoli := by
  unfold Obligations.ChecksumIsCastagnoli
  refine ⟨crc32c_eq_msbFirst, by decide +kernel, fun b => ?_⟩
  rw [withCrc, leBytes_toNat]

end Sys2Proof.Proofs

/-! PROOFS. The event queue (R460): what becomes of an event, and the entry that stands for those discarded. -/

namespace Sys2Proof.Proofs

open Sys2Proof Sys2Proof.Machine

/-- A full queue whose newest entry counts discards takes one more discard into it. -/
theorem ev_of_overflow_newest {s : State} (code : Nat) (body : List Byte) (hrun : running s = true) (hfull : 1023 ≤ s.proto.events.length)
    (hlast : s.proto.events.getLast?.map (·.code) = some 0x0102) : ev code body s = countDiscard s := by
  simp [ev, hrun, hfull, hlast]

/-- A queue that has just become full takes EV_QUEUE_OVERFLOW in place of the event, with this event as its one discard. -/
theorem ev_of_just_full {s : State} (code : Nat) (body : List Byte) (hrun : running s = true) (hfull : s.proto.events.length = 1023)
    (hlast : s.proto.events.getLast?.map (·.code) ≠ some 0x0102) : ev code body s = pushEvent 0x0102 (overflowBody 1 (now s) (now s))
      { s with proto := { s.proto with discardedEv := s.proto.discardedEv + 1 } } := by
  simp [ev, hrun, hfull, hlast]

/-- In every other case the event itself is queued. -/
theorem ev_of_room {s : State} (code : Nat) (body : List Byte) (hrun : running s = true) (hne : s.proto.events.length ≠ 1023)
    (hroom : s.proto.events.length < 1023 ∨ s.proto.events.getLast?.map (·.code) ≠ some 0x0102) : ev code body s = pushEvent code body s := by
  rcases hroom with hroom | hlast
  · simp [ev, hrun, hne, Nat.not_le.mpr hroom]
  · simp only [ev, hrun, hne, beq_eq_false_iff_ne.mpr hlast]
    simp

/-- Everything an event can do: nothing while firmware does not run, one more discard counted, or one entry queued (with the count of
discards it may have raised). -/
theorem ev_cases (code : Nat) (body : List Byte) (s : State) :
    ev code body s = s ∨ ev code body s = countDiscard s ∨
      ∃ c b d, ev code body s = pushEvent c b { s with proto := { s.proto with discardedEv := d } } := by
  by_cases hrun : running s = true
  · by_cases hlast : s.proto.events.getLast?.map (·.code) = some 0x0102
    · by_cases hfull : 1023 ≤ s.proto.events.length
      · exact .inr (.inl (ev_of_overflow_newest code body hrun hfull hlast))
      · exact .inr (.inr ⟨code, body, s.proto.discardedEv, ev_of_room code body hrun (by omega) (.inl (by omega))⟩)
    · by_cases hfull : s.proto.events.length = 1023
      · exact .inr (.inr ⟨_, _, _, ev_of_just_full code body hrun hfull hlast⟩)
      · exact .inr (.inr ⟨code, body, s.proto.discardedEv, ev_of_room code body hrun hfull (.inr hlast)⟩)
  · exact .inl (by simp [ev, hrun])

@[simp] theorem pushEvent_events (c : Nat) (b : List Byte) (s : State) :
    (pushEvent c b s).proto.events = s.proto.events ++ [⟨s.proto.nextSeq, c, b⟩] := by
  obtain ⟨u, a, e, h⟩ := Laws.pushEvent_changes c b s
  rw [h]

@[simp] theorem pushEvent_nextSeq (c : Nat) (b : List Byte) (s : State) : (pushEvent c b s).proto.nextSeq = seqNext s.proto.nextSeq := by
  obtain ⟨u, a, e, h⟩ := Laws.pushEvent_changes c b s
  rw [h]

@[simp] theorem pushEvent_newestSeq (c : Nat) (b : List Byte) (s : State) : (pushEvent c b s).proto.newestSeq = s.proto.nextSeq := by
  obtain ⟨u, a, e, h⟩ := Laws.pushEvent_changes c b s
  rw [h]

@[simp] theorem countDiscard_nextSeq (s : State) : (countDiscard s).proto.nextSeq = s.proto.nextSeq := rfl

@[simp] theorem countDiscard_newestSeq (s : State) : (countDiscard s).proto.newestSeq = s.proto.newestSeq := rfl

/-- A discard rewrites the body of the newest entry and no other entry. -/
theorem countDiscard_events {s : State} {l : List Event} {e : Event} (h : s.proto.events = l ++ [e]) :
    (countDiscard s).proto.events =
      l ++ [{ e with body := overflowBody (ofLe (e.body.take 4) + 1) (ofLe ((e.body.drop 8).take 8)) (now s) }] := by
  simp [countDiscard, lmod, h, List.modify_eq_set_getElem?]

/-- A discard changes the number of no entry. -/
@[simp] theorem countDiscard_seqs (s : State) : (countDiscard s).proto.events.map (·.seq) = s.proto.events.map (·.seq) := by
  rcases List.eq_nil_or_concat s.proto.events with h | ⟨l, e, h⟩
  · simp [countDiscard, lmod, h]
  · rw [List.concat_eq_append] at h
    rw [countDiscard_events h, h]
    simp

/-- The fields of EV_QUEUE_OVERFLOW by their offsets. -/
theorem overflowBody_fields {n a b : Nat} (hn : n < 2 ^ 32) (ha : a < 2 ^ 64) (hb : b < 2 ^ 64) :
    (overflowBody n a b).length = 24 ∧ ofLe ((overflowBody n a b).take 4) = n ∧
    ((overflowBody n a b).drop 4).take 4 = zeros 4 ∧ ofLe (((overflowBody n a b).drop 8).take 8) = a ∧
    ofLe ((overflowBody n a b).drop 16) = b := by
  rw [overflowBody, leCount_of_lt (n := 4) hn]
  simp [List.drop_append, List.drop_of_length_le, ofLe_leBytes_of_lt (n := 4) hn, ofLe_leBytes_of_lt (n := 8) ha,
    ofLe_leBytes_of_lt (n := 8) hb]

/-- Settles O43: the three cases of R460, and the fields of the overflow entry by their offsets. -/
theorem eventQueueRule : Obligations.EventQueueRule := by
  unfold Obligations.EventQueueRule
  refine ⟨fun code body s hrun => ⟨fun hfull hlast l e hl => ?_, fun hfull hlast => ?_, fun hne hroom => ?_⟩,
    fun n a b hn ha hb => overflowBody_fields hn ha hb⟩
  · rw [ev_of_overflow_newest code body hrun hfull hlast, countDiscard_events hl, overflowBody]
  · rw [ev_of_just_full code body hrun hfull hlast, pushEvent_events, overflowBody, leCount_of_lt (by decide)]
  · rw [ev_of_room code body hrun hne hroom, pushEvent_events]

end Sys2Proof.Proofs

/-! PROOFS. The numbers of the entries of the event queue (R459): where they start, how they follow each other and how they compare. -/

namespace Sys2Proof.Proofs

open Sys2Proof Sys2Proof.Machine

/-- The numbers of the queue leave no gap: each follows the one before it, and the next number to be given follows the last (R459). -/
def SeqsConsecutive (p : Proto) : Prop :=
  (p.events.map (·.seq)).IsChain (fun m n => n = seqNext m) ∧
    ∀ n ∈ (p.events.map (·.seq)).getLast?, p.nextSeq = seqNext n ∧ p.newestSeq = n

/-- The same by the positions of the entries, as the rule has it. -/
theorem seqsConsecutive_iff (p : Proto) : SeqsConsecutive p ↔
    (∀ k a b, p.events[k]? = some a → p.events[k + 1]? = some b → b.seq = seqNext a.seq) ∧
      (∀ a, p.events.getLast? = some a → p.nextSeq = seqNext a.seq ∧ p.newestSeq = a.seq) := by
  refine and_congr ⟨fun h k a b ha hb => ?_, fun h => ?_⟩ (by simp)
  · obtain ⟨hk, rfl⟩ := List.getElem?_eq_some_iff.mp hb
    obtain ⟨_, rfl⟩ := List.getElem?_eq_some_iff.mp ha
    have hnext := List.isChain_iff_getElem.mp h k (by rwa [List.length_map])
    rwa [List.getElem_map, List.getElem_map] at hnext
  · refine List.isChain_iff_getElem.mpr fun k hk => ?_
    simp only [List.length_map] at hk
    simpa using h k _ _ (List.getElem?_eq_getElem (by omega)) (List.getElem?_eq_getElem hk)

/-- An entry queued takes the next number, so it follows the last entry. -/
theorem seqsConsecutive_pushEvent {s : State} (c : Nat) (b : List Byte) (h : SeqsConsecutive s.proto) :
    SeqsConsecutive (pushEvent c b s).proto := by
  obtain ⟨hchain, hlast⟩ := h
  refine ⟨?_, by simp⟩
  rw [pushEvent_events, List.map_append]
  refine List.isChain_append.mpr ⟨hchain, List.isChain_singleton _, fun n hn m hm => ?_⟩
  obtain rfl : s.proto.nextSeq = m := by simpa using hm
  exact (hlast n hn).1

/-- An event discarded takes no number. -/
theorem seqsConsecutive_countDiscard {s : State} (h : SeqsConsecutive s.proto) : SeqsConsecutive (countDiscard s).proto := by
  simpa only [SeqsConsecutive, countDiscard_seqs, countDiscard_nextSeq, countDiscard_newestSeq] using h

/-- No event makes a gap in the numbers. -/
theorem seqsConsecutive_ev {s : State} (code : Nat) (body : List Byte) (h : SeqsConsecutive s.proto) :
    SeqsConsecutive (ev code body s).proto := by
  rcases ev_cases code body s with heq | heq | ⟨c, b, d, heq⟩
  · rwa [heq]
  · rw [heq]
    exact seqsConsecutive_countDiscard h
  · rw [heq]
    exact seqsConsecutive_pushEvent c b (s := { s with proto := { s.proto with discardedEv := d } }) h

theorem seqNext_ne_zero (n : Nat) : seqNext n ≠ 0 := by
  rw [seqNext]
  split <;> omega

theorem seqNext_of_ne {n : Nat} (h : n ≠ 0xFFFFFFFF) : seqNext n = n + 1 := if_neg h

/-- The comparison of the model, on naturals, is the difference of R459 modulo 2³². -/
theorem seqLe_iff {a s : Nat} (ha : a < 2 ^ 32) (hs : s < 2 ^ 32) : seqLe s a = true ↔ ((a : Int) - s) % 2 ^ 32 < 2 ^ 31 := by
  rw [seqLe, decide_eq_true_iff]
  omega

/-- Firmware starts with the protocol engine as after reset, but for what has already left on the wires (R459, R592). -/
theorem execFirmwareStart_proto {s t : State} {k : Nat} (hk : s.fw.chosen = some k) (hm : s.sys.mode = .loading) (hs : started s = false)
    (h : exec .firmwareStart s = .next t) : t.proto = { Proto.reset with miso := s.proto.miso, sentUdp := s.proto.sentUdp } := by
  change execFirmwareStart s = .next t at h
  simp only [execFirmwareStart, hk, hm, hs, and_self, if_true, Host.Outcome.next.injEq] at h
  rw [← h]
  rfl

/-- Settles O44: the numbers start over with the protocol engine, and every event keeps them consecutive. -/
theorem eventNumbers : Obligations.EventNumbers := by
  unfold Obligations.EventNumbers
  refine ⟨rfl, fun s t k hk hm hs h => ?_, fun n => ⟨seqNext_ne_zero n, rfl, seqNext_of_ne⟩, fun code body s hrun hfull hlast => ?_,
    fun code body s h => ?_, fun a s ha hs => seqLe_iff ha hs⟩
  · rw [execFirmwareStart_proto hk hm hs h]
    exact ⟨rfl, rfl⟩
  · rw [ev_of_overflow_newest code body hrun hfull hlast, countDiscard_nextSeq]
  · exact (seqsConsecutive_iff _).mp (seqsConsecutive_ev code body ((seqsConsecutive_iff _).mpr h))

end Sys2Proof.Proofs

/-! PROOFS. Fields of packets: what is read back where a field was written, whatever stands before and after it. -/

namespace Sys2Proof.Proofs

open Sys2Proof Sys2Proof.Machine

/-- A signed field whose value fits reads back (R7). -/
theorem ofLeSigned_leSigned {n : Nat} {z : Int} (hl : -(256 ^ n : Int) ≤ 2 * z) (hh : 2 * z < 256 ^ n) : ofLeSigned (leSigned n z) = z := by
  have hcast : ((256 ^ n : Nat) : Int) = 256 ^ n := by push_cast; rfl
  have hpos : 0 < 256 ^ n := Nat.pos_of_ne_zero (by simp)
  rw [ofLeSigned, leSigned, ofLe_leBytes, length_leBytes]
  rw [← hcast] at hl hh
  generalize 256 ^ n = P at hl hh hpos
  rcases lt_or_ge z 0 with hneg | hnn
  · have hmod : z % (P : Int) = z + P := by
      rw [← Int.add_emod_right, Int.emod_eq_of_lt (by omega) (by omega)]
    rw [hmod, Nat.mod_eq_of_lt (by omega), if_neg (by omega)]
    omega
  · have hmod : z % (P : Int) = z := Int.emod_eq_of_lt hnn (by omega)
    rw [hmod, Nat.mod_eq_of_lt (by omega), if_pos (by omega)]
    omega

/-- Settles O34: a field is its number's digits to the base 256; a counter is cut at the largest of them. -/
theorem fieldsAreLittleEndian : Obligations.FieldsAreLittleEndian := by
  unfold Obligations.FieldsAreLittleEndian
  refine ⟨fun n v => ⟨length_leBytes n v, ofLe_leBytes n v, fun k hk => ?_⟩, fun n z _ hl hh => ofLeSigned_leSigned hl hh, fun n v => ?_⟩
  · simp [leBytes_eq_map_range, hk]
  · have hpos : 0 < 256 ^ n := Nat.pos_of_ne_zero (by simp)
    rw [leCount, ofLe_leBytes_of_lt (by omega)]

/-- A field that ends within the first part of a packet lies there. -/
theorem field_append_left {a : List Byte} {i n : Nat} (b : List Byte) (h : i + n ≤ a.length) :
    ((a ++ b).drop i).take n = (a.drop i).take n := by
  rw [List.drop_append_of_le_length (by omega), List.take_append_of_le_length (by rw [List.length_drop]; omega)]

/-- What lies beyond the first part of a packet lies in the rest. -/
@[simp] theorem drop_append_right {a : List Byte} {i : Nat} (b : List Byte) (h : a.length ≤ i) : (a ++ b).drop i = b.drop (i - a.length) := by
  rw [List.drop_append, List.drop_of_length_le h, List.nil_append]

@[simp] theorem fu_append_left {a : List Byte} {i n : Nat} (b : List Byte) (h : i + n ≤ a.length) : fu (a ++ b) i n = fu a i n := by
  rw [fu, fu, field_append_left b h]

@[simp] theorem fu_append_right {a : List Byte} {i n : Nat} (b : List Byte) (h : a.length ≤ i) : fu (a ++ b) i n = fu b (i - a.length) n := by
  rw [fu, fu, drop_append_right b h]

@[simp] theorem fz_append_left {a : List Byte} {i n : Nat} (b : List Byte) (h : i + n ≤ a.length) : fz (a ++ b) i n = fz a i n := by
  rw [fz, fz, fu_append_left b h]

@[simp] theorem fz_append_right {a : List Byte} {i n : Nat} (b : List Byte) (h : a.length ≤ i) : fz (a ++ b) i n = fz b (i - a.length) n := by
  rw [fz, fz, fu_append_right b h]

@[simp] theorem fs_append_left {a : List Byte} {i n : Nat} (b : List Byte) (h : i + n ≤ a.length) : fs (a ++ b) i n = fs a i n := by
  rw [fs, fs, field_append_left b h]

@[simp] theorem fs_append_right {a : List Byte} {i n : Nat} (b : List Byte) (h : a.length ≤ i) : fs (a ++ b) i n = fs b (i - a.length) n := by
  rw [fs, fs, drop_append_right b h]

@[simp] theorem fn_append_left {a : List Byte} {i n : Nat} (b : List Byte) (h : i + n ≤ a.length) : fn (a ++ b) i n = fn a i n := by
  rw [fn, fn, field_append_left b h]

@[simp] theorem fn_append_right {a : List Byte} {i n : Nat} (b : List Byte) (h : a.length ≤ i) : fn (a ++ b) i n = fn b (i - a.length) n := by
  rw [fn, fn, drop_append_right b h]

@[simp] theorem fh_append_left {a : List Byte} {i : Nat} (b : List Byte) (h : i + 4 ≤ a.length) : fh (a ++ b) i = fh a i := by
  rw [fh, fh, fu_append_left b h]

@[simp] theorem fh_append_right {a : List Byte} {i : Nat} (b : List Byte) (h : a.length ≤ i) : fh (a ++ b) i = fh b (i - a.length) := by
  rw [fh, fh, fu_append_right b h]

@[simp] theorem length_byte (v : Nat) : (byte v).length = 1 := by rw [byte, List.length_singleton]

@[simp] theorem length_handleBytes (h : Handle) : (handleBytes h).length = 4 := length_leBytes 4 _

@[simp] theorem length_leSigned (n : Nat) (z : Int) : (leSigned n z).length = n := length_leBytes n _

@[simp] theorem length_beBytes (n v : Nat) : (beBytes n v).length = n := by rw [beBytes, List.length_reverse, length_leBytes]

/-- A field of a packet that is that field alone. -/
@[simp] theorem fu_leBytes {n v : Nat} (h : v < 256 ^ n) : fu (leBytes n v) 0 n = v := by
  rw [fu, List.drop_zero, List.take_of_length_le (by simp), ofLe_leBytes_of_lt h]

@[simp] theorem fu_byte {v : Nat} (h : v < 256) : fu (byte v) 0 1 = v := fu_leBytes (n := 1) h

@[simp] theorem fu_zeros (n : Nat) : fu (zeros n) 0 n = 0 := by
  have hz : zeros n = leBytes n 0 := by simp [leBytes_eq_map_range, zeros]
  rw [hz, fu_leBytes (Nat.pos_of_ne_zero (by simp))]

@[simp] theorem fz_zeros (n : Nat) : fz (zeros n) 0 n = true := by
  rw [fz, fu_zeros]
  rfl

@[simp] theorem fh_handleBytes (h : Handle) : fh (handleBytes h) 0 = h := by
  rw [fh, handleBytes, fu_leBytes (n := 4) h.isLt, BitVec.ofNat_toNat, BitVec.setWidth_eq]

@[simp] theorem fn_beBytes {n v : Nat} (h : v < 256 ^ n) : fn (beBytes n v) 0 n = v := by
  rw [fn, List.drop_zero, List.take_of_length_le (by simp), ofBe, beBytes, List.reverse_reverse, ofLe_leBytes_of_lt h]

/-- The signed field alone, by the bounds of its width. -/
@[simp] theorem fs_leSigned {n : Nat} {z : Int} (hn : 0 < n) (hl : -(2 ^ (8 * n - 1) : Int) ≤ z) (hh : z < (2 ^ (8 * n - 1) : Int)) :
    fs (leSigned n z) 0 n = z := by
  have hpow : (256 : Int) ^ n = 2 * 2 ^ (8 * n - 1) := by
    rw [← pow_succ', Nat.sub_add_cancel (by omega), pow_mul]
    rfl
  rw [fs, List.drop_zero, List.take_of_length_le (by simp)]
  exact ofLeSigned_leSigned (by omega) (by omega)

/-- The header of a packet whose reserved parameter fields are zero is the one it came with (R16). -/
@[simp] theorem hdrAlso_true (h : Hdr) : hdrAlso h true = h := by simp [hdrAlso]

/-- The bound of an unsigned field. -/
@[simp] theorem u_eq_true (n v : Nat) : u n v = true ↔ v < 2 ^ n := decide_eq_true_iff

/-- The bounds of a signed field. -/
@[simp] theorem i_eq_true (n : Nat) (v : Int) : i n v = true ↔ -(2 ^ (n - 1) : Int) ≤ v ∧ v < (2 ^ (n - 1) : Int) := by simp [i]

/-! Entries: a list written entry by entry, each of `k` bytes, is read entry by entry. -/

/-- What stands from an entry on: the entry, then those after it. -/
theorem drop_flatMap {α : Type} {enc : α → List Byte} {k : Nat} {l : List α} (hlen : ∀ x ∈ l, (enc x).length = k) {j : Nat}
    (hj : j < l.length) : (l.flatMap enc).drop (k * j) = enc l[j] ++ (l.drop (j + 1)).flatMap enc := by
  induction l generalizing j with
  | nil => simp at hj
  | cons x xs ih =>
    cases j with
    | zero => simp
    | succ j =>
      have hx : (enc x).length = k := hlen x (by simp)
      rw [List.flatMap_cons, Nat.mul_succ, drop_append_right _ (by omega), hx, Nat.add_sub_cancel,
        ih (fun y hy => hlen y (by simp [hy])) (by simpa using hj)]
      rfl

theorem length_flatMap_eq {α : Type} {enc : α → List Byte} {k : Nat} {l : List α} (hlen : ∀ x ∈ l, (enc x).length = k) :
    (l.flatMap enc).length = k * l.length := by
  rw [List.length_flatMap, List.map_congr_left hlen, List.map_const', List.sum_replicate, smul_eq_mul, Nat.mul_comm]

/-- A reader that looks only at what stands from its offset on finds each entry at its place. -/
theorem read_entry {α β : Type} {f : List Byte → Nat → β} {enc : α → List Byte} {k : Nat} {l : List α} (pre post : List Byte)
    (hshift : ∀ b i, f b i = f (b.drop i) 0) (hlen : ∀ x ∈ l, (enc x).length = k) {j : Nat} (hj : j < l.length) :
    ∃ rest, f (pre ++ l.flatMap enc ++ post) (pre.length + k * j) = f (enc l[j] ++ rest) 0 := by
  have hall : k * j ≤ (l.flatMap enc).length := by
    rw [length_flatMap_eq hlen]
    exact Nat.mul_le_mul_left k hj.le
  refine ⟨(l.drop (j + 1)).flatMap enc ++ post, ?_⟩
  rw [hshift, List.append_assoc, ← List.drop_drop, drop_append_right _ le_rfl, Nat.sub_self, List.drop_zero,
    List.drop_append_of_le_length hall, drop_flatMap hlen hj, List.append_assoc]

/-- Such a reader, with the entry after it read back, reads the list back. -/
theorem fl_flatMap {α : Type} {f : List Byte → Nat → α} {enc : α → List Byte} {k n i : Nat} {l : List α} {pre : List Byte} (post : List Byte)
    (hshift : ∀ b i, f b i = f (b.drop i) 0) (hlen : ∀ x ∈ l, (enc x).length = k) (hread : ∀ x ∈ l, ∀ rest, f (enc x ++ rest) 0 = x)
    (hi : pre.length = i) (hn : l.length = n) : fl (f (pre ++ l.flatMap enc ++ post)) i k n = l := by
  subst hi hn
  refine List.ext_getElem (by simp [fl]) fun j _ hj => ?_
  obtain ⟨rest, hentry⟩ := read_entry pre post hshift hlen hj
  simp only [fl, List.getElem_map, List.getElem_range, hentry, hread _ (List.getElem_mem hj)]

/-- A field at an offset of every entry that is zero in each of them (R16). -/
theorem all_fz_flatMap {α : Type} {enc : α → List Byte} {k n i : Nat} {l : List α} {pre : List Byte} (o w : Nat)
    (hlen : ∀ x ∈ l, (enc x).length = k) (hread : ∀ x ∈ l, ∀ rest, fz (enc x ++ rest) o w = true)
    (hi : pre.length = i) (hn : l.length = n) {j : Nat} (hj : j < n) : fz (pre ++ l.flatMap enc) (i + k * j + o) w = true := by
  subst hi hn
  obtain ⟨rest, hentry⟩ := read_entry (f := fun b i => fz b (i + o) w) pre [] (fun b i => by simp [fz, fu, List.drop_drop, Nat.add_comm])
    hlen hj
  rw [List.append_nil, Nat.zero_add] at hentry
  rw [hentry]
  exact hread _ (List.getElem_mem hj) rest

/-! The entries that packets hold. -/

@[simp] theorem fl_fh_handles {i n : Nat} {l : List Handle} {pre : List Byte} (hi : pre.length = i) (hn : l.length = n) :
    fl (fh (pre ++ l.flatMap handleBytes)) i 4 n = l := by
  simpa using fl_flatMap [] (fun b i => by simp [fh, fu]) (fun _ _ => length_handleBytes _) (fun x _ rest => by simp) hi hn

@[simp] theorem fl_fh_handles_append {i n : Nat} {l : List Handle} {pre : List Byte} (post : List Byte) (hi : pre.length = i)
    (hn : l.length = n) : fl (fh (pre ++ l.flatMap handleBytes ++ post)) i 4 n = l :=
  fl_flatMap post (fun b i => by simp [fh, fu]) (fun _ _ => length_handleBytes _) (fun x _ rest => by simp) hi hn

@[simp] theorem fl_fu_leBytes {i n : Nat} {l : List Nat} {pre : List Byte} (hl : ∀ x ∈ l, x < 4294967296) (hi : pre.length = i)
    (hn : l.length = n) : fl (fun j => fu (pre ++ l.flatMap (leBytes 4)) j 4) i 4 n = l := by
  simpa using fl_flatMap (f := fun b j => fu b j 4) [] (fun b i => by simp [fu]) (fun _ _ => length_leBytes 4 _)
    (fun x hx rest => by simp [hl x hx]) hi hn

@[simp] theorem fl_fs_leSigned {i n : Nat} {l : List Int} {pre : List Byte} (hl : ∀ x ∈ l, -2147483648 ≤ x ∧ x < 2147483648)
    (hi : pre.length = i) (hn : l.length = n) : fl (fun j => fs (pre ++ l.flatMap (leSigned 4)) j 4) i 4 n = l := by
  simpa using fl_flatMap (f := fun b j => fs b j 4) [] (fun b i => by simp [fs]) (fun _ _ => length_leSigned 4 _)
    (fun x hx rest => by simp [(hl x hx).1, (hl x hx).2]) hi hn

@[simp] theorem length_surveyBytes (x : SurveyEntry) : (surveyBytes x).length = 24 := by simp [surveyBytes]

@[simp] theorem length_srcReqBytes (x : SrcReq) : (srcReqBytes x).length = 20 := by simp [srcReqBytes]

@[simp] theorem fl_readSurvey {i n : Nat} {l : List SurveyEntry} {pre : List Byte} (hl : ∀ x ∈ l, x.wf = true) (hi : pre.length = i)
    (hn : l.length = n) : fl (readSurvey (pre ++ l.flatMap surveyBytes)) i 24 n = l := by
  have hread : ∀ x ∈ l, ∀ rest, readSurvey (surveyBytes x ++ rest) 0 = x := fun x hx rest => by
    have hw := hl x hx
    simp [SurveyEntry.wf] at hw
    simp [readSurvey, surveyBytes, hw]
  simpa using fl_flatMap [] (fun b i => by simp [readSurvey, fh, fu]) (fun _ _ => length_surveyBytes _) hread hi hn

@[simp] theorem fl_readSrc {i n : Nat} {l : List SrcReq} {pre : List Byte} (hl : ∀ x ∈ l, x.wf = true) (hi : pre.length = i)
    (hn : l.length = n) : fl (readSrc (pre ++ l.flatMap srcReqBytes)) i 20 n = l := by
  have hread : ∀ x ∈ l, ∀ rest, readSrc (srcReqBytes x ++ rest) 0 = x := fun x hx rest => by
    have hw := hl x hx
    simp [SrcReq.wf] at hw
    simp [readSrc, srcReqBytes, hw]
  simpa using fl_flatMap [] (fun b i => by simp [readSrc, fh, fu]) (fun _ _ => length_srcReqBytes _) hread hi hn

/-- The reserved fields of survey entries are written as zero (R16). -/
theorem all_fz_surveyBytes {n : Nat} {l : List SurveyEntry} {pre : List Byte} (hi : pre.length = 16) (hn : l.length = n) :
    ((List.range n).all fun j => fz (pre ++ l.flatMap surveyBytes) (16 + 24 * j + 5) 1 && fz (pre ++ l.flatMap surveyBytes) (16 + 24 * j + 22) 2)
      = true := by
  refine List.all_eq_true.mpr fun j hj => ?_
  have hzero := fun o w hread => all_fz_flatMap (k := 24) o w (fun x (_ : x ∈ l) => length_surveyBytes x) hread hi hn (List.mem_range.mp hj)
  rw [hzero 5 1 (fun x _ rest => by simp [surveyBytes]), hzero 22 2 (fun x _ rest => by simp [surveyBytes])]
  rfl

/-- The same of source entries. -/
theorem all_fz_srcReqBytes {n : Nat} {l : List SrcReq} {pre : List Byte} (hi : pre.length = 16) (hn : l.length = n) :
    ((List.range n).all fun j => fz (pre ++ l.flatMap srcReqBytes) (16 + 20 * j + 18) 2) = true :=
  List.all_eq_true.mpr fun _ hj => all_fz_flatMap (k := 20) 18 2 (fun x (_ : x ∈ l) => length_srcReqBytes x)
    (fun x _ rest => by simp [srcReqBytes]) hi hn (List.mem_range.mp hj)

end Sys2Proof.Proofs

/-! PROOFS. Packets (R443): every host command is read back from its own parameters, one lemma for each row of the opcode table. -/

namespace Sys2Proof.Proofs

open Sys2Proof Sys2Proof.Machine

/-- A command whose operands fit their fields is what its own parameters spell under its opcode. -/
def ReadsBack (i : Instr) : Prop := i.wf = true → ∀ h, hdrOf i = some h → decodeCmd h (opOf i) (paramsOf i) = some i

namespace ReadsBack

theorem sysIdent (h : Hdr) : ReadsBack (.sysIdent h) := by
  delta ReadsBack Instr.wf opOf paramsOf; rintro - _ ⟨⟩
  simp [decodeCmd, decode01]

theorem sysStatus (h : Hdr) : ReadsBack (.sysStatus h) := by
  delta ReadsBack Instr.wf opOf paramsOf; rintro - _ ⟨⟩
  simp [decodeCmd, decode01]

theorem sysModeSet (h : Hdr) (mode target : Nat) : ReadsBack (.sysModeSet h mode target) := by
  delta ReadsBack Instr.wf opOf paramsOf; rintro hw _ ⟨⟩; simp at hw
  simp [decodeCmd, decode01, hw]

theorem sysDomainSet (h : Hdr) (on off target : Nat) : ReadsBack (.sysDomainSet h on off target) := by
  delta ReadsBack Instr.wf opOf paramsOf; rintro hw _ ⟨⟩; simp at hw
  simp [decodeCmd, decode01, hw]

theorem sysReset (h : Hdr) (kind confirm : Nat) : ReadsBack (.sysReset h kind confirm) := by
  delta ReadsBack Instr.wf opOf paramsOf; rintro hw _ ⟨⟩; simp at hw
  simp [decodeCmd, decode01, hw]

theorem sysEventRead (h : Hdr) (ack max : Nat) : ReadsBack (.sysEventRead h ack max) := by
  delta ReadsBack Instr.wf opOf paramsOf; rintro hw _ ⟨⟩; simp at hw
  simp [decodeCmd, decode01, hw]

theorem sysEventNotify (h : Hdr) (c : NotifyCfg) : ReadsBack (.sysEventNotify h c) := by
  delta ReadsBack Instr.wf opOf paramsOf; rintro hw _ ⟨⟩; simp [NotifyCfg.wf] at hw
  simp [decodeCmd, decode01, readNotify, notifyBytes, hw]

theorem sysProtoStatus (h : Hdr) : ReadsBack (.sysProtoStatus h) := by
  delta ReadsBack Instr.wf opOf paramsOf; rintro - _ ⟨⟩
  simp [decodeCmd, decode01]

theorem sysEventCount (h : Hdr) : ReadsBack (.sysEventCount h) := by
  delta ReadsBack Instr.wf opOf paramsOf; rintro - _ ⟨⟩
  simp [decodeCmd, decode01]

theorem pbConfig (h : Hdr) (flags stretch : Nat) : ReadsBack (.pbConfig h flags stretch) := by
  delta ReadsBack Instr.wf opOf paramsOf; rintro hw _ ⟨⟩; simp at hw
  simp [decodeCmd, decode01, hw]

theorem pbPeriphCreate (h : Hdr) (p : Periph) : ReadsBack (.pbPeriphCreate h p) := by
  delta ReadsBack Instr.wf opOf paramsOf; rintro hw _ ⟨⟩; simp at hw
  simp [decodeCmd, decode01, hw]

theorem pbPeriphRelease (h : Hdr) (periph : Handle) : ReadsBack (.pbPeriphRelease h periph) := by
  delta ReadsBack Instr.wf opOf paramsOf; rintro - _ ⟨⟩
  simp [decodeCmd, decode01]

theorem pbTransfer (h : Hdr) (r : PbReq) : ReadsBack (.pbTransfer h r) := by
  delta ReadsBack Instr.wf opOf paramsOf; rintro hw _ ⟨⟩
  simp at hw
  simp [decodeCmd, decode01, hw]
  omega

theorem pbStatus (h : Hdr) : ReadsBack (.pbStatus h) := by
  delta ReadsBack Instr.wf opOf paramsOf; rintro - _ ⟨⟩
  simp [decodeCmd, decode01]

theorem sessionOpen (h : Hdr) (role : Nat) : ReadsBack (.sessionOpen h role) := by
  delta ReadsBack Instr.wf opOf paramsOf; rintro hw _ ⟨⟩; simp at hw
  simp [decodeCmd, decode02, hw]

theorem sessionProve (h : Hdr) (sess : Handle) (proof : List Byte) : ReadsBack (.sessionProve h sess proof) := by
  delta ReadsBack Instr.wf opOf paramsOf; rintro hw _ ⟨⟩; simp at hw
  simp [decodeCmd, decode02, hw]

theorem sessionClose (h : Hdr) : ReadsBack (.sessionClose h) := by
  delta ReadsBack Instr.wf opOf paramsOf; rintro - _ ⟨⟩
  simp [decodeCmd, decode02]

theorem sessionStatus (h : Hdr) : ReadsBack (.sessionStatus h) := by
  delta ReadsBack Instr.wf opOf paramsOf; rintro - _ ⟨⟩
  simp [decodeCmd, decode02]

theorem rolekeySet (h : Hdr) (role : Nat) (key : List Byte) : ReadsBack (.rolekeySet h role key) := by
  delta ReadsBack Instr.wf opOf paramsOf; rintro hw _ ⟨⟩; simp at hw
  simp [decodeCmd, decode02, hw]

theorem auditRead (h : Hdr) (start max : Nat) : ReadsBack (.auditRead h start max) := by
  delta ReadsBack Instr.wf opOf paramsOf; rintro hw _ ⟨⟩; simp at hw
  simp [decodeCmd, decode02, hw]

theorem auditClear (h : Hdr) (confirm : Nat) : ReadsBack (.auditClear h confirm) := by
  delta ReadsBack Instr.wf opOf paramsOf; rintro hw _ ⟨⟩; simp at hw
  simp [decodeCmd, decode02, hw]

theorem tbConfig (h : Hdr) (c : TbCfg) : ReadsBack (.tbConfig h c) := by
  delta ReadsBack Instr.wf opOf paramsOf; rintro hw _ ⟨⟩; simp [TbCfg.wf] at hw
  simp [decodeCmd, decode03, readTb, tbBytes, hw]

theorem tbStatus (h : Hdr) : ReadsBack (.tbStatus h) := by
  delta ReadsBack Instr.wf opOf paramsOf; rintro - _ ⟨⟩
  simp [decodeCmd, decode03]

theorem tbPhaseStep (h : Hdr) (obj : Handle) (target : Nat) (steps : Int) : ReadsBack (.tbPhaseStep h obj target steps) := by
  delta ReadsBack Instr.wf opOf paramsOf; rintro hw _ ⟨⟩; simp at hw
  simp [decodeCmd, decode03, hw]

theorem tbSetSeconds (h : Hdr) (target secs : Nat) : ReadsBack (.tbSetSeconds h target secs) := by
  delta ReadsBack Instr.wf opOf paramsOf; rintro hw _ ⟨⟩; simp at hw
  simp [decodeCmd, decode03, hw]

theorem clkConfig (h : Hdr) (mode amount target : Nat) : ReadsBack (.clkConfig h mode amount target) := by
  delta ReadsBack Instr.wf opOf paramsOf; rintro hw _ ⟨⟩; simp at hw
  simp [decodeCmd, decode03, hw]

theorem clkStatus (h : Hdr) : ReadsBack (.clkStatus h) := by
  delta ReadsBack Instr.wf opOf paramsOf; rintro - _ ⟨⟩
  simp [decodeCmd, decode03]

theorem portConfig (h : Hdr) (port : Handle) (loop flags target : Nat) : ReadsBack (.portConfig h port loop flags target) := by
  delta ReadsBack Instr.wf opOf paramsOf; rintro hw _ ⟨⟩; simp at hw
  simp [decodeCmd, decode04, hw]

theorem portStatus (h : Hdr) (port : Handle) : ReadsBack (.portStatus h port) := by
  delta ReadsBack Instr.wf opOf paramsOf; rintro - _ ⟨⟩
  simp [decodeCmd, decode04]

theorem feedSet (h : Hdr) (port : Handle) (flags limit target : Nat) : ReadsBack (.feedSet h port flags limit target) := by
  delta ReadsBack Instr.wf opOf paramsOf; rintro hw _ ⟨⟩; simp at hw
  simp [decodeCmd, decode04, hw]

theorem feedReset (h : Hdr) (port : Handle) : ReadsBack (.feedReset h port) := by
  delta ReadsBack Instr.wf opOf paramsOf; rintro - _ ⟨⟩
  simp [decodeCmd, decode04]

theorem heddleRoute (h : Hdr) (warp port : Handle) (target : Nat) : ReadsBack (.heddleRoute h warp port target) := by
  delta ReadsBack Instr.wf opOf paramsOf; rintro hw _ ⟨⟩; simp at hw
  simp [decodeCmd, decode04, hw]

theorem warpTune (h : Hdr) (warp : Handle) (r : TuneReq) (target : Nat) : ReadsBack (.warpTune h warp r target) := by
  delta ReadsBack Instr.wf opOf paramsOf; rintro hw _ ⟨⟩; simp [TuneReq.wf] at hw
  simp [decodeCmd, decode05, readTune, tuneBytes, hw]

theorem warpGain (h : Hdr) (warp : Handle) (gain target : Nat) : ReadsBack (.warpGain h warp gain target) := by
  delta ReadsBack Instr.wf opOf paramsOf; rintro hw _ ⟨⟩; simp at hw
  simp [decodeCmd, decode05, hw]

theorem warpAgc (h : Hdr) (warp : Handle) (c : AgcCfg) : ReadsBack (.warpAgc h warp c) := by
  delta ReadsBack Instr.wf opOf paramsOf; rintro hw _ ⟨⟩; simp [AgcCfg.wf] at hw
  simp [decodeCmd, decode05, readAgc, agcBytes, hw]

theorem warpStatus (h : Hdr) (warp : Handle) : ReadsBack (.warpStatus h warp) := by
  delta ReadsBack Instr.wf opOf paramsOf; rintro - _ ⟨⟩
  simp [decodeCmd, decode05]

theorem synStatus (h : Hdr) (index : Nat) : ReadsBack (.synStatus h index) := by
  delta ReadsBack Instr.wf opOf paramsOf; rintro hw _ ⟨⟩; simp at hw
  simp [decodeCmd, decode05, hw]

theorem synDitherSet (h : Hdr) (index flags seed : Nat) : ReadsBack (.synDitherSet h index flags seed) := by
  delta ReadsBack Instr.wf opOf paramsOf; rintro hw _ ⟨⟩; simp at hw
  simp [decodeCmd, decode05, hw]

theorem synProfileStore (h : Hdr) (index num : Nat) : ReadsBack (.synProfileStore h index num) := by
  delta ReadsBack Instr.wf opOf paramsOf; rintro hw _ ⟨⟩; simp at hw
  simp [decodeCmd, decode05, hw]

theorem synProfileRead (h : Hdr) (index num : Nat) : ReadsBack (.synProfileRead h index num) := by
  delta ReadsBack Instr.wf opOf paramsOf; rintro hw _ ⟨⟩; simp at hw
  simp [decodeCmd, decode05, hw]

theorem synProfileClear (h : Hdr) (index num : Nat) : ReadsBack (.synProfileClear h index num) := by
  delta ReadsBack Instr.wf opOf paramsOf; rintro hw _ ⟨⟩; simp at hw
  simp [decodeCmd, decode05, hw]

theorem dentCreate (h : Hdr) (r : DentReq) (target : Nat) : ReadsBack (.dentCreate h r target) := by
  delta ReadsBack Instr.wf opOf paramsOf; rintro hw _ ⟨⟩; simp at hw
  simp [decodeCmd, decode06, hw]

theorem dentSet (h : Hdr) (dent : Handle) (c : DentChg) (target : Nat) : ReadsBack (.dentSet h dent c target) := by
  delta ReadsBack Instr.wf opOf paramsOf; rintro hw _ ⟨⟩; simp at hw
  simp [decodeCmd, decode06, hw]

theorem dentBankLoad (h : Hdr) (dent : Handle) (b : BankReq) : ReadsBack (.dentBankLoad h dent b) := by
  delta ReadsBack Instr.wf opOf paramsOf; rintro hw _ ⟨⟩
  simp at hw
  obtain ⟨hw, hl⟩ := hw
  obtain ⟨bank, kind, n, flags, delay, taps⟩ := b
  by_cases hk : kind = 0
  · simp [hk] at hw
    simp [decodeCmd, decode06, hw, hk, fl_fs_leSigned hl, -List.append_assoc]
    omega
  · simp [hk] at hw
    simp [decodeCmd, decode06, hw, hk]

theorem dentBankSwap (h : Hdr) (dent : Handle) (sample target : Nat) : ReadsBack (.dentBankSwap h dent sample target) := by
  delta ReadsBack Instr.wf opOf paramsOf; rintro hw _ ⟨⟩; simp at hw
  simp [decodeCmd, decode06, hw]

theorem dentFlush (h : Hdr) (dent : Handle) (sample target : Nat) : ReadsBack (.dentFlush h dent sample target) := by
  delta ReadsBack Instr.wf opOf paramsOf; rintro hw _ ⟨⟩; simp at hw
  simp [decodeCmd, decode06, hw]

theorem dentRelease (h : Hdr) (dent : Handle) (sample target : Nat) : ReadsBack (.dentRelease h dent sample target) := by
  delta ReadsBack Instr.wf opOf paramsOf; rintro hw _ ⟨⟩; simp at hw
  simp [decodeCmd, decode06, hw]

theorem dentStatus (h : Hdr) (dent : Handle) : ReadsBack (.dentStatus h dent) := by
  delta ReadsBack Instr.wf opOf paramsOf; rintro - _ ⟨⟩
  simp [decodeCmd, decode06]

theorem reedStatus (h : Hdr) : ReadsBack (.reedStatus h) := by
  delta ReadsBack Instr.wf opOf paramsOf; rintro - _ ⟨⟩
  simp [decodeCmd, decode06]

theorem dentBankRead (h : Hdr) (dent : Handle) (bank : Nat) : ReadsBack (.dentBankRead h dent bank) := by
  delta ReadsBack Instr.wf opOf paramsOf; rintro hw _ ⟨⟩; simp at hw
  simp [decodeCmd, decode06, hw]

theorem weaveCreate (h : Hdr) (r : WeaveReq) (target : Nat) : ReadsBack (.weaveCreate h r target) := by
  delta ReadsBack Instr.wf opOf paramsOf; rintro hw _ ⟨⟩
  simp at hw
  obtain ⟨⟨hw, hn⟩, hm⟩ := hw
  have hcount : fu (byte r.type ++ byte r.n ++ byte r.prio ++ byte r.group ++ byte r.flags ++ byte r.opt ++ leBytes 2 r.m
      ++ leBytes 8 target ++ r.dents.flatMap handleBytes ++ r.block) 1 1 = r.n := by simp [hw]
  have hblock : (byte r.type ++ byte r.n ++ byte r.prio ++ byte r.group ++ byte r.flags ++ byte r.opt ++ leBytes 2 r.m
      ++ leBytes 8 target ++ r.dents.flatMap handleBytes ++ r.block).drop (16 + 4 * r.n) = r.block :=
    List.drop_left' (by simp [hn]; omega)
  simp only [decodeCmd, decode07, Nat.reduceDiv, hcount, hblock]
  rw [fl_fh_handles_append _ (by simp) hn]
  simp [hw, hn, hm]
  omega

theorem weaveStart (h : Hdr) (weave : Handle) (target : Nat) : ReadsBack (.weaveStart h weave target) := by
  delta ReadsBack Instr.wf opOf paramsOf; rintro hw _ ⟨⟩; simp at hw
  simp [decodeCmd, decode07, hw]

theorem weaveStop (h : Hdr) (weave : Handle) (target : Nat) : ReadsBack (.weaveStop h weave target) := by
  delta ReadsBack Instr.wf opOf paramsOf; rintro hw _ ⟨⟩; simp at hw
  simp [decodeCmd, decode07, hw]

theorem weaveRelease (h : Hdr) (weave : Handle) (target : Nat) : ReadsBack (.weaveRelease h weave target) := by
  delta ReadsBack Instr.wf opOf paramsOf; rintro hw _ ⟨⟩; simp at hw
  simp [decodeCmd, decode07, hw]

theorem weaveSet (h : Hdr) (weave : Handle) (prio m target : Nat) (block : List Byte) : ReadsBack (.weaveSet h weave prio m target block) := by
  delta ReadsBack Instr.wf opOf paramsOf; rintro hw _ ⟨⟩
  simp at hw
  simp [decodeCmd, decode07, hw]
  omega

theorem weaveStatus (h : Hdr) (weave : Handle) : ReadsBack (.weaveStatus h weave) := by
  delta ReadsBack Instr.wf opOf paramsOf; rintro - _ ⟨⟩
  simp [decodeCmd, decode07]

theorem schedStatus (h : Hdr) : ReadsBack (.schedStatus h) := by
  delta ReadsBack Instr.wf opOf paramsOf; rintro - _ ⟨⟩
  simp [decodeCmd, decode07]

theorem fmStatus (h : Hdr) (weave : Handle) : ReadsBack (.fmStatus h weave) := by
  delta ReadsBack Instr.wf opOf paramsOf; rintro - _ ⟨⟩
  simp [decodeCmd, decode07]

theorem amStatus (h : Hdr) (weave : Handle) : ReadsBack (.amStatus h weave) := by
  delta ReadsBack Instr.wf opOf paramsOf; rintro - _ ⟨⟩
  simp [decodeCmd, decode07]

theorem fmAfRead (h : Hdr) (weave : Handle) (index : Nat) : ReadsBack (.fmAfRead h weave index) := by
  delta ReadsBack Instr.wf opOf paramsOf; rintro hw _ ⟨⟩; simp at hw
  simp [decodeCmd, decode07, hw]

theorem dabStatus (h : Hdr) (weave : Handle) : ReadsBack (.dabStatus h weave) := by
  delta ReadsBack Instr.wf opOf paramsOf; rintro - _ ⟨⟩
  simp [decodeCmd, decode07]

theorem dabSubchRead (h : Hdr) (weave : Handle) (id : Nat) : ReadsBack (.dabSubchRead h weave id) := by
  delta ReadsBack Instr.wf opOf paramsOf; rintro hw _ ⟨⟩; simp at hw
  simp [decodeCmd, decode07, hw]

theorem dabTiiRead (h : Hdr) (weave : Handle) : ReadsBack (.dabTiiRead h weave) := by
  delta ReadsBack Instr.wf opOf paramsOf; rintro - _ ⟨⟩
  simp [decodeCmd, decode07]

theorem drmStatus (h : Hdr) (weave : Handle) : ReadsBack (.drmStatus h weave) := by
  delta ReadsBack Instr.wf opOf paramsOf; rintro - _ ⟨⟩
  simp [decodeCmd, decode07]

theorem digDecodeSet (h : Hdr) (weave : Handle) (n target : Nat) (comps : List Handle) : ReadsBack (.digDecodeSet h weave n target comps) := by
  delta ReadsBack Instr.wf opOf paramsOf; rintro hw _ ⟨⟩
  simp at hw
  simp [decodeCmd, decode07, hw, -List.append_assoc]
  omega

theorem surveyStart (h : Hdr) (n flags target : Nat) (entries : List SurveyEntry) : ReadsBack (.surveyStart h n flags target entries) := by
  delta ReadsBack Instr.wf opOf paramsOf; rintro hw _ ⟨⟩
  simp at hw
  obtain ⟨⟨hw, hn⟩, hl⟩ := hw
  have hcount : fu (byte n ++ byte flags ++ zeros 6 ++ leBytes 8 target ++ entries.flatMap surveyBytes) 0 1 = n := by simp [hw]
  simp only [decodeCmd, decode08, Nat.reduceDiv, hcount]
  rw [all_fz_surveyBytes (hn := hn)]
  · simp [hw, hn, fl_readSurvey hl, -List.append_assoc]
    omega
  · simp

theorem surveyStop (h : Hdr) : ReadsBack (.surveyStop h) := by
  delta ReadsBack Instr.wf opOf paramsOf; rintro - _ ⟨⟩
  simp [decodeCmd, decode08]

theorem surveyStatus (h : Hdr) : ReadsBack (.surveyStatus h) := by
  delta ReadsBack Instr.wf opOf paramsOf; rintro - _ ⟨⟩
  simp [decodeCmd, decode08]

theorem serviceList (h : Hdr) (start : Nat) : ReadsBack (.serviceList h start) := by
  delta ReadsBack Instr.wf opOf paramsOf; rintro hw _ ⟨⟩; simp at hw
  simp [decodeCmd, decode08, hw]

theorem serviceRead (h : Hdr) (svc : Handle) : ReadsBack (.serviceRead h svc) := by
  delta ReadsBack Instr.wf opOf paramsOf; rintro - _ ⟨⟩
  simp [decodeCmd, decode08]

theorem componentRead (h : Hdr) (comp : Handle) : ReadsBack (.componentRead h comp) := by
  delta ReadsBack Instr.wf opOf paramsOf; rintro - _ ⟨⟩
  simp [decodeCmd, decode08]

theorem labelRead (h : Hdr) (obj : Handle) (kind : Nat) : ReadsBack (.labelRead h obj kind) := by
  delta ReadsBack Instr.wf opOf paramsOf; rintro hw _ ⟨⟩; simp at hw
  simp [decodeCmd, decode08, hw]

theorem linkRead (h : Hdr) (svc : Handle) (start : Nat) : ReadsBack (.linkRead h svc start) := by
  delta ReadsBack Instr.wf opOf paramsOf; rintro hw _ ⟨⟩; simp at hw
  simp [decodeCmd, decode08, hw]

theorem serviceRelease (h : Hdr) (svc : Handle) (target : Nat) : ReadsBack (.serviceRelease h svc target) := by
  delta ReadsBack Instr.wf opOf paramsOf; rintro hw _ ⟨⟩; simp at hw
  simp [decodeCmd, decode08, hw]

theorem timePolicy (h : Hdr) (c : TimeCfg) : ReadsBack (.timePolicy h c) := by
  delta ReadsBack Instr.wf opOf paramsOf; rintro hw _ ⟨⟩; simp [TimeCfg.wf] at hw
  simp [decodeCmd, decode08, readTime, timeBytes, hw]

theorem timeStatus (h : Hdr) : ReadsBack (.timeStatus h) := by
  delta ReadsBack Instr.wf opOf paramsOf; rintro - _ ⟨⟩
  simp [decodeCmd, decode08]

theorem followCreate (h : Hdr) (n group flags hold target : Nat) (entries : List SrcReq) : ReadsBack (.followCreate h n group flags hold target entries) := by
  delta ReadsBack Instr.wf opOf paramsOf; rintro hw _ ⟨⟩
  simp at hw
  obtain ⟨⟨hw, hn⟩, hl⟩ := hw
  have hcount : fu (byte n ++ byte group ++ byte flags ++ zeros 1 ++ leBytes 4 hold ++ leBytes 8 target ++ entries.flatMap srcReqBytes) 0 1 = n := by simp [hw]
  simp only [decodeCmd, decode09, Nat.reduceDiv, hcount]
  rw [all_fz_srcReqBytes (hn := hn)]
  · simp [hw, hn, fl_readSrc hl, -List.append_assoc]
    omega
  · simp

theorem followSet (h : Hdr) (set : Handle) (n target : Nat) (entries : List SrcReq) : ReadsBack (.followSet h set n target entries) := by
  delta ReadsBack Instr.wf opOf paramsOf; rintro hw _ ⟨⟩
  simp at hw
  obtain ⟨⟨hw, hn⟩, hl⟩ := hw
  have hcount : fu (handleBytes set ++ byte n ++ zeros 3 ++ leBytes 8 target ++ entries.flatMap srcReqBytes) 4 1 = n := by simp [hw]
  simp only [decodeCmd, decode09, Nat.reduceDiv, hcount]
  rw [all_fz_srcReqBytes (hn := hn)]
  · simp [hw, hn, fl_readSrc hl, -List.append_assoc]
    omega
  · simp

theorem followCommit (h : Hdr) (set : Handle) (entry sample target fade : Nat) : ReadsBack (.followCommit h set entry sample target fade) := by
  delta ReadsBack Instr.wf opOf paramsOf; rintro hw _ ⟨⟩; simp at hw
  simp [decodeCmd, decode09, hw]

theorem followRelease (h : Hdr) (set : Handle) (target : Nat) : ReadsBack (.followRelease h set target) := by
  delta ReadsBack Instr.wf opOf paramsOf; rintro hw _ ⟨⟩; simp at hw
  simp [decodeCmd, decode09, hw]

theorem followStatus (h : Hdr) (set : Handle) : ReadsBack (.followStatus h set) := by
  delta ReadsBack Instr.wf opOf paramsOf; rintro - _ ⟨⟩
  simp [decodeCmd, decode09]

theorem followPolicy (h : Hdr) (set : Handle) (c : FollowCfg) : ReadsBack (.followPolicy h set c) := by
  delta ReadsBack Instr.wf opOf paramsOf; rintro hw _ ⟨⟩; simp at hw
  simp [decodeCmd, decode09, hw]

theorem measRead (h : Hdr) (obj : Handle) : ReadsBack (.measRead h obj) := by
  delta ReadsBack Instr.wf opOf paramsOf; rintro - _ ⟨⟩
  simp [decodeCmd, decode0A]

theorem measWindow (h : Hdr) (obj : Handle) (w : Nat) : ReadsBack (.measWindow h obj w) := by
  delta ReadsBack Instr.wf opOf paramsOf; rintro hw _ ⟨⟩; simp at hw
  simp [decodeCmd, decode0A, hw]

theorem measThreshold (h : Hdr) (obj : Handle) (t : ThrReq) : ReadsBack (.measThreshold h obj t) := by
  delta ReadsBack Instr.wf opOf paramsOf; rintro hw _ ⟨⟩; obtain ⟨code, basis, hold, low, high, hyst⟩ := t
  cases low <;> cases high <;> simp [Option.all] at hw <;> simp [decodeCmd, decode0A, lowSide, highSide, hw]

theorem loudnessRead (h : Hdr) (comp : Handle) : ReadsBack (.loudnessRead h comp) := by
  delta ReadsBack Instr.wf opOf paramsOf; rintro - _ ⟨⟩
  simp [decodeCmd, decode0A]

theorem loudnessReset (h : Hdr) (comp : Handle) (target : Nat) : ReadsBack (.loudnessReset h comp target) := by
  delta ReadsBack Instr.wf opOf paramsOf; rintro hw _ ⟨⟩; simp at hw
  simp [decodeCmd, decode0A, hw]

theorem audioMonSet (h : Hdr) (comp : Handle) (c : MonCfg) : ReadsBack (.audioMonSet h comp c) := by
  delta ReadsBack Instr.wf opOf paramsOf; rintro hw _ ⟨⟩; simp at hw
  simp [decodeCmd, decode0A, hw]

theorem verifySet (h : Hdr) (r : VerifyReq) (target : Nat) : ReadsBack (.verifySet h r target) := by
  delta ReadsBack Instr.wf opOf paramsOf; rintro hw _ ⟨⟩; simp at hw
  simp [decodeCmd, decode0A, hw]

theorem verifyClear (h : Hdr) (index target : Nat) : ReadsBack (.verifyClear h index target) := by
  delta ReadsBack Instr.wf opOf paramsOf; rintro hw _ ⟨⟩; simp at hw
  simp [decodeCmd, decode0A, hw]

theorem verifyStatus (h : Hdr) (index : Nat) : ReadsBack (.verifyStatus h index) := by
  delta ReadsBack Instr.wf opOf paramsOf; rintro hw _ ⟨⟩; simp at hw
  simp [decodeCmd, decode0A, hw]

theorem tdmPortConfig (h : Hdr) (port : Handle) (c : TdmCfg) (target : Nat) : ReadsBack (.tdmPortConfig h port c target) := by
  delta ReadsBack Instr.wf opOf paramsOf; rintro hw _ ⟨⟩; simp [TdmCfg.wf] at hw
  simp [decodeCmd, decode0B, readTdm, tdmCfgBytes, hw]

theorem tdmPortStatus (h : Hdr) (port : Handle) : ReadsBack (.tdmPortStatus h port) := by
  delta ReadsBack Instr.wf opOf paramsOf; rintro - _ ⟨⟩
  simp [decodeCmd, decode0B]

theorem tdmStreamCreate (h : Hdr) (r : TdmStreamReq) (target : Nat) : ReadsBack (.tdmStreamCreate h r target) := by
  delta ReadsBack Instr.wf opOf paramsOf; rintro hw _ ⟨⟩; simp at hw
  simp [decodeCmd, decode0B, hw]

theorem tdmStreamRelease (h : Hdr) (stream : Handle) (target : Nat) : ReadsBack (.tdmStreamRelease h stream target) := by
  delta ReadsBack Instr.wf opOf paramsOf; rintro hw _ ⟨⟩; simp at hw
  simp [decodeCmd, decode0B, hw]

theorem alignCreate (h : Hdr) (target : Nat) : ReadsBack (.alignCreate h target) := by
  delta ReadsBack Instr.wf opOf paramsOf; rintro hw _ ⟨⟩; simp at hw
  simp [decodeCmd, decode0B, hw]

theorem alignAdd (h : Hdr) (group stream : Handle) (target : Nat) : ReadsBack (.alignAdd h group stream target) := by
  delta ReadsBack Instr.wf opOf paramsOf; rintro hw _ ⟨⟩; simp at hw
  simp [decodeCmd, decode0B, hw]

theorem alignRemove (h : Hdr) (group stream : Handle) (target : Nat) : ReadsBack (.alignRemove h group stream target) := by
  delta ReadsBack Instr.wf opOf paramsOf; rintro hw _ ⟨⟩; simp at hw
  simp [decodeCmd, decode0B, hw]

theorem alignRelease (h : Hdr) (group : Handle) (target : Nat) : ReadsBack (.alignRelease h group target) := by
  delta ReadsBack Instr.wf opOf paramsOf; rintro hw _ ⟨⟩; simp at hw
  simp [decodeCmd, decode0B, hw]

theorem alignStatus (h : Hdr) (group : Handle) : ReadsBack (.alignStatus h group) := by
  delta ReadsBack Instr.wf opOf paramsOf; rintro - _ ⟨⟩
  simp [decodeCmd, decode0B]

theorem ethPortConfig (h : Hdr) (port : Handle) (c : EthCfg) (target : Nat) : ReadsBack (.ethPortConfig h port c target) := by
  delta ReadsBack Instr.wf opOf paramsOf; rintro hw _ ⟨⟩; simp [EthCfg.wf] at hw
  simp [decodeCmd, decode0C, readEth, ethBytes, hw]

theorem ethPortStatus (h : Hdr) (port : Handle) : ReadsBack (.ethPortStatus h port) := by
  delta ReadsBack Instr.wf opOf paramsOf; rintro - _ ⟨⟩
  simp [decodeCmd, decode0C]

theorem ethStreamCreate (h : Hdr) (r : EthReq) (target : Nat) : ReadsBack (.ethStreamCreate h r target) := by
  delta ReadsBack Instr.wf opOf paramsOf; rintro hw _ ⟨⟩
  simp at hw
  simp [decodeCmd, decode0C, hw, -List.append_assoc]
  omega

theorem ethStreamRelease (h : Hdr) (stream : Handle) (target : Nat) : ReadsBack (.ethStreamRelease h stream target) := by
  delta ReadsBack Instr.wf opOf paramsOf; rintro hw _ ⟨⟩; simp at hw
  simp [decodeCmd, decode0C, hw]

theorem ethStreamStatus (h : Hdr) (stream : Handle) : ReadsBack (.ethStreamStatus h stream) := by
  delta ReadsBack Instr.wf opOf paramsOf; rintro - _ ⟨⟩
  simp [decodeCmd, decode0C]

theorem rtcRead (h : Hdr) : ReadsBack (.rtcRead h) := by
  delta ReadsBack Instr.wf opOf paramsOf; rintro - _ ⟨⟩
  simp [decodeCmd, decode0D]

theorem rtcSet (h : Hdr) (kind value target : Nat) : ReadsBack (.rtcSet h kind value target) := by
  delta ReadsBack Instr.wf opOf paramsOf; rintro hw _ ⟨⟩; simp at hw
  simp [decodeCmd, decode0D, hw]

theorem rtcTrim (h : Hdr) (trim : Int) : ReadsBack (.rtcTrim h trim) := by
  delta ReadsBack Instr.wf opOf paramsOf; rintro hw _ ⟨⟩; simp at hw
  simp [decodeCmd, decode0D, hw]

theorem rtcAlarmSet (h : Hdr) (alarm flags value : Nat) : ReadsBack (.rtcAlarmSet h alarm flags value) := by
  delta ReadsBack Instr.wf opOf paramsOf; rintro hw _ ⟨⟩; simp at hw
  simp [decodeCmd, decode0D, hw]

theorem rtcStatus (h : Hdr) : ReadsBack (.rtcStatus h) := by
  delta ReadsBack Instr.wf opOf paramsOf; rintro - _ ⟨⟩
  simp [decodeCmd, decode0D]

theorem rtcWeekdaySet (h : Hdr) (weekday offset : Nat) : ReadsBack (.rtcWeekdaySet h weekday offset) := by
  delta ReadsBack Instr.wf opOf paramsOf; rintro hw _ ⟨⟩; simp at hw
  simp [decodeCmd, decode0D, hw]

theorem rtcConfig (h : Hdr) (vsw low : Nat) : ReadsBack (.rtcConfig h vsw low) := by
  delta ReadsBack Instr.wf opOf paramsOf; rintro hw _ ⟨⟩; simp at hw
  simp [decodeCmd, decode0D, hw]

theorem dateToTicks (h : Hdr) (d : Date) : ReadsBack (.dateToTicks h d) := by
  delta ReadsBack Instr.wf opOf paramsOf; rintro hw _ ⟨⟩; simp at hw
  simp [decodeCmd, decode0D, hw]

theorem ticksToDate (h : Hdr) (count : Nat) : ReadsBack (.ticksToDate h count) := by
  delta ReadsBack Instr.wf opOf paramsOf; rintro hw _ ⟨⟩; simp at hw
  simp [decodeCmd, decode0D, hw]

theorem recordStatus (h : Hdr) (rec : Handle) : ReadsBack (.recordStatus h rec) := by
  delta ReadsBack Instr.wf opOf paramsOf; rintro - _ ⟨⟩
  simp [decodeCmd, decode0E]

theorem recordRead (h : Hdr) (rec : Handle) (copy len offset : Nat) : ReadsBack (.recordRead h rec copy len offset) := by
  delta ReadsBack Instr.wf opOf paramsOf; rintro hw _ ⟨⟩; simp at hw
  simp [decodeCmd, decode0E, hw]

theorem recordResolve (h : Hdr) (rec : Handle) (keep : Nat) : ReadsBack (.recordResolve h rec keep) := by
  delta ReadsBack Instr.wf opOf paramsOf; rintro hw _ ⟨⟩; simp at hw
  simp [decodeCmd, decode0E, hw]

theorem limitsWrite (h : Hdr) (l : Limits) : ReadsBack (.limitsWrite h l) := by
  delta ReadsBack Instr.wf opOf paramsOf; rintro hw _ ⟨⟩
  obtain ⟨allowance, ports⟩ := l
  simp [List.length_eq_four] at hw
  obtain ⟨⟨hw, p, q, r, s, rfl⟩, hl⟩ := hw
  simp [PortLimit.wf] at hl
  simp [decodeCmd, decode0E, hw, hl, limitBytes, readLimit, fl, List.range_succ]

theorem trimWrite (h : Hdr) (offset total flags : Nat) (data : List Byte) : ReadsBack (.trimWrite h offset total flags data) := by
  delta ReadsBack Instr.wf opOf paramsOf; rintro hw _ ⟨⟩
  simp at hw
  simp [decodeCmd, decode0E, hw]
  omega

theorem fwStatus (h : Hdr) : ReadsBack (.fwStatus h) := by
  delta ReadsBack Instr.wf opOf paramsOf; rintro - _ ⟨⟩
  simp [decodeCmd, decode0E]

theorem fwLoadBegin (h : Hdr) (target len : Nat) : ReadsBack (.fwLoadBegin h target len) := by
  delta ReadsBack Instr.wf opOf paramsOf; rintro hw _ ⟨⟩; simp at hw
  simp [decodeCmd, decode0E, hw]

theorem fwLoadData (h : Hdr) (offset : Nat) (data : List Byte) : ReadsBack (.fwLoadData h offset data) := by
  delta ReadsBack Instr.wf opOf paramsOf; rintro hw _ ⟨⟩; simp at hw
  simp [decodeCmd, decode0E, hw]

theorem fwLoadEnd (h : Hdr) : ReadsBack (.fwLoadEnd h) := by
  delta ReadsBack Instr.wf opOf paramsOf; rintro - _ ⟨⟩
  simp [decodeCmd, decode0E]

theorem fwBoot (h : Hdr) (source flags confirm : Nat) : ReadsBack (.fwBoot h source flags confirm) := by
  delta ReadsBack Instr.wf opOf paramsOf; rintro hw _ ⟨⟩; simp at hw
  simp [decodeCmd, decode0E, hw]

theorem fwKeyWrite (h : Hdr) (slot flags : Nat) (key : List Byte) : ReadsBack (.fwKeyWrite h slot flags key) := by
  delta ReadsBack Instr.wf opOf paramsOf; rintro hw _ ⟨⟩; simp at hw
  simp [decodeCmd, decode0E, hw]

theorem lifecycleLock (h : Hdr) (confirm : Nat) : ReadsBack (.lifecycleLock h confirm) := by
  delta ReadsBack Instr.wf opOf paramsOf; rintro hw _ ⟨⟩; simp at hw
  simp [decodeCmd, decode0E, hw]

theorem pairConfig (h : Hdr) (c : PairCfg) (target : Nat) : ReadsBack (.pairConfig h c target) := by
  delta ReadsBack Instr.wf opOf paramsOf; rintro hw _ ⟨⟩
  obtain ⟨id, partner, position, flags, map⟩ := c
  simp [List.length_eq_four] at hw
  obtain ⟨⟨⟨hw, p, q, r, s, rfl⟩, hl⟩, ht⟩ := hw
  simp at hl
  simp [decodeCmd, decode0F, hw, hl, ht, fl, List.range_succ]

theorem pairStatus (h : Hdr) : ReadsBack (.pairStatus h) := by
  delta ReadsBack Instr.wf opOf paramsOf; rintro - _ ⟨⟩
  simp [decodeCmd, decode0F]

theorem pairHandover (h : Hdr) (flags target : Nat) : ReadsBack (.pairHandover h flags target) := by
  delta ReadsBack Instr.wf opOf paramsOf; rintro hw _ ⟨⟩; simp at hw
  simp [decodeCmd, decode0F, hw]

theorem deviceIdSet (h : Hdr) (id : Nat) : ReadsBack (.deviceIdSet h id) := by
  delta ReadsBack Instr.wf opOf paramsOf; rintro hw _ ⟨⟩; simp at hw
  simp [decodeCmd, decode0F, hw]

theorem farmStatus (h : Hdr) : ReadsBack (.farmStatus h) := by
  delta ReadsBack Instr.wf opOf paramsOf; rintro - _ ⟨⟩
  simp [decodeCmd, decode0F]

theorem calPolicy (h : Hdr) (c : CalCfg) : ReadsBack (.calPolicy h c) := by
  delta ReadsBack Instr.wf opOf paramsOf; rintro hw _ ⟨⟩; simp [CalCfg.wf] at hw
  simp [decodeCmd, decode10, readCal, calBytes, hw]

theorem calRequest (h : Hdr) (warp : Handle) (flags : Nat) : ReadsBack (.calRequest h warp flags) := by
  delta ReadsBack Instr.wf opOf paramsOf; rintro hw _ ⟨⟩; simp at hw
  simp [decodeCmd, decode10, hw]

theorem calStatus (h : Hdr) (warp : Handle) : ReadsBack (.calStatus h warp) := by
  delta ReadsBack Instr.wf opOf paramsOf; rintro - _ ⟨⟩
  simp [decodeCmd, decode10]

theorem calResultRead (h : Hdr) (warp : Handle) (gainBand loBand : Nat) : ReadsBack (.calResultRead h warp gainBand loBand) := by
  delta ReadsBack Instr.wf opOf paramsOf; rintro hw _ ⟨⟩; simp at hw
  simp [decodeCmd, decode10, hw]

theorem calSnapshot (h : Hdr) : ReadsBack (.calSnapshot h) := by
  delta ReadsBack Instr.wf opOf paramsOf; rintro - _ ⟨⟩
  simp [decodeCmd, decode10]

theorem tunerPresetWrite (h : Hdr) (port : Handle) (num : Nat) (p : Preset) : ReadsBack (.tunerPresetWrite h port num p) := by
  delta ReadsBack Instr.wf opOf paramsOf; rintro hw _ ⟨⟩; simp [Preset.wf] at hw
  simp [decodeCmd, decode11, readPreset, presetBytes, hw]

theorem tunerPresetRead (h : Hdr) (port : Handle) (num : Nat) : ReadsBack (.tunerPresetRead h port num) := by
  delta ReadsBack Instr.wf opOf paramsOf; rintro hw _ ⟨⟩; simp at hw
  simp [decodeCmd, decode11, hw]

theorem tunerSelect (h : Hdr) (port : Handle) (num flags target : Nat) : ReadsBack (.tunerSelect h port num flags target) := by
  delta ReadsBack Instr.wf opOf paramsOf; rintro hw _ ⟨⟩; simp at hw
  simp [decodeCmd, decode11, hw]

theorem tunerStatus (h : Hdr) (port : Handle) : ReadsBack (.tunerStatus h port) := by
  delta ReadsBack Instr.wf opOf paramsOf; rintro - _ ⟨⟩
  simp [decodeCmd, decode11]

theorem probeStart (h : Hdr) (r : ProbeReq) : ReadsBack (.probeStart h r) := by
  delta ReadsBack Instr.wf opOf paramsOf; rintro hw _ ⟨⟩
  simp at hw
  simp [decodeCmd, decode11, hw, fl_fu_leBytes hw.2, -List.append_assoc]
  omega

theorem probeStop (h : Hdr) : ReadsBack (.probeStop h) := by
  delta ReadsBack Instr.wf opOf paramsOf; rintro - _ ⟨⟩
  simp [decodeCmd, decode11]

theorem probeStatus (h : Hdr) : ReadsBack (.probeStatus h) := by
  delta ReadsBack Instr.wf opOf paramsOf; rintro - _ ⟨⟩
  simp [decodeCmd, decode11]

theorem mismatchMeasure (h : Hdr) (port : Handle) (points threshold target : Nat) (freqs : List Nat) : ReadsBack (.mismatchMeasure h port points threshold target freqs) := by
  delta ReadsBack Instr.wf opOf paramsOf; rintro hw _ ⟨⟩
  simp at hw
  simp [decodeCmd, decode11, hw, fl_fu_leBytes hw.2, -List.append_assoc]
  omega

theorem mismatchRead (h : Hdr) (port : Handle) : ReadsBack (.mismatchRead h port) := by
  delta ReadsBack Instr.wf opOf paramsOf; rintro - _ ⟨⟩
  simp [decodeCmd, decode11]

end ReadsBack

/-- An event of the surroundings has no header, and its parameters spell nothing. -/
theorem readsBack (i : Instr) : ReadsBack i := by
  cases i with
  | sysIdent h => exact ReadsBack.sysIdent h
  | sysStatus h => exact ReadsBack.sysStatus h
  | sysModeSet h mode target => exact ReadsBack.sysModeSet h mode target
  | sysDomainSet h on off target => exact ReadsBack.sysDomainSet h on off target
  | sysReset h kind confirm => exact ReadsBack.sysReset h kind confirm
  | sysEventRead h ack max => exact ReadsBack.sysEventRead h ack max
  | sysEventNotify h c => exact ReadsBack.sysEventNotify h c
  | sysProtoStatus h => exact ReadsBack.sysProtoStatus h
  | sysEventCount h => exact ReadsBack.sysEventCount h
  | pbConfig h flags stretch => exact ReadsBack.pbConfig h flags stretch
  | pbPeriphCreate h p => exact ReadsBack.pbPeriphCreate h p
  | pbPeriphRelease h periph => exact ReadsBack.pbPeriphRelease h periph
  | pbTransfer h r => exact ReadsBack.pbTransfer h r
  | pbStatus h => exact ReadsBack.pbStatus h
  | sessionOpen h role => exact ReadsBack.sessionOpen h role
  | sessionProve h sess proof => exact ReadsBack.sessionProve h sess proof
  | sessionClose h => exact ReadsBack.sessionClose h
  | sessionStatus h => exact ReadsBack.sessionStatus h
  | rolekeySet h role key => exact ReadsBack.rolekeySet h role key
  | auditRead h start max => exact ReadsBack.auditRead h start max
  | auditClear h confirm => exact ReadsBack.auditClear h confirm
  | tbConfig h c => exact ReadsBack.tbConfig h c
  | tbStatus h => exact ReadsBack.tbStatus h
  | tbPhaseStep h obj target steps => exact ReadsBack.tbPhaseStep h obj target steps
  | tbSetSeconds h target secs => exact ReadsBack.tbSetSeconds h target secs
  | clkConfig h mode amount target => exact ReadsBack.clkConfig h mode amount target
  | clkStatus h => exact ReadsBack.clkStatus h
  | portConfig h port loop flags target => exact ReadsBack.portConfig h port loop flags target
  | portStatus h port => exact ReadsBack.portStatus h port
  | feedSet h port flags limit target => exact ReadsBack.feedSet h port flags limit target
  | feedReset h port => exact ReadsBack.feedReset h port
  | heddleRoute h warp port target => exact ReadsBack.heddleRoute h warp port target
  | warpTune h warp r target => exact ReadsBack.warpTune h warp r target
  | warpGain h warp gain target => exact ReadsBack.warpGain h warp gain target
  | warpAgc h warp c => exact ReadsBack.warpAgc h warp c
  | warpStatus h warp => exact ReadsBack.warpStatus h warp
  | synStatus h index => exact ReadsBack.synStatus h index
  | synDitherSet h index flags seed => exact ReadsBack.synDitherSet h index flags seed
  | synProfileStore h index num => exact ReadsBack.synProfileStore h index num
  | synProfileRead h index num => exact ReadsBack.synProfileRead h index num
  | synProfileClear h index num => exact ReadsBack.synProfileClear h index num
  | dentCreate h r target => exact ReadsBack.dentCreate h r target
  | dentSet h dent c target => exact ReadsBack.dentSet h dent c target
  | dentBankLoad h dent b => exact ReadsBack.dentBankLoad h dent b
  | dentBankSwap h dent sample target => exact ReadsBack.dentBankSwap h dent sample target
  | dentFlush h dent sample target => exact ReadsBack.dentFlush h dent sample target
  | dentRelease h dent sample target => exact ReadsBack.dentRelease h dent sample target
  | dentStatus h dent => exact ReadsBack.dentStatus h dent
  | reedStatus h => exact ReadsBack.reedStatus h
  | dentBankRead h dent bank => exact ReadsBack.dentBankRead h dent bank
  | weaveCreate h r target => exact ReadsBack.weaveCreate h r target
  | weaveStart h weave target => exact ReadsBack.weaveStart h weave target
  | weaveStop h weave target => exact ReadsBack.weaveStop h weave target
  | weaveRelease h weave target => exact ReadsBack.weaveRelease h weave target
  | weaveSet h weave prio m target block => exact ReadsBack.weaveSet h weave prio m target block
  | weaveStatus h weave => exact ReadsBack.weaveStatus h weave
  | schedStatus h => exact ReadsBack.schedStatus h
  | fmStatus h weave => exact ReadsBack.fmStatus h weave
  | amStatus h weave => exact ReadsBack.amStatus h weave
  | fmAfRead h weave index => exact ReadsBack.fmAfRead h weave index
  | dabStatus h weave => exact ReadsBack.dabStatus h weave
  | dabSubchRead h weave id => exact ReadsBack.dabSubchRead h weave id
  | dabTiiRead h weave => exact ReadsBack.dabTiiRead h weave
  | drmStatus h weave => exact ReadsBack.drmStatus h weave
  | digDecodeSet h weave n target comps => exact ReadsBack.digDecodeSet h weave n target comps
  | surveyStart h n flags target entries => exact ReadsBack.surveyStart h n flags target entries
  | surveyStop h => exact ReadsBack.surveyStop h
  | surveyStatus h => exact ReadsBack.surveyStatus h
  | serviceList h start => exact ReadsBack.serviceList h start
  | serviceRead h svc => exact ReadsBack.serviceRead h svc
  | componentRead h comp => exact ReadsBack.componentRead h comp
  | labelRead h obj kind => exact ReadsBack.labelRead h obj kind
  | linkRead h svc start => exact ReadsBack.linkRead h svc start
  | serviceRelease h svc target => exact ReadsBack.serviceRelease h svc target
  | timePolicy h c => exact ReadsBack.timePolicy h c
  | timeStatus h => exact ReadsBack.timeStatus h
  | followCreate h n group flags hold target entries => exact ReadsBack.followCreate h n group flags hold target entries
  | followSet h set n target entries => exact ReadsBack.followSet h set n target entries
  | followCommit h set entry sample target fade => exact ReadsBack.followCommit h set entry sample target fade
  | followRelease h set target => exact ReadsBack.followRelease h set target
  | followStatus h set => exact ReadsBack.followStatus h set
  | followPolicy h set c => exact ReadsBack.followPolicy h set c
  | measRead h obj => exact ReadsBack.measRead h obj
  | measWindow h obj w => exact ReadsBack.measWindow h obj w
  | measThreshold h obj t => exact ReadsBack.measThreshold h obj t
  | loudnessRead h comp => exact ReadsBack.loudnessRead h comp
  | loudnessReset h comp target => exact ReadsBack.loudnessReset h comp target
  | audioMonSet h comp c => exact ReadsBack.audioMonSet h comp c
  | verifySet h r target => exact ReadsBack.verifySet h r target
  | verifyClear h index target => exact ReadsBack.verifyClear h index target
  | verifyStatus h index => exact ReadsBack.verifyStatus h index
  | tdmPortConfig h port c target => exact ReadsBack.tdmPortConfig h port c target
  | tdmPortStatus h port => exact ReadsBack.tdmPortStatus h port
  | tdmStreamCreate h r target => exact ReadsBack.tdmStreamCreate h r target
  | tdmStreamRelease h stream target => exact ReadsBack.tdmStreamRelease h stream target
  | alignCreate h target => exact ReadsBack.alignCreate h target
  | alignAdd h group stream target => exact ReadsBack.alignAdd h group stream target
  | alignRemove h group stream target => exact ReadsBack.alignRemove h group stream target
  | alignRelease h group target => exact ReadsBack.alignRelease h group target
  | alignStatus h group => exact ReadsBack.alignStatus h group
  | ethPortConfig h port c target => exact ReadsBack.ethPortConfig h port c target
  | ethPortStatus h port => exact ReadsBack.ethPortStatus h port
  | ethStreamCreate h r target => exact ReadsBack.ethStreamCreate h r target
  | ethStreamRelease h stream target => exact ReadsBack.ethStreamRelease h stream target
  | ethStreamStatus h stream => exact ReadsBack.ethStreamStatus h stream
  | rtcRead h => exact ReadsBack.rtcRead h
  | rtcSet h kind value target => exact ReadsBack.rtcSet h kind value target
  | rtcTrim h trim => exact ReadsBack.rtcTrim h trim
  | rtcAlarmSet h alarm flags value => exact ReadsBack.rtcAlarmSet h alarm flags value
  | rtcStatus h => exact ReadsBack.rtcStatus h
  | rtcWeekdaySet h weekday offset => exact ReadsBack.rtcWeekdaySet h weekday offset
  | rtcConfig h vsw low => exact ReadsBack.rtcConfig h vsw low
  | dateToTicks h d => exact ReadsBack.dateToTicks h d
  | ticksToDate h count => exact ReadsBack.ticksToDate h count
  | recordStatus h rec => exact ReadsBack.recordStatus h rec
  | recordRead h rec copy len offset => exact ReadsBack.recordRead h rec copy len offset
  | recordResolve h rec keep => exact ReadsBack.recordResolve h rec keep
  | limitsWrite h l => exact ReadsBack.limitsWrite h l
  | trimWrite h offset total flags data => exact ReadsBack.trimWrite h offset total flags data
  | fwStatus h => exact ReadsBack.fwStatus h
  | fwLoadBegin h target len => exact ReadsBack.fwLoadBegin h target len
  | fwLoadData h offset data => exact ReadsBack.fwLoadData h offset data
  | fwLoadEnd h => exact ReadsBack.fwLoadEnd h
  | fwBoot h source flags confirm => exact ReadsBack.fwBoot h source flags confirm
  | fwKeyWrite h slot flags key => exact ReadsBack.fwKeyWrite h slot flags key
  | lifecycleLock h confirm => exact ReadsBack.lifecycleLock h confirm
  | pairConfig h c target => exact ReadsBack.pairConfig h c target
  | pairStatus h => exact ReadsBack.pairStatus h
  | pairHandover h flags target => exact ReadsBack.pairHandover h flags target
  | deviceIdSet h id => exact ReadsBack.deviceIdSet h id
  | farmStatus h => exact ReadsBack.farmStatus h
  | calPolicy h c => exact ReadsBack.calPolicy h c
  | calRequest h warp flags => exact ReadsBack.calRequest h warp flags
  | calStatus h warp => exact ReadsBack.calStatus h warp
  | calResultRead h warp gainBand loBand => exact ReadsBack.calResultRead h warp gainBand loBand
  | calSnapshot h => exact ReadsBack.calSnapshot h
  | tunerPresetWrite h port num p => exact ReadsBack.tunerPresetWrite h port num p
  | tunerPresetRead h port num => exact ReadsBack.tunerPresetRead h port num
  | tunerSelect h port num flags target => exact ReadsBack.tunerSelect h port num flags target
  | tunerStatus h port => exact ReadsBack.tunerStatus h port
  | probeStart h r => exact ReadsBack.probeStart h r
  | probeStop h => exact ReadsBack.probeStop h
  | probeStatus h => exact ReadsBack.probeStatus h
  | mismatchMeasure h port points threshold target freqs => exact ReadsBack.mismatchMeasure h port points threshold target freqs
  | mismatchRead h port => exact ReadsBack.mismatchRead h port
  | _ => exact fun _ _ hh => nomatch hh

/-- Settles O6: the parameters of each host command are read back field by field. -/
theorem packetsReadBack : Obligations.PacketsReadBack := by
  unfold Obligations.PacketsReadBack
  exact fun i h hw hh => readsBack i hw h hh

end Sys2Proof.Proofs

/-! PROOFS. Completion of host commands: what a command admitted and sound does, read off its own chain of checks. -/

namespace Sys2Proof.Proofs

open Sys2Proof Sys2Proof.Machine

/-- How a served command's statement is met, on the state with the session's idle time restarted (R449). -/
theorem serves_on {i : Instr} {op : Nat} {r : Right} {k : Key} {h : Hdr} {obj : Handle} {body : State → Ans} {s₀ u : State} {c : Status}
    {p : List Byte} (s : State) (hs : sessNamed h s₀ = s) (hi : hdrOf i = some h) (hx : exec i s₀ = serve i op r k h obj body s₀)
    (ho : opOf i = op) (hr : opRow op = some (r, k)) (hb : body s = .done c p u) : Serves i obj s₀ c p u := by
  subst ho
  exact Laws.serves_of hi hx hr (hs ▸ hb)

/-- The same of a command that asks for a reset. -/
theorem servesReset_on {i : Instr} {op : Nat} {r : Right} {k : Key} {h : Hdr} {obj : Handle} {body : State → Ans} {s₀ u : State}
    {c : Status} {p : List Byte} (s : State) (hs : sessNamed h s₀ = s) (hi : hdrOf i = some h)
    (hx : exec i s₀ = thenReset (serve i op r k h obj body s₀)) (ho : opOf i = op) (hr : opRow op = some (r, k))
    (hb : body s = .done c p u) : ServesReset i obj s₀ c p u := by
  subst ho
  exact Laws.servesReset_of hi hx hr (hs ▸ hb)

/-- The same of a command whose outcome comes later. -/
theorem starts_on {i : Instr} {op : Nat} {r : Right} {k : Key} {h : Hdr} {obj : Handle} {body : State → Ans} {s₀ u : State} (s : State)
    (hs : sessNamed h s₀ = s) (hi : hdrOf i = some h) (hx : exec i s₀ = serve i op r k h obj body s₀)
    (ho : opOf i = op) (hr : opRow op = some (r, k)) (hb : body s = .hold u) : Starts i s₀ obj u := by
  subst ho
  exact Laws.starts_of hi hx hr (hs ▸ hb)

/-- A handle that names its object, where the object itself is not used. -/
@[simp] theorem discard_ok {α : Type} (a : α) : discard (.ok a : Chk α) = .ok () := rfl

/-- A check made only where it is asked for. -/
theorem checkedIf {α β : Type} {q : Prop} [Decidable q] {x : Chk α} (h : q → ∃ a, x = .ok a) (f : Unit → Chk β) :
    (if q then discard x >>= f else f ()) = f () := by
  split
  case isTrue hq => obtain ⟨a, rfl⟩ := h hq; rfl
  case isFalse => rfl

/-- The same of a check that gives no value. -/
theorem passedIf {β : Type} {q : Prop} [Decidable q] {x : Chk Unit} (h : q → x = .ok ()) (f : Unit → Chk β) :
    (if q then x >>= f else f ()) = f () := by
  split
  case isTrue hq => rw [h hq]; rfl
  case isFalse => rfl

/-- The acceptance of a command, as an answer. -/
@[simp] theorem chk_okay (p : List Byte) (s : State) : chk (okay p s) = .done .ok p s := rfl

/-- The check of R567 passes while CONFIG is not in CONFLICT. -/
@[simp] theorem cfgOk_of_not {s : State} (h : inConflict s 0 = false) : cfgOk s = .ok () := by simp [cfgOk, h]

/-- A chain that accepts, of a command whose setting a record holds. -/
@[simp] theorem chkRec_okay (i : Nat) (s : State) (p : List Byte) (t : State) : chkRec i s (okay p t) = .done .ok p t := rfl

/-- The same under the status it gives. -/
@[simp] theorem chkRec_ok (i : Nat) (s : State) (c : Status) (p : List Byte) (t : State) : chkRec i s (.ok (c, p, t)) = .done c p t := rfl

/-- Settles O8: each clause goes by its own command's checks. -/
theorem completeHostSystem : Obligations.CompleteHostSystem := by
  unfold Obligations.CompleteHostSystem
  refine ⟨?_, ?_, ?_, ?_, ?_, ?_, ?_, ?_, ?_, ?_, ?_, ?_, ?_, ?_⟩
  · intro h s₀ s
    exact serves_on s rfl rfl rfl rfl rfl (by simp)
  · intro h s₀ s
    exact serves_on s rfl rfl rfl rfl rfl (by simp)
  · intro h mode target s₀ s hparam due hdue hcond
    exact serves_on s rfl rfl rfl rfl rfl (by simp [hparam, hdue, hcond])
  · intro h on off target s₀ s hcond due hdue a b hcond2 hcond3
    exact serves_on s rfl rfl rfl rfl rfl (by simp [hcond, hdue, hcond2, hcond3])
  · intro h kind confirm s₀ s hparam
    exact servesReset_on s rfl rfl rfl rfl rfl (by simp [hparam])
  · intro h ack max s₀ s hcond; dsimp only
    exact serves_on s rfl rfl rfl rfl rfl (by simp [hcond])
  · intro h c s₀ s hparam hparam2 hconf; dsimp only; intro hparam3
    exact serves_on s rfl rfl rfl rfl rfl (by simp only [hparam, hparam2, hparam3, cfgOk_of_not hconf, Laws.need_true, Laws.chk_bind_ok, chkRec_okay])
  · intro h s₀ s
    exact serves_on s rfl rfl rfl rfl rfl (by simp)
  · intro h s₀ s
    exact serves_on s rfl rfl rfl rfl rfl (by simp)
  · intro h flags stretch s₀ s hparam hconf; dsimp only; intro hparam2
    exact serves_on s rfl rfl rfl rfl rfl (by simp [hparam, hconf, hparam2])
  · intro h p s₀ s hparam hcond hd t hissue
    exact serves_on s rfl rfl rfl rfl rfl (by simp [hparam, hcond, hissue])
  · intro h periph s₀ s o hobj hcond
    exact serves_on s rfl rfl rfl rfl rfl (by simp [hobj, hcond])
  · intro h r s₀ s hlen hparam o hobj hcond hcond2 hcond3
    exact starts_on s rfl rfl rfl rfl rfl (by simp [hlen, hparam, hobj, hcond, hcond2, hcond3])
  · intro h s₀ s
    exact serves_on s rfl rfl rfl rfl rfl (by simp)

/-- Settles O9: each clause goes by its own command's checks. -/
theorem completeHostRights : Obligations.CompleteHostRights := by
  unfold Obligations.CompleteHostRights
  refine ⟨?_, ?_, ?_, ?_, ?_, ?_, ?_⟩
  · intro h role s₀ s hparam hcond; dsimp only; intro hd t hissue
    exact serves_on s rfl rfl rfl rfl rfl (by simp [hparam, hcond, hissue])
  · intro h sess proof s₀ s hlen o hobj x hat hcond hcond2 hcond3 k hcond4 hcond5
    subst hcond5
    exact serves_on s rfl rfl rfl rfl rfl (by simp [hlen, hobj, hat, hcond, hcond2, hcond3, hcond4])
  · intro h s₀ s
    exact serves_on s rfl rfl rfl rfl rfl (by simp)
  · intro h s₀ s
    exact serves_on s rfl rfl rfl rfl rfl (by simp)
  · intro h role key s₀ s hlen hparam hcond hcond2 hcond3 hconf
    exact starts_on s rfl rfl rfl rfl rfl (by simp only [hlen, hparam, hcond, hcond2, hcond3, hconf, ne_eq, not_true, Bool.true_eq_false, or_self, if_false, Bool.false_eq_true])
  · intro h start max s₀ s hparam; dsimp only
    exact serves_on s rfl rfl rfl rfl rfl (by simp [hparam])
  · intro h confirm s₀ s hcond
    exact serves_on s rfl rfl rfl rfl rfl (by simp [hcond])

/-- Settles O10: each clause goes by its own command's checks. -/
theorem completeHostTimebaseAndPorts : Obligations.CompleteHostTimebaseAndPorts := by
  unfold Obligations.CompleteHostTimebaseAndPorts
  refine ⟨?_, ?_, ?_, ?_, ?_, ?_, ?_, ?_, ?_, ?_, ?_⟩
  · intro h c s₀ s hcond hconf
    exact serves_on s rfl rfl rfl rfl rfl (by simp [hcond, hconf])
  · intro h s₀ s
    exact serves_on s rfl rfl rfl rfl rfl (by simp)
  · intro h obj target steps s₀ s hparam due hdue hobj; dsimp only
    exact serves_on s rfl rfl rfl rfl rfl (by simp only [hparam, hdue, checkedIf hobj, Laws.need_true, Laws.get_some, Laws.chk_bind_ok, Laws.chk_ok])
  · intro h target secs s₀ s hcond due hdue hcond2 hcond3
    exact serves_on s rfl rfl rfl rfl rfl (by simp [hcond, hdue, hcond2, hcond3, -Nat.reducePow])
  · intro h mode amount target s₀ s hcond due hdue hcond2
    exact serves_on s rfl rfl rfl rfl rfl (by simp [hcond, hdue, hcond2])
  · intro h s₀ s
    exact serves_on s rfl rfl rfl rfl rfl (by simp)
  · intro h port loop flags target s₀ s hparam due hdue o hobj hconf
    exact serves_on s rfl rfl rfl rfl rfl (by simp only [hparam, hdue, hobj, cfgOk_of_not hconf, Laws.need_true, Laws.get_some, Laws.chk_bind_ok, chkRec_okay])
  · intro h port s₀ s o hobj
    exact serves_on s rfl rfl rfl rfl rfl (by simp [hobj])
  · intro h port flags limit target s₀ s hparam due hdue o hobj; dsimp only; intro hparam2 hparam3 hconf hparam4
    exact serves_on s rfl rfl rfl rfl rfl (by simp [hparam, hdue, hobj, hparam2, hparam3, hconf, hparam4])
  · intro h port s₀ s o hobj hcond hcond2
    exact serves_on s rfl rfl rfl rfl rfl (by simp [hobj, hcond, hcond2])
  · intro h warp port target s₀ s due hdue o hobj hobj2 hcond hcond2 hconf
    exact serves_on s rfl rfl rfl rfl rfl (by simp only [hdue, hobj, checkedIf hobj2, hcond, hcond2, cfgOk_of_not hconf, Laws.need_true, Laws.get_some, Laws.chk_bind_ok, chkRec_okay])

/-- Settles O11: each clause goes by its own command's checks. -/
theorem completeHostWarps : Obligations.CompleteHostWarps := by
  unfold Obligations.CompleteHostWarps
  refine ⟨?_, ?_, ?_, ?_, ?_, ?_, ?_, ?_, ?_⟩
  · intro h warp r target s₀ s hcond due hdue o hobj hcond2 hcond3 hconf hcond4
    exact serves_on s rfl rfl rfl rfl rfl (by simp [hcond, hdue, hobj, hcond2, hcond3, hconf, hcond4])
  · intro h warp gain target s₀ s hcond due hdue o hobj hcond2 hcond3 hconf
    exact serves_on s rfl rfl rfl rfl rfl (by simp [hcond, hdue, hobj, hcond2, hcond3, hconf])
  · intro h warp c s₀ s hcond o hobj hcond2 hconf
    exact serves_on s rfl rfl rfl rfl rfl (by simp [hcond, hobj, hcond2, hconf])
  · intro h warp s₀ s o hobj
    exact serves_on s rfl rfl rfl rfl rfl (by simp [hobj])
  · intro h index s₀ s hcond
    exact serves_on s rfl rfl rfl rfl rfl (by simp [hcond])
  · intro h index flags seed s₀ s hparam
    exact serves_on s rfl rfl rfl rfl rfl (by simp [hparam])
  · intro h index num s₀ s hcond hcond2 hcond3; dsimp only
    exact serves_on s rfl rfl rfl rfl rfl (by simp [hcond, hcond2, hcond3])
  · intro h index num s₀ s hcond hcond2
    exact serves_on s rfl rfl rfl rfl rfl (by simp [hcond, hcond2])
  · intro h index num s₀ s hcond hcond2
    exact serves_on s rfl rfl rfl rfl rfl (by simp [hcond, hcond2])

/-- Settles O12: each clause goes by its own command's checks. -/
theorem completeHostDents : Obligations.CompleteHostDents := by
  unfold Obligations.CompleteHostDents
  refine ⟨?_, ?_, ?_, ?_, ?_, ?_, ?_, ?_, ?_, ?_⟩
  · intro h r target s₀ s hcond due hdue o hobj hcond2 hd x t hcond3
    exact serves_on s rfl rfl rfl rfl rfl (by simp [hcond, hdue, hobj, hcond2, hcond3])
  · intro h dent c target s₀ s hcond due hdue o hobj x hat hcond2 hobj2 hcond3 hpend w f b hcond4 hcond5 hparam; dsimp only
    have hlane : (c.flags % 8 != 0) = true → laneOk s w f b = .ok () := fun hn => hcond5 (by simpa using hn)
    exact serves_on s rfl rfl rfl rfl rfl (by simp only [hcond, hdue, hobj, hat, hcond2, checkedIf hobj2, hcond3, hpend, hcond4, passedIf hlane, hparam, Laws.need_true, Laws.get_some, Laws.chk_bind_ok, chk_okay])
  · intro h dent b s₀ s hcond o hobj x hat k hcond2 hcond3 hcond4 hcond5 hcond6 y hcond7
    refine serves_on s rfl rfl rfl rfl rfl ?_
    have hload := decide_eq_true (hcond7.mpr rfl)
    simp -zeta only [hcond, hobj, hat, hcond2, hcond3, hcond4, hcond5, Laws.need_true, Laws.get_some, Laws.chk_bind_ok]
    split
    case h_1 w hw => rw [hcond6 w hw]; extract_lets; clear_value y; rw [hload]; rfl
    case h_2 => extract_lets; clear_value y; rw [hload]; rfl
  · intro h dent sample target s₀ s due hdue o hobj x hat hcond hcond2 hpend hcond3 hcond4; dsimp only
    exact serves_on s rfl rfl rfl rfl rfl (by simp [hdue, hobj, hat, hcond, hcond2, hpend, hcond3, hcond4])
  · intro h dent sample target s₀ s due hdue o hobj x hat hcond hcond2 hpend hcond3 hcond4
    exact serves_on s rfl rfl rfl rfl rfl (by simp [hdue, hobj, hat, hcond, hcond2, hpend, hcond3, hcond4])
  · intro h dent sample target s₀ s due hdue o hobj x hat hcond hcond2 hpend
    exact serves_on s rfl rfl rfl rfl rfl (by simp [hdue, hobj, hat, hcond, hcond2, hpend])
  · intro h dent sample target s₀ s hcond due hdue o hobj hcond2 hpend
    exact serves_on s rfl rfl rfl rfl rfl (by simp [hcond, hdue, hobj, hcond2, hpend])
  · intro h dent s₀ s o hobj x hat hcond
    exact serves_on s rfl rfl rfl rfl rfl (by simp [hobj, hat, hcond])
  · intro h s₀ s
    exact serves_on s rfl rfl rfl rfl rfl (by simp)
  · intro h dent bank s₀ s hcond o hobj x hat hcond2
    exact serves_on s rfl rfl rfl rfl rfl (by simp [hcond, hobj, hat, hcond2])

/-- Settles O13: each clause goes by its own command's checks. -/
theorem completeHostWeaves : Obligations.CompleteHostWeaves := by
  unfold Obligations.CompleteHostWeaves
  refine ⟨?_, ?_, ?_, ?_, ?_, ?_, ?_, ?_, ?_, ?_, ?_, ?_, ?_, ?_, ?_, ?_⟩
  · intro h r target s₀ s hlen hlen2 hcond due hdue hcond2 hcond3 hcond4 hcond5 hcond6 hcond7 g hroom hd t hissue; dsimp only
    exact serves_on s rfl rfl rfl rfl rfl (by simp [hlen, hlen2, hcond, hdue, weaveCreate, hcond2, hcond3, hcond4, hcond5, Nat.not_le.mpr hcond6, Nat.not_lt.mpr hcond7, hroom, hissue, pure, Except.pure])
  · intro h weave target s₀ s due hdue o w hobj hpend hcond hcond2
    exact serves_on s rfl rfl rfl rfl rfl (by simp [hdue, hobj, hpend, hcond, hcond2])
  · intro h weave target s₀ s due hdue o w hobj hpend hcond g hroom
    exact serves_on s rfl rfl rfl rfl rfl (by simp [hdue, hobj, hpend, hcond, hroom])
  · intro h weave target s₀ s due hdue o w hobj hpend hcond
    exact serves_on s rfl rfl rfl rfl rfl (by simp [hdue, hobj, hpend, hcond])
  · intro h weave target s₀ s due hdue o y1 hobj hpend
    exact serves_on s rfl rfl rfl rfl rfl (by simp [hdue, hobj, hpend])
  · intro h weave prio m target block s₀ s hlen due hdue o hobj w hat hcond hcond2 hpend; dsimp only; intro hcond3 hroom
    refine serves_on s rfl rfl rfl rfl rfl ?_
    by_cases hx : exceeds (costOf w.type w.dents.length (if block.isEmpty then w.block else block)) w.cost
    · obtain ⟨g, hg⟩ := hroom hx
      simp [hlen, hdue, hobj, hat, hcond, hcond2, hpend, Nat.not_lt.mpr hcond3, hx, hg, -List.isEmpty_iff]
    · simp [hlen, hdue, hobj, hat, hcond, hcond2, hpend, Nat.not_lt.mpr hcond3, hx, -List.isEmpty_iff]
  · intro h weave s₀ s o hobj w hat
    exact serves_on s rfl rfl rfl rfl rfl (by simp [hobj, hat])
  · intro h s₀ s
    exact serves_on s rfl rfl rfl rfl rfl (by simp)
  · intro h weave s₀ s w a hobj
    exact serves_on s rfl rfl rfl rfl rfl (by simp [hobj])
  · intro h weave s₀ s w a hobj
    exact serves_on s rfl rfl rfl rfl rfl (by simp [hobj])
  · intro h weave index s₀ s hcond y0 a hobj
    exact serves_on s rfl rfl rfl rfl rfl (by simp [hcond, hobj])
  · intro h weave s₀ s o w d hobj
    exact serves_on s rfl rfl rfl rfl rfl (by simp [hobj])
  · intro h weave id s₀ s hcond y0 y1 d hobj x hcond2
    exact serves_on s rfl rfl rfl rfl rfl (by simp [hcond, hobj, hcond2])
  · intro h weave s₀ s y0 y1 d hobj
    exact serves_on s rfl rfl rfl rfl rfl (by simp [hobj])
  · intro h weave s₀ s o w d hobj
    exact serves_on s rfl rfl rfl rfl rfl (by simp [hobj])
  · intro h weave n target comps s₀ s hlen hcond due hdue o hobj w hat hcond2 hcond3 hcond4 hcond5 hpend hcond6
    exact serves_on s rfl rfl rfl rfl rfl (by simp [hlen, hcond, hdue, hobj, hat, hcond2, hcond3, hcond4, hcond5, hpend, hcond6])

/-- Settles O14: each clause goes by its own command's checks. -/
theorem completeHostInventoryAndFollowing : Obligations.CompleteHostInventoryAndFollowing := by
  unfold Obligations.CompleteHostInventoryAndFollowing
  refine ⟨?_, ?_, ?_, ?_, ?_, ?_, ?_, ?_, ?_, ?_, ?_, ?_, ?_, ?_, ?_, ?_, ?_, ?_⟩
  · intro h n flags target entries s₀ s hlen hparam due hdue hobj hcond hcond2 hcond3
    exact serves_on s rfl rfl rfl rfl rfl (by simp [hlen, hparam, hdue, hobj, hcond, hcond2, hcond3])
  · intro h s₀ s hcond
    exact serves_on s rfl rfl rfl rfl rfl (by simp [hcond])
  · intro h s₀ s
    exact serves_on s rfl rfl rfl rfl rfl (by simp)
  · intro h start s₀ s; dsimp only
    exact serves_on s rfl rfl rfl rfl rfl (by simp)
  · intro h svc s₀ s o hobj v hat
    exact serves_on s rfl rfl rfl rfl rfl (by simp [hobj, hat])
  · intro h comp s₀ s o hobj c hat
    exact serves_on s rfl rfl rfl rfl rfl (by simp [hobj, hat])
  · intro h obj kind s₀ s hparam hcond o hobj ls hat
    exact serves_on s rfl rfl rfl rfl rfl (by simp [hparam, hcond, hobj, hat])
  · intro h obj kind s₀ s hparam hcond o hobj ls hat
    exact serves_on s rfl rfl rfl rfl rfl (by simp [hparam, hcond, hobj, hat])
  · intro h svc start s₀ s o hobj v hat; dsimp only
    exact serves_on s rfl rfl rfl rfl rfl (by simp [hobj, hat])
  · intro h svc target s₀ s due hdue o hobj hcond
    exact serves_on s rfl rfl rfl rfl rfl (by simp [hdue, hobj, hcond])
  · intro h c s₀ s hcond hconf
    exact serves_on s rfl rfl rfl rfl rfl (by simp [hcond, hconf])
  · intro h s₀ s; dsimp only
    exact serves_on s rfl rfl rfl rfl rfl (by simp)
  · intro h n group flags hold target entries s₀ s hlen hparam due hdue hcond hcond2 hcond3 g hroom hd t hissue; dsimp only
    exact serves_on s rfl rfl rfl rfl rfl (by simp [hlen, hparam, hdue, hcond, hcond2, hcond3, hroom, hissue])
  · intro h set n target entries s₀ s hlen hcond due hdue o f hobj hcond2 hcond3 hpend hcond4 hroom
    refine serves_on s rfl rfl rfl rfl rfl ?_
    by_cases hx : n + 1 > f.srcs.length
    · obtain ⟨g, hg⟩ := hroom hx
      simp [hlen, hcond, hdue, hobj, hcond2, hcond3, hpend, hcond4, hx, hg]
    · simp [hlen, hcond, hdue, hobj, hcond2, hcond3, hpend, hcond4, hx]
  · intro h set entry sample target fade s₀ s hparam due hdue o f hobj hpend hcond x hcond2 hcond3; dsimp only
    exact serves_on s rfl rfl rfl rfl rfl (by simp [hparam, hdue, hobj, hpend, hcond, hcond2, hcond3])
  · intro h set target s₀ s due hdue o y1 hobj hpend
    exact serves_on s rfl rfl rfl rfl rfl (by simp [hdue, hobj, hpend])
  · intro h set s₀ s o hobj f hat
    exact serves_on s rfl rfl rfl rfl rfl (by simp [hobj, hat])
  · intro h set c s₀ s hcond o f hobj hobj2 hpend hcond2
    refine serves_on s rfl rfl rfl rfl rfl ?_
    by_cases hx : c.hop = nullHandle
    · simp [hcond, hobj, hpend, hx]
    · obtain ⟨⟨y, hy⟩, hi⟩ := hobj2 hx
      simp [hcond, hobj, hpend, hx, hy, hi, (by simpa [hx] using hcond2 : hopOk s (hIndex set) f c.hop = true)]

/-- Settles O15: each clause goes by its own command's checks. -/
theorem completeHostMeasurement : Obligations.CompleteHostMeasurement := by
  unfold Obligations.CompleteHostMeasurement
  refine ⟨?_, ?_, ?_, ?_, ?_, ?_, ?_, ?_, ?_, ?_⟩
  · intro h obj s₀ s o hobj hcond hcond2
    exact serves_on s rfl rfl rfl rfl rfl (by simp [hobj, hcond, hcond2])
  · intro h obj w s₀ s hparam o hobj hcond hpend
    exact serves_on s rfl rfl rfl rfl rfl (by simp [hparam, hobj, hcond, hpend])
  · intro h obj t s₀ s hparam o hobj hcond hpend x hcond2
    exact serves_on s rfl rfl rfl rfl rfl (by simp only [hparam, hobj, hcond, hpend, hcond2, Laws.need_true, Laws.chk_bind_ok, chk_okay])
  · intro h obj t s₀ s hparam o hobj hcond hpend hcond2 hcond3 i hcond4
    exact serves_on s rfl rfl rfl rfl rfl (by simp only [hparam, hobj, hcond, hpend, hcond2, hcond3, hcond4, Laws.need_true, Laws.get_some, Laws.chk_bind_ok, chk_okay])
  · intro h comp s₀ s o hobj hcond
    exact serves_on s rfl rfl rfl rfl rfl (by simp [hobj, hcond])
  · intro h comp target s₀ s due hdue o hobj hpend
    exact serves_on s rfl rfl rfl rfl rfl (by simp [hdue, hobj, hpend])
  · intro h comp c s₀ s hparam o hobj hpend
    exact serves_on s rfl rfl rfl rfl rfl (by simp [hparam, hobj, hpend])
  · intro h r target s₀ s hcond due hdue o hobj q hobj2 hcond2 hpend hpend2 g hroom; dsimp only
    refine serves_on s rfl rfl rfl rfl rfl ?_
    cases hv : tget s.verifs r.index <;> simp [hcond, hdue, hobj, hobj2, hcond2, hpend, hpend2, hroom]
  · intro h index target s₀ s hcond due hdue hcond2
    exact serves_on s rfl rfl rfl rfl rfl (by simp [hcond, hdue, hcond2])
  · intro h index s₀ s hcond
    exact serves_on s rfl rfl rfl rfl rfl (by simp [hcond])

/-- Settles O16: each clause goes by its own command's checks. -/
theorem completeHostOutputs : Obligations.CompleteHostOutputs := by
  unfold Obligations.CompleteHostOutputs
  refine ⟨?_, ?_, ?_, ?_, ?_, ?_, ?_, ?_, ?_, ?_, ?_, ?_, ?_, ?_⟩
  · intro h port c target s₀ s hcond due hdue o hobj hconf hcond2
    exact serves_on s rfl rfl rfl rfl rfl (by simp [hcond, hdue, hobj, hconf, hcond2])
  · intro h port s₀ s o hobj
    exact serves_on s rfl rfl rfl rfl rfl (by simp [hobj])
  · intro h r target s₀ s hcond due hdue o hobj o hobj2; dsimp only; intro hcond2 hcond3 hpend hcond4 hcond5 hd t hissue
    exact serves_on s rfl rfl rfl rfl rfl (by simp only [hcond, hdue, hobj, hobj2, hcond2, hcond3, hpend, hcond4, hcond5, hissue, Laws.need_true, Laws.get_some, Laws.chk_bind_ok, chk_okay])
  · intro h stream target s₀ s due hdue o hobj hpend
    exact serves_on s rfl rfl rfl rfl rfl (by simp [hdue, hobj, hpend])
  · intro h target s₀ s due hdue hd t hissue
    exact serves_on s rfl rfl rfl rfl rfl (by simp [hdue, hissue])
  · intro h group stream target s₀ s due hdue g hobj o hobj2 hpend hpend2; dsimp only; intro hcond hcond2
    exact serves_on s rfl rfl rfl rfl rfl (by simp [hdue, hobj, hobj2, hpend, hpend2, hcond, hcond2])
  · intro h group stream target s₀ s due hdue g hobj o hobj2 hpend hpend2 hcond
    exact serves_on s rfl rfl rfl rfl rfl (by simp only [hdue, hobj, hobj2, hpend, hpend2, hcond, Laws.need_true, Laws.get_some, Laws.chk_bind_ok, chk_okay])
  · intro h group target s₀ s due hdue g hobj hpend
    exact serves_on s rfl rfl rfl rfl rfl (by simp [hdue, hobj, hpend])
  · intro h group s₀ s o hobj a hat
    exact serves_on s rfl rfl rfl rfl rfl (by simp [hobj, hat])
  · intro h port c target s₀ s hcond due hdue o hobj hconf hcond2
    exact serves_on s rfl rfl rfl rfl rfl (by simp [hcond, hdue, hobj, hconf, hcond2])
  · intro h port s₀ s o hobj
    exact serves_on s rfl rfl rfl rfl rfl (by simp [hobj])
  · intro h r target s₀ s hlen hcond due hdue os hcond2 hcond3 hpend hparam hcond4 hparam2 hcond5 hd t hissue; dsimp only
    exact serves_on s rfl rfl rfl rfl rfl (by simp only [hlen, hcond, hdue, hcond2, hcond3, hpend, hparam, hcond4, hparam2, hcond5, hissue, Laws.need_true, Laws.get_some, Laws.chk_bind_ok, chk_okay, ne_eq, not_true, if_false])
  · intro h stream target s₀ s due hdue o y1 hcond hpend
    exact serves_on s rfl rfl rfl rfl rfl (by simp [hdue, hcond, hpend])
  · intro h stream s₀ s o e hcond hcond2
    exact serves_on s rfl rfl rfl rfl rfl (by simp [hcond, hcond2])

/-- Settles O17: each clause goes by its own command's checks. -/
theorem completeHostRtc : Obligations.CompleteHostRtc := by
  unfold Obligations.CompleteHostRtc
  refine ⟨?_, ?_, ?_, ?_, ?_, ?_, ?_, ?_, ?_⟩
  · intro h s₀ s; dsimp only
    exact serves_on s rfl rfl rfl rfl rfl (by simp)
  · intro h kind value target s₀ s hcond hcond2 due hdue
    exact serves_on s rfl rfl rfl rfl rfl (by simp only [hcond, hcond2, hdue, decide_true, Laws.need_true, Laws.get_some, Laws.chk_bind_ok, chk_okay])
  · intro h trim s₀ s hparam hconf
    exact serves_on s rfl rfl rfl rfl rfl (by simp [hparam, hconf])
  · intro h alarm flags value s₀ s hparam; dsimp only
    exact serves_on s rfl rfl rfl rfl rfl (by simp only [hparam, Laws.need_true, Laws.chk_bind_ok, chk_okay])
  · intro h s₀ s
    exact serves_on s rfl rfl rfl rfl rfl (by simp)
  · intro h weekday offset s₀ s hcond hconf; dsimp only
    exact serves_on s rfl rfl rfl rfl rfl (by simp [hcond, hconf])
  · intro h vsw low s₀ s hparam hconf
    exact serves_on s rfl rfl rfl rfl rfl (by simp [hparam, hconf])
  · intro h d s₀ s hparam hcond
    exact serves_on s rfl rfl rfl rfl rfl (by simp [hparam, hcond])
  · intro h count s₀ s hcond
    exact serves_on s rfl rfl rfl rfl rfl (by simp [hcond])

/-- Settles O18: each clause goes by its own command's checks. -/
theorem completeHostRecords : Obligations.CompleteHostRecords := by
  unfold Obligations.CompleteHostRecords
  refine ⟨?_, ?_, ?_, ?_, ?_, ?_, ?_, ?_, ?_, ?_, ?_, ?_, ?_, ?_⟩
  · intro h rec s₀ s i hobj
    exact serves_on s rfl rfl rfl rfl rfl (by simp [hobj])
  · intro h rec copy len offset s₀ s hcond i hobj hcond2 k hcond3; dsimp only
    refine serves_on s rfl rfl rfl rfl rfl ?_
    by_cases hff : copy = 0xFF
    · rw [if_pos hff] at hcond3
      simp [hobj, hcond2, hff, hcond3]
    · rw [if_neg hff] at hcond3
      obtain rfl := Option.some.inj hcond3
      have hc : copy ≤ 1 := by simpa [hff] using hcond
      simp [hc, hobj, hcond2, hff]
  · intro h rec keep s₀ s hcond i hobj hcond2 hcond3
    exact starts_on s rfl rfl rfl rfl rfl (by simp [hcond, hobj, hcond2, hcond3])
  · intro h l s₀ s hcond hcond2 hconf
    exact starts_on s rfl rfl rfl rfl rfl (by simp [hcond, hcond2, hconf])
  · intro h offset total flags data s₀ s hparam; dsimp only; intro hcond hcond2 hcond3 hparam2
    refine serves_on s rfl rfl rfl rfl rfl ?_
    dsimp only
    generalize (if offset = 0 then [] else s.recs.trimSeg) = seg at *
    simpa [hparam, ← hcond, hcond3, hparam2] using hcond2
  · intro h offset total flags data s₀ s hparam; dsimp only; intro hcond hcond2 hcond3 hparam2 hlen hconf hcond4
    refine starts_on s rfl rfl rfl rfl rfl ?_
    dsimp only
    generalize (if offset = 0 then [] else s.recs.trimSeg) = seg at *
    simp [hparam, ← hcond, hcond3, hparam2, hlen, hconf, Nat.not_lt.mpr hcond4]
  · intro h s₀ s
    exact serves_on s rfl rfl rfl rfl rfl (by simp)
  · intro h target len s₀ s hparam hcond hcond2
    exact serves_on s rfl rfl rfl rfl rfl (by simp only [hparam, hcond, hcond2, Laws.need_true, Laws.chk_bind_ok, chk_okay])
  · intro h offset data s₀ s hcond; dsimp only; intro hcond2
    exact serves_on s rfl rfl rfl rfl rfl (by simp only [hcond, hcond2, Laws.need_true, Laws.chk_bind_ok, chk_okay])
  · intro h s₀ s hcond hlen hcond2; dsimp only
    exact serves_on s rfl rfl rfl rfl rfl (by simp [hcond, hlen, hcond2])
  · intro h source flags confirm s₀ s hparam hcond; dsimp only
    exact servesReset_on s rfl rfl rfl rfl rfl (by simp [hparam, hcond])
  · intro h slot flags key s₀ s hlen hparam hparam2 hcond; dsimp only; intro hcond2
    exact serves_on s rfl rfl rfl rfl rfl (by simp [hlen, hparam, hparam2, hcond, hcond2])
  · intro h slot flags key s₀ s hlen hparam hparam2 hcond hcond2
    exact serves_on s rfl rfl rfl rfl rfl (by simp [hlen, hparam, hparam2, hcond, hcond2])
  · intro h confirm s₀ s hcond hcond2
    exact serves_on s rfl rfl rfl rfl rfl (by simp [hcond, hcond2])

/-- Settles O19: each clause goes by its own command's checks. -/
theorem completeHostPairAndCalibration : Obligations.CompleteHostPairAndCalibration := by
  unfold Obligations.CompleteHostPairAndCalibration
  refine ⟨?_, ?_, ?_, ?_, ?_, ?_, ?_, ?_, ?_, ?_, ?_⟩
  · intro h c target s₀ s; dsimp only; intro hparam due hdue hconf hparam2 hparam3
    exact serves_on s rfl rfl rfl rfl rfl (by simp only [hparam, hdue, hconf, hparam2, hparam3, Laws.need_true, Laws.get_some, Laws.chk_bind_ok, chkRec_okay])
  · intro h s₀ s
    exact serves_on s rfl rfl rfl rfl rfl (by simp)
  · intro h flags target s₀ s hparam hcond hcond2 due hdue hcond3 hcond4
    refine serves_on s rfl rfl rfl rfl rfl ?_
    by_cases ht : target = 0
    · rw [if_pos ht] at hdue
      simp [hparam, hcond, hcond2, ht, ← Option.some.inj hdue, bne_iff_ne.mpr hcond4]
    · rw [if_neg ht] at hdue
      simp [hparam, hcond, hcond2, ht, hdue, hcond3, bne_iff_ne.mpr hcond4]
  · intro h flags target s₀ s hparam hcond hcond2 due hdue hparam2
    exact serves_on s rfl rfl rfl rfl rfl (by simp [hparam, hcond, hcond2, hdue, hparam2])
  · intro h id s₀ s hparam hconf
    exact serves_on s rfl rfl rfl rfl rfl (by simp [hparam, hconf])
  · intro h s₀ s
    exact serves_on s rfl rfl rfl rfl rfl (by simp)
  · intro h c s₀ s hparam hconf
    exact serves_on s rfl rfl rfl rfl rfl (by simp [hparam, hconf])
  · intro h warp flags s₀ s hparam o hobj; dsimp only; intro hcond hcond2
    exact serves_on s rfl rfl rfl rfl rfl (by simp [hparam, hobj, hcond, hcond2])
  · intro h warp s₀ s o hobj
    exact serves_on s rfl rfl rfl rfl rfl (by simp [hobj])
  · intro h warp gainBand loBand s₀ s hcond o hobj hcond2
    exact serves_on s rfl rfl rfl rfl rfl (by simp [hcond, hobj, hcond2])
  · intro h s₀ s hconf
    exact starts_on s rfl rfl rfl rfl rfl (by simp [hconf])

/-- Settles O20: each clause goes by its own command's checks. -/
theorem completeHostProbe : Obligations.CompleteHostProbe := by
  unfold Obligations.CompleteHostProbe
  refine ⟨?_, ?_, ?_, ?_, ?_, ?_, ?_, ?_, ?_⟩
  · intro h port num p s₀ s hparam o hobj hcond hconf
    exact serves_on s rfl rfl rfl rfl rfl (by simp [hparam, hobj, hcond, hconf])
  · intro h port num s₀ s hcond hobj
    exact serves_on s rfl rfl rfl rfl rfl (by simp [hcond, hobj])
  · intro h port num flags target s₀ s hparam due hdue o hobj; dsimp only; intro hparam2 hcond hcond2 hconf
    exact serves_on s rfl rfl rfl rfl rfl (by simp [hparam, hdue, hobj, hparam2, hcond, hcond2, hconf])
  · intro h port s₀ s hobj
    exact serves_on s rfl rfl rfl rfl rfl (by simp [hobj])
  · intro h r s₀ s hlen hparam due hdue o hobj hcond hcond2 hcond3; dsimp only
    exact serves_on s rfl rfl rfl rfl rfl (by simp [hlen, hparam, hdue, hobj, hcond, hcond2, hcond3])
  · intro h s₀ s
    exact serves_on s rfl rfl rfl rfl rfl (by simp)
  · intro h s₀ s
    exact serves_on s rfl rfl rfl rfl rfl (by simp)
  · intro h port points threshold target freqs s₀ s hlen hparam due hdue o hobj hcond hcond2
    exact serves_on s rfl rfl rfl rfl rfl (by simp [hlen, hparam, hdue, hobj, hcond, hcond2])
  · intro h port s₀ s hobj
    exact serves_on s rfl rfl rfl rfl rfl (by simp [hobj])

end Sys2Proof.Proofs

/-! PROOFS. What the events do: each is its own definition on the branch its hypotheses name. -/

namespace Sys2Proof.Proofs

open Sys2Proof Sys2Proof.Machine

/-- An event of the timebase and the clocks acts while D2 is on. -/
@[simp] theorem withD2_on {f : State → State} {s : State} (h : domOn s 2 = true) : withD2 f s = .next (f s) := by rw [withD2, if_pos h]

/-- A management bus transfer is served outside BACKUP. -/
@[simp] theorem onMb_on {f : State → State} {s : State} (h : s.sys.mode ≠ .backup) : onMb f s = .next (f (mbTransfer s)) := by
  rw [onMb, if_neg h]

/-- A read of the clock is answered while it is open. -/
@[simp] theorem freeze_open {ended : Bool} {f : Nat × Bool × Nat → List Byte} {code : Nat} {s : State} (h : s.mb.rtcOpen = true) :
    freeze ended f code s = offer code (f (s.rtc.count.toNat, s.rtc.osf, s.rtc.weekday))
      (mbmod (fun m => { m with shadow := if ended then none else some (s.rtc.count.toNat, s.rtc.osf, s.rtc.weekday) }) s) := by
  rw [freeze, if_pos h]

/-- A feed event acts while D6 is on and the feed is as it needs it, with the measurement taken. -/
theorem feedEvent_on {p : Fin 4} {m : FeedMeas} {b : Feed → Bool} {f : State → State} {s : State} (h6 : domOn s 6 = true)
    (hb : b (portAt s p).feed = true) :
    feedEvent p m b f s = .next (f (feedMod p (fun x => { x with ma := m.ma, mv := m.mv }) s)) := by
  rw [feedEvent, h6, hb]; rfl

/-- The hop warps are told by the follow sets alone. -/
theorem isHop_congr {s t : State} (h : t.follows = s.follows) (w : Nat) : isHop t w = isHop s w := by rw [isHop, isHop, h]

/-- A mark on a warp leaves every follow set as it was. -/
@[simp] theorem markWarp_follows (w a b : Nat) (s : State) : (markWarp w a b s).follows = s.follows := by
  unfold markWarp; split <;> rfl

@[simp] theorem isHop_markWarp (k w a b : Nat) (s : State) : isHop (markWarp w a b s) k = isHop s k := isHop_congr (markWarp_follows w a b s) k

@[simp] theorem isHop_wmod (k i : Nat) (f : Warp → Warp) (s : State) : isHop (wmod i f s) k = isHop s k := rfl

@[simp] theorem isHop_synMod (k i : Nat) (f : Synth → Synth) (s : State) : isHop (synMod i f s) k = isHop s k := rfl

/-- Settles O21: each clause goes by the event's own branches. -/
theorem eventsOfSpiAndUdp : Obligations.EventsOfSpiAndUdp := by
  unfold Obligations.EventsOfSpiAndUdp
  refine ⟨?_, ?_, ?_, ?_, ?_, ?_, ?_, ?_, ?_, ?_, ?_⟩
  · intro stated bytes s hcond hparam
    change execSpiWrite stated bytes s = _
    rw [execSpiWrite, if_neg hcond, if_pos hparam]; rfl
  · intro stated bytes s hcond hparam
    change execSpiWrite stated bytes s = _
    rw [execSpiWrite, if_neg hcond, if_neg (by rw [hparam]; exact Bool.false_ne_true)]; rfl
  · intro clocked s hcond b held hcond2; dsimp only
    change execSpiRead clocked s = _
    simp [execSpiRead, hcond, hcond2]
  · intro s hcond
    change execSpiStatusOnly s = _
    simp [execSpiStatusOnly, hcond]
  · intro port addr sport bytes s hcond hcond2 hcond3 hcond4 hcond5
    change execUdpPacketArrival port addr sport bytes s = _
    simp [execUdpPacketArrival, hcond, hcond3, hcond4, Nat.not_lt.mpr hcond2, Nat.not_le.mpr hcond5]
  · intro port addr sport bytes s hcond hcond2 hcond3 hcond4
    change execUdpPacketArrival port addr sport bytes s = _
    simp [execUdpPacketArrival, hcond, hcond2, hcond3, hcond4]
  · intro port addr sport bytes s hcond hcond2 k u hcond3 hat g hcond4
    change execUdpPacketArrival port addr sport bytes s = _
    simp [execUdpPacketArrival, hcond, hcond2, hcond3, hat, hcond4]
  · intro port addr sport bytes s hcond hcond2 k u hcond3 hat hcond4 r hcond5 hcond6 hcond7
    change execUdpPacketArrival port addr sport bytes s = _
    simp [execUdpPacketArrival, hcond, hcond3, hat, hcond4, hcond5, hcond6, Nat.not_lt.mpr hcond2, hcond6 ▸ hcond7]
  · intro port addr sport bytes s hcond hcond2 k u hcond3 hat hcond4 hcond5 hcond6
    change execUdpPacketArrival port addr sport bytes s = _
    cases hr : u.reply with
    | none => simp [execUdpPacketArrival, hcond, Nat.not_lt.mpr hcond2, hcond3, hat, hcond4, hr, hcond6]
    | some r =>
      have hn : ¬(u.cmd = bytes ∧ ¬u.cmd = []) := by
        rintro ⟨hb, hne⟩
        rcases hcond5 with h | h | h
        exacts [h hb, hne h, by simp [hr] at h]
      simp [execUdpPacketArrival, hcond, Nat.not_lt.mpr hcond2, hcond3, hat, hcond4, hr, hcond6, if_neg hn]
  · intro port addr sport bytes s hcond hcond2 k u hcond3 hat hcond4 hcond5 hcond6
    change execUdpPacketArrival port addr sport bytes s = _
    cases hr : u.reply with
    | none => simp [execUdpPacketArrival, hcond, Nat.not_lt.mpr hcond2, hcond3, hat, hcond4, hr, hcond6]
    | some r =>
      have hn : ¬(u.cmd = bytes ∧ ¬u.cmd = []) := by
        rintro ⟨hb, hne⟩
        rcases hcond5 with h | h | h
        exacts [h hb, hne h, by simp [hr] at h]
      simp [execUdpPacketArrival, hcond, Nat.not_lt.mpr hcond2, hcond3, hat, hcond4, hr, hcond6, if_neg hn]
  · intro slot s hcond
    change execUdpReplyExpiry slot s = _
    simp [execUdpReplyExpiry, hcond]

/-- Settles O22: each clause goes by the event's own branches. -/
theorem eventsOfManagementBus : Obligations.EventsOfManagementBus := by
  unfold Obligations.EventsOfManagementBus
  refine ⟨?_, ?_, ?_, ?_, ?_, ?_, ?_, ?_, ?_, ?_, ?_, ?_, ?_, ?_, ?_⟩
  · intro s hcond; dsimp only
    change execMbIdent s = _
    simp [execMbIdent, hcond]
  · intro s hcond; dsimp only
    change execMbStatus s = _
    simp [execMbStatus, hcond]
  · intro data check extra s hcond hparam hcond2
    change execMbCmdPut data check extra s = _
    simp [execMbCmdPut, hcond, hparam, hcond2]
  · intro data check extra s hcond hparam hcond2
    change execMbCmdPut data check extra s = _
    simp [execMbCmdPut, hcond, hparam, hcond2]
  · intro stop s hcond b held hcond2; dsimp only
    change execMbReplyGet false stop s = _
    simp [execMbReplyGet, hcond, hcond2]
  · intro stop s hcond b held hcond2; dsimp only
    change execMbReplyGet true stop s = _
    simp [execMbReplyGet, hcond, hcond2]
  · intro data check extra s hcond hparam
    change execMbCmdPut data check extra s = _
    simp [execMbCmdPut, hcond, hparam]
  · intro check extra s hcond hcond2
    change execMbAttnAck check extra s = _
    simp [execMbAttnAck, hcond, hcond2]
  · intro check extra s hcond hcond2
    change execMbAttnAck check extra s = _
    simp [execMbAttnAck, hcond, hcond2]
  · intro ended s hcond hcond2; dsimp only
    change execMbRtcSnap ended s = _
    simp [execMbRtcSnap, hcond, hcond2]
  · intro ended s hcond hcond2; dsimp only
    change execMbRtcWeekday ended s = _
    simp [execMbRtcWeekday, hcond, hcond2]
  · intro code s hcond
    change execMbUnassignedCode code s = _
    simp [execMbUnassignedCode, hcond]
  · intro s hcond
    change execMbSegmentTimeout s = _
    simp [execMbSegmentTimeout, hcond]
  · intro s hcond; dsimp only
    change execMbStuckBus s = _
    simp [execMbStuckBus, hcond]
  · intro s hcond hcond2
    change execAttnAttempt true false s = _
    simp [execAttnAttempt, hcond, hcond2]

/-- Settles O23: each clause goes by the event's own branches. -/
theorem eventsOfStartAndBoundary : Obligations.EventsOfStartAndBoundary := by
  unfold Obligations.EventsOfStartAndBoundary
  refine ⟨?_, ?_, ?_, ?_, ?_, ?_, ?_, ?_, ?_, ?_, ?_, ?_, ?_⟩
  · intro s
    change execResetDeadline s = _
    simp [execResetDeadline]
  · intro addr boot s hcond
    change execVmainGood addr boot s = _
    simp [execVmainGood, hcond]
  · intro s hcond hcond2 hcond3 hcond4
    change execFwVerifyComplete s = _
    simp [execFwVerifyComplete, hcond, hcond2, hcond3, hcond4]
  · intro s hcond hcond2 hcond3 hcond4
    change execFwVerifyComplete s = _
    simp [execFwVerifyComplete, hcond, hcond2, hcond3, hcond4]
  · intro s k hcond hcond2 hcond3; dsimp only
    change execFirmwareStart s = _
    conv_lhs => simp only [execFirmwareStart, hcond]
    rw [if_pos (And.intro hcond2 hcond3)]
    rfl
  · intro s
    change execPfail s = _
    simp [execPfail]
  · intro s
    change execResetNAssert s = _
    simp [execResetNAssert]
  · intro addr boot s hcond
    change execResetNRelease addr boot s = _
    simp [execResetNRelease, hcond]
  · intro s hcond hcond2
    change execWatchdogExpiry s = _
    simp [execWatchdogExpiry, hcond, hcond2]
  · intro d s hcond hcond2
    change execRailFault d s = _
    have hd : (d.val == 1 || d.val == 2 || d.val == 9) = true := by rcases hcond2 with rfl | rfl | rfl <;> rfl
    have h0 : d.val ≠ 0 := by rcases hcond2 with rfl | rfl | rfl <;> decide
    simp only [execRailFault, hcond, hd, beq_eq_false_iff_ne.mpr h0, Bool.not_true, Bool.or_self, Bool.false_eq_true, if_false, if_true]
  · intro d s hcond hcond2 hcond3
    change execRailFault d s = _
    have hd : d.val ≠ 0 ∧ d.val ≠ 1 ∧ d.val ≠ 2 ∧ d.val ≠ 9 := by omega
    obtain ⟨h0, h1, h2, h9⟩ := hd
    simp [execRailFault, hcond, h1, h2, h9, beq_eq_false_iff_ne.mpr h0]
  · intro i s hcond hcond2
    change execPickBoundary i s = _
    rw [execPickBoundary, if_pos hcond]
    exact congrArg _ (if_pos hcond2)
  · intro i s hcond hcond2
    change execPickBoundary i s = _
    rw [execPickBoundary, if_pos hcond]
    exact congrArg _ (if_neg hcond2)

/-- Settles O24: each clause goes by the event's own branches. -/
theorem eventsOfTimebaseAndClocks : Obligations.EventsOfTimebaseAndClocks := by
  unfold Obligations.EventsOfTimebaseAndClocks
  refine ⟨?_, ?_, ?_, ?_, ?_, ?_, ?_, ?_, ?_, ?_, ?_, ?_, ?_, ?_, ?_, ?_, ?_, ?_, ?_, ?_, ?_, ?_, ?_, ?_, ?_⟩
  · intro port domain b s hcond hcond2 hcond3
    change execPtpMessage port domain (.announce b) s = _
    simp [execPtpMessage, hcond, hcond2, hcond3]
  · intro port domain s hcond hcond2 hcond3 hcond4
    change execPtpMessage port domain .exchange s = _
    simp [execPtpMessage, hcond, ← hcond2, ← hcond3, hcond4]
  · intro port domain s
    change execPtpMessage port domain .sync s = _
    simp [execPtpMessage, withD2]
  · intro i s hcond hcond2 hcond3
    change execSourceQualified i s = _
    simp [execSourceQualified, hcond, hcond3]
  · intro p s hcond hcond2 hcond3 hcond4 hcond5
    change execSourceQualified (.ptp p) s = _
    simp [execSourceQualified, hcond, ← hcond2, hcond3, hcond4, hcond5]
  · intro i word s hcond hcond2
    change execSourceLost i word s = _
    simp only [execSourceLost, withD2_on hcond, hcond2, if_true]
  · intro i word s hcond hcond2
    change execSourceLost i word s = _
    simp only [execSourceLost, withD2_on hcond, hcond2, Bool.false_eq_true, if_false]
  · intro code s hcond hcond2 hcond3
    change execSourceSelect code s = _
    simp [execSourceSelect, hcond, hcond2, hcond3]
  · intro code s hcond hcond2 hparam hcond3 hcond4 hcond5
    change execSourceDisplace code s = _
    simp [execSourceDisplace, hcond, hcond2, hparam, hcond3, hcond4, hcond5]
  · intro e s hcond hcond2
    change execFreqAcquired e s = _
    simp [execFreqAcquired, hcond, hcond2]
  · intro s hcond hcond2 hcond3 hcond4 hcond5
    change execTimebaseLocked s = _
    simp [execTimebaseLocked, hcond, hcond2, hcond3, hcond4, hcond5]
  · intro e s hcond hcond2 hcond3
    change execPhaseErrorExceeded e s = _
    simp [execPhaseErrorExceeded, hcond, hcond2, hcond3]
  · intro es s hcond hcond2 hcond3 hcond4
    change execPtpSecondsPersist es s = _
    simp [execPtpSecondsPersist, hcond, hcond2, hcond3, hcond4]
  · intro obj s hcond m hcond2 hcond3; dsimp only
    change execPhaseStepComplete obj s = _
    simp [execPhaseStepComplete, hcond, hcond2, hcond3]
  · intro pick width offset s hcond hcond2
    change execPhaseInputEdge pick width offset s = _
    rw [execPhaseInputEdge, withD2_on hcond]
    cases hm : edgeMs pick width s.tb.pickMs with
    | none => rfl
    | some m =>
      have hsrc := hcond2.resolve_right (by simp [hm])
      cases pick <;> exact congrArg _ (if_neg hsrc)
  · intro width offset s hcond hcond2 m hcond3; dsimp only
    change execPhaseInputEdge false width offset s = _
    simp [execPhaseInputEdge, hcond, hcond2, hcond3]
  · intro width offset s hcond hcond2 m hcond3; dsimp only
    change execPhaseInputEdge true width offset s = _
    simp [execPhaseInputEdge, hcond, hcond2, hcond3]
  · intro s hcond hcond2 hcond3; dsimp only
    change execMdllUnlock s = _
    simp [execMdllUnlock, hcond, hcond2, hcond3]
  · intro s hcond hcond2 hcond3
    change execMdllUnlock s = _
    simp [execMdllUnlock, hcond, hcond2, hcond3]
  · intro s hcond hcond2
    change execMdllLock s = _
    simp [execMdllLock, hcond, hcond2, ckmod]
  · intro s hcond hcond2
    change execMdllLock s = _
    simp [execMdllLock, hcond, hcond2, ckmod]
  · intro s hcond hcond2
    change execMdllRetryTimer s = _
    simp [execMdllRetryTimer, hcond, hcond2, ckmod]
  · intro s hcond hcond2; dsimp only
    change execTcxoFail s = _
    simp [execTcxoFail, hcond, hcond2]
  · intro s hcond hcond2
    change execAudioPllUnlock s = _
    simp [execAudioPllUnlock, hcond, hcond2]
  · intro s hcond
    change execAudioPllLock s = _
    simp [execAudioPllLock, hcond]

/-- Settles O25: each clause goes by the event's own branches. -/
theorem eventsOfSynthesisersAndWarps : Obligations.EventsOfSynthesisersAndWarps := by
  unfold Obligations.EventsOfSynthesisersAndWarps
  refine ⟨?_, ?_, ?_, ?_, ?_, ?_, ?_, ?_, ?_, ?_, ?_, ?_, ?_, ?_, ?_, ?_, ?_, ?_, ?_, ?_, ?_, ?_, ?_, ?_⟩
  · intro k sample s hcond hcond2 hcond3; dsimp only
    change execSynthUnlock k sample s = _
    simp [execSynthUnlock, hcond, hcond2, hcond3]
  · intro sample s hcond hcond2 hcond3; dsimp only
    change execSynthUnlock 6 sample s = _
    have hn : ¬(windowStart ≤ sample ∧ s.probe.measActive = false) := by
      rintro ⟨hw, hm⟩
      rcases hcond3 with h | h
      · omega
      · simp [hm] at h
    simp [execSynthUnlock, hcond, hcond2, if_neg hn]
  · intro sample s hcond hcond2 hcond3 hcond4; dsimp only
    change execSynthUnlock 6 sample s = _
    simp [execSynthUnlock, hcond, hcond2, hcond3, hcond4]
  · intro k r s hcond hcond2 hcond3 hcond4; dsimp only
    change execSynthLock k r s = _
    have hk : k ≠ 6 := by rintro rfl; exact absurd hcond2 (by decide)
    simp [execSynthLock, hk, hcond, hcond2, hcond3, hcond4]
  · intro k r s hcond hcond2 hcond3 hcond4; dsimp only
    change execSynthLock k r s = _
    have hk : k ≠ 6 := by rintro rfl; exact absurd hcond2 (by decide)
    simp [execSynthLock, hk, hcond, hcond2, hcond3, hcond4]
  · intro k r s hcond hcond2 hcond3; dsimp only
    change execSynthLock k r s = _
    have hk : k ≠ 6 := by rintro rfl; exact absurd hcond2 (by decide)
    simp [execSynthLock, hk, hcond, hcond2, hcond3]
  · intro r s hcond hcond2; dsimp only
    change execSynthLock 6 r s = _
    simp [execSynthLock, hcond, hcond2]
  · intro r s hcond hcond2; dsimp only
    change execSynthLock 6 r s = _
    simp [execSynthLock, hcond, hcond2]
  · intro k r s hcond hcond2 hcond3; dsimp only
    change execSynthLock k r s = _
    have hk : k ≠ 6 := by rintro rfl; exact absurd hcond2 (by decide)
    simp [execSynthLock, hk, hcond, hcond2, hcond3]
  · intro k r s hcond hcond2 hcond3; dsimp only
    change execSynthLock k r s = _
    have hk : k ≠ 6 := by rintro rfl; exact absurd hcond2 (by decide)
    simp [execSynthLock, hk, hcond, hcond2, hcond3]
  · intro r s hcond hcond2; dsimp only
    change execSynthLock 6 r s = _
    simp [execSynthLock, hcond, hcond2]
  · intro r s hcond hcond2; dsimp only
    change execSynthLock 6 r s = _
    simp [execSynthLock, hcond, hcond2]
  · intro k s hcond; dsimp only
    change execBandSearchFailed k s = _
    simp [execBandSearchFailed, hcond]
  · intro k s hcond
    change execSearchRepeatTimer k s = _
    simp [execSearchRepeatTimer, hcond]
  · intro k s hcond hcond2
    change execProfileLockTimeout k s = _
    simp [execProfileLockTimeout, hcond, hcond2]
  · intro s hcond
    change execProfileLockTimeout 6 s = _
    simp [execProfileLockTimeout, hcond]
  · intro w s hcond hcond2 hcond3; dsimp only
    change execTempFaultEnd w s = _
    simp [execTempFaultEnd, hcond, hcond2, hcond3]
  · intro w s hcond hcond2 hcond3
    change execOverloadClear w s = _
    simp [execOverloadClear, hcond, hcond2, hcond3]
  · intro w s hcond hcond2 hcond3 hcond4
    change execCalInitialTimeout w s = _
    simp [execCalInitialTimeout, hcond, hcond2, hcond3, hcond4]
  · intro w s hcond hcond2 hcond3 hcond4 hcond5
    change execCalNoGapTimeout w s = _
    simp [execCalNoGapTimeout, hcond, hcond2, hcond3, hcond4, hcond5]
  · intro w s hcond hcond2 hcond3 hcond4
    change execCalStaleTempTimeout w s = _
    simp [execCalStaleTempTimeout, hcond, hcond2, hcond3, hcond4]
  · intro w s hcond hcond2 hcond3 hcond4
    change execCalTempFaultTimer w s = _
    simp [execCalTempFaultTimer, hcond, hcond2, hcond3, hcond4]
  · intro s hcond hcond2 hcond3 hconf
    change execCalSnapshotTimer s = _
    simp [execCalSnapshotTimer, hcond, hcond2, hcond3, hconf]
  · intro s hcond hcond2 hcond3 hconf
    change execCalSnapshotTimer s = _
    simp [execCalSnapshotTimer, hcond, hcond2, hcond3, hconf]

/-- Settles O26: each clause goes by the event's own branches. -/
theorem eventsOfFeedsAndProbe : Obligations.EventsOfFeedsAndProbe := by
  unfold Obligations.EventsOfFeedsAndProbe
  refine ⟨?_, ?_, ?_, ?_, ?_, ?_, ?_, ?_, ?_, ?_, ?_, ?_, ?_, ?_, ?_, ?_, ?_, ?_, ?_, ?_, ?_, ?_, ?_, ?_, ?_⟩
  · intro p m s hcond hcond2; dsimp only
    change execFeedRampComplete p m s = _
    rw [execFeedRampComplete]
    exact feedEvent_on hcond (by simp [hcond2])
  · intro p m s hcond hcond2; dsimp only
    change execFeedOvercurrent p m s = _
    rw [execFeedOvercurrent]
    exact feedEvent_on hcond (by simp [hcond2])
  · intro p m s hcond hcond2 hcond3; dsimp only
    change execFeedFoldRecovered p m s = _
    rw [execFeedFoldRecovered]
    exact feedEvent_on hcond (by simp [hcond2, hcond3])
  · intro p m s hcond hcond2; dsimp only
    change execFeedFoldWindowEnd p m s = _
    rw [execFeedFoldWindowEnd]
    exact feedEvent_on hcond (by simp [hcond2])
  · intro p m s hcond hcond2 hcond3; dsimp only
    change execFeedRetryTimer p m s = _
    rw [execFeedRetryTimer]
    exact feedEvent_on hcond (by simp [hcond2, hcond3])
  · intro p m s hcond hcond2 hparam; dsimp only
    change execFeedOvervoltage p m s = _
    rw [execFeedOvervoltage]
    exact feedEvent_on hcond (by simpa [or_assoc] using And.intro hcond2 hparam)
  · intro s hcond
    exact congrArg Host.Outcome.next (if_pos hcond)
  · intro s hcond
    change execVfeedReturn s = _
    simp [execVfeedReturn, hcond]
  · intro p m s hcond hcond2; dsimp only
    change execFeedStartStagger p m s = _
    rw [execFeedStartStagger]
    exact feedEvent_on hcond (by simp [hcond2])
  · intro p s hcond hcond2
    change execFeedEpisodeClear p s = _
    simp [execFeedEpisodeClear, hcond, hcond2]
  · intro p m s hcond hcond2 hcond3; dsimp only
    change execFeedFaultClear p m s = _
    rw [execFeedFaultClear]
    exact feedEvent_on hcond (by simp [hcond2, hcond3])
  · intro p m s hcond hcond2 hparam hcond3; dsimp only
    change execFeedOpenDetect p m s = _
    rw [execFeedOpenDetect]
    exact feedEvent_on hcond (by simp [hcond2, hparam, hcond3])
  · intro p m s hcond hcond2; dsimp only
    change execFeedOpenClear p m s = _
    rw [execFeedOpenClear]
    exact feedEvent_on hcond (by simp [hcond2])
  · intro p m s hcond hcond2 hcond3; dsimp only
    change execPortBackfeedDetect p m s = _
    rw [execPortBackfeedDetect]
    exact feedEvent_on hcond (by simp [hcond2, hcond3])
  · intro p m s hcond hcond2 hcond3; dsimp only
    change execPortBackfeedClear p m s = _
    rw [execPortBackfeedClear]
    exact feedEvent_on hcond (by simp [hcond2, hcond3])
  · intro s hcond
    change execCoexGntFall s = _
    simp [execCoexGntFall, hcond]
  · intro s hcond
    change execCoexGntFall s = _
    simp [execCoexGntFall, hcond]
  · intro s hcond hcond2
    change execProbeGrantTimeout s = _
    simp [execProbeGrantTimeout, hcond, hcond2]
  · intro s hcond hcond2
    change execProbeStartTimeout s = _
    simp [execProbeStartTimeout, hcond, hcond2]
  · intro s hcond hcond2
    change execProbeDurationEnd s = _
    simp [execProbeDurationEnd, hcond, hcond2]
  · intro s hcond
    change execProbeLevelCalDone s = _
    simp [execProbeLevelCalDone, hcond]
  · intro level s hcond
    change execProbeLevelLoop level s = _
    simp [execProbeLevelLoop, hcond]
  · intro s hcond
    change execProbeLimiter s = _
    simp [execProbeLimiter, hcond]
  · intro points low s k hcond; dsimp only
    change execMismatchComplete points low s = _
    simp [execMismatchComplete, hcond]
  · intro points low s hcond k hcond2 hcond3 hcond4; dsimp only
    change execMismatchComplete points low s = _
    simp [execMismatchComplete, hcond, hcond2, hcond3, hcond4]

/-- Settles O27: each clause goes by the event's own branches. -/
theorem eventsOfCluster : Obligations.EventsOfCluster := by
  unfold Obligations.EventsOfCluster
  refine ⟨?_, ?_, ?_, ?_, ?_, ?_, ?_⟩
  · intro dent s
    change execDentBankLoadComplete dent s = _
    simp [execDentBankLoadComplete]
  · intro weave cap stage tasks jobs s w hat hcond hcond2 hcond3 now late hcond4; dsimp only
    change execStageReady weave cap stage tasks jobs s = _
    simp [execStageReady, hat, hcond, hcond2, hcond3, hcond4]
  · intro shuttle cycles s t hat; dsimp only
    change execTaskComplete shuttle cycles s = _
    simp [execTaskComplete, hat]
  · intro cls engine s j hat; dsimp only
    change execEngineJobComplete cls engine s = _
    simp [execEngineJobComplete, hat]
  · intro weave cap stage r s x hcond hcond2 hcond3 hcond4
    change execStageComplete weave cap stage r s = _
    simp only [execStageComplete, hcond, hcond2, hcond3, hcond4, and_self, if_true, Bool.false_eq_true, if_false]
  · intro weave cap stage r s x hcond hcond2 hcond3 hcond4
    change execStageComplete weave cap stage r s = _
    simp only [execStageComplete, hcond, hcond2, hcond3, hcond4, and_self, if_true]
  · intro weave cap cut s x hcond hcond2 hcond3; dsimp only
    change execStageDeadline weave cap cut s = _
    simp [execStageDeadline, hcond, hcond2, hcond3]

/-- Settles O28: each clause goes by the event's own branches. -/
theorem eventsOfFollowingAndSurvey : Obligations.EventsOfFollowingAndSurvey := by
  unfold Obligations.EventsOfFollowingAndSurvey
  refine ⟨?_, ?_, ?_, ?_, ?_, ?_, ?_⟩
  · intro set entry s
    change execSourceFailureClear set entry s = _
    simp [execSourceFailureClear]
  · intro set entry s hcond
    change execRunAheadRetry set entry s = _
    simp [execRunAheadRetry, hcond]
  · intro set s
    change execHopVisitEnd set s = _
    simp [execHopVisitEnd]
  · intro dent power s e c hcond hcond2 hcond3 hcond4 hcond5; dsimp only
    change execSurveyFieldMeasured dent power s = _
    simp only [execSurveyFieldMeasured, hcond, hcond2, hcond3, hcond4, hcond5, Bool.and_self, if_true]
    rfl
  · intro dent power s e c hcond hcond2 hcond3 hcond4 hcond5; dsimp only
    change execSurveyFieldMeasured dent power s = _
    simp only [execSurveyFieldMeasured, hcond, hcond2, hcond3, hcond4, hcond5, Bool.and_self, if_true, Bool.false_eq_true, if_false]
    rfl
  · intro weave s c hcond hcond2 e hcond3 hcond4
    change execSurveyDwellEnd weave s = _
    simp [execSurveyDwellEnd, hcond, hcond2, hcond3, hcond4]
  · intro s e hcond hcond2 hcond3 hcond4 hcond5; dsimp only
    change execSurveyStarved s = _
    simp [execSurveyStarved, hcond, hcond2, hcond3, hcond4, hcond5]

/-- Settles O29: each clause goes by the event's own branches. -/
theorem eventsOfTdmAndEthernet : Obligations.EventsOfTdmAndEthernet := by
  unfold Obligations.EventsOfTdmAndEthernet
  refine ⟨?_, ?_, ?_, ?_, ?_, ?_, ?_, ?_, ?_, ?_⟩
  · intro port periods rate due lines s; dsimp only
    change execTdmFrame port periods rate due lines s = _
    simp [execTdmFrame]
  · intro port s
    change execTdmClockLost port s = _
    simp [execTdmClockLost]
  · intro port s
    change execTdmClockReturn port s = _
    simp [execTdmClockReturn]
  · intro port rate s
    change execTdmRateOk port rate s = _
    simp [execTdmRateOk]
  · intro port s hcond hparam
    change execEthLinkChange port false s = _
    simp [execEthLinkChange, hcond, hparam]
  · intro port s hcond hparam; dsimp only
    change execEthLinkChange port true s = _
    simp [execEthLinkChange, hcond, hparam]
  · intro port a s hcond
    change execEthFrameReceive port (.resolved a) s = _
    simp [execEthFrameReceive, hcond]
  · intro port s hcond
    change execEthFrameReceive port .other s = _
    simp [execEthFrameReceive, hcond]
  · intro port f s hcond
    change execEthFrameReceive port f s = _
    rcases hcond with rfl | rfl <;> exact ite_self _
  · intro failed s
    change execArpRefresh failed s = _
    simp [execArpRefresh]

/-- Settles O30: each clause goes by the event's own branches. -/
theorem eventsOfPeripheralBus : Obligations.EventsOfPeripheralBus := by
  unfold Obligations.EventsOfPeripheralBus
  refine ⟨?_, ?_, ?_, ?_, ?_, ?_, ?_, ?_, ?_, ?_, ?_, ?_, ?_, ?_, ?_, ?_, ?_, ?_, ?_⟩
  · intro s hcond hcond2 x l hcond3 hcond4
    change execPbBusFree s = _
    have hn : (shadowed s && !readForm x.req) = false := by rcases hcond4 with h | h <;> simp [h]
    simp [execPbBusFree, hcond, hcond2, hcond3, hn, -Bool.and_eq_true]
  · intro s hcond hcond2 x l hcond3 hcond4 hcond5
    change execPbBusFree s = _
    simp [execPbBusFree, hcond, hcond2, hcond3, hcond4, hcond5]
  · intro r s hcond x l hcond2; dsimp only
    change execPbTransferDone r s = _
    simp [execPbTransferDone, hcond, hcond2]
  · intro s hcond x l hcond2 hcond3
    change execPbArbLost s = _
    simp [execPbArbLost, hcond, hcond2, hcond3]
  · intro s hcond x l hcond2 hcond3
    change execPbArbLost s = _
    simp [execPbArbLost, hcond, hcond2, hcond3]
  · intro s hcond
    change execPbArbLostCond s = _
    simp [execPbArbLostCond, hcond]
  · intro s hcond
    change execPbStretchTimeout s = _
    simp [execPbStretchTimeout, hcond]
  · intro s hcond
    change execPbBusReleased true s = _
    rcases hcond with h | h <;> simp [execPbBusReleased, h]
  · intro s hcond
    change execPbBusReleased false s = _
    simp [execPbBusReleased, hcond]
  · intro s hcond
    change execPbBusReleased false s = _
    simp [execPbBusReleased, hcond]
  · intro s hcond hcond2 x l hcond3; dsimp only
    change execPbSclStuck s = _
    simp [execPbSclStuck, hcond, hcond2, hcond3]
  · intro s hcond hcond2 hcond3; dsimp only
    change execPbSclStuck s = _
    simp [execPbSclStuck, hcond, hcond2, hcond3]
  · intro s hcond
    change execPbSdaStuck s = _
    simp [execPbSdaStuck, hcond]
  · intro s hcond hcond2
    change execPbRecoveryDone true s = _
    simp [execPbRecoveryDone, hcond, hcond2]
  · intro s hcond hcond2; dsimp only
    change execPbRecoveryDone false s = _
    simp [execPbRecoveryDone, hcond, hcond2]
  · intro s hcond
    change execPbSdaRetry s = _
    simp [execPbSdaRetry, hcond]
  · intro s x hcond hcond2 hcond3
    change execPbTransferTimeout s = _
    simp [execPbTransferTimeout, hcond, hcond2, hcond3]
  · intro s x hcond hcond2; dsimp only
    change execPbTransferTimeout s = _
    have hn : ¬(s.pb.state = .busy ∧ s.pb.queue.head? = some x) := fun h => hcond2.elim (· h.1) (· h.2)
    simp only [execPbTransferTimeout, hcond, if_neg hn]
  · intro s hcond hcond2
    change execPbBothLinesHigh s = _
    simp [execPbBothLinesHigh, hcond, hcond2]

/-- Settles O31: each clause goes by the event's own branches. -/
theorem eventsOfClockRecordsAndSessions : Obligations.EventsOfClockRecordsAndSessions := by
  unfold Obligations.EventsOfClockRecordsAndSessions
  refine ⟨?_, ?_, ?_, ?_, ?_, ?_, ?_, ?_, ?_, ?_, ?_, ?_, ?_, ?_, ?_, ?_, ?_, ?_, ?_⟩
  · intro s hcond hcond2 hcond3
    change execRtcTick s = _
    simp only [execRtcTick, hcond, hcond2, hcond3, Bool.not_true, Bool.or_self, Bool.false_eq_true, if_false, decide_false, Bool.false_and]
  · intro s hcond hcond2 hcond3 hcond4
    change execRtcTick s = _
    simp only [execRtcTick, hcond, hcond2, hcond3, hcond4, Bool.not_true, Bool.or_self, Bool.false_eq_true, if_false, if_true, Bool.and_false, Bool.false_and]
  · intro s hcond hcond2 hcond3 hcond4 hcond5
    change execRtcTick s = _
    simp only [execRtcTick, hcond, hcond2, hcond3, hcond4, hcond5, Bool.not_true, Bool.or_self, Bool.false_eq_true, if_false, if_true, decide_true, Bool.and_self]
  · intro s hcond hcond2 hcond3 hcond4 hcond5
    change execRtcTick s = _
    simp only [execRtcTick, hcond, hcond2, hcond3, hcond4, not_lt.mpr hcond5, Bool.not_true, Bool.or_self, Bool.false_eq_true, if_false, if_true, decide_true, decide_false, Bool.and_self, Bool.and_false]
  · intro s hcond; dsimp only
    change execRtcOscStop s = _
    simp [execRtcOscStop, hcond]
  · intro s
    change execRtcOscRestart s = _
    simp [execRtcOscRestart]
  · intro s hcond hcond2; dsimp only
    change execRtcToBackup s = _
    simp [execRtcToBackup, hcond, hcond2]
  · intro s hcond; dsimp only
    change execRtcToMain s = _
    simp [execRtcToMain, hcond]
  · intro s hcond
    change execBackupCollapse s = _
    simp [execBackupCollapse, hcond]
  · intro mv s hcond; dsimp only
    change execVbackupMeasure mv s = _
    simp [execVbackupMeasure, hcond]
  · intro s hcond
    change execD0PowerUp s = _
    simp [execD0PowerUp, hcond]
  · intro s j l k hcond hcond2 hcond3
    change execRecordWriteComplete true s = _
    simp [execRecordWriteComplete, hcond, hcond2, hcond3]
  · intro s j l k hcond hcond2 c hcond3; dsimp only
    change execRecordWriteComplete true s = _
    simp [execRecordWriteComplete, hcond, hcond2, hcond3]
  · intro s j l k hcond hcond2 hcond3
    change execRecordWriteComplete false s = _
    simp [execRecordWriteComplete, hcond, hcond2, hcond3]
  · intro s j l k hcond hcond2 hcond3 hcond4
    change execRecordWriteComplete false s = _
    simp [execRecordWriteComplete, hcond, hcond2, hcond3, hcond4]
  · intro s j l k hcond hcond2 hcond3 c hcond4
    change execRecordWriteComplete false s = _
    simp [execRecordWriteComplete, hcond, hcond2, hcond3, hcond4]
  · intro k s
    change execSessionOpenExpiry k s = _
    simp [execSessionOpenExpiry]
  · intro k s
    change execSessionIdleTimeout k s = _
    simp [execSessionIdleTimeout]
  · intro s hcond
    change execProveBackoffEnd s = _
    simp [execProveBackoffEnd, hcond]

/-- Settles O32: each clause goes by the event's own branches. -/
theorem eventsOfPairLink : Obligations.EventsOfPairLink := by
  unfold Obligations.EventsOfPairLink
  refine ⟨?_, ?_, ?_, ?_, ?_, ?_, ?_, ?_, ?_, ?_, ?_, ?_, ?_, ?_, ?_, ?_, ?_, ?_, ?_, ?_, ?_, ?_⟩
  · intro f s hcond hcond2 hcond3; dsimp only
    change execPlFrameReceive f s = _
    simp [execPlFrameReceive, hcond, hcond2, hcond3]
  · intro f s hcond hcond2 hcond3 hcond4; dsimp only
    change execPlFrameReceive f s = _
    simp [execPlFrameReceive, hcond, hcond2, hcond3, hcond4]
  · intro f s hcond hcond2 hcond3 hcond4 hcond5; dsimp only
    change execPlFrameReceive f s = _
    simp [execPlFrameReceive, hcond, hcond2, hcond3, hcond4, hcond5]
  · intro f s hcond hcond2 hcond3 hcond4; dsimp only
    change execPlFrameReceive f s = _
    rcases hcond3 with h | h | h <;> simp [execPlFrameReceive, hcond, hcond2, h, hcond4]
  · intro up s hcond
    change execPlLinkChange up s = _
    simp [execPlLinkChange, hcond]
  · intro s hcond hcond2; dsimp only
    change execHeartbeatMiss s = _
    simp [execHeartbeatMiss, hcond, (by omega : s.pair.missRun + 1 < 3)]
  · intro s hcond hcond2; dsimp only
    change execHeartbeatMiss s = _
    simp [execHeartbeatMiss, hcond, hcond2]
  · intro s hcond hcond2; dsimp only
    change execHeartbeatMiss s = _
    have hn : ¬s.pair.missRun + 1 < 3 := by omega
    rcases hcond with h | h <;> simp [execHeartbeatMiss, h, if_neg hn]
  · intro s hcond hcond2
    change execOwnHwRelease s = _
    simp [execOwnHwRelease, hcond, hcond2]
  · intro s hcond hcond2 hcond3
    change execOwnRelease s = _
    simp [execOwnRelease, hcond, hcond2, hcond3]
  · intro s hcond hcond2 hcond3
    change execOwnRelease s = _
    simp [execOwnRelease, hcond, hcond2, hcond3]
  · intro s hcond hcond2 hcond3 hcond4 hcond5
    change execOwnRelease s = _
    simp [execOwnRelease, hcond, hcond2, hcond3, hcond5]
  · intro s hcond hcond2 hcond3 hcond4
    change execOwnRelease s = _
    simp [execOwnRelease, hcond, hcond2, hcond3, hcond4]
  · intro ns s hcond
    change execFailoverTdmDrive ns s = _
    simp [execFailoverTdmDrive, hcond]
  · intro ownHeld s hcond hcond2
    change execJoinWaitEnd ownHeld s = _
    simp [execJoinWaitEnd, hcond, hcond2]
  · intro s hcond hcond2 hcond3 hcond4
    change execMirrorJoin s = _
    simp [execMirrorJoin, hcond, hcond2, hcond3, hcond4]
  · intro s hcond hcond2 hcond3
    change execMirrorJoin s = _
    rcases hcond3 with h | h <;> simp [execMirrorJoin, hcond, hcond2, h]
  · intro s hcond hcond2 hcond3; dsimp only
    change execMirrorJoin s = _
    simp [execMirrorJoin, hcond, hcond2, hcond3]
  · intro s hcond hcond2
    change execMirrorSynced s = _
    simp [execMirrorSynced, hcond, hcond2]
  · intro s hcond hcond2
    change execMirrorUnsynced s = _
    simp [execMirrorUnsynced, hcond, hcond2]
  · intro s hcond hcond2
    change execAlignFault s = _
    rcases hcond with h | h <;> rcases hcond2 with h2 | h2 <;> simp [execAlignFault, h, h2]
  · intro s hcond hcond2
    change execAlignFault s = _
    rcases hcond with h | h <;> simp [execAlignFault, h, hcond2]

end Sys2Proof.Proofs

/-! PROOFS. The service of host commands (R447): each is served under its own row of the opcode table, on whatever state. -/

namespace Sys2Proof.Proofs

open Sys2Proof Sys2Proof.Machine

/-- A host command is served under its row of the opcode table by checks and an effect of its own; the two that ask for a reset begin it
where their reply has been sent (R480, R481). -/
def Served (i : Instr) : Prop :=
  ∀ h, hdrOf i = some h → ∃ r k obj body, opRow (opOf i) = some (r, k) ∧
    ((∀ s, exec i s = serve i (opOf i) r k h obj body s) ∨
      ((opOf i = 0x0105 ∨ opOf i = 0x0E14) ∧ ∀ s, exec i s = thenReset (serve i (opOf i) r k h obj body s)))

theorem Served.of_serve {i : Instr} {op : Nat} {r : Right} {k : Key} {h : Hdr} {obj : Handle} {body : State → Ans}
    (hx : ∀ s, exec i s = serve i op r k h obj body s) (hi : hdrOf i = some h) (ho : opOf i = op) (hr : opRow op = some (r, k)) :
    Served i := by
  subst ho
  intro h' hh
  obtain rfl := Option.some.inj (hi.symm.trans hh)
  exact ⟨r, k, obj, body, hr, .inl hx⟩

theorem Served.of_thenReset {i : Instr} {op : Nat} {r : Right} {k : Key} {h : Hdr} {obj : Handle} {body : State → Ans}
    (hx : ∀ s, exec i s = thenReset (serve i op r k h obj body s)) (hi : hdrOf i = some h) (ho : opOf i = op)
    (hr : opRow op = some (r, k)) (hop : op = 0x0105 ∨ op = 0x0E14) : Served i := by
  subst ho
  intro h' hh
  obtain rfl := Option.some.inj (hi.symm.trans hh)
  exact ⟨r, k, obj, body, hr, .inr ⟨hop, hx⟩⟩

/-- Every host command is served so. -/
theorem served (i : Instr) : Served i := by
  cases i with
  | sysIdent => exact .of_serve (fun _ => rfl) rfl rfl rfl
  | sysStatus => exact .of_serve (fun _ => rfl) rfl rfl rfl
  | sysModeSet => exact .of_serve (fun _ => rfl) rfl rfl rfl
  | sysDomainSet => exact .of_serve (fun _ => rfl) rfl rfl rfl
  | sysReset => exact .of_thenReset (fun _ => rfl) rfl rfl rfl (.inl rfl)
  | sysEventRead => exact .of_serve (fun _ => rfl) rfl rfl rfl
  | sysEventNotify => exact .of_serve (fun _ => rfl) rfl rfl rfl
  | sysProtoStatus => exact .of_serve (fun _ => rfl) rfl rfl rfl
  | sysEventCount => exact .of_serve (fun _ => rfl) rfl rfl rfl
  | pbConfig => exact .of_serve (fun _ => rfl) rfl rfl rfl
  | pbPeriphCreate => exact .of_serve (fun _ => rfl) rfl rfl rfl
  | pbPeriphRelease => exact .of_serve (fun _ => rfl) rfl rfl rfl
  | pbTransfer => exact .of_serve (fun _ => rfl) rfl rfl rfl
  | pbStatus => exact .of_serve (fun _ => rfl) rfl rfl rfl
  | sessionOpen => exact .of_serve (fun _ => rfl) rfl rfl rfl
  | sessionProve => exact .of_serve (fun _ => rfl) rfl rfl rfl
  | sessionClose => exact .of_serve (fun _ => rfl) rfl rfl rfl
  | sessionStatus => exact .of_serve (fun _ => rfl) rfl rfl rfl
  | rolekeySet => exact .of_serve (fun _ => rfl) rfl rfl rfl
  | auditRead => exact .of_serve (fun _ => rfl) rfl rfl rfl
  | auditClear => exact .of_serve (fun _ => rfl) rfl rfl rfl
  | tbConfig => exact .of_serve (fun _ => rfl) rfl rfl rfl
  | tbStatus => exact .of_serve (fun _ => rfl) rfl rfl rfl
  | tbPhaseStep => exact .of_serve (fun _ => rfl) rfl rfl rfl
  | tbSetSeconds => exact .of_serve (fun _ => rfl) rfl rfl rfl
  | clkConfig => exact .of_serve (fun _ => rfl) rfl rfl rfl
  | clkStatus => exact .of_serve (fun _ => rfl) rfl rfl rfl
  | portConfig => exact .of_serve (fun _ => rfl) rfl rfl rfl
  | portStatus => exact .of_serve (fun _ => rfl) rfl rfl rfl
  | feedSet => exact .of_serve (fun _ => rfl) rfl rfl rfl
  | feedReset => exact .of_serve (fun _ => rfl) rfl rfl rfl
  | heddleRoute => exact .of_serve (fun _ => rfl) rfl rfl rfl
  | warpTune => exact .of_serve (fun _ => rfl) rfl rfl rfl
  | warpGain => exact .of_serve (fun _ => rfl) rfl rfl rfl
  | warpAgc => exact .of_serve (fun _ => rfl) rfl rfl rfl
  | warpStatus => exact .of_serve (fun _ => rfl) rfl rfl rfl
  | synStatus => exact .of_serve (fun _ => rfl) rfl rfl rfl
  | synDitherSet => exact .of_serve (fun _ => rfl) rfl rfl rfl
  | synProfileStore => exact .of_serve (fun _ => rfl) rfl rfl rfl
  | synProfileRead => exact .of_serve (fun _ => rfl) rfl rfl rfl
  | synProfileClear => exact .of_serve (fun _ => rfl) rfl rfl rfl
  | dentCreate => exact .of_serve (fun _ => rfl) rfl rfl rfl
  | dentSet => exact .of_serve (fun _ => rfl) rfl rfl rfl
  | dentBankLoad => exact .of_serve (fun _ => rfl) rfl rfl rfl
  | dentBankSwap => exact .of_serve (fun _ => rfl) rfl rfl rfl
  | dentFlush => exact .of_serve (fun _ => rfl) rfl rfl rfl
  | dentRelease => exact .of_serve (fun _ => rfl) rfl rfl rfl
  | dentStatus => exact .of_serve (fun _ => rfl) rfl rfl rfl
  | reedStatus => exact .of_serve (fun _ => rfl) rfl rfl rfl
  | dentBankRead => exact .of_serve (fun _ => rfl) rfl rfl rfl
  | weaveCreate => exact .of_serve (fun _ => rfl) rfl rfl rfl
  | weaveStart => exact .of_serve (fun _ => rfl) rfl rfl rfl
  | weaveStop => exact .of_serve (fun _ => rfl) rfl rfl rfl
  | weaveRelease => exact .of_serve (fun _ => rfl) rfl rfl rfl
  | weaveSet => exact .of_serve (fun _ => rfl) rfl rfl rfl
  | weaveStatus => exact .of_serve (fun _ => rfl) rfl rfl rfl
  | schedStatus => exact .of_serve (fun _ => rfl) rfl rfl rfl
  | fmStatus => exact .of_serve (fun _ => rfl) rfl rfl rfl
  | amStatus => exact .of_serve (fun _ => rfl) rfl rfl rfl
  | fmAfRead => exact .of_serve (fun _ => rfl) rfl rfl rfl
  | dabStatus => exact .of_serve (fun _ => rfl) rfl rfl rfl
  | dabSubchRead => exact .of_serve (fun _ => rfl) rfl rfl rfl
  | dabTiiRead => exact .of_serve (fun _ => rfl) rfl rfl rfl
  | drmStatus => exact .of_serve (fun _ => rfl) rfl rfl rfl
  | digDecodeSet => exact .of_serve (fun _ => rfl) rfl rfl rfl
  | surveyStart => exact .of_serve (fun _ => rfl) rfl rfl rfl
  | surveyStop => exact .of_serve (fun _ => rfl) rfl rfl rfl
  | surveyStatus => exact .of_serve (fun _ => rfl) rfl rfl rfl
  | serviceList => exact .of_serve (fun _ => rfl) rfl rfl rfl
  | serviceRead => exact .of_serve (fun _ => rfl) rfl rfl rfl
  | componentRead => exact .of_serve (fun _ => rfl) rfl rfl rfl
  | labelRead => exact .of_serve (fun _ => rfl) rfl rfl rfl
  | linkRead => exact .of_serve (fun _ => rfl) rfl rfl rfl
  | serviceRelease => exact .of_serve (fun _ => rfl) rfl rfl rfl
  | timePolicy => exact .of_serve (fun _ => rfl) rfl rfl rfl
  | timeStatus => exact .of_serve (fun _ => rfl) rfl rfl rfl
  | followCreate => exact .of_serve (fun _ => rfl) rfl rfl rfl
  | followSet => exact .of_serve (fun _ => rfl) rfl rfl rfl
  | followCommit => exact .of_serve (fun _ => rfl) rfl rfl rfl
  | followRelease => exact .of_serve (fun _ => rfl) rfl rfl rfl
  | followStatus => exact .of_serve (fun _ => rfl) rfl rfl rfl
  | followPolicy => exact .of_serve (fun _ => rfl) rfl rfl rfl
  | measRead => exact .of_serve (fun _ => rfl) rfl rfl rfl
  | measWindow => exact .of_serve (fun _ => rfl) rfl rfl rfl
  | measThreshold => exact .of_serve (fun _ => rfl) rfl rfl rfl
  | loudnessRead => exact .of_serve (fun _ => rfl) rfl rfl rfl
  | loudnessReset => exact .of_serve (fun _ => rfl) rfl rfl rfl
  | audioMonSet => exact .of_serve (fun _ => rfl) rfl rfl rfl
  | verifySet => exact .of_serve (fun _ => rfl) rfl rfl rfl
  | verifyClear => exact .of_serve (fun _ => rfl) rfl rfl rfl
  | verifyStatus => exact .of_serve (fun _ => rfl) rfl rfl rfl
  | tdmPortConfig => exact .of_serve (fun _ => rfl) rfl rfl rfl
  | tdmPortStatus => exact .of_serve (fun _ => rfl) rfl rfl rfl
  | tdmStreamCreate => exact .of_serve (fun _ => rfl) rfl rfl rfl
  | tdmStreamRelease => exact .of_serve (fun _ => rfl) rfl rfl rfl
  | alignCreate => exact .of_serve (fun _ => rfl) rfl rfl rfl
  | alignAdd => exact .of_serve (fun _ => rfl) rfl rfl rfl
  | alignRemove => exact .of_serve (fun _ => rfl) rfl rfl rfl
  | alignRelease => exact .of_serve (fun _ => rfl) rfl rfl rfl
  | alignStatus => exact .of_serve (fun _ => rfl) rfl rfl rfl
  | ethPortConfig => exact .of_serve (fun _ => rfl) rfl rfl rfl
  | ethPortStatus => exact .of_serve (fun _ => rfl) rfl rfl rfl
  | ethStreamCreate => exact .of_serve (fun _ => rfl) rfl rfl rfl
  | ethStreamRelease => exact .of_serve (fun _ => rfl) rfl rfl rfl
  | ethStreamStatus => exact .of_serve (fun _ => rfl) rfl rfl rfl
  | rtcRead => exact .of_serve (fun _ => rfl) rfl rfl rfl
  | rtcSet => exact .of_serve (fun _ => rfl) rfl rfl rfl
  | rtcTrim => exact .of_serve (fun _ => rfl) rfl rfl rfl
  | rtcAlarmSet => exact .of_serve (fun _ => rfl) rfl rfl rfl
  | rtcStatus => exact .of_serve (fun _ => rfl) rfl rfl rfl
  | rtcWeekdaySet => exact .of_serve (fun _ => rfl) rfl rfl rfl
  | rtcConfig => exact .of_serve (fun _ => rfl) rfl rfl rfl
  | dateToTicks => exact .of_serve (fun _ => rfl) rfl rfl rfl
  | ticksToDate => exact .of_serve (fun _ => rfl) rfl rfl rfl
  | recordStatus => exact .of_serve (fun _ => rfl) rfl rfl rfl
  | recordRead => exact .of_serve (fun _ => rfl) rfl rfl rfl
  | recordResolve => exact .of_serve (fun _ => rfl) rfl rfl rfl
  | limitsWrite => exact .of_serve (fun _ => rfl) rfl rfl rfl
  | trimWrite => exact .of_serve (fun _ => rfl) rfl rfl rfl
  | fwStatus => exact .of_serve (fun _ => rfl) rfl rfl rfl
  | fwLoadBegin => exact .of_serve (fun _ => rfl) rfl rfl rfl
  | fwLoadData => exact .of_serve (fun _ => rfl) rfl rfl rfl
  | fwLoadEnd => exact .of_serve (fun _ => rfl) rfl rfl rfl
  | fwBoot => exact .of_thenReset (fun _ => rfl) rfl rfl rfl (.inr rfl)
  | fwKeyWrite => exact .of_serve (fun _ => rfl) rfl rfl rfl
  | lifecycleLock => exact .of_serve (fun _ => rfl) rfl rfl rfl
  | pairConfig => exact .of_serve (fun _ => rfl) rfl rfl rfl
  | pairStatus => exact .of_serve (fun _ => rfl) rfl rfl rfl
  | pairHandover => exact .of_serve (fun _ => rfl) rfl rfl rfl
  | deviceIdSet => exact .of_serve (fun _ => rfl) rfl rfl rfl
  | farmStatus => exact .of_serve (fun _ => rfl) rfl rfl rfl
  | calPolicy => exact .of_serve (fun _ => rfl) rfl rfl rfl
  | calRequest => exact .of_serve (fun _ => rfl) rfl rfl rfl
  | calStatus => exact .of_serve (fun _ => rfl) rfl rfl rfl
  | calResultRead => exact .of_serve (fun _ => rfl) rfl rfl rfl
  | calSnapshot => exact .of_serve (fun _ => rfl) rfl rfl rfl
  | tunerPresetWrite => exact .of_serve (fun _ => rfl) rfl rfl rfl
  | tunerPresetRead => exact .of_serve (fun _ => rfl) rfl rfl rfl
  | tunerSelect => exact .of_serve (fun _ => rfl) rfl rfl rfl
  | tunerStatus => exact .of_serve (fun _ => rfl) rfl rfl rfl
  | probeStart => exact .of_serve (fun _ => rfl) rfl rfl rfl
  | probeStop => exact .of_serve (fun _ => rfl) rfl rfl rfl
  | probeStatus => exact .of_serve (fun _ => rfl) rfl rfl rfl
  | mismatchMeasure => exact .of_serve (fun _ => rfl) rfl rfl rfl
  | mismatchRead => exact .of_serve (fun _ => rfl) rfl rfl rfl
  | _ => exact fun _ hh => nomatch hh

/-- A reset asked for by no command is not begun. -/
theorem resetIfSent_of_none {s : State} (h : s.sys.resetReq = none) : resetIfSent s = s := by rw [resetIfSent, h]

/-- Nothing is served in BACKUP (R465). -/
theorem serve_backup {i : Instr} {op : Nat} {r : Right} {k : Key} {h : Hdr} {obj : Handle} {body : State → Ans} {s : State}
    (hm : s.sys.mode = .backup) : serve i op r k h obj body s = .next s := by rw [serve, if_pos hm]

/-- A packet without the right is answered so (check 5). -/
theorem serve_noRight {i : Instr} {op : Nat} {r : Right} {k : Key} {h : Hdr} {obj : Handle} {body : State → Ans} {s : State}
    (hm : s.sys.mode ≠ .backup) (ha : ¬(s.pair.applying.isSome = true ∧ h.via = .self)) (hr : rightOk r h s = false) :
    serve i op r k h obj body s = .next (answer op r h obj .noRight [] s) := by
  rw [serve, if_neg hm, if_neg ha, hr]; rfl

/-- A packet in a mode that does not permit its opcode is answered so (check 6). -/
theorem serve_wrongMode {i : Instr} {op : Nat} {r : Right} {k : Key} {h : Hdr} {obj : Handle} {body : State → Ans} {s : State} {c : Status}
    (hm : s.sys.mode ≠ .backup) (ha : ¬(s.pair.applying.isSome = true ∧ h.via = .self)) (hr : rightOk r h s = true)
    (hk : k.refuses s.sys.mode = some c) : serve i op r k h obj body s = .next (answer op r h obj c [] (sessNamed h s)) := by
  simp [serve, hm, if_neg ha, hr, hk]

/-- A refusal asks for no reset. -/
theorem resetIfSent_answer {op : Nat} {r : Right} {h : Hdr} {o : Handle} {c : Status} {p : List Byte} {s : State}
    (hs : s.sys.resetReq = none) : resetIfSent (answer op r h o c p s) = answer op r h o c p s := by
  obtain ⟨_, _, _, _, _, _, _, _, _, ht⟩ := Laws.answer_changes op r h o c p s
  exact resetIfSent_of_none (by rw [ht]; exact hs)

/-- Naming a session asks for no reset. -/
theorem sessNamed_sys (h : Hdr) (s : State) : (sessNamed h s).sys = s.sys := by
  obtain ⟨_, ht⟩ := Laws.sessNamed_changes h s
  rw [ht]

/-- What the service answers on whatever object the command names, the command answers, where no reset is waiting in it. -/
theorem exec_of_serve {i : Instr} {h : Hdr} {r : Right} {k : Key} {s : State} {t : Handle → State} (hi : hdrOf i = some h)
    (hr : opRow (opOf i) = some (r, k)) (hq : opOf i = 0x0105 ∨ opOf i = 0x0E14 → ∀ obj, resetIfSent (t obj) = t obj)
    (hs : ∀ obj body, serve i (opOf i) r k h obj body s = .next (t obj)) : ∃ obj, exec i s = .next (t obj) := by
  obtain ⟨r', k', obj, body, hr', hx⟩ := served i h hi
  obtain ⟨rfl, rfl⟩ := Prod.mk.inj (Option.some.inj (hr.symm.trans hr'))
  refine ⟨obj, ?_⟩
  rcases hx with hx | ⟨hop, hx⟩
  · rw [hx, hs]
  · rw [hx, hs]
    exact congrArg _ (hq hop obj)

/-- Settles O41: nothing is served in BACKUP. -/
theorem backupServesNoCommand : Obligations.BackupServesNoCommand := by
  unfold Obligations.BackupServesNoCommand
  intro i h s hi hm hq
  obtain ⟨r, k, obj, body, hr, -⟩ := served i h hi
  obtain ⟨_, hx⟩ := exec_of_serve (t := fun _ => s) hi hr (fun hop _ => resetIfSent_of_none (hq hop)) fun _ _ => serve_backup hm
  exact hx

/-- Settles O39: check 5 decides before any other. -/
theorem noRightIsRefused : Obligations.NoRightIsRefused := by
  unfold Obligations.NoRightIsRefused
  intro i h r k s hi hr hm ha hno hq
  exact exec_of_serve hi hr (fun hop _ => resetIfSent_answer (hq hop)) fun _ _ => serve_noRight hm ha hno

/-- Settles O40: check 6 decides once check 5 has passed. -/
theorem wrongModeIsRefused : Obligations.WrongModeIsRefused := by
  unfold Obligations.WrongModeIsRefused
  intro i h r k c s hi hr hm ha hyes hk hq
  exact exec_of_serve hi hr (fun hop _ => resetIfSent_answer ((congrArg _ (sessNamed_sys h s)).trans (hq hop)))
    fun _ _ => serve_wrongMode hm ha hyes hk

end Sys2Proof.Proofs

/-! PROOFS. The step, the reset state, the rights, the interrupt line, the check byte of the management bus, target picks and pending
changes. -/

namespace Sys2Proof.Proofs

open Sys2Proof Sys2Proof.Machine

/-- A step with a command at the front of the queue. -/
theorem step_cons {c : Instr} {l : List Instr} {s : State} (h : s.pending = c :: l) : step s = exec c { s with pending := l } := by
  rw [step, h]

/-- A step with an empty queue. -/
theorem step_nil {s : State} (h : s.pending = []) : step s = idle s := by rw [step, h]

/-- Settles O1. -/
theorem stepRunsFrontCommand : Obligations.StepRunsFrontCommand := by
  unfold Obligations.StepRunsFrontCommand
  exact fun _ _ _ => step_cons

/-- In BACKUP no packet is taken up. -/
theorem nextTaken_backup {s : State} (h : s.sys.mode = .backup) : nextTaken s = none := by
  unfold nextTaken
  split <;> simp [h]

/-- Settles O2: the queue is empty, so what is taken up decides. -/
theorem emptyQueueIdles : Obligations.EmptyQueueIdles := by
  unfold Obligations.EmptyQueueIdles
  refine ⟨?_, ?_, ?_, fun _ => nextTaken_backup⟩
  · intro s hp ht
    rw [step_nil hp, idle, ht]
  · intro s u v t hp ht hi
    rw [step_nil hp, idle, ht]
    simp only [hi]
  · intro s u v t i hp ht hi
    rw [step_nil hp, idle, ht]
    simp only [hi]

/-- Settles O5: the reset state is a closed term. -/
theorem resetLeavesDormant : Obligations.ResetLeavesDormant := by
  unfold Obligations.ResetLeavesDormant
  refine ⟨rfl, rfl, rfl, rfl, rfl, rfl, rfl, rfl, rfl, rfl, rfl, rfl, rfl, rfl, rfl, rfl, rfl, rfl, rfl, rfl, rfl, rfl, rfl, ?_, ?_⟩
  · exact .inl (Nat.zero_le _)
  · change 0 < 7
    omega

/-- Parameter bytes whose reserved fields are zero leave the header facts as they are. -/
theorem decodeCmd_of_zero {h : Hdr} {op : Nat} {b : List Byte} (f : Hdr → Instr)
    (hd : decodeCmd h op b = some (f (hdrAlso h true))) : decodeCmd h op b = some (f h) := by rw [hd, hdrAlso_true]

/-- Settles O7: the bytes are closed terms, so each field is read out. -/
theorem knownPacketsDecode : Obligations.KnownPacketsDecode := by
  unfold Obligations.KnownPacketsDecode
  intro h
  refine ⟨rfl, ?_, ?_, ?_, rfl, rfl, rfl⟩
  · exact decodeCmd_of_zero (.sysModeSet · 5 0x1234) (by rfl)
  · exact decodeCmd_of_zero (.sessionOpen · 2) (by rfl)
  · exact decodeCmd_of_zero (.auditClear · 0x7440C1EA) (by rfl)

/-- The session a packet names: open, and bound to the transport the packet came on. -/
theorem sessOf_eq_some {s : State} {h : Hdr} {x : Sess} :
    sessOf s h = some x ↔ tget s.auth.sess h.sess = some x ∧ x.via = h.via := by
  unfold sessOf
  cases hx : tget s.auth.sess h.sess with
  | none => simp
  | some y =>
    simp only [Option.ite_none_right_eq_some, Option.some.injEq]
    constructor
    · rintro ⟨hv, rfl⟩
      exact ⟨rfl, hv⟩
    · rintro ⟨rfl, hv⟩
      exact ⟨hv, rfl⟩

/-- Check 5 of a packet that names no session. -/
theorem rightOk_of_none {r : Right} {h : Hdr} {s : State} (hn : h.sess = 0xFF) : rightOk r h s = true ↔ r = .anonymous := by
  rw [rightOk, if_pos hn, beq_iff_eq]

/-- Check 5 of a packet that names a session. -/
theorem rightOk_of_named {r : Right} {h : Hdr} {s : State} (hn : h.sess ≠ 0xFF) :
    rightOk r h s = true ↔ ∃ x, sessOf s h = some x ∧ (r = .anonymous ∨ (x.proven = true ∧ r.heldBy x.role = true)) := by
  rw [rightOk, if_neg hn]
  cases sessOf s h <;> simp

/-- Settles O38: by whether the packet names a session. -/
theorem rightsTable : Obligations.RightsTable := by
  unfold Obligations.RightsTable
  refine ⟨fun r h s => ?_, fun _ _ _ => sessOf_eq_some, fun n => ?_⟩
  · by_cases hn : h.sess = 0xFF
    · simp [rightOk_of_none hn, hn]
    · rw [rightOk_of_named hn]
      cases sessOf s h <;> simp [hn]
  · simp [Right.heldBy]

/-- The condition of a low interrupt line. -/
theorem irqLow_iff (s : State) : irqLow s = true ↔
    ((s.proto.spi.reply.isSome = true ∧ s.proto.spi.delivered = false) ∨ (s.proto.events ≠ [] ∧ bit s.proto.notify.mask 0 = true)) := by
  simp [irqLow]

/-- Counting a repeat leaves the interrupt line as it is. -/
@[simp] theorem irqLow_countRepeat (again : Bool) (s : State) : irqLow (countRepeat again s) = irqLow s := by
  cases again <;> rfl

/-- A READ that clocks out a whole reply delivers it. -/
theorem execSpiRead_of_whole {s : State} {n : Nat} {b : List Byte} (hm : s.sys.mode ≠ .backup) (hq : s.sys.resetReq = none)
    (hb : slotBytesOut s.proto.spi s = (b, true)) (hn : b.length ≤ n) :
    exec (.spiRead n) s = .next (countRepeat s.proto.spi.delivered (protomod (fun p => { p with
      miso := spiHeader s ++ (b ++ zeros n).take n, spi := { p.spi with delivered := true } }) s)) := by
  change execSpiRead n s = _
  simp only [execSpiRead, if_neg hm, hb, hn, decide_true, Bool.true_and, Bool.or_true]
  cases s.proto.spi.delivered <;> simp [countRepeat, protomod, hq]

/-- Settles O45: the reply is delivered and no event asks for the line. -/
theorem interruptLine : Obligations.InterruptLine := by
  unfold Obligations.InterruptLine
  refine ⟨irqLow_iff, fun s t n b hm hq hb hn he ht => ?_⟩
  rw [execSpiRead_of_whole hm hq hb hn] at ht
  cases ht
  rw [irqLow_countRepeat, Bool.eq_false_iff, ne_eq, irqLow_iff]
  rintro (⟨-, hd⟩ | ⟨hne, hb⟩)
  · cases hd
  · rcases he with he | he
    · exact hne he
    · exact Bool.false_ne_true (he.symm.trans hb)

/-- When a write on the management bus stands. -/
theorem pecOk_iff (s : State) (code : Nat) (body : List Byte) (check : Option Byte) (extra : Bool) :
    pecOk s code body check extra = true ↔
      (extra = false ∧ (check = some (pec (mbAddr s false ++ byte code ++ body)) ∨ (check = none ∧ s.mb.pecReq = false))) := by
  cases check <;> simp [pecOk]

/-- Settles O46. -/
theorem managementBusCheckByte : Obligations.ManagementBusCheckByte := by
  unfold Obligations.ManagementBusCheckByte
  exact ⟨by decide +kernel, pecOk_iff, fun _ => ⟨rfl, rfl⟩, fun _ _ _ => ⟨rfl, rfl⟩⟩

/-- The due boundary of a target, with no announcement of the owner being applied. -/
theorem dueOf_eq {s : State} (h : s.pair.applying = none) (t : Nat) :
    dueOf s t = if t = 0 then some (s.sys.ord + 2)
      else if s.tb.pick + 2 ≤ t ∧ t ≤ s.tb.pick + 60000 then some (s.sys.ord + (t - s.tb.pick)) else none := by
  simp [dueOf, h]

/-- A position's eight bytes and two are read back apart. -/
theorem posReply_fields {s : State} {due sample : Nat} (hp : pickAt s due < 2 ^ 64) (hs : sample < 65536) :
    ofLe ((posReply s due sample).take 8) = pickAt s due ∧ ofLe ((posReply s due sample).drop 8) = sample := by
  constructor
  · rw [posReply, List.take_left' (length_leBytes ..), ofLe_leBytes_of_lt hp]
  · rw [posReply, List.drop_left' (length_leBytes ..), ofLe_leBytes_of_lt hs]

/-- Settles O47: by the window of targets. -/
theorem targetPicks : Obligations.TargetPicks := by
  unfold Obligations.TargetPicks
  refine ⟨fun s h => ⟨by simp [dueOf_eq h], by simp only [pickAt]; omega⟩, fun s t h ht => ?_, fun _ _ _ _ hp hs => posReply_fields hp hs⟩
  rw [dueOf_eq h, if_neg ht]
  by_cases hw : s.tb.pick + 2 ≤ t ∧ t ≤ s.tb.pick + 60000
  · rw [if_pos hw]
    refine ⟨⟨nofun, fun _ => by omega⟩, fun due hd => ?_⟩
    cases hd
    simp only [pickAt]
    omega
  · rw [if_neg hw]
    exact ⟨⟨fun _ => by omega, fun _ => rfl⟩, nofun⟩

/-- Scheduling keeps what a pending change is stamped with, its role, apart from the counts of replacements. -/
theorem stamped_omod (p : Pend) (h : Handle) (f : Obj → Obj) (s : State) : stamped p (omod h f s) = stamped p s := rfl

/-- The scheduled changes after one more: those of its kind on its object give way to it. -/
theorem sched_sched (p : Pend) (s : State) :
    (sched p s).sched = (s.sched.filter fun q => !(q.obj == p.obj && q.kind == p.kind)) ++ [stamped p s] := by
  unfold sched
  simp only
  split <;> rfl

/-- Where no change of the kind is pending on the object, nothing is counted. -/
theorem sched_reg_of_isNone {p : Pend} {s : State} (h : (pendOf s p.obj p.kind).isNone = true) : (sched p s).reg = s.reg := by
  rw [Option.isNone_iff_eq_none] at h
  simp [sched, h]

/-- Where one is, the object counts its replacement. -/
theorem sched_reg_of_isSome {p : Pend} {s : State} (h : (pendOf s p.obj p.kind).isSome = true) :
    (sched p s).reg.objs = s.reg.objs.map fun o => if o.handle = p.obj then { o with repl := o.repl + 1 } else o := by
  simp [sched, h, omod]

/-- Settles O48: the filter drops the changes of the kind and the new one is of the kind. -/
theorem onePendingChangeOfAKind : Obligations.OnePendingChangeOfAKind := by
  unfold Obligations.OnePendingChangeOfAKind
  intro p s
  refine ⟨?_, ?_, sched_reg_of_isNone, sched_reg_of_isSome, ?_⟩
  · rw [sched_sched, List.filter_append, List.filter_filter]
    simp [stamped]
  · rw [sched_sched, List.filter_append, List.filter_filter]
    simp [stamped]
  · obtain ⟨_, _, ht⟩ := Laws.sched_changes p s
    rw [ht]

/-- The corrections of the first blocks are the floor of the share due: each block adds one or none. -/
theorem length_filter_corrects {t : Int} (ht : t.natAbs ≤ 128) (n : Nat) :
    ((List.range n).filter (corrects t)).length = n * t.natAbs / 128 := by
  induction n with
  | zero => simp
  | succ n ih =>
    have hstep : (n + 1) * t.natAbs = n * t.natAbs + t.natAbs := Nat.succ_mul ..
    rw [List.range_succ, List.filter_append, List.length_append, ih]
    cases hc : corrects t n with
    | true =>
      have hlt := of_decide_eq_true hc
      rw [List.filter_cons_of_pos hc, List.filter_nil, List.length_singleton]
      omega
    | false =>
      have hge := of_decide_eq_false hc
      rw [List.filter_cons_of_neg (Bool.eq_false_iff.mp hc), List.filter_nil, List.length_nil]
      omega

/-- Settles O53: 128 blocks make 128 shares. -/
theorem trimCorrections : Obligations.TrimCorrections := by
  unfold Obligations.TrimCorrections
  refine ⟨fun t hl hu => ?_, fun t b => decide_eq_true_iff, fun t n hl hu _ => length_filter_corrects (by omega) n⟩
  rw [length_filter_corrects (by omega)]
  omega

/-- A key byte is hidden, every other byte of ROLEKEYS is as held. -/
theorem getElem?_hideKeys (b : List Byte) (k : Nat) :
    (hideKeys b)[k]? = b[k]?.map fun x => if k < 108 ∧ 4 ≤ k % 36 then 0#8 else x := List.getElem?_mapIdx

/-- A byte that is no key byte is shown. -/
theorem getElem?_hideKeys_of_shown {k : Nat} (h : 108 ≤ k ∨ k % 36 < 4) (b : List Byte) : (hideKeys b)[k]? = b[k]? := by
  rw [getElem?_hideKeys]
  simp only [show ¬(k < 108 ∧ 4 ≤ k % 36) by omega, if_false, Option.map_id']

/-- A key byte is zero. -/
theorem getElem?_hideKeys_of_hidden {b : List Byte} {k : Nat} (hb : k < b.length) (h : k < 108 ∧ 4 ≤ k % 36) :
    (hideKeys b)[k]? = some 0#8 := by
  rw [getElem?_hideKeys, List.getElem?_eq_getElem hb, Option.map_some, if_pos h]

/-- The bytes shown do not depend on the keys. -/
theorem hideKeys_congr {a b : List Byte} (hl : a.length = b.length) (h : ∀ k, (108 ≤ k ∨ k % 36 < 4) → a[k]? = b[k]?) :
    hideKeys a = hideKeys b := by
  refine List.ext_getElem? fun k => ?_
  by_cases hk : 108 ≤ k ∨ k % 36 < 4
  · rw [getElem?_hideKeys_of_shown hk, getElem?_hideKeys_of_shown hk, h k hk]
  · by_cases hb : k < b.length
    · rw [getElem?_hideKeys_of_hidden (hl ▸ hb) (by omega), getElem?_hideKeys_of_hidden hb (by omega)]
    · rw [getElem?_hideKeys, getElem?_hideKeys, List.getElem?_eq_none (by omega), List.getElem?_eq_none (by omega)]

/-- Settles O50. -/
theorem keysAreNeverRead : Obligations.KeysAreNeverRead := by
  unfold Obligations.KeysAreNeverRead
  refine ⟨fun b k hb h1 h2 => getElem?_hideKeys_of_hidden hb ⟨h1, h2⟩, fun b k h => getElem?_hideKeys_of_shown h b,
    fun a b => hideKeys_congr, ?_⟩
  intro h rec copy len offset s₀ s hrec hcopy hlen
  refine serves_on s rfl rfl rfl rfl rfl ?_
  have hne : copy ≠ 0xFF := by omega
  simp [s, hrec, hcopy, hlen, hne]

end Sys2Proof.Proofs

/-! PROOFS. The registry of objects (R13 to R15): what is issued, what a handle names. -/

namespace Sys2Proof.Proofs

open Sys2Proof Sys2Proof.Machine

/-- An object is found at its class and index. -/
theorem objAt_eq_some {s : State} {c i : Nat} {o : Obj} (h : objAt s c i = some o) : o ∈ s.reg.objs ∧ o.cls = c ∧ o.idx = i := by
  have hp := List.find?_some h
  rw [Bool.and_eq_true, beq_iff_eq, beq_iff_eq] at hp
  exact ⟨List.mem_of_find?_eq_some h, hp⟩

/-- The object a handle names has the handle's three fields. -/
theorem objOf_eq_some {s : State} {h : Handle} {o : Obj} (ho : objOf s h = some o) :
    o ∈ s.reg.objs ∧ o.cls = hClass h ∧ o.idx = hIndex h ∧ o.gen = hGen h := by
  unfold objOf at ho
  split at ho
  next p hp =>
    obtain ⟨hmem, hcls, hidx⟩ := objAt_eq_some hp
    split at ho
    next hgen =>
      cases ho
      exact ⟨hmem, hcls, hidx, beq_iff_eq.mp hgen⟩
    next => cases ho
  next => cases ho

/-- A handle that names no object is refused by check 9. -/
theorem objIs_of_none {s : State} {h : Handle} (ho : objOf s h = none) (c : Nat) : objIs s h c = .error .badHandle := by
  rw [objIs, ho, Laws.get_none, ite_self]

/-- So is one of another class. -/
theorem objIs_of_class_ne {h : Handle} {c : Nat} (hc : hClass h ≠ c) (s : State) : objIs s h c = .error .badHandle := by
  rw [objIs, if_pos (bne_iff_ne.mpr hc)]

/-- Settles O36: an object named has its handle's fields, and none of the five defects fits a sound object. -/
theorem badHandlesAreRefused : Obligations.BadHandlesAreRefused := by
  unfold Obligations.BadHandlesAreRefused
  intro s h c hsound hbad
  by_cases hc : hClass h = c
  case neg => exact objIs_of_class_ne hc s
  refine objIs_of_none (Option.eq_none_iff_forall_ne_some.mpr fun o ho => ?_) c
  obtain ⟨hmem, hcls, hidx, hgen⟩ := objOf_eq_some ho
  obtain ⟨hpos, -, hlt⟩ := hsound o hmem
  rw [hcls, hidx] at hlt
  rw [hgen] at hpos
  rcases hbad with hbad | hbad | hbad | hbad | rfl | hbad
  · omega
  · omega
  · omega
  · exact hbad hc
  · exact absurd hpos (by decide)
  · exact hbad o hmem hcls hidx hgen

/-- Inserting an object in order adds it and nothing else. -/
theorem mem_oinsert {l : List Obj} {o x : Obj} : x ∈ oinsert l o ↔ x = o ∨ x ∈ l := by
  induction l with
  | nil => simp [oinsert]
  | cons y l ih =>
    rw [oinsert]
    split
    · simp
    · simp only [List.mem_cons, ih]
      tauto

/-- The index issued next is within its class, with a generation from 1 to 255, where those to be issued again are so. -/
theorem nextIndex_sound {s : State} {c i g : Nat} (hf : ∀ x ∈ s.reg.freed, 1 ≤ x.2.2 ∧ x.2.2 < 256 ∧ x.2.1 < classSize x.1)
    (h : nextIndex s c = some (i, g)) : 1 ≤ g ∧ g < 256 ∧ i < classSize c := by
  by_cases hn : (tget s.reg.fresh c).getD 0 < classSize c
  · rw [nextIndex_of_fresh hn] at h
    cases h
    exact ⟨le_refl 1, by omega, hn⟩
  · cases hx : s.reg.freed.find? fun y => y.1 == c with
    | none => simp [nextIndex, hn, hx] at h
    | some x =>
      rw [nextIndex_of_freed hn hx] at h
      cases h
      obtain ⟨hlo, hhi, hidx⟩ := hf x (List.mem_of_find?_eq_some hx)
      have hcls : x.1 = c := by simpa using List.find?_some hx
      rw [hcls] at hidx
      refine ⟨?_, ?_, hidx⟩
      · split <;> omega
      · split <;> omega

/-- What is issued: the object at the next index is added, and no index waits to be issued again that did not. -/
theorem issue_eq_some {s t : State} {c due : Nat} {st : OState} {a b : List Handle} {h : Handle} (ha : s.pair.applying = none)
    (hi : issue c st a b due s = some (h, t)) :
    ∃ i g, nextIndex s c = some (i, g) ∧
      t.reg.objs = oinsert s.reg.objs ⟨c, i, g, st, .idle, a, b, .none, false, false, 0, due, nullHandle⟩ ∧
      ∀ x ∈ t.reg.freed, x ∈ s.reg.freed := by
  have hn : announced s c = none := by rw [announced, ha]; rfl
  rw [issue, hn] at hi
  simp only at hi
  split at hi
  next => cases hi
  next i g hx =>
    cases hi
    refine ⟨i, g, hx, rfl, ?_⟩
    simp only
    split
    · exact fun _ => id
    · exact fun _ => List.mem_of_mem_eraseP

/-- A fixed object has generation 1 and an index within its fixed class. -/
theorem fixedObjects_sound {o : Obj} (h : o ∈ fixedObjects) : o.gen = 1 ∧ classFixed o.cls = true ∧ o.idx < classSize o.cls := by
  obtain ⟨c, hc, ho⟩ := List.mem_flatMap.mp h
  obtain ⟨i, hi, rfl⟩ := List.mem_map.mp ho
  have hfix : ∀ c ∈ [(1, OState.suspended), (2, OState.suspended), (9, OState.idle), (0x0B, OState.idle), (0x0D, OState.idle)],
      classFixed c.1 = true := by decide
  exact ⟨rfl, hfix c hc, List.mem_range.mp hi⟩

/-- Settles O37: by what an issue adds and what a release moves. -/
theorem registryStaysSound : Obligations.RegistryStaysSound := by
  unfold Obligations.RegistryStaysSound
  intro sound
  refine ⟨?_, ?_, fun o => fixedObjects_sound⟩
  · rintro s t c due st a b h hc ⟨hobj, hfreed⟩ ha hi
    obtain ⟨i, g, hn, ho, hsub⟩ := issue_eq_some ha hi
    obtain ⟨hlo, hhi, hidx⟩ := nextIndex_sound hfreed hn
    refine ⟨fun o hm => ?_, fun x hx => hfreed x (hsub x hx)⟩
    rw [ho, mem_oinsert] at hm
    rcases hm with rfl | hm
    · exact ⟨hlo, hhi, hidx, hc⟩
    · exact hobj o hm
  · rintro s h ⟨hobj, hfreed⟩
    cases hx : objOf s h with
    | none => simpa only [unissue, hx] using ⟨hobj, hfreed⟩
    | some o =>
      obtain ⟨hm, hcls, hidx, hgen⟩ := objOf_eq_some hx
      obtain ⟨hlo, hhi, hlt, -⟩ := hobj o hm
      simp only [unissue, hx, Option.isSome_some, if_true]
      refine ⟨fun p hp => hobj p (List.mem_of_mem_filter hp), fun x hxm => ?_⟩
      rcases List.mem_append.mp hxm with hxm | hxm
      · exact hfreed x hxm
      · rw [List.mem_singleton.mp hxm, ← hcls, ← hidx, ← hgen]
        exact ⟨hlo, hhi, hlt⟩

end Sys2Proof.Proofs

/-! PROOFS. The proof of a session, the lock fuse, the weekday counter. -/

namespace Sys2Proof.Proofs

open Sys2Proof Sys2Proof.Machine

/-- An answer leaves the sessions and the back-off as they are. -/
@[simp] theorem answer_auth (op : Nat) (r : Right) (h : Hdr) (o : Handle) (c : Status) (p : List Byte) (s : State) :
    (answer op r h o c p s).auth = s.auth := by
  obtain ⟨_, _, _, _, _, _, _, _, _, ht⟩ := Laws.answer_changes op r h o c p s
  rw [ht]

/-- So does an announcement to the mirror. -/
@[simp] theorem announceCmd_auth (i : Instr) (o : Handle) (p : List Byte) (s : State) : (announceCmd i o p s).auth = s.auth := by
  obtain ⟨_, _, ht⟩ := Laws.announceCmd_changes i o p s
  rw [ht]

/-- A reply that fits is the reply of a command done. -/
theorem close_done_of_le {i : Instr} {op : Nat} {r : Right} {h : Hdr} {obj : Handle} {s t : State} {c : Status} {p : List Byte}
    (hp : p.length ≤ payloadLimit s h.via) : close i op r h obj s (.done c p t) = answer op r h obj c p (announceCmd i obj p t) :=
  if_neg (Nat.not_lt.mpr hp)

/-- What an admitted command answers, once its own checks and effect are known. -/
theorem exec_admitted {i : Instr} {op : Nat} {r : Right} {k : Key} {h : Hdr} {obj : Handle} {body : State → Ans} {s₀ : State} {a : Ans}
    (ha : admits i s₀ = true) (hi : hdrOf i = some h) (hx : exec i s₀ = serve i op r k h obj body s₀) (ho : opOf i = op)
    (hr : opRow op = some (r, k)) (hb : body (sessNamed h s₀) = a) : exec i s₀ = .next (close i op r h obj (sessNamed h s₀) a) := by
  subst ho
  rw [hx, Laws.serve_admitted ha hi hr, hb]

/-- The condition under which SESSION_PROVE proves a session (R553). -/
def Proves (s : State) (h : Hdr) (x : Sess) (proof : List Byte) : Prop :=
  x.proven = false ∧ x.via = h.via ∧ (domOn s 2 = false ∨ x.named = 0 ∨ s.sys.ord ≤ x.named + 10000) ∧
    ∃ k, keyOf s x.role = some k ∧ proof = hmac k (leBytes 16 x.nonce ++ leBytes 4 s.ident.serial ++ byte x.role)

/-- The same condition as the command tests it. -/
theorem proves_iff (s : State) (h : Hdr) (x : Sess) (proof : List Byte) : Proves s h x proof ↔
    (!x.proven && decide (x.via = h.via) && (!domOn s 2 || x.named == 0 || s.sys.ord ≤ x.named + 10000)
      && (keyOf s x.role).any fun k => proof == proofOf s x k) = true := by
  cases hk : keyOf s x.role <;> simp [Proves, proofOf, and_assoc, or_assoc, hk]

/-- A session that is freed is deleted from the sessions. -/
theorem freeSess_auth {k : Nat} {x : Sess} {s : State} (hx : tget s.auth.sess k = some x) :
    (freeSess k s).auth = { s.auth with sess := tdel s.auth.sess k } := by
  rw [freeSess, hx]
  simp only [unissue]
  split <;> rfl

/-- Freeing a session switches no domain and passes no boundary. -/
theorem freeSess_sys (k : Nat) (s : State) : (freeSess k s).sys = s.sys := by
  unfold freeSess
  split
  · simp only [unissue]
    split <;> rfl
  · rfl

/-- What a failed proof leaves of the sessions and the back-off (R553, R554). -/
theorem proofFails_auth {h : Hdr} {k : Nat} {x : Sess} {s : State} (hx : tget s.auth.sess k = some x) :
    (proofFails h k x s).auth = { s.auth with
      sess := if x.proven = false ∧ x.via = h.via then tdel s.auth.sess k else s.auth.sess
      failures := s.auth.failures + 1, waiting := true, failedAt := if domOn s 2 then s.sys.ord else 0 } := by
  unfold proofFails
  by_cases hc : x.proven = false ∧ x.via = h.via
  · simp [authmod, hc, freeSess_auth hx, domOn, freeSess_sys]
  · simp [authmod, hc]

/-- An admitted SESSION_PROVE of 32 bytes that names a session proves it or fails, by `Proves`. -/
theorem execSessionProve_auth {h : Hdr} {sess : Handle} {proof : List Byte} {o : Obj} {x : Sess} {s₀ t : State}
    (ha : admits (.sessionProve h sess proof) s₀ = true) (hl : proof.length = 32) (ho : objIs (sessNamed h s₀) sess 0x0C = .ok o)
    (hx : tget (sessNamed h s₀).auth.sess (hIndex sess) = some x) (hp : 4 ≤ payloadLimit (sessNamed h s₀) h.via)
    (ht : exec (.sessionProve h sess proof) s₀ = .next t) :
    (Proves (sessNamed h s₀) h x proof → t.auth = { (sessNamed h s₀).auth with
      sess := tset (sessNamed h s₀).auth.sess (hIndex sess) { x with proven := true, named := (sessNamed h s₀).sys.ord }
      failures := 0, waiting := false }) ∧
    (¬ Proves (sessNamed h s₀) h x proof → t.auth = (proofFails h (hIndex sess) x (sessNamed h s₀)).auth) := by
  constructor
  · intro hgood
    have hgo := exec_admitted (a := .done .ok (byte (hIndex sess) ++ byte x.role ++ leBytes 2 900) (authmod (fun a => { a with
      sess := tset a.sess (hIndex sess) { x with proven := true, named := (sessNamed h s₀).sys.ord }, failures := 0, waiting := false })
      (sessNamed h s₀))) ha rfl rfl rfl rfl (by
        simp only [hl, ne_eq, not_true_eq_false, if_false, ho, hx]
        exact if_pos ((proves_iff ..).mp hgood))
    rw [ht, close_done_of_le (by simpa [byte] using hp)] at hgo
    rw [Host.Outcome.next.inj hgo, answer_auth, announceCmd_auth]
    rfl
  · intro hbad
    have hgo := exec_admitted (a := .bad .noRight (proofFails h (hIndex sess) x (sessNamed h s₀))) ha rfl rfl rfl rfl (by
      simp only [hl, ne_eq, not_true_eq_false, if_false, ho, hx]
      exact if_neg (mt (proves_iff ..).mpr hbad))
    rw [ht] at hgo
    rw [Host.Outcome.next.inj hgo]
    exact answer_auth ..

/-- Settles O51: the command tests `Proves`, and a failed proof frees the session only where it was OPENED on this binding. -/
theorem proofOpensSession : Obligations.ProofOpensSession := by
  unfold Obligations.ProofOpensSession
  intro h sess proof o x s₀ t s fresh ha hl ho hx hp ht
  obtain ⟨hgood, hbad⟩ := execSessionProve_auth ha hl ho hx hp ht
  refine ⟨hgood, fun hn => ?_⟩
  rw [hbad hn, proofFails_auth hx]
  exact ⟨rfl, rfl, rfl, fun hc => if_pos hc, fun hc => if_neg hc⟩

/-- Settles O52: each command tests the lock after its operands and before its effect. -/
theorem lifecycleLock : Obligations.LifecycleLock := by
  unfold Obligations.LifecycleLock
  refine ⟨?_, fun _ => rfl, ?_, ?_, ?_, ?_⟩
  · intro h s₀ s hf
    refine serves_on s rfl rfl rfl rfl rfl ?_
    simp [hf, fwmod]
  · intro h s₀ s ha hf
    exact exec_admitted (a := .fail .conflict) ha rfl rfl rfl rfl (by simp [s, hf])
  · intro h l s₀ s ha hl hf hc
    exact exec_admitted (a := .fail .conflict) ha rfl rfl rfl rfl (by simp [s, hf, hl])
  · intro h offset total flags data s₀ s ha hok hoff hlen hb hf
    refine exec_admitted (a := .fail .conflict) ha rfl rfl rfl rfl ?_
    have hne : ¬(offset ≠ (if offset = 0 then [] else s.recs.trimSeg).length ∨
        ((if offset = 0 then [] else s.recs.trimSeg) ++ data).length > total ∨
        (bit flags 0 = true ∧ ((if offset = 0 then [] else s.recs.trimSeg) ++ data).length ≠ total)) := by
      rw [List.length_append, ← hoff, hb]
      simp only [ne_eq, not_true_eq_false, false_or, Bool.false_eq_true, false_and, or_false]
      omega
    simp only [hok, Bool.not_true, Bool.false_eq_true, if_false]
    exact (if_neg hne).trans (if_pos hf)
  · intro h slot key s₀ s ha hk hs hc hf
    exact exec_admitted (a := .fail .conflict) ha rfl rfl rfl rfl (by simp [s, hk, hs, hc, hf, bit, only])

/-- An alarm that fires changes no count, no weekday and no day offset. -/
theorem alarmFire_rtc (k : Nat) (skipped atArm : Bool) (s : State) :
    ∃ l, (alarmFire k skipped atArm s).rtc = { s.rtc with alarms := l } := by
  unfold alarmFire
  obtain ⟨_, _, _, _, _, _, _, ht⟩ := Laws.ev_changes 0x0D01 (alarmBody k skipped false atArm
    (now (rmod (fun r => { r with alarms := lmod r.alarms k fun a => { a with st := .fired, skipped := skipped, down := !running s } }) s)))
    (rmod (fun r => { r with alarms := lmod r.alarms k fun a => { a with st := .fired, skipped := skipped, down := !running s } }) s)
  simp only [ht]
  exact ⟨_, rfl⟩

/-- Alarms firing, each on its own condition, change nothing else of the clock. -/
theorem foldl_alarmFire_rtc (p : State → Nat → Prop) [∀ s k, Decidable (p s k)] (skipped : Bool) (l : List Nat) (s : State) :
    ∃ a, (l.foldl (fun s k => if p s k then alarmFire k skipped false s else s) s).rtc = { s.rtc with alarms := a } := by
  induction l generalizing s with
  | nil => exact ⟨s.rtc.alarms, rfl⟩
  | cons k l ih =>
    obtain ⟨a, ha⟩ := ih (if p s k then alarmFire k skipped false s else s)
    rw [List.foldl_cons, ha]
    split
    · obtain ⟨b, hb⟩ := alarmFire_rtc k skipped false s
      exact ⟨a, by rw [hb]⟩
    · exact ⟨a, rfl⟩

/-- What a tick leaves of the clock, apart from its alarms (R532). -/
theorem tickOnce_rtc (s : State) : ∃ a, (tickOnce s).rtc = { s.rtc with
    count := s.rtc.count + 1, ticks := s.rtc.ticks + 1, alarms := a
    weekday := if (s.rtc.count + 1).toNat % dayTicks = s.rtc.dayOff then (s.rtc.weekday + 1) % 7 else s.rtc.weekday } := by
  obtain ⟨a, ha⟩ := foldl_alarmFire_rtc
    (fun t k => (alarmAt t k).st = .armed ∧ s.rtc.count + 1 ≠ 0 ∧ (alarmAt t k).value = (s.rtc.count + 1).toNat) false [0, 1]
    (rmod (fun r => { r with
      count := s.rtc.count + 1, ticks := r.ticks + 1
      weekday := if (s.rtc.count + 1).toNat % dayTicks = s.rtc.dayOff then (r.weekday + 1) % 7 else r.weekday }) s)
  exact ⟨a, ha⟩

/-- What a setting of the count leaves of the clock, apart from its alarms. -/
theorem setCount_rtc (c : BitVec 56) (s : State) : ∃ a, (setCount c s).rtc = { s.rtc with count := c, osf := false, alarms := a } := by
  obtain ⟨a, ha⟩ := foldl_alarmFire_rtc (fun t k => (alarmAt t k).st = .armed ∧ s.rtc.count.toNat < (alarmAt t k).value ∧
    (alarmAt t k).value ≤ c.toNat) true [0, 1] (rmod (fun r => { r with count := c, osf := false }) s)
  exact ⟨a, ha⟩

/-- Settles O54: no alarm touches the weekday, and RTC_WEEKDAY_SET writes both. -/
theorem weekdayCounter : Obligations.WeekdayCounter := by
  unfold Obligations.WeekdayCounter
  refine ⟨fun s => ?_, fun s kind value => ?_, ?_⟩
  · obtain ⟨a, ha⟩ := tickOnce_rtc s
    rw [ha]
    exact ⟨rfl, rfl, rfl⟩
  · obtain ⟨a, ha⟩ := setCount_rtc (if kind = 0 then BitVec.ofNat 56 value else s.rtc.count + BitVec.ofNat 56 value) s
    rw [applyRtcSet, ha]
    exact ⟨rfl, rfl, rfl, rfl⟩
  · intro h weekday offset s₀ s hw ho hc
    refine serves_on s rfl rfl rfl rfl rfl ?_
    have hne : offset ≠ 0xFFFFFFFF := by omega
    simp [hw, show offset < dayTicks from ho, cfgOk_of_not hc, hne, rmod]
    rfl

end Sys2Proof.Proofs

/-! PROOFS. What StepsKeepTheInvariant speaks of: the event queue within its bound, the weekday counter, the lock fuse. All three are read
off a state by `vital`, and nearly every function of the model leaves them as they are. -/

namespace Sys2Proof.Proofs

open Sys2Proof Sys2Proof.Machine

/-- The bound of the event queue (R460). -/
def Bounded (l : List Event) : Prop := l.length ≤ 1023 ∨ (l.length = 1024 ∧ l.getLast?.map (·.code) = some 0x0102)

/-- Whether the event queue is bounded, the weekday and the lock fuse. -/
def vitalOf (l : List Event) (weekday : Nat) (locked : Bool) : Prop × Nat × Bool := (Bounded l, weekday, locked)

/-- The same of a state. -/
def vital (s : State) : Prop × Nat × Bool := vitalOf s.proto.events s.rtc.weekday s.fw.locked

/-- Read off its fields, a state is what it is. -/
theorem vital_fields (s : State) : vitalOf s.proto.events s.rtc.weekday s.fw.locked = vital s := rfl

/-- A state written out is what its fields say. -/
theorem vital_mk (pending ident sys proto auth audit recs fw reg sched tb clk syn ports tuners probe warps calib dents reed weaves cluster
    ana dig svcs comps svcChg invFull survey time follows meas thrs louds verifs tdm streams aligns eth mb pb periphs rtc pair) :
    vital ⟨pending, ident, sys, proto, auth, audit, recs, fw, reg, sched, tb, clk, syn, ports, tuners, probe, warps, calib, dents, reed,
      weaves, cluster, ana, dig, svcs, comps, svcChg, invFull, survey, time, follows, meas, thrs, louds, verifs, tdm, streams, aligns, eth,
      mb, pb, periphs, rtc, pair⟩ = vitalOf proto.events rtc.weekday fw.locked := rfl

/-- A choice between two states. -/
theorem vital_ite (c : Prop) [Decidable c] (s t : State) : vital (if c then s else t) = if c then vital s else vital t := apply_ite ..

/-- A choice between two states, each with what it goes with. -/
theorem vital_ite_snd {α : Type} (c : Prop) [Decidable c] (p q : α × State) :
    vital (if c then p else q).2 = if c then vital p.2 else vital q.2 := by split <;> rfl

/-- The state of a pair that is known by an equation. -/
theorem vital_of_pair {α : Type} {p : α × State} {a : α} {t : State} {v : Prop × Nat × Bool} (h : p = (a, t)) (hp : vital p.2 = v) :
    vital t = v := by rw [← hp, h]

/-- Many steps, each of which changes nothing of it. -/
theorem vital_foldl {α : Type} {f : State → α → State} (h : ∀ s a, vital (f s a) = vital s) (l : List α) (s : State) :
    vital (l.foldl f s) = vital s := by
  induction l generalizing s with
  | nil => rfl
  | cons a l ih => rw [List.foldl_cons, ih, h]

/-- The same where each step also gives something. -/
theorem vital_foldl_snd {α β : Type} {f : β × State → α → β × State} (h : ∀ p a, vital (f p a).2 = vital p.2) (l : List α) (p : β × State) :
    vital (l.foldl f p).2 = vital p.2 := by
  induction l generalizing p with
  | nil => rfl
  | cons a l ih => rw [List.foldl_cons, ih, h]

/-- A function of the events alone decides over the bound. -/
theorem vitalOf_congr {l m : List Event} (h : Bounded l ↔ Bounded m) (w : Nat) (b : Bool) : vitalOf l w b = vitalOf m w b := by
  rw [vitalOf, vitalOf, propext h]

/-- A checked chain gives a state in which nothing of it changed. -/
def Leaves (v : Prop × Nat × Bool) : Chk (Status × List Byte × State) → Prop
  | .ok (_, _, t) => vital t = v
  | .error _ => True

theorem leaves_bind {α : Type} (v : Prop × Nat × Bool) (x : Chk α) (f : α → Chk (Status × List Byte × State)) :
    Leaves v (x >>= f) ↔ ∀ a, x = .ok a → Leaves v (f a) := by
  cases x with
  | error c => exact ⟨fun _ _ h => (nomatch h), fun _ => trivial⟩
  | ok a =>
    refine ⟨fun h b hb => ?_, fun h => h a rfl⟩
    cases hb
    exact h

theorem leaves_ok (v : Prop × Nat × Bool) (c : Status) (p : List Byte) (t : State) : Leaves v (.ok (c, p, t)) ↔ vital t = v := Iff.rfl

theorem leaves_pure (v : Prop × Nat × Bool) (c : Status) (p : List Byte) (t : State) : Leaves v (pure (c, p, t)) ↔ vital t = v := Iff.rfl

theorem leaves_okay (v : Prop × Nat × Bool) (p : List Byte) (t : State) : Leaves v (okay p t) ↔ vital t = v := Iff.rfl

theorem leaves_error (v : Prop × Nat × Bool) (c : Status) : Leaves v (.error c) ↔ True := Iff.rfl

theorem leaves_ite (v : Prop × Nat × Bool) (c : Prop) [Decidable c] (x y : Chk (Status × List Byte × State)) :
    Leaves v (if c then x else y) ↔ if c then Leaves v x else Leaves v y := by split <;> rfl

/-- Whatever state a command answers, it is one of these. -/
def Lands (P : State → Prop) : Ans → Prop
  | .done _ _ t => P t
  | .bad _ t => P t
  | .hold t => P t
  | .fail _ => True

/-- What a command answers leaves it as it was. -/
def After (v : Prop × Nat × Bool) : Ans → Prop := Lands fun t => vital t = v

theorem after_done (v : Prop × Nat × Bool) (c : Status) (p : List Byte) (t : State) : After v (.done c p t) ↔ vital t = v := Iff.rfl

theorem after_bad (v : Prop × Nat × Bool) (c : Status) (t : State) : After v (.bad c t) ↔ vital t = v := Iff.rfl

theorem after_hold (v : Prop × Nat × Bool) (t : State) : After v (.hold t) ↔ vital t = v := Iff.rfl

theorem after_fail (v : Prop × Nat × Bool) (c : Status) : After v (.fail c) ↔ True := Iff.rfl

theorem after_ite (v : Prop × Nat × Bool) (c : Prop) [Decidable c] (x y : Ans) :
    After v (if c then x else y) ↔ if c then After v x else After v y := by split <;> rfl

theorem after_chk (v : Prop × Nat × Bool) (x : Chk (Status × List Byte × State)) : After v (chk x) ↔ Leaves v x := by
  rcases x with c | ⟨c, p, t⟩ <;> rfl

/-- An outcome is a next state in which nothing of it changed. -/
def Goes (v : Prop × Nat × Bool) (o : Host.Outcome State Fault Refusal) : Prop := ∃ t, o = .next t ∧ vital t = v

theorem goes_next (v : Prop × Nat × Bool) (t : State) : Goes v (.next t) ↔ vital t = v :=
  ⟨fun ⟨_, h, hv⟩ => Host.Outcome.next.inj h ▸ hv, fun h => ⟨t, rfl, h⟩⟩

theorem goes_ite (v : Prop × Nat × Bool) (c : Prop) [Decidable c] (x y : Host.Outcome State Fault Refusal) :
    Goes v (if c then x else y) ↔ if c then Goes v x else Goes v y := by split <;> rfl

/-- The number and the codes of the entries decide whether a queue is bounded. -/
theorem bounded_congr {l m : List Event} (h : l.map (·.code) = m.map (·.code)) : Bounded l ↔ Bounded m := by
  have hlen : l.length = m.length := by rw [← List.length_map (·.code), h, List.length_map]
  rw [Bounded, Bounded, hlen, ← List.getLast?_map, h, List.getLast?_map]

/-- A discard counted in the newest entry leaves the codes as they are. -/
theorem countDiscard_codes (s : State) : (countDiscard s).proto.events.map (·.code) = s.proto.events.map (·.code) := by
  rcases List.eq_nil_or_concat s.proto.events with h | ⟨l, e, h⟩
  · simp [countDiscard, lmod, h]
  · rw [List.concat_eq_append] at h
    rw [countDiscard_events h, h]
    simp

/-- An entry queued is no clock and no fuse. -/
theorem vital_pushEvent (c : Nat) (b : List Byte) (s : State) :
    vital (pushEvent c b s) = vitalOf (s.proto.events ++ [⟨s.proto.nextSeq, c, b⟩]) s.rtc.weekday s.fw.locked := by
  obtain ⟨_, _, _, ht⟩ := Laws.pushEvent_changes c b s
  rw [ht]
  rfl

/-- A queue that ends with an overflow entry, or lacks it where it is full, is bounded exactly where it was before. -/
theorem bounded_append {l : List Event} {e : Event} (h : l.length = 1023 → e.code = 0x0102)
    (hl : l.getLast?.map (·.code) = some 0x0102 → l.length < 1023) : Bounded (l ++ [e]) ↔ Bounded l := by
  simp only [Bounded, List.length_append, List.length_singleton, List.getLast?_concat, Option.map_some, Option.some.injEq]
  constructor
  · rintro (hlt | ⟨heq, -⟩)
    · exact .inl (by omega)
    · exact .inl (by omega)
  · rintro (hle | ⟨heq, hlast⟩)
    · by_cases hfull : l.length = 1023
      · exact .inr ⟨by omega, h hfull⟩
      · exact .inl (by omega)
    · exact absurd (hl hlast) (by omega)

/-- An event changes nothing of it: a full queue keeps its overflow entry last, one that becomes full takes that entry, and any other has
room. -/
theorem vital_ev (c : Nat) (b : List Byte) (s : State) : vital (ev c b s) = vital s := by
  by_cases hrun : running s = true
  case neg => simp [ev, hrun]
  by_cases hlast : s.proto.events.getLast?.map (·.code) = some 0x0102
  · by_cases hfull : 1023 ≤ s.proto.events.length
    · rw [ev_of_overflow_newest c b hrun hfull hlast]
      exact vitalOf_congr (bounded_congr (countDiscard_codes s)) ..
    · rw [ev_of_room c b hrun (by omega) (.inl (by omega)), vital_pushEvent]
      exact vitalOf_congr (bounded_append (fun h => absurd h (by omega)) fun _ => by omega) ..
  · by_cases hfull : s.proto.events.length = 1023
    · rw [ev_of_just_full c b hrun hfull hlast, vital_pushEvent]
      exact vitalOf_congr (bounded_append (fun _ => rfl) fun h => absurd h hlast) ..
    · rw [ev_of_room c b hrun hfull (.inr hlast), vital_pushEvent]
      exact vitalOf_congr (bounded_append (fun h => absurd h hfull) fun h => absurd h hlast) ..

/-- A function on the clock that leaves the weekday. -/
theorem vital_rmod {f : Rtc → Rtc} (h : ∀ r, (f r).weekday = r.weekday) (s : State) : vital (rmod f s) = vital s := by
  simp only [vital, rmod, h]

/-- A function on the protocol that leaves the events. -/
theorem vital_protomod {f : Proto → Proto} (h : ∀ p, (f p).events = p.events) (s : State) : vital (protomod f s) = vital s := by
  simp only [vital, protomod, h]

/-- A function on the firmware that leaves the lock fuse. -/
theorem vital_fwmod {f : Firmware → Firmware} (h : ∀ x, (f x).locked = x.locked) (s : State) : vital (fwmod f s) = vital s := by
  simp only [vital, fwmod, h]

/-- A reply changes nothing of it. -/
theorem vital_giveReply (h : Hdr) (r : Rep) (s : State) : vital (giveReply h r s) = vital s := by
  obtain ⟨_, _, _, _, _, _, _, _, ht⟩ := Laws.giveReply_changes h r s
  rw [ht]
  rfl

/-- An answer changes nothing of it. -/
theorem vital_answer (op : Nat) (r : Right) (h : Hdr) (o : Handle) (c : Status) (p : List Byte) (s : State) :
    vital (answer op r h o c p s) = vital s := by
  obtain ⟨_, _, _, _, _, _, _, _, _, ht⟩ := Laws.answer_changes op r h o c p s
  rw [ht]
  rfl

/-- A command in progress changes nothing of it. -/
theorem vital_inProgress (op : Nat) (h : Hdr) (s : State) : vital (inProgress op h s) = vital s := by
  obtain ⟨_, _, _, ht⟩ := Laws.inProgress_changes op h s
  rw [ht]
  rfl

/-- An announcement to the mirror changes nothing of it. -/
theorem vital_announceCmd (i : Instr) (o : Handle) (p : List Byte) (s : State) : vital (announceCmd i o p s) = vital s := by
  obtain ⟨_, _, ht⟩ := Laws.announceCmd_changes i o p s
  rw [ht]
  rfl

/-- Naming a session changes nothing of it. -/
theorem vital_sessNamed (h : Hdr) (s : State) : vital (sessNamed h s) = vital s := by
  obtain ⟨_, ht⟩ := Laws.sessNamed_changes h s
  rw [ht]
  rfl

/-- Scheduling changes nothing of it. -/
theorem vital_sched (p : Pend) (s : State) : vital (sched p s) = vital s := by
  obtain ⟨_, _, ht⟩ := Laws.sched_changes p s
  rw [ht]
  rfl

/-- A datagram sent changes nothing of it. -/
theorem vital_sendUdp (p : Fin 2) (a : IpAddr) (d : Nat) (b : List Byte) (s : State) : vital (sendUdp p a d b s) = vital s := by
  obtain ⟨_, _, ht⟩ := Laws.sendUdp_changes p a d b s
  rw [ht]
  rfl

/-- A reply sent over UDP changes nothing of it. -/
theorem vital_udpSend (k : Nat) (s : State) : vital (udpSend k s) = vital s := by
  obtain ⟨_, _, _, _, ht⟩ := Laws.udpSend_changes k s
  rw [ht]
  rfl

section
variable {P : State → Prop} {i : Instr} {op : Nat} {r : Right} {k : Key} {h : Hdr} {obj : Handle} {body : State → Ans} {s : State}

/-- How an answer is given ends in such a state, where only `vital` decides which states are such. -/
theorem close_lands (hP : ∀ t u, vital t = vital u → P u → P t) (hs : P s) {a : Ans} (ha : Lands P a) : P (close i op r h obj s a) := by
  cases a with
  | fail c => exact hP _ s (vital_answer ..) hs
  | done c p t =>
    rw [close]
    split
    · exact hP _ s (vital_answer ..) hs
    · exact hP _ t ((vital_answer ..).trans (vital_announceCmd ..)) ha
  | bad c t => exact hP _ t (vital_answer ..) ha
  | hold t => exact hP _ t ((vital_inProgress ..).trans (vital_announceCmd ..)) ha

/-- So does a command applied on the mirror. -/
theorem mirrored_lands (hs : P s) (hb : Lands P (body s)) : P (mirrored body s) := by
  unfold mirrored
  split
  next h => rwa [h] at hb
  next h => rwa [h] at hb
  next h => rwa [h] at hb
  next => exact hs

/-- And so does the service of a command. -/
theorem serve_lands (hP : ∀ t u, vital t = vital u → P u → P t) (hs : P s) (hb : ∀ t, P t → Lands P (body t)) :
    ∃ t, serve i op r k h obj body s = .next t ∧ P t := by
  have hnamed : P (sessNamed h s) := hP _ s (vital_sessNamed h s) hs
  unfold serve
  split
  · exact ⟨_, rfl, hs⟩
  · split
    · exact ⟨_, rfl, mirrored_lands hs (hb s hs)⟩
    · split
      · exact ⟨_, rfl, hP _ s (vital_answer ..) hs⟩
      · simp only
        split
        · exact ⟨_, rfl, hP _ _ (vital_answer ..) hnamed⟩
        · split
          · exact ⟨_, rfl, hP _ _ (vital_answer ..) hnamed⟩
          · exact ⟨_, rfl, close_lands hP hnamed (hb _ hnamed)⟩

end

/-- The service of a command changes nothing of it beyond what the command's own effect changes. -/
theorem goes_serve {i : Instr} {op : Nat} {r : Right} {k : Key} {h : Hdr} {obj : Handle} {body : State → Ans} {s : State}
    (hb : ∀ t, After (vital t) (body t)) : Goes (vital s) (serve i op r k h obj body s) :=
  serve_lands (fun _ _ htu hu => htu.trans hu) rfl fun t ht => ht ▸ hb t

/-- The next state of an outcome that changes nothing of it. -/
theorem vital_nextOr {s : State} {o : Host.Outcome State Fault Refusal} (h : Goes (vital s) o) : vital (nextOr s o) = vital s := by
  obtain ⟨t, rfl, ht⟩ := h
  exact ht

/-- A refusal because a record is in CONFLICT changes nothing of it. -/
theorem after_chkRec (i : Nat) (s : State) (x : Chk (Status × List Byte × State)) : After (vital s) (chkRec i s x) ↔ Leaves (vital s) x := by
  rcases x with c | ⟨c, p, t⟩
  · simp only [chkRec]
    split
    · exact ⟨fun _ => trivial, fun _ => rfl⟩
    · exact Iff.rfl
  · exact Iff.rfl

end Sys2Proof.Proofs

/-! PROOFS. What leaves the event queue bounded, the weekday and the lock fuse as they are: every function of the model but the few that
reset the module, tick the clock, take events, set the weekday or blow the fuse. One statement for each, in the order of the model. -/

namespace Sys2Proof.Proofs

open Sys2Proof Sys2Proof.Machine

/-! Ops. -/

theorem vital_drawn (s : State) : vital (drawn s) = vital s := by rfl

theorem vital_evs (l : List (Nat × List Byte)) (s : State) : vital (evs l s) = vital s := by
  simp only [evs, implies_true, vital_foldl, vital_ev]

theorem vital_auditPut (obj : Handle) (op status role via sess : Nat) (s : State) :
    vital (auditPut obj op status role via sess s) = vital s := by rfl

theorem vital_announce (kind : Nat) (obj : Handle) (effect : Nat) (body : List Byte) (s : State) :
    vital (announce kind obj effect body s) = vital s := by
  simp only [announce, vital_mk, vital_fields, vital_ite, ite_self]

theorem vital_omod (h : Handle) (f : Obj → Obj) (s : State) : vital (omod h f s) = vital s := by rfl

theorem vital_issueAs (h : Handle) (st : OState) (inputs opt : List Handle) (due : Nat) (s : State) :
    vital (issueAs h st inputs opt due s) = vital s := by rfl

theorem get_eq_ok {α : Type} {c : Status} {x : Option α} {a : α} (h : get! c x = .ok a) : x = some a := by
  cases x with
  | none => cases h
  | some b => cases h; rfl

/-- A chain that ends well has gone through its first step. -/
theorem chk_bind_eq_ok {α β : Type} {x : Chk α} {f : α → Chk β} {b : β} : (x >>= f) = .ok b ↔ ∃ a, x = .ok a ∧ f a = .ok b := by
  cases x with
  | error c => exact ⟨fun h => (nomatch h), fun ⟨_, h, _⟩ => (nomatch h)⟩
  | ok a => exact ⟨fun h => ⟨a, rfl, h⟩, fun ⟨_, ha, h⟩ => by cases ha; exact h⟩

/-- An object issued. -/
theorem vital_issue {c : Nat} {st : OState} {a b : List Handle} {due : Nat} {s t : State} {h : Handle}
    (hi : issue c st a b due s = some (h, t)) : vital t = vital s := by
  unfold issue at hi
  split at hi
  next => cases hi; rfl
  next =>
    split at hi
    next => cases hi
    next => cases hi; rfl

/-- The same of a chain that goes on with what was issued. -/
theorem vital_of_issued {e : Status} {c : Nat} {st : OState} {a b : List Handle} {due : Nat} {s t : State} {h : Handle}
    (hi : get! e (issue c st a b due s) = .ok (h, t)) : vital t = vital s := vital_issue (get_eq_ok hi)

theorem vital_unissue (h : Handle) (s : State) : vital (unissue h s) = vital s := by
  simp only [unissue, vital_mk, vital_fields, vital_ite, ite_self]

theorem vital_schedQ (p : Pend) (s : State) : vital (schedQ p s) = vital s := by
  simp only [schedQ, vital_mk, vital_fields]

theorem vital_schedAlso (p : Pend) (s : State) : vital (schedAlso p s) = vital s := by
  simp only [schedAlso, vital_mk, vital_fields]

theorem vital_unsched (obj : Handle) (kind : Nat) (s : State) : vital (unsched obj kind s) = vital s := by
  simp only [unsched, vital_mk, vital_fields]

theorem vital_cfgTouch (role : Nat) (s : State) : vital (cfgTouch role s) = vital s := by rfl

theorem vital_refuseRec (i : Nat) (s : State) : vital (refuseRec i s) = vital s := by rfl

theorem vital_wmod (i : Nat) (f : Warp → Warp) (s : State) : vital (wmod i f s) = vital s := by rfl

theorem vital_synMod (i : Nat) (f : Synth → Synth) (s : State) : vital (synMod i f s) = vital s := by rfl

theorem vital_pmod (i : Nat) (f : Port → Port) (s : State) : vital (pmod i f s) = vital s := by rfl

/-! Synth. -/

theorem vital_synthsEnd (s : State) : vital (synthsEnd s) = vital s := by rfl

theorem vital_markWarp (w a b : Nat) (s : State) : vital (markWarp w a b s) = vital s := by
  simp only [markWarp, vital_ite, ite_self, vital_wmod]

theorem vital_blank (w us : Nat) (s : State) : vital (blank w us s) = vital s := by
  simp only [blank, vital_markWarp]

theorem vital_announceTune (k p effect : Nat) (s : State) : vital (announceTune k p effect s) = vital s := by
  simp only [announceTune, vital_announce]

theorem vital_retune (k f req : Nat) (s : State) : vital (retune k f req s) = vital s := by
  simp only [retune, vital_ite, ite_self, vital_wmod, vital_synMod, vital_blank, vital_announceTune]

theorem vital_holdFreq (k f : Nat) (s : State) : vital (holdFreq k f s) = vital s := by
  simp only [holdFreq, vital_synMod]

theorem vital_synOff (k : Nat) (s : State) : vital (synOff k s) = vital s := by
  simp only [synOff, vital_ite, ite_self, vital_wmod, vital_synMod]

theorem goes_execSynStatus (h : Hdr) (index : Nat) (s : State) : Goes (vital s) (execSynStatus h index s) := by
  refine goes_serve fun s => ?_
  simp only [after_chk, leaves_bind, leaves_okay, implies_true]

theorem goes_execSynDitherSet (h : Hdr) (index flags seed : Nat) (s : State) :
    Goes (vital s) (execSynDitherSet h index flags seed s) := by
  refine goes_serve fun s => ?_
  simp only [after_chk, leaves_bind, leaves_okay, implies_true, vital_synMod]

theorem goes_execSynProfileStore (h : Hdr) (index num : Nat) (s : State) : Goes (vital s) (execSynProfileStore h index num s) := by
  refine goes_serve fun s => ?_
  simp only [after_chk, leaves_bind, leaves_okay, vital_mk, vital_fields, implies_true, vital_synMod]

theorem goes_execSynProfileRead (h : Hdr) (index num : Nat) (s : State) : Goes (vital s) (execSynProfileRead h index num s) := by
  refine goes_serve fun s => ?_
  simp only [after_chk, leaves_bind, leaves_okay, implies_true]

theorem goes_execSynProfileClear (h : Hdr) (index num : Nat) (s : State) : Goes (vital s) (execSynProfileClear h index num s) := by
  refine goes_serve fun s => ?_
  simp only [after_chk, leaves_bind, leaves_okay, vital_mk, vital_fields, implies_true, vital_synMod]

theorem vital_pointOpen (s : State) : vital (pointOpen s) = vital s := by
  unfold pointOpen
  (repeat' split) <;> simp only [vital_mk, vital_fields]

theorem goes_execSynthUnlock (k : Fin 7) (sample : Nat) (s : State) : Goes (vital s) (execSynthUnlock k sample s) := by
  simp only [execSynthUnlock, goes_next, goes_ite, vital_ite, ite_self, vital_ev, vital_wmod, vital_synMod, vital_pointOpen]

theorem vital_hopStore (k : Nat) (s : State) : vital (hopStore k s) = vital s := by
  simp only [hopStore, vital_mk, vital_fields, vital_synMod]

theorem vital_probeLocked (s : State) : vital (probeLocked s) = vital s := by
  simp only [probeLocked, vital_mk, vital_fields, vital_ite, ite_self]

theorem goes_execSynthLock (k : Fin 7) (r : LockFacts) (s : State) : Goes (vital s) (execSynthLock k r s) := by
  simp only [execSynthLock, goes_next, goes_ite, vital_ite, ite_self, vital_ev, vital_wmod, vital_synMod, vital_markWarp,
    vital_pointOpen, vital_hopStore, vital_probeLocked]

theorem goes_execBandSearchFailed (k : Fin 7) (s : State) : Goes (vital s) (execBandSearchFailed k s) := by
  simp only [execBandSearchFailed, goes_next, goes_ite, vital_ite, ite_self, vital_ev, vital_synMod]

theorem goes_execSearchRepeatTimer (k : Fin 7) (s : State) : Goes (vital s) (execSearchRepeatTimer k s) := by
  simp only [execSearchRepeatTimer, goes_next, goes_ite, ite_self, vital_synMod]

theorem goes_execProfileLockTimeout (k : Fin 7) (s : State) : Goes (vital s) (execProfileLockTimeout k s) := by
  simp only [execProfileLockTimeout, goes_next, goes_ite, vital_ite, ite_self, vital_synMod, vital_blank]

/-! Pools. -/

theorem vital_refuseAdm (k : Nat) (s : State) : vital (refuseAdm k s) = vital s := by rfl

/-! Reed. -/

theorem vital_dmod (i : Nat) (f : Dent → Dent) (s : State) : vital (dmod i f s) = vital s := by rfl

/-- A dent made. -/
theorem vital_dentCreate {h : Hdr} {r : DentReq} {target due : Nat} {s t : State} {hd : Handle} {x : Dent}
    (hi : dentCreate h r target due s = .ok (hd, x, t)) : vital t = vital s := by
  simp only [dentCreate, chk_bind_eq_ok, Prod.exists] at hi
  obtain ⟨_, _, _, _, _, _, _, _, hissue, hp⟩ := hi
  cases hp
  simp only [vital_sched, vital_mk, vital_fields]
  exact vital_of_issued hissue

theorem goes_execDentCreate (h : Hdr) (r : DentReq) (target : Nat) (s : State) : Goes (vital s) (execDentCreate h r target s) := by
  refine goes_serve fun s => ?_
  simp only [after_chk, leaves_bind, leaves_okay, Prod.forall]
  intros
  exact vital_dentCreate ‹_›

theorem goes_execDentSet (h : Hdr) (dent : Handle) (c : DentChg) (target : Nat) (s : State) :
    Goes (vital s) (execDentSet h dent c target s) := by
  refine goes_serve fun s => ?_
  simp only [after_chk, leaves_bind, leaves_okay, leaves_ite, vital_ite, ite_self, implies_true, vital_sched]

theorem goes_execDentBankLoad (h : Hdr) (dent : Handle) (b : BankReq) (s : State) : Goes (vital s) (execDentBankLoad h dent b s) := by
  refine goes_serve fun s => ?_
  simp only [after_chk, leaves_bind, leaves_okay, implies_true, vital_dmod]

theorem vital_deferSwap (dent : Handle) (c : Instr) (s : State) : vital (deferSwap dent c s) = vital s := by
  simp only [deferSwap, vital_mk, vital_fields, vital_omod, vital_dmod]

theorem goes_execDentBankSwap (h : Hdr) (dent : Handle) (sample target : Nat) (s : State) :
    Goes (vital s) (execDentBankSwap h dent sample target s) := by
  refine goes_serve fun s => ?_
  simp only [after_chk, leaves_bind, leaves_okay, leaves_ok, leaves_ite, ite_self, implies_true, vital_omod, vital_sched, vital_unsched,
    vital_deferSwap]

theorem goes_execDentFlush (h : Hdr) (dent : Handle) (sample target : Nat) (s : State) :
    Goes (vital s) (execDentFlush h dent sample target s) := by
  refine goes_serve fun s => ?_
  simp only [after_chk, leaves_bind, leaves_okay, implies_true, vital_sched]

theorem goes_execDentRelease (h : Hdr) (dent : Handle) (sample target : Nat) (s : State) :
    Goes (vital s) (execDentRelease h dent sample target s) := by
  refine goes_serve fun s => ?_
  simp only [after_chk, leaves_bind, leaves_okay, implies_true, vital_sched]

theorem goes_execDentStatus (h : Hdr) (dent : Handle) (s : State) : Goes (vital s) (execDentStatus h dent s) := by
  refine goes_serve fun s => ?_
  simp only [after_chk, leaves_bind, leaves_okay, implies_true]

theorem goes_execReedStatus (h : Hdr) (s : State) : Goes (vital s) (execReedStatus h s) := by
  refine goes_serve fun s => ?_
  simp only [after_chk, leaves_okay]

theorem goes_execDentBankRead (h : Hdr) (dent : Handle) (bank : Nat) (s : State) : Goes (vital s) (execDentBankRead h dent bank s) := by
  refine goes_serve fun s => ?_
  simp only [after_chk, leaves_bind, leaves_okay, implies_true]

theorem goes_execDentBankLoadComplete (dent : Fin 512) (s : State) : Goes (vital s) (execDentBankLoadComplete dent s) := by
  simp only [execDentBankLoadComplete, goes_next, vital_dmod]

theorem vital_applyDentCreate (h : Handle) (s : State) : vital (applyDentCreate h s) = vital s := by
  simp only [applyDentCreate, vital_omod, vital_dmod]

theorem vital_applyDentSet (h : Handle) (c : DentChg) (s : State) : vital (applyDentSet h c s) = vital s := by
  unfold applyDentSet
  (repeat' split) <;> simp only [vital_omod, vital_dmod]

theorem vital_applySwap (h : Handle) (sample cause : Nat) (s : State) : vital (applySwap h sample cause s) = vital s := by
  unfold applySwap
  (repeat' split) <;> simp only [vital_ev, vital_dmod]

/-! Suspend. -/

theorem vital_sweep (rel : List Handle) (mode : BitVec 10) (s : State) : vital (sweep rel mode s).2 = vital s := by
  simp only [sweep, vital_mk, vital_fields, vital_evs]

/-! Calib. -/

theorem vital_calPut (e : CalEntry) (s : State) : vital (calPut e s) = vital s := by rfl

theorem vital_cmod (w : Nat) (f : WarpCal → WarpCal) (s : State) : vital (cmod w f s) = vital s := by
  simp only [cmod, vital_wmod]

theorem vital_calEnter (w : Nat) (st : CalState) (s : State) : vital (calEnter w st s) = vital s := by
  simp only [calEnter, vital_cmod]

theorem vital_calGo (w : Nat) (st : CalState) (cause : Nat) (s : State) : vital (calGo w st cause s) = vital s := by
  simp only [calGo, vital_ev, vital_calEnter]

theorem vital_runStart (w : Nat) (s : State) : vital (runStart w s) = vital s := by
  simp only [runStart, vital_cmod]

theorem vital_calDue (w : Nat) (full : Bool) (s : State) : vital (calDue w full s) = vital s := by
  simp only [calDue, vital_cmod, vital_calEnter, vital_runStart]

theorem vital_calStale (w cause : Nat) (s : State) : vital (calStale w cause s) = vital s := by
  simp only [calStale, vital_ev, vital_cmod, vital_calEnter]

theorem vital_calLimit (w : Nat) (s : State) : vital (calLimit w s) = vital s := by
  simp only [calLimit, vital_ite, ite_self, vital_calGo]

theorem vital_calComplete (w : Nat) (s : State) : vital (calComplete w s) = vital s := by
  simp only [calComplete, vital_mk, vital_fields, vital_ite, ite_self, vital_ev, vital_calPut, vital_cmod, vital_calEnter]

theorem vital_calAbort (w ord : Nat) (s : State) : vital (calAbort w ord s) = vital s := by
  simp only [calAbort, vital_ite, ite_self, vital_cmod, vital_calStale]

theorem vital_calPass (w ord : Nat) (p : CalPlan) (m : CalMeas) (s : State) : vital (calPass w ord p m s) = vital s := by
  simp only [calPass, vital_cmod, vital_calLimit, vital_calComplete]

theorem vital_nullStepEnd (w : Nat) (s : State) : vital (nullStepEnd w s) = vital s := by
  unfold nullStepEnd
  (repeat' split) <;> simp only [vital_cmod, vital_calAbort, vital_calPass]

theorem vital_stepEnd (w : Nat) (m : CalMeas) (s : State) : vital (stepEnd w m s) = vital s := by
  unfold stepEnd
  (repeat' split) <;> simp only [vital_ite, ite_self, vital_cmod, vital_calAbort, vital_calPass]

theorem vital_trigEnd (w : Nat) (s : State) : vital (trigEnd w s) = vital s := by
  simp only [trigEnd]
  (repeat' split) <;> simp only [vital_cmod, vital_calGo, vital_calDue]

theorem vital_calEnd (w : Nat) (m : Option CalMeas) (s : State) : vital (calEnd w m s) = vital s := by
  unfold calEnd
  (repeat' split) <;> simp only [vital_cmod, vital_nullStepEnd, vital_stepEnd, vital_trigEnd]

theorem vital_trimsDue (w : Nat) (s : State) : vital (trimsDue w s) = vital s := by
  simp only [trimsDue, vital_wmod]

theorem vital_loadPair (w : Nat) (s : State) : vital (loadPair w s) = vital s := by
  simp only [loadPair, vital_ite, ite_self, vital_wmod, vital_cmod, vital_runStart]

theorem vital_requestDue (w : Nat) (s : State) : vital (requestDue w s) = vital s := by
  simp only [requestDue]
  (repeat' split) <;> simp only [vital_cmod, vital_calDue]

theorem vital_initialDue (w : Nat) (s : State) : vital (initialDue w s) = vital s := by
  simp only [initialDue, vital_ite, ite_self, vital_cmod, vital_calEnter, vital_runStart]

theorem vital_planDue (w : Nat) (s : State) : vital (planDue w s) = vital s := by
  simp only [planDue, vital_cmod]

theorem vital_calBoundary (w : Nat) (s : State) : vital (calBoundary w s) = vital s := by
  simp only [calBoundary, vital_ite, ite_self, vital_cmod, vital_trimsDue, vital_loadPair, vital_requestDue, vital_initialDue,
    vital_planDue]

theorem vital_calDrop (w : Nat) (s : State) : vital (calDrop w s) = vital s := by
  simp only [calDrop, vital_cmod]

theorem vital_calOn (w : Nat) (s : State) : vital (calOn w s) = vital s := by
  simp only [calOn, vital_ite, ite_self, vital_wmod, vital_cmod, vital_calEnter, vital_runStart]

theorem goes_execCalPolicy (h : Hdr) (c : CalCfg) (s : State) : Goes (vital s) (execCalPolicy h c s) := by
  refine goes_serve fun s => ?_
  simp only [after_chkRec, leaves_bind, leaves_okay, implies_true, vital_schedQ]

theorem vital_applyCalPolicy (c : CalCfg) (s : State) : vital (applyCalPolicy c s) = vital s := by
  simp only [applyCalPolicy, vital_mk, vital_fields, vital_ite, ite_self, implies_true, vital_foldl, vital_calDrop]

theorem goes_execCalRequest (h : Hdr) (warp : Handle) (flags : Nat) (s : State) : Goes (vital s) (execCalRequest h warp flags s) := by
  refine goes_serve fun s => ?_
  simp only [after_chk, leaves_bind, leaves_okay, implies_true, vital_cmod]

theorem goes_execCalStatus (h : Hdr) (warp : Handle) (s : State) : Goes (vital s) (execCalStatus h warp s) := by
  refine goes_serve fun s => ?_
  simp only [after_chk, leaves_bind, leaves_okay, implies_true]

theorem goes_execCalResultRead (h : Hdr) (warp : Handle) (gainBand loBand : Nat) (s : State) :
    Goes (vital s) (execCalResultRead h warp gainBand loBand s) := by
  refine goes_serve fun s => ?_
  simp only [after_chk, leaves_bind, leaves_okay, implies_true]

theorem goes_execCalInitialTimeout (w : Fin 8) (s : State) : Goes (vital s) (execCalInitialTimeout w s) := by
  simp only [execCalInitialTimeout, goes_next, vital_ite, ite_self, vital_calGo]

theorem goes_execCalNoGapTimeout (w : Fin 8) (s : State) : Goes (vital s) (execCalNoGapTimeout w s) := by
  simp only [execCalNoGapTimeout, goes_next, vital_ite, ite_self, vital_calStale]

theorem goes_execCalStaleTempTimeout (w : Fin 8) (s : State) : Goes (vital s) (execCalStaleTempTimeout w s) := by
  simp only [execCalStaleTempTimeout, goes_next, vital_ite, ite_self, vital_calGo]

theorem goes_execCalTempFaultTimer (w : Fin 8) (s : State) : Goes (vital s) (execCalTempFaultTimer w s) := by
  simp only [execCalTempFaultTimer, goes_next, vital_ite, ite_self, vital_calDue]

/-! Warp. -/

theorem goes_execWarpTune (h : Hdr) (warp : Handle) (r : TuneReq) (target : Nat) (s : State) :
    Goes (vital s) (execWarpTune h warp r target s) := by
  refine goes_serve fun s => ?_
  simp only [after_chkRec, leaves_bind, leaves_okay, implies_true, vital_sched, vital_announceTune]

theorem goes_execWarpGain (h : Hdr) (warp : Handle) (gain target : Nat) (s : State) :
    Goes (vital s) (execWarpGain h warp gain target s) := by
  refine goes_serve fun s => ?_
  simp only [after_chkRec, leaves_bind, leaves_okay, implies_true, vital_sched]

theorem goes_execWarpAgc (h : Hdr) (warp : Handle) (c : AgcCfg) (s : State) : Goes (vital s) (execWarpAgc h warp c s) := by
  refine goes_serve fun s => ?_
  simp only [after_chkRec, leaves_bind, leaves_okay, implies_true, vital_schedAlso]

theorem goes_execWarpStatus (h : Hdr) (warp : Handle) (s : State) : Goes (vital s) (execWarpStatus h warp s) := by
  refine goes_serve fun s => ?_
  simp only [after_chk, leaves_bind, leaves_okay, implies_true]

theorem vital_agcRestart (w : Nat) (s : State) : vital (agcRestart w s) = vital s := by
  simp only [agcRestart, vital_wmod]

theorem vital_renco (w : Nat) (s : State) : vital (renco w s) = vital s := by rfl

theorem vital_tuneTo (w lo profile : Nat) (s : State) : vital (tuneTo w lo profile s) = vital s := by
  simp only [tuneTo, vital_retune, vital_cmod, vital_renco]

theorem vital_applyTune (w : Nat) (r : TuneReq) (s : State) : vital (applyTune w r s) = vital s := by
  simp only [applyTune, vital_ite, ite_self, vital_wmod, vital_holdFreq, vital_tuneTo]

theorem vital_applyGain (w g cause : Nat) (s : State) : vital (applyGain w g cause s) = vital s := by
  simp only [applyGain, vital_ite, ite_self, vital_ev, vital_wmod, vital_blank, vital_cmod, vital_agcRestart]

theorem vital_applyAgc (w : Nat) (c : AgcCfg) (s : State) : vital (applyAgc w c s) = vital s := by
  simp only [applyAgc, vital_ite, ite_self, vital_wmod, vital_agcRestart]

theorem vital_agcEnd (w : Nat) (s : State) : vital (agcEnd w s) = vital s := by
  simp only [agcEnd, vital_ite]
  (repeat' split) <;> simp only [vital_announce, vital_sched, vital_wmod]

theorem vital_measEnd (w : Nat) (m : WarpMeas) (s : State) : vital (measEnd w m s) = vital s := by
  simp only [measEnd, vital_ite, ite_self, vital_ev, vital_wmod]

theorem vital_readTemp (w : Nat) (t : Int) (s : State) : vital (readTemp w t s) = vital s := by
  simp only [readTemp, vital_ite, ite_self, vital_ev, vital_wmod]

theorem vital_readProbeTemp (t : Int) (s : State) : vital (readProbeTemp t s) = vital s := by rfl

theorem goes_execTempFaultEnd (w : Fin 8) (s : State) : Goes (vital s) (execTempFaultEnd w s) := by
  simp only [execTempFaultEnd, goes_next, goes_ite, ite_self, vital_ev, vital_wmod]

theorem goes_execOverloadClear (w : Fin 8) (s : State) : Goes (vital s) (execOverloadClear w s) := by
  simp only [execOverloadClear, goes_next, goes_ite, ite_self, vital_ev, vital_wmod]

theorem vital_warpOn (w : Nat) (t : Int) (s : State) : vital (warpOn w t s) = vital s := by
  simp only [warpOn, vital_calOn]
  (repeat' split) <;> simp only [vital_wmod, vital_agcRestart, vital_tuneTo, vital_readTemp]

theorem vital_warpWake (w : Nat) (s : State) : vital (warpWake w s) = vital s := by
  unfold warpWake
  (repeat' split) <;> simp only [vital_wmod, vital_tuneTo]

theorem vital_warpOff (w : Nat) (s : State) : vital (warpOff w s) = vital s := by
  simp only [warpOff, vital_ite, ite_self, vital_wmod, vital_synOff, vital_calDrop]

/-! Weave. -/

theorem vital_vmod (i : Nat) (f : Weave → Weave) (s : State) : vital (vmod i f s) = vital s := by rfl

theorem vital_haltWeave (i : Nat) (s : State) : vital (haltWeave i s) = vital s := by rfl

theorem vital_setTaus (i sample : Nat) (s : State) : vital (setTaus i sample s) = vital s := by
  unfold setTaus
  (repeat' split) <;> simp only [vital_ite, ite_self, implies_true, vital_foldl, vital_dmod, vital_vmod]

theorem vital_tellDig (i : Nat) (comp : Handle) (code detail pick sample : Nat) (s : State) :
    vital (tellDig i comp code detail pick sample s) = vital s := by
  unfold tellDig
  (repeat' split) <;> simp only [vital_ev]

theorem vital_flushWeave (i : Nat) (s : State) : vital (flushWeave i s) = vital s := by
  simp only [flushWeave]
  (repeat' split) <;> simp only [vital_mk, vital_fields, vital_vmod, vital_haltWeave, vital_setTaus, vital_tellDig]

/-- What the making of a weave answers. -/
def Makes (v : Prop × Nat × Bool) : Except (Status × State) (Handle × Weave × State) → Prop
  | .ok (_, _, t) => vital t = v
  | .error (_, t) => vital t = v

/-- A check made first ends the making, or the rest makes it. -/
theorem makes_guard {v : Prop × Nat × Bool} {c : Prop} [Decidable c] {k : Status} {t : State}
    {f : Unit → Except (Status × State) (Handle × Weave × State)} (ht : vital t = v) (hf : Makes v (f ())) :
    Makes v (if c then (Except.error (k, t) : Except (Status × State) Unit) >>= f else f ()) := by
  split
  · exact ht
  · exact hf

/-- The same where the rest cannot be reached after the check fails. -/
theorem makes_throw {v : Prop × Nat × Bool} {c : Prop} [Decidable c] {k : Status} {t : State}
    {f : Unit → Except (Status × State) (Handle × Weave × State)} (ht : vital t = v) (hf : Makes v (f ())) :
    Makes v (if c then (throw (k, t) : Except (Status × State) Unit) >>= f else f ()) := makes_guard ht hf

/-- A weave made, or refused. -/
theorem makes_weaveCreate (h : Hdr) (r : WeaveReq) (target due : Nat) (s : State) : Makes (vital s) (weaveCreate h r target due s) := by
  unfold weaveCreate
  iterate 4 refine makes_guard rfl ?_
  refine makes_throw (vital_refuseAdm ..) ?_
  refine makes_guard rfl ?_
  dsimp only
  split
  next => exact vital_refuseAdm ..
  next =>
    split
    next => exact vital_refuseAdm ..
    next hi =>
      rw [← vital_issue hi]
      refine (vital_announce ..).trans ((vital_sched ..).trans ?_)
      split <;> rfl

/-- A weave made. -/
theorem vital_weaveCreate {h : Hdr} {r : WeaveReq} {target due : Nat} {s t : State} {hd : Handle} {w : Weave}
    (hi : weaveCreate h r target due s = .ok (hd, w, t)) : vital t = vital s := by
  have hm := makes_weaveCreate h r target due s
  rwa [hi] at hm

/-- An answer of a chain that may end in a state of its own. -/
theorem after_chkS {v : Prop × Nat × Bool} {x : Except (Status × State) (Status × List Byte × State)}
    (he : ∀ c t, x = .error (c, t) → vital t = v) (ho : ∀ c p t, x = .ok (c, p, t) → vital t = v) : After v (chkS x) := by
  rcases x with ⟨c, t⟩ | ⟨c, p, t⟩
  · exact he c t rfl
  · exact ho c p t rfl

/-- A weave made by a command. -/
theorem goes_execWeaveCreate (h : Hdr) (r : WeaveReq) (target : Nat) (s : State) : Goes (vital s) (execWeaveCreate h r target s) := by
  refine goes_serve fun s => ?_
  simp only [after_ite, after_fail]
  split
  next => trivial
  next =>
    split
    next => trivial
    next =>
      split
      next => trivial
      next due _ =>
        have hm := makes_weaveCreate h r target due s
        split <;> rename_i hx <;> rw [hx] at hm <;> exact hm

theorem goes_execWeaveStart (h : Hdr) (weave : Handle) (target : Nat) (s : State) : Goes (vital s) (execWeaveStart h weave target s) := by
  refine goes_serve fun s => ?_
  simp only []
  (repeat' split) <;> simp only [after_done, after_bad, after_fail, vital_sched, vital_refuseAdm, vital_vmod]

theorem goes_execWeaveStop (h : Hdr) (weave : Handle) (target : Nat) (s : State) : Goes (vital s) (execWeaveStop h weave target s) := by
  refine goes_serve fun s => ?_
  simp only [after_chk, leaves_bind, leaves_okay, implies_true, vital_sched]

theorem goes_execWeaveRelease (h : Hdr) (weave : Handle) (target : Nat) (s : State) :
    Goes (vital s) (execWeaveRelease h weave target s) := by
  refine goes_serve fun s => ?_
  simp only [after_chk, leaves_bind, leaves_okay, implies_true, vital_sched]

theorem goes_execWeaveSet (h : Hdr) (weave : Handle) (prio m target : Nat) (block : List Byte) (s : State) :
    Goes (vital s) (execWeaveSet h weave prio m target block s) := by
  refine goes_serve fun s => ?_
  simp only [after_fail, after_ite]
  (repeat' split) <;> simp only [after_done, after_bad, after_fail, vital_sched, vital_refuseAdm]

theorem goes_execWeaveStatus (h : Hdr) (weave : Handle) (s : State) : Goes (vital s) (execWeaveStatus h weave s) := by
  refine goes_serve fun s => ?_
  simp only [after_chk, leaves_bind, leaves_okay, implies_true]

theorem goes_execSchedStatus (h : Hdr) (s : State) : Goes (vital s) (execSchedStatus h s) := by
  refine goes_serve fun s => ?_
  simp only [after_chk, leaves_okay]

theorem vital_applyWeaveCreate (h : Handle) (s : State) : vital (applyWeaveCreate h s) = vital s := by
  unfold applyWeaveCreate
  (repeat' split) <;> simp only [vital_ite, ite_self, vital_omod, vital_flushWeave]

theorem vital_applyWeaveStart (h : Handle) (s : State) : vital (applyWeaveStart h s) = vital s := by
  unfold applyWeaveStart
  (repeat' split) <;> simp only [vital_omod, vital_vmod, vital_flushWeave]

theorem vital_applyWeaveStop (h : Handle) (s : State) : vital (applyWeaveStop h s) = vital s := by
  simp only [applyWeaveStop, vital_omod, vital_haltWeave]

theorem vital_applyWeaveSet (h : Handle) (prio : Nat) (block : List Byte) (s : State) :
    vital (applyWeaveSet h prio block s) = vital s := by
  simp only [applyWeaveSet]
  (repeat' split) <;> simp only [vital_mk, vital_fields, vital_vmod, vital_flushWeave]

theorem vital_freeWeave (h : Handle) (s : State) : vital (freeWeave h s) = vital s := by
  simp only [freeWeave, vital_mk, vital_fields, vital_unissue, vital_haltWeave]

theorem vital_shedWeave (i cause : Nat) (s : State) : vital (shedWeave i cause s) = vital s := by
  unfold shedWeave
  (repeat' split) <;> simp only [vital_ev, vital_announce, vital_omod, vital_vmod, vital_haltWeave]

theorem vital_shedLoop (n : Nat) (s : State) : vital (shedLoop n s) = vital s := by
  induction n generalizing s with
  | zero => rfl
  | succ n ih =>
    rw [shedLoop]
    split
    next => rfl
    next =>
      split
      next => simp only [ih, vital_mk, vital_fields, vital_shedWeave]
      next => rfl

theorem vital_readmit (s : State) (i : Nat) : vital (readmit s i) = vital s := by
  unfold readmit
  (repeat' split) <;> simp only [vital_announce, vital_omod, vital_vmod]

theorem vital_readmitAll (s : State) : vital (readmitAll s) = vital s := by
  simp only [readmitAll, vital_mk, vital_fields, implies_true, vital_foldl, vital_readmit]

theorem vital_smod (w p k : Nat) (f : Stage → Stage) (s : State) : vital (smod w p k f s) = vital s := by rfl

theorem vital_dispatchTask (s : State) (n : Nat) : vital (dispatchTask s n) = vital s := by
  unfold dispatchTask
  (repeat' split) <;> simp only [vital_mk, vital_fields, vital_smod]

theorem vital_dispatchJob (s : State) (n : Nat) : vital (dispatchJob s n) = vital s := by
  unfold dispatchJob
  (repeat' split) <;> simp only [vital_mk, vital_fields]

theorem vital_dispatch (s : State) : vital (dispatch s) = vital s := by
  simp only [dispatch, implies_true, vital_foldl, vital_dispatchTask, vital_dispatchJob]

theorem vital_stageOver (w cap stage : Nat) (s : State) : vital (stageOver w cap stage s) = vital s := by rfl

theorem goes_execStageReady (weave : Fin 512) (cap stage : Nat) (tasks : List TaskReq) (jobs : List JobReq) (s : State) :
    Goes (vital s) (execStageReady weave cap stage tasks jobs s) := by
  unfold execStageReady
  (repeat' split) <;> simp only [goes_next, goes_ite, vital_mk, vital_fields, ite_self, vital_vmod, vital_dispatch]

theorem vital_spend (l : List (Nat × Nat)) (s : State) : vital (spend l s) = vital s := by
  refine vital_foldl (fun s x => ?_) l s
  split
  · exact vital_vmod ..
  · rfl

theorem goes_execTaskComplete (shuttle : Fin 64) (cycles : Nat) (s : State) : Goes (vital s) (execTaskComplete shuttle cycles s) := by
  unfold execTaskComplete
  (repeat' split) <;> simp only [goes_next, vital_mk, vital_fields, vital_smod, vital_dispatch, vital_spend]

theorem goes_execEngineJobComplete (cls : Fin 4) (engine : Fin 4) (s : State) : Goes (vital s) (execEngineJobComplete cls engine s) := by
  simp only [execEngineJobComplete]
  (repeat' split) <;> simp only [goes_next, vital_mk, vital_fields, vital_smod, vital_dispatch]

theorem vital_missStage (x : Stage) (s : State) : vital (missStage x s) = vital s := by
  simp only [missStage, vital_mk, vital_fields, vital_ite, ite_self, vital_ev, vital_vmod, vital_stageOver]

theorem vital_overdue (s : State) : vital (overdue s) = vital s := by
  simp only [overdue, vital_ite, ite_self, implies_true, vital_foldl, vital_dispatch, vital_stageOver, vital_missStage]

theorem vital_missesEnd (s : State) : vital (missesEnd s) = vital s := by
  simp only [missesEnd, vital_mk, vital_fields, vital_overdue]

theorem vital_shedMissed (s : State) : vital (shedMissed s) = vital s := by
  simp only [shedMissed, vital_ite, ite_self, implies_true, vital_foldl, vital_shedWeave]

/-! Inventory. -/

theorem vital_forget (h : Handle) (s : State) : vital (forget h s) = vital s := by rfl

theorem vital_freeComp (i : Nat) (s : State) : vital (freeComp i s).2 = vital s := by
  simp only [freeComp, vital_mk, vital_fields, vital_announce, vital_unissue, vital_forget]

theorem vital_freeService (i : Nat) (s : State) : vital (freeService i s).2 = vital s := by
  unfold freeService
  (repeat' split) <;> simp only [vital_mk, vital_fields, implies_true, vital_foldl_snd, vital_ev, vital_announce, vital_unissue,
    vital_forget, vital_freeComp]

theorem vital_makeRoom (k v n : Nat) (s : State) : vital (makeRoom k v n s).2.2 = vital s := by
  induction k generalizing s with
  | zero => rfl
  | succ k ih =>
    rw [makeRoom]
    split
    next => rfl
    next =>
      split
      next i _ => exact (ih _).trans (vital_freeService i s)
      next => rfl

theorem vital_issueComp (v : Nat) (st : OState) (c : CompInfo) (s : State) : vital (issueComp v st c s) = vital s := by
  unfold issueComp
  split
  next hi => simp only [vital_announce, vital_mk, vital_fields, vital_issue hi]
  next => rfl

theorem vital_setComps (v : Nat) (st : OState) (bind : Bool) (l : List CompInfo) (s : State) :
    vital (setComps v st bind l s).2 = vital s := by
  unfold setComps
  extract_lets old same new
  generalize hrel : List.foldl _ _ _ = p
  have hp : vital p.2 = vital s := by
    rw [← hrel]
    refine vital_foldl_snd (fun a c => ?_) _ _
    exact vital_freeComp c.1 a.2
  obtain ⟨rel, t⟩ := p
  dsimp only
  generalize hroom : makeRoom _ _ _ _ = q
  have hq : vital q.2.2 = vital s := by
    rw [← hroom, vital_makeRoom, ← hp]
    refine vital_foldl (fun s c => ?_) _ _
    simp only [vital_ite, vital_omod, vital_mk, vital_fields, ite_self]
  obtain ⟨r2, ok, x⟩ := q
  dsimp only
  split
  · exact (vital_foldl (fun s c => vital_issueComp ..) _ _).trans hq
  · exact hq

theorem vital_issueService (w : Nat) (v : Service) (l : List CompInfo) (s : State) : vital (issueService w v l s).2 = vital s := by
  unfold issueService
  extract_lets st wh
  split
  next => simp only [vital_setComps, vital_announce, vital_ev, vital_omod, vital_mk, vital_fields]
  next =>
    generalize hroom : makeRoom _ _ _ _ = q
    have hq : vital q.2.2 = vital s := hroom ▸ vital_makeRoom ..
    obtain ⟨r2, ok, t⟩ := q
    dsimp only
    split
    next =>
      split
      next hi =>
        refine (vital_foldl (fun s c => vital_issueComp ..) _ _).trans ?_
        simp only [vital_announce, vital_ev, vital_mk, vital_fields, vital_issue hi]
        exact hq
      next => exact hq
    next => exact hq

theorem vital_weaveBorn (w : Nat) (s : State) : vital (weaveBorn w s).2 = vital s := by
  unfold weaveBorn
  (repeat' split) <;> simp only [vital_issueService]

theorem vital_setServices (w : Nat) (l : List SvcInfo) (s : State) : vital (setServices w l s).2 = vital s := by
  unfold setServices
  extract_lets tech eid
  generalize hrel : List.foldl _ _ (svcsOf s w |>.filter _) = p
  have hp : vital p.2 = vital s := by
    rw [← hrel]
    refine vital_foldl_snd (fun a c => ?_) _ _
    exact vital_freeService c.1 a.2
  obtain ⟨rel, t⟩ := p
  dsimp only
  refine (vital_foldl_snd (fun a v => ?_) _ _).trans hp
  split
  next x _ => exact vital_setComps x.1 ..
  next => exact vital_issueService w ..

theorem vital_identChange (w ident ecc : Nat) (s : State) : vital (identChange w ident ecc s) = vital s := by
  unfold identChange
  (repeat' split) <;> simp only [vital_mk, vital_fields, vital_ev]

theorem vital_applySvcChange (c : SvcChange) (s : State) : vital (applySvcChange c s).2 = vital s := by
  unfold applySvcChange
  (repeat' split) <;> simp only [vital_issueService, vital_setServices, vital_identChange]

theorem vital_svcDue (s : State) : vital (svcDue s).2 = vital s := by
  simp only [svcDue, vital_mk, vital_fields, implies_true, vital_foldl_snd, vital_applySvcChange]

theorem vital_tellFull (w : Handle) (s : State) : vital (tellFull w s) = vital s := by
  simp only [tellFull, vital_mk, vital_fields, vital_ite, ite_self, vital_ev]

theorem vital_alignServices (s : State) : vital (alignServices s) = vital s := by rfl

theorem vital_heardEnd (s : State) : vital (heardEnd s) = vital s := by rfl

theorem vital_putRecord (comp type flags cap sample : Nat) (body : List Byte) (s : State) :
    vital (putRecord comp type flags cap sample body s) = vital s := by rfl

theorem vital_kindRecord (v kind type flags cap sample : Nat) (body : List Byte) (s : State) :
    vital (kindRecord v kind type flags cap sample body s) = vital s := by
  unfold kindRecord
  (repeat' split) <;> simp only [vital_putRecord]

theorem goes_execServiceList (h : Hdr) (start : Nat) (s : State) : Goes (vital s) (execServiceList h start s) := by
  refine goes_serve fun s => ?_
  simp only [after_chk, leaves_okay]

theorem goes_execServiceRead (h : Hdr) (svc : Handle) (s : State) : Goes (vital s) (execServiceRead h svc s) := by
  refine goes_serve fun s => ?_
  simp only [after_chk, leaves_bind, leaves_okay, implies_true]

theorem goes_execComponentRead (h : Hdr) (comp : Handle) (s : State) : Goes (vital s) (execComponentRead h comp s) := by
  refine goes_serve fun s => ?_
  simp only [after_chk, leaves_bind, leaves_okay, implies_true]

theorem goes_execLabelRead (h : Hdr) (obj : Handle) (kind : Nat) (s : State) : Goes (vital s) (execLabelRead h obj kind s) := by
  refine goes_serve fun s => ?_
  simp only [after_chk, leaves_bind, leaves_okay, implies_true]

theorem goes_execLinkRead (h : Hdr) (svc : Handle) (start : Nat) (s : State) : Goes (vital s) (execLinkRead h svc start s) := by
  refine goes_serve fun s => ?_
  simp only [after_chk, leaves_bind, leaves_okay, implies_true]

theorem goes_execServiceRelease (h : Hdr) (svc : Handle) (target : Nat) (s : State) :
    Goes (vital s) (execServiceRelease h svc target s) := by
  refine goes_serve fun s => ?_
  simp only [after_chk, leaves_bind, leaves_okay, implies_true, vital_sched]

/-! Analogue. -/

theorem vital_amod (i : Nat) (f : Analogue → Analogue) (s : State) : vital (amod i f s) = vital s := by rfl

theorem vital_tellAna (i code value x : Nat) (s : State) : vital (tellAna i code value x s) = vital s := by
  unfold tellAna
  (repeat' split) <;> simp only [vital_ev]

theorem vital_anaSvcMod (i : Nat) (f : Service → Service) (s : State) : vital (anaSvcMod i f s) = vital s := by
  unfold anaSvcMod
  (repeat' split) <;> simp only [vital_mk, vital_fields]

theorem vital_piAccept (i v old x : Nat) (replace : Bool) (s : State) : vital (piAccept i v old x replace s) = vital s := by
  simp only [piAccept, vital_mk, vital_fields, vital_ite, ite_self, vital_amod, vital_tellAna]

theorem vital_piBlock (i v x : Nat) (s : State) : vital (piBlock i v x s) = vital s := by
  unfold piBlock
  (repeat' split) <;> simp only [vital_ite, ite_self, vital_amod, vital_piAccept]

theorem vital_publish (i kind : Nat) (codes : List Nat) (tags : List (Nat × Nat × Nat)) (s : State) :
    vital (publish i kind codes tags s) = vital s := by
  unfold publish
  (repeat' split) <;> simp only [vital_kindRecord, vital_anaSvcMod]

theorem vital_psSegment (i addr c1 c2 : Nat) (s : State) : vital (psSegment i addr c1 c2 s) = vital s := by
  unfold psSegment
  (repeat' split) <;> simp only [vital_ite, ite_self, vital_amod, vital_publish]

theorem vital_rtSegment (i : Nat) (ab : Bool) (addr : Nat) (cs : List Nat) (s : State) : vital (rtSegment i ab addr cs s) = vital s := by
  unfold rtSegment
  (repeat' split) <;> simp only [vital_ite, ite_self, vital_amod, vital_publish]

theorem vital_rtTags (i : Nat) (tags : List (Nat × Nat × Nat)) (s : State) : vital (rtTags i tags s) = vital s := by
  unfold rtTags
  (repeat' split) <;> simp only [vital_amod, vital_publish]

theorem vital_afLinks (i : Nat) (l : List (Nat × Bool)) (s : State) : vital (afLinks i l s) = vital s := by
  simp only [afLinks, implies_true, vital_foldl, vital_anaSvcMod]

theorem vital_afCount (i pick n f : Nat) (s : State) : vital (afCount i pick n f s) = vital s := by
  unfold afCount
  (repeat' split) <;> simp only [vital_amod, vital_afLinks]

theorem vital_afPair (i pick f1 f2 : Nat) (s : State) : vital (afPair i pick f1 f2 s) = vital s := by
  unfold afPair
  (repeat' split) <;> simp only [vital_ite, ite_self, vital_amod, vital_afLinks]

theorem vital_rdsInfo (i pty : Nat) (tp ta ms : Bool) (di ecc pin : Nat) (s : State) :
    vital (rdsInfo i pty tp ta ms di ecc pin s) = vital s := by
  simp only [rdsInfo, vital_amod, vital_anaSvcMod]

theorem vital_setMark (i x code : Nat) (on : Bool) (s : State) : vital (setMark i x code on s) = vital s := by
  simp only [setMark, vital_amod]

theorem vital_setRds (i x : Nat) (on : Bool) (s : State) : vital (setRds i x on s) = vital s := by
  simp only [setRds, vital_ite, ite_self, vital_amod, vital_tellAna, vital_setMark]

theorem vital_setPilot (i x : Nat) (on : Bool) (s : State) : vital (setPilot i x on s) = vital s := by
  simp only [setPilot, vital_ite, ite_self, vital_amod, vital_tellAna, vital_setMark]

theorem vital_setCarrier (i x : Nat) (on : Bool) (s : State) : vital (setCarrier i x on s) = vital s := by
  simp only [setCarrier, vital_ite, ite_self, vital_amod, vital_tellAna, vital_setMark]

theorem vital_pilotTone (i cap : Nat) (l : List PllRead) (s : State) : vital (pilotTone i cap l s) = vital s := by
  unfold pilotTone
  (repeat' split) <;> simp only [vital_ite, ite_self, vital_amod, vital_setPilot]

theorem vital_carrierStep (i : Nat) (mean : Nat) (s : State) (x : Nat × Nat × PllRead) : vital (carrierStep i mean s x) = vital s := by
  simp only [carrierStep]
  (repeat' split) <;> simp only [vital_amod, vital_setCarrier]

theorem vital_carrierTone (i cap : Nat) (l : List PllRead) (s : State) : vital (carrierTone i cap l s) = vital s := by
  unfold carrierTone
  (repeat' split) <;> simp only [implies_true, vital_foldl, vital_amod, vital_carrierStep]

theorem vital_accMod (i cap : Nat) (f : AnaAcc → AnaAcc) (s : State) : vital (accMod i cap f s) = vital s := by
  simp only [accMod, vital_amod]

theorem vital_anaBlend (i cap : Nat) (s : State) : vital (anaBlend i cap s) = vital s := by
  unfold anaBlend
  (repeat' split) <;> simp only [vital_ite, ite_self, vital_amod, vital_setMark]

theorem vital_adjacent (i cap : Nat) (r : Int) (s : State) : vital (adjacent i cap r s) = vital s := by
  unfold adjacent
  (repeat' split) <;> simp only [vital_amod, vital_setMark]

theorem vital_branches (i cap : Nat) (l : List (List (Nat × Nat))) (s : State) : vital (branches i cap l s) = vital s := by
  unfold branches
  split
  next =>
    refine vital_foldl (fun s x => ?_) _ s
    split
    · simp only [vital_accMod, vital_amod]
    · rfl
  next => rfl

theorem vital_groupDone (i x : Nat) (s : State) : vital (groupDone i x s) = vital s := by
  unfold groupDone
  (repeat' split) <;> simp only [vital_ite, ite_self, vital_kindRecord, vital_amod]

theorem vital_takeBlock (i cap place x : Nat) (b : RdsBlk) (s : State) : vital (takeBlock i cap place x b s) = vital s := by
  simp only [takeBlock, vital_ite, ite_self, vital_amod, vital_piBlock, vital_accMod, vital_groupDone]

theorem vital_rdsCheck (i x : Nat) (s : State) : vital (rdsCheck i x s) = vital s := by
  unfold rdsCheck
  (repeat' split) <;> simp only [vital_amod, vital_setRds]

theorem vital_rdsBlock (i cap bits sample off : Nat) (burst : Option Nat) (word : Nat) (s : State) :
    vital (rdsBlock i cap bits sample off burst word s) = vital s := by
  unfold rdsBlock
  (repeat' split) <;> simp only [vital_ite, ite_self, implies_true, vital_foldl, vital_amod, vital_setRds, vital_takeBlock,
    vital_rdsCheck]

theorem vital_rdsMode (i cap : Nat) (s : State) : vital (rdsMode i cap s) = vital s := by
  unfold rdsMode
  (repeat' split) <;> simp only [vital_ite, ite_self, vital_amod, vital_setRds]

theorem vital_fmLevel (i cap : Nat) (peak : Option Nat) (s : State) : vital (fmLevel i cap peak s) = vital s := by
  unfold fmLevel
  (repeat' split) <;> simp only [vital_ite, ite_self, vital_amod, vital_accMod]

theorem vital_fmSecond (i cap : Nat) (v : FmMeas) (s : State) : vital (fmSecond i cap v s) = vital s := by
  unfold fmSecond
  (repeat' split) <;> simp only [vital_amod]

theorem vital_amSecond (i cap : Nat) (v : AmMeas) (s : State) : vital (amSecond i cap v s) = vital s := by
  unfold amSecond
  (repeat' split) <;> simp only [vital_amod]

theorem vital_anaFact (i cap stage : Nat) (f : StageFact) (s : State) : vital (anaFact i cap stage f s) = vital s := by
  unfold anaFact
  (repeat' split) <;> simp only [vital_ite, ite_self, vital_amod, vital_anaSvcMod, vital_publish, vital_psSegment, vital_rtSegment,
    vital_rtTags, vital_afCount, vital_afPair, vital_rdsInfo, vital_pilotTone, vital_carrierTone, vital_accMod, vital_adjacent,
    vital_branches, vital_rdsBlock, vital_fmLevel]

theorem vital_longRun (i x : Nat) (s : State) : vital (longRun i x s) = vital s := by
  simp only [longRun, vital_amod, vital_setRds, vital_setPilot, vital_setCarrier]

theorem vital_anaInput (i : Nat) (l : List InSample) (rate : Nat) (s : State) : vital (anaInput i l rate s) = vital s := by
  unfold anaInput
  (repeat' split) <;> simp only [vital_ite, ite_self, implies_true, vital_foldl, vital_amod, vital_tellAna, vital_longRun]

theorem vital_inputsEnd (s : State) : vital (inputsEnd s) = vital s := by
  simp only [inputsEnd, vital_ite, ite_self, implies_true, vital_foldl, vital_vmod, vital_anaInput]

theorem vital_anaEnd (s : State) : vital (anaEnd s) = vital s := by
  simp only [anaEnd, vital_mk, vital_fields, vital_inputsEnd]

theorem goes_execFmStatus (h : Hdr) (weave : Handle) (s : State) : Goes (vital s) (execFmStatus h weave s) := by
  refine goes_serve fun s => ?_
  simp only [after_chk, leaves_bind, leaves_okay, implies_true]

theorem goes_execAmStatus (h : Hdr) (weave : Handle) (s : State) : Goes (vital s) (execAmStatus h weave s) := by
  refine goes_serve fun s => ?_
  simp only [after_chk, leaves_bind, leaves_okay, implies_true]

theorem goes_execFmAfRead (h : Hdr) (weave : Handle) (index : Nat) (s : State) : Goes (vital s) (execFmAfRead h weave index s) := by
  refine goes_serve fun s => ?_
  simp only [after_chk, leaves_bind, leaves_okay, implies_true]

/-! Digital. -/

theorem vital_gmod (i : Nat) (f : Digital → Digital) (s : State) : vital (gmod i f s) = vital s := by rfl

theorem vital_tellSync (i code detail cap sample : Nat) (s : State) : vital (tellSync i code detail cap sample s) = vital s := by
  simp only [tellSync, vital_tellDig]

theorem vital_goSync (i st mode cap sample : Nat) (s : State) : vital (goSync i st mode cap sample s) = vital s := by
  simp only [goSync, vital_gmod, vital_tellSync]

theorem vital_syncLost (i lost cap sample : Nat) (s : State) : vital (syncLost i lost cap sample s) = vital s := by
  simp only [syncLost, vital_gmod, vital_tellSync]

theorem vital_svcLater (i due : Nat) (subch : List Subch) (svcs : List SvcInfo) (ident : Option (Nat × Nat)) (s : State) :
    vital (svcLater i due subch svcs ident s) = vital s := by rfl

theorem vital_nullSync (i cap mode ns : Nat) (found : Bool) (offset : Int) (s : State) :
    vital (nullSync i cap mode ns found offset s) = vital s := by
  unfold nullSync
  (repeat' split) <;> simp only [vital_ite, ite_self, vital_gmod, vital_goSync, vital_syncLost]

theorem vital_dabNull (i cap mode ns : Nat) (found : Bool) (offset energy mean comb : Int) (hits : List TiiHit) (s : State) :
    vital (dabNull i cap mode ns found offset energy mean comb hits s) = vital s := by
  unfold dabNull
  (repeat' split) <;> simp only [vital_ite, ite_self, implies_true, vital_foldl, vital_cmod, vital_gmod, vital_nullSync]

theorem vital_digAcc (i cap : Nat) (f : DigAcc → DigAcc) (s : State) : vital (digAcc i cap f s) = vital s := by
  simp only [digAcc, vital_gmod]

theorem vital_fib (i cap cif index sample eid ecc : Nat) (ok : Bool) (data : List Byte) (s : State) :
    vital (fib i cap cif index sample eid ecc ok data s) = vital s := by
  simp only [fib]
  (repeat' split) <;> simp only [vital_kindRecord, vital_gmod, vital_tellSync, vital_svcLater, vital_digAcc]

theorem vital_newsOf (i : Nat) (subch : List Subch) (svcs : List SvcInfo) (s : State) : vital (newsOf i subch svcs s) = vital s := by
  unfold newsOf
  (repeat' split) <;> simp only [vital_ite, ite_self, vital_gmod, vital_svcLater]

theorem vital_mci (i cap sample : Nat) (subch : List Subch) (svcs : List SvcInfo) (s : State) :
    vital (mci i cap sample subch svcs s) = vital s := by
  unfold mci
  (repeat' split) <;> simp only [vital_ite, ite_self, vital_gmod, vital_tellSync, vital_svcLater, vital_newsOf]

theorem vital_reconfig (i cap picks ns : Nat) (subch : List Subch) (svcs : List SvcInfo) (s : State) :
    vital (reconfig i cap picks ns subch svcs s) = vital s := by
  unfold reconfig
  (repeat' split) <;> simp only [vital_gmod, vital_tellSync, vital_svcLater]

theorem vital_drmSymbol (i cap mode sample : Nat) (ok : Bool) (offset : Int) (s : State) :
    vital (drmSymbol i cap mode sample ok offset s) = vital s := by
  simp only [drmSymbol]
  (repeat' split) <;> simp only [vital_gmod, vital_goSync]

theorem vital_drmFrame (i cap ns : Nat) (super : Bool) (s : State) : vital (drmFrame i cap ns super s) = vital s := by
  unfold drmFrame
  (repeat' split) <;> simp only [vital_gmod, vital_goSync]

theorem vital_facSays (i cap occ inter constel sample : Nat) (s : State) :
    vital (facSays i cap occ inter constel sample s) = vital s := by
  unfold facSays
  (repeat' split) <;> simp only [vital_mk, vital_fields, vital_ite, ite_self, vital_gmod, vital_tellSync]

theorem vital_drmFac (i cap occ inter constel sample span : Nat) (ok : Bool) (s : State) :
    vital (drmFac i cap occ inter constel sample span ok s) = vital s := by
  unfold drmFac
  (repeat' split) <;> simp only [vital_ite, ite_self, vital_gmod, vital_tellSync, vital_syncLost, vital_digAcc, vital_facSays]

theorem vital_drmSdc (i : Nat) (svcs : List SvcInfo) (s : State) : vital (drmSdc i svcs s) = vital s := by
  unfold drmSdc
  (repeat' split) <;> simp only [vital_gmod, vital_svcLater, vital_newsOf]

theorem vital_slotsRun (i : Nat) (f : DecSlot → DecSlot × List (Bool × Nat)) (s : State) : vital (slotsRun i f s) = vital s := by
  unfold slotsRun
  (repeat' split) <;> simp only [implies_true, vital_foldl, vital_tellDig, vital_gmod]

theorem vital_audioUnit (i cap : Nat) (u : AudioUnit) (s : State) : vital (audioUnit i cap u s) = vital s := by
  unfold audioUnit
  (repeat' split) <;> simp only [vital_digAcc, vital_slotsRun]

theorem vital_digLabel (i ident : Nat) (comp : Option Nat) (l : LabelRec) (flags cap sample : Nat) (s : State) :
    vital (digLabel i ident comp l flags cap sample s) = vital s := by
  unfold digLabel
  (repeat' split) <;> simp only [vital_mk, vital_fields, vital_kindRecord]

theorem vital_label (i ident : Nat) (comp : Option Nat) (kind cset mask : Nat) (raw : List Byte) (cap sample : Nat) (s : State) :
    vital (label i ident comp kind cset mask raw cap sample s) = vital s := by
  unfold label
  (repeat' split) <;> simp only [vital_ite, ite_self, vital_gmod, vital_digLabel]

theorem vital_subText (i sub : Nat) (l : LabelRec) (flags cap sample : Nat) (s : State) :
    vital (subText i sub l flags cap sample s) = vital s := by
  simp only [subText]
  (repeat' split) <;> simp only [vital_mk, vital_fields, vital_putRecord, vital_kindRecord]

theorem vital_segment (i sub kind toggle number last cset : Nat) (raw : List Byte) (cap sample : Nat) (s : State) :
    vital (Machine.segment i sub kind toggle number last cset raw cap sample s) = vital s := by
  unfold Machine.segment
  split
  next =>
    extract_lets old parts whole t all
    have ht : vital t = vital s := vital_gmod ..
    split
    · exact (vital_subText ..).trans ht
    · exact ht
  next => rfl

theorem vital_textTags (i sub : Nat) (t : List (Nat × Nat × Nat)) (cap sample : Nat) (s : State) :
    vital (textTags i sub t cap sample s) = vital s := by
  unfold textTags
  (repeat' split) <;> simp only [vital_subText]

theorem vital_motObject (i sub id content size : Nat) (header body : List Byte) (cap sample : Nat) (s : State) :
    vital (motObject i sub id content size header body cap sample s) = vital s := by
  unfold motObject
  (repeat' split) <;> simp only [vital_mk, vital_fields, vital_putRecord]

theorem vital_digLink (i ident : Nat) (l : Link) (s : State) : vital (digLink i ident l s) = vital s := by rfl

theorem vital_dabSecond (i cap : Nat) (v : DabMeas) (s : State) : vital (dabSecond i cap v s) = vital s := by
  unfold dabSecond
  (repeat' split) <;> simp only [vital_gmod]

theorem vital_drmSecond (i cap : Nat) (v : DrmMeas) (s : State) : vital (drmSecond i cap v s) = vital s := by
  unfold drmSecond
  (repeat' split) <;> simp only [vital_gmod]

theorem vital_dabFact (i cap stage : Nat) (f : StageFact) (s : State) : vital (dabFact i cap stage f s) = vital s := by
  unfold dabFact
  (repeat' split) <;> simp only [vital_putRecord, vital_gmod, vital_dabNull, vital_digAcc, vital_fib, vital_mci, vital_reconfig,
    vital_audioUnit, vital_label, vital_segment, vital_textTags, vital_motObject, vital_digLink]

theorem vital_drmFact (i cap stage : Nat) (f : StageFact) (s : State) : vital (drmFact i cap stage f s) = vital s := by
  unfold drmFact
  (repeat' split) <;> simp only [vital_putRecord, vital_digAcc, vital_reconfig, vital_drmSymbol, vital_drmFrame, vital_drmFac,
    vital_drmSdc, vital_audioUnit, vital_label, vital_segment, vital_digLink]

theorem vital_digFact (i cap stage : Nat) (f : StageFact) (s : State) : vital (digFact i cap stage f s) = vital s := by
  simp only [digFact, vital_ite, ite_self, vital_dabFact, vital_drmFact]

theorem vital_syncTimes (i : Nat) (w : Weave) (d : Digital) (s : State) : vital (syncTimes i w d s) = vital s := by
  simp only [syncTimes, vital_ite, ite_self, vital_goSync, vital_syncLost]

theorem vital_digPick (s : State) (i : Nat) : vital (digPick s i) = vital s := by
  unfold digPick
  (repeat' split) <;> simp only [vital_gmod, vital_slotsRun, vital_syncTimes]

theorem vital_digEnd (s : State) : vital (digEnd s) = vital s := by
  simp only [digEnd, implies_true, vital_foldl, vital_digPick]

theorem vital_digDue (s : State) : vital (digDue s) = vital s := by
  simp only [digDue, implies_true, vital_foldl, vital_gmod]

theorem goes_execDabStatus (h : Hdr) (weave : Handle) (s : State) : Goes (vital s) (execDabStatus h weave s) := by
  refine goes_serve fun s => ?_
  simp only [after_chk, leaves_bind, leaves_okay, implies_true]

theorem goes_execDabSubchRead (h : Hdr) (weave : Handle) (id : Nat) (s : State) : Goes (vital s) (execDabSubchRead h weave id s) := by
  refine goes_serve fun s => ?_
  simp only [after_chk, leaves_bind, leaves_okay, implies_true]

theorem goes_execDabTiiRead (h : Hdr) (weave : Handle) (s : State) : Goes (vital s) (execDabTiiRead h weave s) := by
  refine goes_serve fun s => ?_
  simp only [after_chk, leaves_bind, leaves_okay, implies_true]

theorem goes_execDrmStatus (h : Hdr) (weave : Handle) (s : State) : Goes (vital s) (execDrmStatus h weave s) := by
  refine goes_serve fun s => ?_
  simp only [after_chk, leaves_bind, leaves_okay, implies_true]

theorem goes_execDigDecodeSet (h : Hdr) (weave : Handle) (n target : Nat) (comps : List Handle) (s : State) :
    Goes (vital s) (execDigDecodeSet h weave n target comps s) := by
  refine goes_serve fun s => ?_
  simp only [after_chk, after_fail, after_ite, leaves_bind, leaves_okay, ite_self, implies_true, vital_sched]

theorem vital_applyDecode (h : Handle) (comps : List Handle) (s : State) : vital (applyDecode h comps s) = vital s := by
  simp only [applyDecode, vital_gmod]

/-! Follow. -/

theorem vital_fmod (i : Nat) (f : Follow → Follow) (s : State) : vital (fmod i f s) = vital s := by rfl

theorem vital_srcMod (i n : Nat) (f : Src → Src) (s : State) : vital (srcMod i n f s) = vital s := by
  simp only [srcMod, vital_fmod]

theorem vital_candGo (i n : Nat) (st : SrcState) (s : State) : vital (candGo i n st s) = vital s := by
  unfold candGo
  (repeat' split) <;> simp only [vital_ev, vital_srcMod]

theorem vital_candRun (k i n : Nat) (s : State) : vital (candRun k i n s) = vital s := by
  induction k generalizing s with
  | zero => rfl
  | succ k ih =>
    rw [candRun]
    split
    next =>
      split
      next =>
        split
        next => rfl
        next => exact (ih _).trans (vital_candGo ..)
      next => rfl
    next => rfl

theorem vital_takeEst (s : State) (e : Estimate) : vital (takeEst s e) = vital s := by
  unfold takeEst
  (repeat' split) <;> simp only [vital_srcMod]

theorem vital_freeDent (h : Handle) (s : State) : vital (freeDent h s) = vital s := by
  simp only [freeDent, vital_mk, vital_fields, vital_unissue, vital_forget]

theorem vital_freeOwned (i n : Nat) (s : State) : vital (freeOwned i n s).2 = vital s := by
  unfold freeOwned
  (repeat' split) <;> simp only [implies_true, vital_foldl, vital_announce, vital_freeWeave, vital_srcMod, vital_freeDent]

/-- A chain made ahead. -/
theorem vital_aheadMake {i n w due : Nat} {s t : State} (h : aheadMake i n w due s = some t) : vital t = vital s := by
  unfold aheadMake at h
  split at h
  next =>
    split at h
    next =>
      split at h
      next hd =>
        split at h
        next hw =>
          cases h
          simp only [vital_srcMod, vital_gmod, vital_announce]
          exact (vital_weaveCreate hw).trans (vital_dentCreate hd)
        next => cases h
      next => cases h
    next => cases h
  next => cases h

theorem vital_runAhead (i n : Nat) (s : State) : vital (runAhead i n s) = vital s := by
  unfold runAhead
  extract_lets t
  have ht : vital t = vital s := vital_srcMod ..
  split
  next =>
    split
    next =>
      split
      next =>
        split
        next w _ =>
          cases hm : aheadMake i n w (t.sys.ord + 2) t with
          | none => exact ht
          | some u => exact (vital_aheadMake hm).trans ht
        next => simp only [vital_ite, vital_srcMod, ht, ite_self]
      next => exact ht
    next => exact ht
  next => exact ht

theorem vital_visitLeave (i : Nat) (s : State) : vital (visitLeave i s).2 = vital s := by
  simp only [visitLeave]
  (repeat' split) <;> simp only [vital_candGo, vital_freeOwned]

theorem vital_visitBegin (i : Nat) (s : State) : vital (visitBegin i s) = vital s := by
  unfold visitBegin
  split
  next =>
    split
    next =>
      split
      next =>
        extract_lets t
        have ht : vital t = vital s := vital_fmod ..
        split
        next =>
          extract_lets u
          have hu : vital u = vital s := (vital_applyTune ..).trans ht
          split
          next hm => simp only [vital_candGo, vital_aheadMake hm, hu]
          next => exact hu
        next => exact ht
      next => exact vital_fmod ..
    next => rfl
  next => rfl

theorem vital_hopWake (i : Nat) (s : State) : vital (hopWake i s) = vital s := by
  unfold hopWake
  (repeat' split) <;> simp only [vital_fmod]

theorem vital_candsTurn (s : State) : vital (candsTurn s) = vital s := by
  refine vital_foldl (fun s f => vital_foldl (fun s n => ?_) _ s) _ s
  split
  next => simp only [vital_ite, vital_candGo, ite_self]
  next => rfl

theorem vital_turnOut (i j : Nat) (s : State) : vital (turnOut i j s) = vital s := by
  simp only [turnOut, vital_fmod]

theorem vital_applyCommit (h : Handle) (entry sample fade : Nat) (s : State) : vital (applyCommit h entry sample fade s) = vital s := by
  simp only [applyCommit]
  (repeat' split) <;> simp only [vital_ev, vital_announce, vital_fmod, vital_turnOut]

theorem vital_ownPrio (w : Option Nat) (prio : Nat) (s : State) : vital (ownPrio w prio s) = vital s := by
  unfold ownPrio
  (repeat' split) <;> simp only [vital_sched]

theorem vital_switchDone (i : Nat) (sample : Nat) (s : State) : vital (switchDone i sample s) = vital s := by
  unfold switchDone
  (repeat' split) <;> simp only [vital_ev, vital_fmod, vital_ownPrio]

theorem vital_undoDone (i : Nat) (s : State) : vital (undoDone i s) = vital s := by
  simp only [undoDone, vital_fmod]

theorem vital_swapsFree (sample : Nat) (s : State) : vital (swapsFree sample s) = vital s := by
  simp only [swapsFree, vital_ite, ite_self, implies_true, vital_foldl, vital_schedAlso, vital_dmod, vital_applySwap]

theorem vital_fadeStep (i j : Nat) (s : State) : vital (fadeStep i j s) = vital s := by
  simp only [fadeStep]
  (repeat' split) <;> simp only [vital_ev, vital_fmod, vital_turnOut, vital_switchDone, vital_undoDone, vital_swapsFree]

theorem vital_fadesAt (j : Nat) (s : State) : vital (fadesAt j s) = vital s := by
  simp only [fadesAt, implies_true, vital_foldl, vital_fadeStep]

theorem vital_autoCommit (i : Nat) (s : State) : vital (autoCommit i s) = vital s := by
  unfold autoCommit
  (repeat' split) <;> simp only [vital_ite, ite_self, vital_announce, vital_schedQ, vital_fmod]

theorem vital_followEnd (i : Nat) (s : State) : vital (followEnd i s) = vital s := by
  unfold followEnd
  split
  next =>
    split
    next => rfl
    next =>
      extract_lets undoing was t u v tried x
      have ht : vital t = vital s := vital_fmod ..
      have hu : vital u = vital s := by
        simp only [u]
        split
        · simp only [vital_ite, vital_announce, ht, ite_self]
        · exact ht
      have hv : vital v = vital s := (vital_foldl (fun s n => vital_candRun 4 i n s) _ _).trans hu
      have hx : vital x = vital s := by
        refine (vital_foldl (fun s n => ?_) _ _).trans hv
        simp only [vital_ite, vital_runAhead, ite_self]
      simp only [vital_autoCommit, vital_hopWake, hx]
  next => rfl

theorem vital_followsEnd (ests : List Estimate) (s : State) : vital (followsEnd ests s) = vital s := by
  simp only [followsEnd, vital_mk, vital_fields, implies_true, vital_foldl, vital_takeEst, vital_followEnd]

theorem goes_execSourceFailureClear (set : Fin 64) (entry : Fin 4) (s : State) : Goes (vital s) (execSourceFailureClear set entry s) := by
  simp only [execSourceFailureClear, goes_next, vital_srcMod]

theorem goes_execRunAheadRetry (set : Fin 64) (entry : Fin 4) (s : State) : Goes (vital s) (execRunAheadRetry set entry s) := by
  simp only [execRunAheadRetry, goes_next, goes_ite, ite_self, vital_runAhead]

theorem goes_execHopVisitEnd (set : Fin 64) (s : State) : Goes (vital s) (execHopVisitEnd set s) := by
  simp only [execHopVisitEnd, goes_next, vital_fmod]

theorem goes_execFollowCreate (h : Hdr) (n group flags hold target : Nat) (entries : List SrcReq) (s : State) :
    Goes (vital s) (execFollowCreate h n group flags hold target entries s) := by
  refine goes_serve fun s => ?_
  dsimp only
  split
  next => trivial
  next =>
    split
    next => exact vital_refuseAdm ..
    next =>
      split
      next => trivial
      next hi =>
        simp only [after_done, vital_sched, vital_mk, vital_fields]
        exact vital_issue hi

theorem vital_srcsStart (i : Nat) (s : State) : vital (srcsStart i s) = vital s := by
  unfold srcsStart
  (repeat' split) <;> simp only [vital_ite, ite_self, implies_true, vital_foldl, vital_candGo]

theorem vital_applyFollowCreate (h : Handle) (s : State) : vital (applyFollowCreate h s) = vital s := by
  simp only [applyFollowCreate, vital_omod, vital_fmod, vital_turnOut, vital_srcsStart]

theorem goes_execFollowSet (h : Hdr) (set : Handle) (n target : Nat) (entries : List SrcReq) (s : State) :
    Goes (vital s) (execFollowSet h set n target entries s) := by
  refine goes_serve fun s => ?_
  simp only []
  (repeat' split) <;> simp only [after_done, after_bad, after_fail, vital_sched, vital_refuseAdm, vital_fmod]

theorem vital_followDrop (h : Handle) (entries : List SrcReq) (s : State) : vital (followDrop h entries s).2 = vital s := by
  simp only [followDrop]
  (repeat' split) <;> simp only [vital_ite_snd, ite_self, implies_true, vital_foldl_snd, vital_freeOwned]

theorem vital_applyFollowSet (h : Handle) (entries : List SrcReq) (s : State) : vital (applyFollowSet h entries s) = vital s := by
  simp only [applyFollowSet]
  (repeat' split) <;> simp only [vital_omod, vital_fmod, vital_srcsStart]

theorem goes_execFollowCommit (h : Hdr) (set : Handle) (entry sample target fade : Nat) (s : State) :
    Goes (vital s) (execFollowCommit h set entry sample target fade s) := by
  refine goes_serve fun s => ?_
  simp only [after_chk, leaves_bind, leaves_okay, implies_true, vital_sched, vital_fmod]

theorem goes_execFollowRelease (h : Hdr) (set : Handle) (target : Nat) (s : State) :
    Goes (vital s) (execFollowRelease h set target s) := by
  refine goes_serve fun s => ?_
  simp only [after_chk, leaves_bind, leaves_okay, implies_true, vital_sched]

theorem vital_freeFollow (h : Handle) (s : State) : vital (freeFollow h s).2 = vital s := by
  simp only [freeFollow, vital_mk, vital_fields, vital_unissue, vital_freeOwned, vital_followDrop]

theorem goes_execFollowStatus (h : Hdr) (set : Handle) (s : State) : Goes (vital s) (execFollowStatus h set s) := by
  refine goes_serve fun s => ?_
  simp only [after_chk, leaves_bind, leaves_okay, implies_true]

theorem goes_execFollowPolicy (h : Hdr) (set : Handle) (c : FollowCfg) (s : State) : Goes (vital s) (execFollowPolicy h set c s) := by
  refine goes_serve fun s => ?_
  simp only [after_chk, leaves_bind, leaves_okay, leaves_ite, ite_self, implies_true, vital_sched]

theorem vital_applyPolicy (h : Handle) (c : FollowCfg) (s : State) : vital (applyPolicy h c s).2 = vital s := by
  simp only [applyPolicy]
  (repeat' split) <;> simp only [vital_fmod, vital_candGo, vital_freeOwned]

/-! Rtc. -/

theorem vital_alarmFire (k : Nat) (skipped atArm : Bool) (s : State) : vital (alarmFire k skipped atArm s) = vital s := by
  simp only [alarmFire, implies_true, vital_ev, vital_rmod]

theorem goes_execRtcOscStop (s : State) : Goes (vital s) (execRtcOscStop s) := by
  simp only [execRtcOscStop, goes_next, goes_ite, vital_ite, ite_self, implies_true, vital_ev, vital_rmod]

theorem goes_execRtcOscRestart (s : State) : Goes (vital s) (execRtcOscRestart s) := by
  simp only [execRtcOscRestart, goes_next, implies_true, vital_rmod]

theorem goes_execRtcToBackup (s : State) : Goes (vital s) (execRtcToBackup s) := by
  simp only [execRtcToBackup, goes_next, goes_ite, ite_self, implies_true, vital_ev, vital_rmod]

theorem goes_execRtcToMain (s : State) : Goes (vital s) (execRtcToMain s) := by
  simp only [execRtcToMain, goes_next, goes_ite, ite_self, implies_true, vital_ev, vital_rmod]

theorem goes_execVbackupMeasure (mv : Nat) (s : State) : Goes (vital s) (execVbackupMeasure mv s) := by
  simp only [execVbackupMeasure, goes_next, goes_ite, vital_ite, ite_self, implies_true, vital_ev, vital_rmod]

theorem vital_setCount (c : BitVec 56) (s : State) : vital (setCount c s) = vital s := by
  simp only [setCount, vital_ite, ite_self, implies_true, vital_foldl, vital_rmod, vital_alarmFire]

theorem vital_latchCount (s : State) : vital (latchCount s) = vital s := by
  simp only [latchCount, implies_true, vital_rmod]

theorem vital_settleCount (s : State) : vital (settleCount s) = vital s := by
  simp only [settleCount, implies_true, vital_rmod]

theorem vital_applyRtcSet (kind value : Nat) (s : State) : vital (applyRtcSet kind value s) = vital s := by
  simp only [applyRtcSet, vital_setCount]

theorem goes_execRtcRead (h : Hdr) (s : State) : Goes (vital s) (execRtcRead h s) := by
  refine goes_serve fun s => ?_
  simp only [after_chk, leaves_okay]

theorem goes_execRtcSet (h : Hdr) (kind value target : Nat) (s : State) : Goes (vital s) (execRtcSet h kind value target s) := by
  refine goes_serve fun s => ?_
  simp only [after_chk, leaves_bind, leaves_okay, implies_true, vital_schedQ]

theorem goes_execRtcTrim (h : Hdr) (trim : Int) (s : State) : Goes (vital s) (execRtcTrim h trim s) := by
  refine goes_serve fun s => ?_
  simp only [after_chkRec, leaves_bind, leaves_okay, implies_true, vital_cfgTouch, vital_rmod]

theorem goes_execRtcAlarmSet (h : Hdr) (alarm flags value : Nat) (s : State) :
    Goes (vital s) (execRtcAlarmSet h alarm flags value s) := by
  refine goes_serve fun s => ?_
  simp only [after_chk, leaves_bind, leaves_okay, vital_ite, ite_self, implies_true, vital_rmod, vital_alarmFire]

theorem goes_execRtcStatus (h : Hdr) (s : State) : Goes (vital s) (execRtcStatus h s) := by
  refine goes_serve fun s => ?_
  simp only [after_chk, leaves_okay]

theorem goes_execRtcConfig (h : Hdr) (vsw low : Nat) (s : State) : Goes (vital s) (execRtcConfig h vsw low s) := by
  refine goes_serve fun s => ?_
  simp only [after_chkRec, leaves_bind, leaves_okay, implies_true, vital_cfgTouch, vital_rmod]

theorem goes_execDateToTicks (h : Hdr) (d : Date) (s : State) : Goes (vital s) (execDateToTicks h d s) := by
  refine goes_serve fun s => ?_
  simp only [after_chk, leaves_bind, leaves_okay, implies_true]

theorem goes_execTicksToDate (h : Hdr) (count : Nat) (s : State) : Goes (vital s) (execTicksToDate h count s) := by
  refine goes_serve fun s => ?_
  simp only [after_chk, leaves_bind, leaves_okay, implies_true]

/-! Survey. -/

theorem vital_vsurv (f : Survey → Survey) (s : State) : vital (vsurv f s) = vital s := by rfl

theorem vital_surveyPlace (s : State) : vital (surveyPlace s) = vital s := by
  unfold surveyPlace
  (repeat' split) <;> simp only [vital_applyTune, vital_vsurv]

theorem vital_surveyOver (cause : Nat) (s : State) : vital (surveyOver cause s) = vital s := by
  simp only [surveyOver, vital_ev, vital_vsurv]

theorem vital_entryOver (cause : Nat) (s : State) : vital (entryOver cause s) = vital s := by
  simp only [entryOver, vital_ite, ite_self, vital_ev, vital_vsurv, vital_surveyOver]

theorem vital_surveyDents (n : Nat) (e : SurveyEntry) (s : State) : vital (surveyDents n e s) = vital s := by
  induction n generalizing s with
  | zero => rfl
  | succ n ih =>
    rw [surveyDents]
    split
    next =>
      split
      next hd => simp only [ih, vital_vsurv, vital_announce, vital_dentCreate hd]
      next => rfl
    next => rfl

theorem vital_chanMod (f : Nat) (g : SurveyChan → SurveyChan) (s : State) : vital (chanMod f g s) = vital s := by
  simp only [chanMod, vital_vsurv]

theorem vital_surveyDrop (h : Handle) (weave : Bool) (s : State) : vital (surveyDrop h weave s) = vital s := by
  simp only [surveyDrop, vital_announce, vital_sched]

theorem vital_surveyWeaves (e : SurveyEntry) (l : List SurveyChan) (s : State) : vital (surveyWeaves e l s) = vital s := by
  induction l generalizing s with
  | nil => rfl
  | cons c l ih =>
    rw [surveyWeaves]
    split
    next => exact ih s
    next =>
      split
      next hw => simp only [ih, vital_chanMod, vital_announce, vital_weaveCreate hw]
      next => rfl

theorem vital_surveyFound (c : SurveyChan) (s : State) : vital (surveyFound c s) = vital s := by
  simp only [surveyFound, vital_ite, ite_self, vital_vsurv, vital_chanMod, vital_surveyDrop]

theorem vital_surveyEnd (s : State) : vital (surveyEnd s) = vital s := by
  unfold surveyEnd
  split
  next => rfl
  next =>
    split
    next => rfl
    next =>
      extract_lets a b c d
      have hb : vital b = vital s := (vital_foldl (fun s c => vital_surveyFound c s) _ _).trans (vital_vsurv ..)
      have hd : vital d = vital s := by simp only [d, c, vital_surveyWeaves, vital_surveyDents, hb]
      simp only [vital_ite, vital_vsurv, vital_entryOver, hd, ite_self]

theorem vital_surveyClear (s : State) : vital (surveyClear s).2 = vital s := by
  simp only [surveyClear, implies_true, vital_foldl, vital_foldl_snd, vital_announce, vital_freeWeave, vital_freeDent]

theorem vital_surveyStopNow (cause : Nat) (s : State) : vital (surveyStopNow cause s).2 = vital s := by
  simp only [surveyStopNow, vital_ite_snd, ite_self, vital_surveyOver, vital_surveyClear]

theorem vital_applySurveyStart (flags : Nat) (entries : List SurveyEntry) (s : State) :
    vital (applySurveyStart flags entries s) = vital s := by
  simp only [applySurveyStart, vital_vsurv]

theorem goes_execSurveyStart (h : Hdr) (n flags target : Nat) (entries : List SurveyEntry) (s : State) :
    Goes (vital s) (execSurveyStart h n flags target entries s) := by
  refine goes_serve fun s => ?_
  simp only [after_chk, leaves_bind, leaves_okay, implies_true, vital_schedQ]

theorem goes_execSurveyStop (h : Hdr) (s : State) : Goes (vital s) (execSurveyStop h s) := by
  refine goes_serve fun s => ?_
  simp only [after_chk, leaves_bind, leaves_okay, implies_true, vital_schedQ]

theorem goes_execSurveyStatus (h : Hdr) (s : State) : Goes (vital s) (execSurveyStatus h s) := by
  refine goes_serve fun s => ?_
  simp only [after_chk, leaves_okay]

theorem goes_execSurveyFieldMeasured (dent : Fin 512) (power : Nat) (s : State) :
    Goes (vital s) (execSurveyFieldMeasured dent power s) := by
  unfold execSurveyFieldMeasured
  (repeat' split) <;> simp only [goes_next, goes_ite, ite_self, vital_vsurv, vital_chanMod, vital_surveyDrop]

theorem goes_execSurveyDwellEnd (weave : Fin 512) (s : State) : Goes (vital s) (execSurveyDwellEnd weave s) := by
  unfold execSurveyDwellEnd
  (repeat' split) <;> simp only [goes_next, vital_surveyFound]

theorem goes_execSurveyStarved (s : State) : Goes (vital s) (execSurveyStarved s) := by
  unfold execSurveyStarved
  (repeat' split) <;> simp only [goes_next, vital_ite, ite_self, implies_true, vital_foldl, vital_entryOver, vital_surveyDrop]

theorem vital_takeTime (w cap stage utc res : Nat) (off : Option Int) (sample : Nat) (s : State) :
    vital (takeTime w cap stage utc res off sample s) = vital s := by
  simp only [takeTime]
  (repeat' split) <;> simp only [vital_mk, vital_fields, vital_kindRecord]

theorem vital_timeEnd (s : State) : vital (timeEnd s) = vital s := by rfl

theorem vital_timeDue (host : Bool) (s : State) : vital (timeDue host s) = vital s := by
  unfold timeDue
  (repeat' split) <;> simp only [vital_mk, vital_fields, vital_ev, vital_auditPut, vital_setCount]

theorem goes_execTimePolicy (h : Hdr) (c : TimeCfg) (s : State) : Goes (vital s) (execTimePolicy h c s) := by
  refine goes_serve fun s => ?_
  simp only [after_chkRec, leaves_bind, leaves_okay, implies_true, vital_schedQ]

theorem vital_applyTimePolicy (c : TimeCfg) (s : State) : vital (applyTimePolicy c s) = vital s := by rfl

theorem goes_execTimeStatus (h : Hdr) (s : State) : Goes (vital s) (execTimeStatus h s) := by
  refine goes_serve fun s => ?_
  simp only [after_chk, leaves_okay]

/-! Stage. -/

theorem vital_stageFact (i cap stage : Nat) (s : State) (f : StageFact) : vital (stageFact i cap stage s f) = vital s := by
  unfold stageFact
  (repeat' split) <;> simp only [vital_anaFact, vital_digFact, vital_takeTime]

theorem vital_stageDone (i cap stage : Nat) (l : List StageFact) (s : State) : vital (stageDone i cap stage l s) = vital s := by
  simp only [stageDone, vital_ite, ite_self, implies_true, vital_foldl, vital_anaBlend, vital_rdsMode, vital_stageFact]

theorem vital_yields (i cap stage : Nat) (s : State) : vital (yields i cap stage s) = vital s := by
  unfold yields
  (repeat' split) <;> simp only [vital_accMod, vital_digAcc]

theorem goes_execStageComplete (weave : Fin 512) (cap stage : Nat) (r : StageResult) (s : State) :
    Goes (vital s) (execStageComplete weave cap stage r s) := by
  unfold execStageComplete
  (repeat' split) <;> simp only [goes_next, vital_ite, ite_self, vital_stageOver, vital_stageDone, vital_yields]

theorem goes_execStageDeadline (weave : Fin 512) (cap : Nat) (cut : StageCut) (s : State) :
    Goes (vital s) (execStageDeadline weave cap cut s) := by
  unfold execStageDeadline
  (repeat' split) <;> simp only [goes_next, vital_dispatch, vital_spend, vital_missStage]

/-! Meas. -/

theorem vital_measPut (h : Handle) (m : Meas) (s : State) : vital (measPut h m s) = vital s := by rfl

theorem vital_thrSecond (h : Handle) (code pick : Nat) (v mean : Option Int) (s : State) (t : Threshold) :
    vital (thrSecond h code pick v mean s t) = vital s := by
  unfold thrSecond
  (repeat' split) <;> simp only [vital_mk, vital_fields, vital_ev]

theorem vital_measSecond (h : Handle) (second : Nat) (s : State) (v : Reading) : vital (measSecond h second s v) = vital s := by
  simp only [measSecond, vital_ite, ite_self, implies_true, vital_foldl, vital_measPut, vital_thrSecond]

theorem vital_fmReadings (i cap : Nat) (v : FmMeas) (c : AnaAcc) (s : State) : vital (fmReadings i cap v c s).2 = vital s := by
  simp only [fmReadings, vital_fmSecond]

theorem vital_amReadings (i cap : Nat) (v : AmMeas) (s : State) : vital (amReadings i cap v s).2 = vital s := by
  simp only [amReadings, vital_amSecond]

theorem vital_dabReadings (i cap : Nat) (d : Digital) (v : DabMeas) (s : State) : vital (dabReadings i cap d v s).2 = vital s := by
  simp only [dabReadings, vital_dabSecond]

theorem vital_drmReadings (i cap : Nat) (v : DrmMeas) (s : State) : vital (drmReadings i cap v s).2 = vital s := by
  simp only [drmReadings, vital_drmSecond]

/-- A reading taken where there is something to read. -/
theorem vital_getD_map {α : Type} {f : α → List Reading × State} {s : State} (hf : ∀ a, vital (f a).2 = vital s) (x : Option α)
    {d : List Reading × State} (hd : vital d.2 = vital s) : vital ((x.map f).getD d).2 = vital s := by
  cases x with
  | none => exact hd
  | some a => exact hf a

theorem vital_weaveReadings (i cap : Nat) (w : Weave) (s : State) : vital (weaveReadings i cap w s).2 = vital s := by
  unfold weaveReadings
  extract_lets none_ take takeD
  split
  next => exact vital_getD_map (fun v => vital_fmReadings ..) _ rfl
  next => exact vital_getD_map (fun v => vital_amReadings ..) _ rfl
  next => exact vital_getD_map (fun v => vital_dabReadings ..) _ rfl
  next => exact vital_getD_map (fun v => vital_drmReadings ..) _ rfl
  next => rfl

theorem vital_secondDone (h : Handle) (cap : Nat) (l : List Reading) (s : State) : vital (secondDone h cap l s) = vital s := by
  simp only [secondDone, implies_true, vital_foldl, vital_measSecond]

theorem vital_weaveSeconds (s : State) : vital (weaveSeconds s).2 = vital s := by
  simp only [weaveSeconds, vital_ite_snd, ite_self, implies_true, vital_foldl_snd, vital_weaveReadings, vital_secondDone]

theorem vital_dentSecond (s : State) (x : Nat × Dent) : vital (dentSecond s x) = vital s := by
  simp only [dentSecond, vital_ite, ite_self, vital_measPut]

theorem vital_fieldHeard (k : Nat) (v : Option Int) (s : State) : vital (fieldHeard k v s) = vital s := by
  unfold fieldHeard
  (repeat' split) <;> simp only [vital_mk, vital_fields]

theorem vital_dentSeconds (l : List FieldMeas) (s : State) : vital (dentSeconds l s).2 = vital s := by
  simp only [dentSeconds, vital_ite_snd, ite_self, implies_true, vital_foldl, vital_foldl_snd, vital_measPut, vital_secondDone,
    vital_dentSecond, vital_fieldHeard]

theorem goes_execMeasRead (h : Hdr) (obj : Handle) (s : State) : Goes (vital s) (execMeasRead h obj s) := by
  refine goes_serve fun s => ?_
  simp only [after_chk, leaves_bind, leaves_okay, implies_true]

theorem goes_execMeasWindow (h : Hdr) (obj : Handle) (w : Nat) (s : State) : Goes (vital s) (execMeasWindow h obj w s) := by
  refine goes_serve fun s => ?_
  simp only [after_chk, leaves_bind, leaves_okay, implies_true, vital_sched]

theorem vital_applyMeasWindow (h : Handle) (w : Nat) (s : State) : vital (applyMeasWindow h w s) = vital s := by
  simp only [applyMeasWindow, vital_measPut]

theorem goes_execMeasThreshold (h : Hdr) (obj : Handle) (t : ThrReq) (s : State) : Goes (vital s) (execMeasThreshold h obj t s) := by
  refine goes_serve fun s => ?_
  (repeat' split) <;> simp only [after_chk, leaves_bind, leaves_okay, vital_mk, vital_fields, implies_true, vital_sched]

theorem vital_applyThreshold (h : Handle) (t : ThrReq) (s : State) : vital (applyThreshold h t s) = vital s := by
  simp only [applyThreshold, vital_mk, vital_fields, vital_ite, ite_self]

theorem vital_loudPut (i : Nat) (l : Loud) (s : State) : vital (loudPut i l s) = vital s := by rfl

theorem vital_loudStarts (s : State) : vital (loudStarts s) = vital s := by
  simp only [loudStarts, vital_ite, ite_self, implies_true, vital_foldl, vital_loudPut]

theorem vital_loudPick (s : State) : vital (loudPick s) = vital s := by
  simp only [loudPick, vital_ite, ite_self, implies_true, vital_foldl, vital_loudPut]

theorem vital_alarmTell (h : Handle) (code : Nat) (l : Loud) (e : Option (Bool × Nat)) (s : State) :
    vital (alarmTell h code l e s) = vital s := by
  unfold alarmTell
  (repeat' split) <;> simp only [vital_mk, vital_fields, vital_ev]

theorem vital_repeatEnd (comp : Nat) (s : State) : vital (repeatEnd comp s) = vital s := by
  simp only [repeatEnd, implies_true, vital_foldl, vital_loudPut, vital_alarmTell]

theorem vital_blockEnd (s : State) (b : BlockMeas) : vital (blockEnd s b) = vital s := by
  simp only [blockEnd, vital_ite, ite_self, vital_loudPut, vital_alarmTell, vital_repeatEnd]

theorem vital_compSecond (b : List Handle × State) (o : Obj) : vital (compSecond b o).2 = vital b.2 := by
  unfold compSecond
  extract_lets s
  split
  · exact (vital_loudPut ..).trans (vital_secondDone ..)
  · rfl

theorem vital_dropUnits (s : State) : vital (dropUnits s) = vital s := by rfl

theorem vital_measEndAll (fields : List FieldMeas) (blocks : List BlockMeas) (s : State) :
    vital (measEndAll fields blocks s).2 = vital s := by
  unfold measEndAll
  extract_lets t
  have ht : vital t = vital s := (vital_foldl vital_blockEnd _ _).trans (vital_loudPick s)
  generalize hweaves : weaveSeconds t = p
  have hp : vital p.2 = vital s := by rw [← hweaves, vital_weaveSeconds, ht]
  obtain ⟨l, u⟩ := p
  dsimp only
  generalize hdents : dentSeconds fields u = q
  have hq : vital q.2 = vital s := by rw [← hdents, vital_dentSeconds, hp]
  obtain ⟨m, x⟩ := q
  dsimp only
  generalize hcomps : (if secEnds x x.sys.ord then (objsOf x 6).foldl compSecond ([], x) else ([], x)) = r
  have hr : vital r.2 = vital s := by rw [← hcomps, vital_ite_snd, vital_foldl_snd vital_compSecond, ite_self, ← hq]
  obtain ⟨n, y⟩ := r
  dsimp only
  rw [vital_ite, vital_dropUnits, ite_self, ← hr]

theorem goes_execLoudnessRead (h : Hdr) (comp : Handle) (s : State) : Goes (vital s) (execLoudnessRead h comp s) := by
  refine goes_serve fun s => ?_
  simp only [after_chk, leaves_bind, leaves_okay, vital_mk, vital_fields, implies_true]

theorem goes_execLoudnessReset (h : Hdr) (comp : Handle) (target : Nat) (s : State) :
    Goes (vital s) (execLoudnessReset h comp target s) := by
  refine goes_serve fun s => ?_
  simp only [after_chk, leaves_bind, leaves_okay, implies_true, vital_sched]

theorem vital_applyLoudReset (h : Handle) (s : State) : vital (applyLoudReset h s) = vital s := by
  simp only [applyLoudReset, vital_loudPut]

theorem goes_execAudioMonSet (h : Hdr) (comp : Handle) (c : MonCfg) (s : State) : Goes (vital s) (execAudioMonSet h comp c s) := by
  refine goes_serve fun s => ?_
  simp only [after_chk, leaves_bind, leaves_okay, implies_true, vital_sched]

theorem vital_applyAudioMon (h : Handle) (c : MonCfg) (s : State) : vital (applyAudioMon h c s) = vital s := by
  simp only [applyAudioMon, vital_loudPut]

theorem vital_verifsEnd (checks : List CheckMeas) (s : State) : vital (verifsEnd checks s) = vital s := by
  unfold verifsEnd
  extract_lets t
  have ht : vital t = vital s := rfl
  split
  next =>
    refine (vital_foldl (fun s x => ?_) _ _).trans ht
    split
    next => rfl
    next =>
      extract_lets v res
      split
      split
      next => simp only [vital_ite, vital_ev, vital_mk, vital_fields, ite_self]
      next => rfl
  next => exact ht

theorem goes_execVerifySet (h : Hdr) (r : VerifyReq) (target : Nat) (s : State) : Goes (vital s) (execVerifySet h r target s) := by
  refine goes_serve fun s => ?_
  simp only []
  (repeat' split) <;> simp only [after_done, after_bad, after_fail, vital_mk, vital_fields, vital_schedQ, vital_refuseAdm]

theorem vital_applyVerifySet (r : VerifyReq) (s : State) : vital (applyVerifySet r s) = vital s := by
  unfold applyVerifySet
  (repeat' split) <;> simp only [vital_mk, vital_fields]

theorem goes_execVerifyClear (h : Hdr) (index target : Nat) (s : State) : Goes (vital s) (execVerifyClear h index target s) := by
  refine goes_serve fun s => ?_
  simp only [after_chk, leaves_bind, leaves_okay, implies_true, vital_schedQ]

theorem vital_applyVerifyClear (index : Nat) (s : State) : vital (applyVerifyClear index s) = vital s := by rfl

theorem goes_execVerifyStatus (h : Hdr) (index : Nat) (s : State) : Goes (vital s) (execVerifyStatus h index s) := by
  refine goes_serve fun s => ?_
  simp only [after_chk, leaves_bind, leaves_okay, implies_true]

/-! Tdm. -/

theorem vital_tmodT (k : Nat) (f : TdmPort → TdmPort) (s : State) : vital (tmodT k f s) = vital s := by rfl

theorem vital_tdmGo (k : Nat) (st : TdmState) (code : Nat) (s : State) : vital (tdmGo k st code s) = vital s := by
  simp only [tdmGo, vital_ev, vital_tmodT]

theorem vital_gpmod (i : Nat) (f : Align → Align) (s : State) : vital (gpmod i f s) = vital s := by rfl

theorem vital_leaveGroup (h : Handle) (s : State) : vital (leaveGroup h s) = vital s := by
  unfold leaveGroup
  (repeat' split) <;> simp only [vital_mk, vital_fields, vital_gpmod]

theorem vital_joinGroup (g h : Handle) (s : State) : vital (joinGroup g h s) = vital s := by
  simp only [joinGroup]
  (repeat' split) <;> simp only [vital_mk, vital_fields, vital_tmodT, vital_gpmod]

theorem vital_applyAlignAdd (hd : Hdr) (g h : Handle) (s : State) : vital (applyAlignAdd hd g h s) = vital s := by
  unfold applyAlignAdd
  (repeat' split) <;> simp only [vital_ev, vital_joinGroup]

theorem vital_applyAlignRemove (hd : Hdr) (g h : Handle) (s : State) : vital (applyAlignRemove hd g h s) = vital s := by
  simp only [applyAlignRemove, vital_ite, ite_self, vital_ev, vital_leaveGroup]

theorem vital_freeAlign (h : Handle) (s : State) : vital (freeAlign h s) = vital s := by
  simp only [freeAlign, vital_mk, vital_fields, vital_unissue]

theorem vital_freeStream (h : Handle) (s : State) : vital (freeStream h s) = vital s := by
  simp only [freeStream, vital_mk, vital_fields, vital_unissue, vital_leaveGroup]

theorem vital_underrun (l : List (Handle × List Nat)) (s : State) : vital (underrun l s) = vital s := by rfl

theorem vital_groupSlip (port slip : Nat) (s : State) : vital (groupSlip port slip s) = vital s := by
  simp only [groupSlip, vital_mk, vital_fields, vital_ite, ite_self]

theorem vital_glitch (k : Nat) (s : State) : vital (glitch k s) = vital s := by
  simp only [glitch, vital_ite, ite_self, vital_ev, vital_tmodT]

theorem vital_frameOut (due : Nat) (ready : Bool) (slip k : Nat) (s : State) : vital (frameOut due ready slip k s).2 = vital s := by
  simp only [frameOut, vital_tmodT]

theorem vital_frameOn (periods : Nat) (rate : Int) (due : Nat) (missing : List Nat) (bits : List (Nat × List Bool)) (slip k : Nat)
    (s : State) : vital (frameOn periods rate due missing bits slip k s).2 = vital s := by
  simp only [frameOn]
  (repeat' split) <;> simp only [vital_tmodT, vital_tdmGo, vital_glitch, vital_frameOut]

theorem goes_execTdmFrame (port : Fin 8) (periods : Nat) (rate : Int) (due : Nat) (lines : FrameLines) (s : State) :
    Goes (vital s) (execTdmFrame port periods rate due lines s) := by
  simp only [execTdmFrame, goes_next, vital_ite, ite_self, implies_true, vital_foldl_snd, vital_underrun, vital_groupSlip, vital_frameOn]

theorem goes_execTdmClockLost (port : Fin 8) (s : State) : Goes (vital s) (execTdmClockLost port s) := by
  simp only [execTdmClockLost, goes_next, vital_ite, ite_self, implies_true, vital_foldl, vital_tdmGo]

theorem goes_execTdmClockReturn (port : Fin 8) (s : State) : Goes (vital s) (execTdmClockReturn port s) := by
  simp only [execTdmClockReturn, goes_next, vital_ite, ite_self, implies_true, vital_foldl, vital_tmodT]

theorem goes_execTdmRateOk (port : Fin 8) (rate : Int) (s : State) : Goes (vital s) (execTdmRateOk port rate s) := by
  simp only [execTdmRateOk, goes_next, vital_ite, ite_self, implies_true, vital_foldl, vital_tmodT, vital_tdmGo]

theorem vital_ratesBoundary (rates : List (Nat × Int)) (s : State) : vital (ratesBoundary rates s) = vital s := by
  simp only [ratesBoundary, vital_ite, ite_self, implies_true, vital_foldl, vital_tmodT, vital_tdmGo]

theorem vital_pllBoundary (s : State) : vital (pllBoundary s) = vital s := by
  simp only [pllBoundary, vital_ite, ite_self, implies_true, vital_foldl, vital_tdmGo]

theorem vital_masterOut (l : List (Handle × List Nat)) (s : State) (k : Nat) : vital (masterOut l s k) = vital s := by
  simp only [masterOut, vital_ite, ite_self, vital_tmodT]

theorem vital_tdmEnd (l : List (Handle × List Nat)) (bits : List (Nat × List (List Bool))) (s : State) :
    vital (tdmEnd l bits s) = vital s := by
  simp only [tdmEnd, vital_mk, vital_fields, implies_true, vital_foldl, vital_masterOut]

theorem vital_masterUnder (l : List StreamMeas) (s : State) : vital (masterUnder l s) = vital s := by
  simp only [masterUnder, implies_true, vital_foldl, vital_tmodT]

theorem vital_tdmOn (s : State) : vital (tdmOn s) = vital s := by rfl

theorem vital_tdmOff (s : State) : vital (tdmOff s) = vital s := by rfl

theorem goes_execTdmPortConfig (h : Hdr) (port : Handle) (c : TdmCfg) (target : Nat) (s : State) :
    Goes (vital s) (execTdmPortConfig h port c target s) := by
  refine goes_serve fun s => ?_
  simp only [after_chkRec, leaves_bind, leaves_okay, implies_true, vital_sched]

theorem vital_applyTdmConfig (port : Handle) (c : TdmCfg) (s : State) : vital (applyTdmConfig port c s) = vital s := by
  simp only [applyTdmConfig, vital_ite, ite_self, vital_omod, vital_tmodT]

theorem goes_execTdmPortStatus (h : Hdr) (port : Handle) (s : State) : Goes (vital s) (execTdmPortStatus h port s) := by
  refine goes_serve fun s => ?_
  simp only [after_chk, leaves_bind, leaves_okay, implies_true]

theorem goes_execTdmStreamCreate (h : Hdr) (r : TdmStreamReq) (target : Nat) (s : State) :
    Goes (vital s) (execTdmStreamCreate h r target s) := by
  refine goes_serve fun s => ?_
  simp only [after_chk, leaves_bind, leaves_okay, Prod.forall, vital_sched, vital_mk, vital_fields]
  intros
  exact vital_of_issued ‹_›

theorem goes_execTdmStreamRelease (h : Hdr) (stream : Handle) (target : Nat) (s : State) :
    Goes (vital s) (execTdmStreamRelease h stream target s) := by
  refine goes_serve fun s => ?_
  simp only [after_chk, leaves_bind, leaves_okay, implies_true, vital_sched]

theorem goes_execAlignCreate (h : Hdr) (target : Nat) (s : State) : Goes (vital s) (execAlignCreate h target s) := by
  refine goes_serve fun s => ?_
  simp only [after_chk, leaves_bind, leaves_okay, Prod.forall, vital_sched, vital_mk, vital_fields]
  intros
  exact vital_of_issued ‹_›

theorem goes_execAlignAdd (h : Hdr) (group stream : Handle) (target : Nat) (s : State) :
    Goes (vital s) (execAlignAdd h group stream target s) := by
  refine goes_serve fun s => ?_
  simp only [after_chk, leaves_bind, leaves_okay, implies_true, vital_sched]

theorem goes_execAlignRemove (h : Hdr) (group stream : Handle) (target : Nat) (s : State) :
    Goes (vital s) (execAlignRemove h group stream target s) := by
  refine goes_serve fun s => ?_
  simp only [after_chk, leaves_bind, leaves_okay, implies_true, vital_sched]

theorem goes_execAlignRelease (h : Hdr) (group : Handle) (target : Nat) (s : State) :
    Goes (vital s) (execAlignRelease h group target s) := by
  refine goes_serve fun s => ?_
  simp only [after_chk, leaves_bind, leaves_okay, implies_true, vital_sched]

theorem goes_execAlignStatus (h : Hdr) (group : Handle) (s : State) : Goes (vital s) (execAlignStatus h group s) := by
  refine goes_serve fun s => ?_
  simp only [after_chk, leaves_bind, leaves_okay, implies_true]

/-! Eth. -/

theorem vital_epmod (p : Nat) (f : EthPort → EthPort) (s : State) : vital (epmod p f s) = vital s := by rfl

theorem vital_emod (i : Nat) (f : EthStream → EthStream) (s : State) : vital (emod i f s) = vital s := by rfl

theorem vital_setLink (p new : Nat) (s : State) : vital (setLink p new s) = vital s := by
  simp only [setLink, vital_ite, ite_self, vital_ev, vital_epmod]

theorem vital_tellEth (i code : Nat) (last : Option Nat) (e : EthStream) (s : State) : vital (tellEth i code last e s) = vital s := by
  simp only [tellEth, vital_ite, ite_self, vital_ev]

theorem vital_ethUnder (s : State) (m : StreamMeas) : vital (ethUnder s m) = vital s := by
  unfold ethUnder
  (repeat' split) <;> simp only [vital_ite, ite_self, implies_true, vital_foldl, vital_epmod, vital_emod, vital_tellEth]

theorem vital_enqueue (i : Nat) (l : List (List Byte)) (s : State) : vital (enqueue i l s) = vital s := by
  refine vital_foldl (fun s b => ?_) l s
  split
  next => simp only [vital_ite, vital_emod, vital_tellEth, ite_self]
  next => rfl

theorem vital_sendCopy (i p n : Nat) (e : EthStream) (s : State) : vital (sendCopy i p n e s) = vital s := by
  simp only [sendCopy, vital_ite, ite_self, vital_epmod, vital_emod]

theorem vital_ethEmit (i : Nat) (s : State) : vital (ethEmit i s) = vital s := by
  unfold ethEmit
  (repeat' split) <;> simp only [vital_ite, ite_self, implies_true, vital_foldl, vital_emod, vital_sendCopy]

theorem vital_ethEnd (l : List StreamMeas) (done : List Handle) (s : State) : vital (ethEnd l done s) = vital s := by
  simp only [ethEnd, vital_mk, vital_fields, vital_ite, ite_self, implies_true, vital_foldl, vital_ethUnder, vital_enqueue, vital_ethEmit]

theorem vital_streamsEnd (l : List StreamMeas) (done : List Handle) (bits : List (Nat × List (List Bool))) (s : State) :
    vital (streamsEnd l done bits s) = vital s := by
  simp only [streamsEnd, vital_ite, ite_self, vital_underrun, vital_tdmEnd, vital_masterUnder, vital_ethEnd]

theorem vital_renumberStreams (s : State) : vital (renumberStreams s) = vital s := by
  simp only [renumberStreams, implies_true, vital_foldl, vital_emod]

theorem vital_ownerStreams (s : State) : vital (ownerStreams s) = vital s := by
  simp only [ownerStreams, implies_true, vital_foldl, vital_emod]

theorem vital_setResolved (p : Nat) (a : IpAddr) (ok : Bool) (s : State) : vital (setResolved p a ok s) = vital s := by
  simp only [setResolved, vital_ite, ite_self, implies_true, vital_foldl, vital_emod]

theorem goes_execEthFrameReceive (port : Fin 2) (f : EthFrame) (s : State) : Goes (vital s) (execEthFrameReceive port f s) := by
  unfold execEthFrameReceive
  (repeat' split) <;> simp only [goes_next, vital_epmod, vital_setResolved]

theorem goes_execArpRefresh (failed : List (Nat × IpAddr)) (s : State) : Goes (vital s) (execArpRefresh failed s) := by
  simp only [execArpRefresh, goes_next, vital_ite, ite_self, implies_true, vital_foldl, vital_emod]

theorem goes_execEthPortConfig (h : Hdr) (port : Handle) (c : EthCfg) (target : Nat) (s : State) :
    Goes (vital s) (execEthPortConfig h port c target s) := by
  refine goes_serve fun s => ?_
  simp only [after_chkRec, leaves_bind, leaves_okay, implies_true, vital_sched]

theorem vital_applyEthConfig (port : Handle) (c : EthCfg) (s : State) : vital (applyEthConfig port c s) = vital s := by
  simp only [applyEthConfig, vital_omod, vital_epmod, vital_setLink]

theorem vital_ethOff (s : State) : vital (ethOff s) = vital s := by
  simp only [ethOff, vital_setLink]

theorem goes_execEthPortStatus (h : Hdr) (port : Handle) (s : State) : Goes (vital s) (execEthPortStatus h port s) := by
  refine goes_serve fun s => ?_
  simp only [after_chk, leaves_bind, leaves_okay, implies_true]

theorem goes_execEthStreamCreate (h : Hdr) (r : EthReq) (target : Nat) (s : State) :
    Goes (vital s) (execEthStreamCreate h r target s) := by
  refine goes_serve fun s => ?_
  simp only [after_ite, after_fail, after_chk, leaves_bind, leaves_okay, Prod.forall, vital_sched, vital_mk, vital_fields]
  split
  next => trivial
  next =>
    intros
    exact vital_of_issued ‹_›

theorem goes_execEthStreamRelease (h : Hdr) (stream : Handle) (target : Nat) (s : State) :
    Goes (vital s) (execEthStreamRelease h stream target s) := by
  refine goes_serve fun s => ?_
  simp only [after_chk, leaves_bind, leaves_okay, implies_true, vital_sched]

theorem goes_execEthStreamStatus (h : Hdr) (stream : Handle) (s : State) : Goes (vital s) (execEthStreamStatus h stream s) := by
  refine goes_serve fun s => ?_
  simp only [after_chk, leaves_bind, leaves_okay, implies_true]

/-! System. -/

theorem goes_execSysIdent (h : Hdr) (s : State) : Goes (vital s) (execSysIdent h s) := by
  refine goes_serve fun s => ?_
  simp only [after_chk, leaves_okay]

theorem goes_execSysStatus (h : Hdr) (s : State) : Goes (vital s) (execSysStatus h s) := by
  refine goes_serve fun s => ?_
  simp only [after_chk, leaves_okay, vital_drawn]

theorem goes_execSysModeSet (h : Hdr) (mode target : Nat) (s : State) : Goes (vital s) (execSysModeSet h mode target s) := by
  refine goes_serve fun s => ?_
  simp only [after_chk, leaves_bind, leaves_okay, vital_ite, ite_self, implies_true, vital_schedQ, vital_unsched]

theorem goes_execSysDomainSet (h : Hdr) (on off target : Nat) (s : State) : Goes (vital s) (execSysDomainSet h on off target s) := by
  refine goes_serve fun s => ?_
  simp only [after_chk, leaves_bind, leaves_okay, implies_true, vital_schedQ]

theorem goes_execSysEventNotify (h : Hdr) (c : NotifyCfg) (s : State) : Goes (vital s) (execSysEventNotify h c s) := by
  refine goes_serve fun s => ?_
  simp only [after_chkRec, leaves_bind, leaves_okay, vital_mk, vital_fields, implies_true, vital_cfgTouch]

theorem goes_execSysProtoStatus (h : Hdr) (s : State) : Goes (vital s) (execSysProtoStatus h s) := by
  refine goes_serve fun s => ?_
  simp only [after_chk, leaves_okay]

theorem goes_execSysEventCount (h : Hdr) (s : State) : Goes (vital s) (execSysEventCount h s) := by
  refine goes_serve fun s => ?_
  simp only [after_chk, leaves_okay]

/-! Pb. -/

theorem vital_pbmod (f : Pb → Pb) (s : State) : vital (pbmod f s) = vital s := by rfl

theorem vital_pbFault (x : Option PbXfer) (cause : Nat) (s : State) : vital (pbFault x cause s) = vital s := by
  simp only [pbFault, vital_ev]

theorem vital_pbRest (s : State) : vital (pbRest s) = vital s := by
  simp only [pbRest, vital_pbmod]

theorem vital_periphState (h : Handle) (s : State) : vital (periphState h s) = vital s := by
  simp only [periphState, vital_omod]

theorem vital_pbEnd (x : PbXfer) (c : Status) (payload : List Byte) (s : State) : vital (pbEnd x c payload s) = vital s := by
  simp only [pbEnd, vital_answer, vital_pbmod, vital_periphState]

theorem vital_pbAbort (c : Status) (st : PbState) (s : State) : vital (pbAbort c st s) = vital s := by
  simp only [pbAbort]
  (repeat' split) <;> simp only [vital_pbmod, vital_pbEnd]

theorem vital_pbLate (s : State) : vital (pbLate s) = vital s := by
  unfold pbLate
  (repeat' split) <;> simp only [vital_pbEnd]

theorem goes_execPbConfig (h : Hdr) (flags stretch : Nat) (s : State) : Goes (vital s) (execPbConfig h flags stretch s) := by
  refine goes_serve fun s => ?_
  simp only [after_chkRec, leaves_bind, leaves_okay, implies_true, vital_schedQ]

theorem vital_applyPbConfig (flags stretch : Nat) (s : State) : vital (applyPbConfig flags stretch s) = vital s := by
  simp only [applyPbConfig, vital_mk, vital_fields, vital_ite, ite_self, vital_pbmod, vital_pbRest]

theorem goes_execPbPeriphCreate (h : Hdr) (p : Periph) (s : State) : Goes (vital s) (execPbPeriphCreate h p s) := by
  refine goes_serve fun s => ?_
  simp only [after_chk, leaves_bind, leaves_okay, Prod.forall, vital_mk, vital_fields]
  intros
  exact vital_of_issued ‹_›

theorem goes_execPbPeriphRelease (h : Hdr) (periph : Handle) (s : State) : Goes (vital s) (execPbPeriphRelease h periph s) := by
  refine goes_serve fun s => ?_
  simp only [after_chk, leaves_bind, leaves_okay, vital_mk, vital_fields, implies_true, vital_unissue]

theorem goes_execPbTransfer (h : Hdr) (r : PbReq) (s : State) : Goes (vital s) (execPbTransfer h r s) := by
  refine goes_serve fun s => ?_
  simp only []
  (repeat' split) <;> simp only [after_hold, after_fail, vital_pbmod, vital_periphState]

theorem goes_execPbStatus (h : Hdr) (s : State) : Goes (vital s) (execPbStatus h s) := by
  refine goes_serve fun s => ?_
  simp only [after_chk, leaves_okay]

theorem goes_execPbBusFree (s : State) : Goes (vital s) (execPbBusFree s) := by
  unfold execPbBusFree
  (repeat' split) <;> simp only [goes_next, vital_pbmod, vital_pbRest, vital_pbEnd]

theorem goes_execPbTransferDone (r : PbDone) (s : State) : Goes (vital s) (execPbTransferDone r s) := by
  unfold execPbTransferDone
  (repeat' split) <;> simp only [goes_next, vital_pbmod, vital_pbRest, vital_pbEnd, vital_pbLate]

theorem goes_execPbArbLost (s : State) : Goes (vital s) (execPbArbLost s) := by
  unfold execPbArbLost
  (repeat' split) <;> simp only [goes_next, vital_drawn, vital_pbmod, vital_pbRest, vital_pbLate]

theorem goes_execPbArbLostCond (s : State) : Goes (vital s) (execPbArbLostCond s) := by
  simp only [execPbArbLostCond, goes_next, goes_ite, ite_self, vital_pbmod, vital_pbFault, vital_pbRest, vital_pbAbort, vital_pbLate]

theorem goes_execPbStretchTimeout (s : State) : Goes (vital s) (execPbStretchTimeout s) := by
  simp only [execPbStretchTimeout, goes_next, goes_ite, ite_self, vital_pbmod, vital_pbFault, vital_pbAbort]

theorem goes_execPbBusReleased (sdaLow : Bool) (s : State) : Goes (vital s) (execPbBusReleased sdaLow s) := by
  unfold execPbBusReleased
  (repeat' split) <;> simp only [goes_next, vital_pbmod, vital_pbFault, vital_pbRest, vital_pbLate]

theorem goes_execPbSclStuck (s : State) : Goes (vital s) (execPbSclStuck s) := by
  simp only [execPbSclStuck, goes_next, goes_ite, vital_ite, ite_self, vital_pbmod, vital_pbFault, vital_pbAbort]

theorem goes_execPbSdaStuck (s : State) : Goes (vital s) (execPbSdaStuck s) := by
  simp only [execPbSdaStuck, goes_next, goes_ite, ite_self, vital_pbmod, vital_pbFault]

theorem goes_execPbRecoveryDone (released : Bool) (s : State) : Goes (vital s) (execPbRecoveryDone released s) := by
  simp only [execPbRecoveryDone, goes_next, goes_ite, vital_ite, ite_self, vital_pbmod, vital_pbFault, vital_pbRest, vital_pbLate]

theorem goes_execPbSdaRetry (s : State) : Goes (vital s) (execPbSdaRetry s) := by
  simp only [execPbSdaRetry, goes_next, goes_ite, ite_self, vital_pbmod]

theorem goes_execPbTransferTimeout (s : State) : Goes (vital s) (execPbTransferTimeout s) := by
  unfold execPbTransferTimeout
  (repeat' split) <;> simp only [goes_next, vital_ite, ite_self, vital_pbmod, vital_pbRest, vital_pbEnd]

theorem goes_execPbBothLinesHigh (s : State) : Goes (vital s) (execPbBothLinesHigh s) := by
  simp only [execPbBothLinesHigh, goes_next, goes_ite, ite_self, vital_pbmod, vital_pbRest, vital_pbLate]

/-! Records. -/

theorem vital_recmod (f : Records → Records) (s : State) : vital (recmod f s) = vital s := by rfl

theorem vital_rec1 (i : Nat) (f : Record → Record) (s : State) : vital (rec1 i f s) = vital s := by
  simp only [rec1, vital_recmod]

theorem vital_recoverAll (s : State) : vital (recoverAll s) = vital s := by
  simp only [recoverAll, vital_recmod]

theorem vital_beginWrite (s : State) : vital (beginWrite s) = vital s := by
  unfold beginWrite
  (repeat' split) <;> simp only [vital_recmod]

theorem vital_writeRec (i : Nat) (body : List Byte) (writer : Nat) (cmd : Option Instr) (s : State) :
    vital (writeRec i body writer cmd s) = vital s := by
  simp only [writeRec, vital_recmod, vital_beginWrite]

theorem vital_storeCopy (i k : Nat) (c : Copy) (s : State) : vital (storeCopy i k c s) = vital s := by
  simp only [storeCopy, vital_rec1]

theorem vital_writeGood (j : WriteJob) (k : Nat) (s : State) : vital (writeGood j k s) = vital s := by
  simp only [writeGood, vital_rec1, vital_storeCopy]

theorem vital_writeBad (j : WriteJob) (k : Nat) (s : State) : vital (writeBad j k s) = vital s := by
  simp only [writeBad, vital_drawn, vital_rec1, vital_storeCopy]

theorem vital_nextWrite (s : State) : vital (nextWrite s) = vital s := by
  simp only [nextWrite, vital_recmod, vital_beginWrite]

theorem vital_finishWrites (s : State) : vital (finishWrites s) = vital s := by
  unfold finishWrites
  (repeat' split) <;> simp only [vital_recmod, vital_writeGood]

theorem vital_writeConfig (s : State) : vital (writeConfig s) = vital s := by
  unfold writeConfig
  (repeat' split) <;> simp only [vital_recmod, vital_writeRec]

theorem goes_execRecordStatus (h : Hdr) (rec : Handle) (s : State) : Goes (vital s) (execRecordStatus h rec s) := by
  refine goes_serve fun s => ?_
  simp only [after_chk, leaves_bind, leaves_okay, implies_true]

theorem vital_drawnBy (n : Nat) (s : State) : vital (drawnBy n s) = vital s := by rfl

theorem goes_execRecordRead (h : Hdr) (rec : Handle) (copy len offset : Nat) (s : State) :
    Goes (vital s) (execRecordRead h rec copy len offset s) := by
  refine goes_serve fun s => ?_
  simp only [after_chk, leaves_bind, leaves_okay, leaves_ite, ite_self, implies_true, vital_drawnBy]

theorem goes_execRecordResolve (h : Hdr) (rec : Handle) (keep : Nat) (s : State) : Goes (vital s) (execRecordResolve h rec keep s) := by
  refine goes_serve fun s => ?_
  simp only []
  (repeat' split) <;> simp only [after_hold, after_fail, vital_writeRec]

theorem goes_execLimitsWrite (h : Hdr) (l : Limits) (s : State) : Goes (vital s) (execLimitsWrite h l s) := by
  refine goes_serve fun s => ?_
  simp only [after_bad, after_hold, after_fail, after_ite, ite_self, vital_refuseRec, vital_writeRec]

theorem goes_execTrimWrite (h : Hdr) (offset total flags : Nat) (data : List Byte) (s : State) :
    Goes (vital s) (execTrimWrite h offset total flags data s) := by
  refine goes_serve fun s => ?_
  simp only [after_done, after_bad, after_hold, after_fail, after_ite, ite_self, vital_refuseRec, vital_recmod, vital_writeRec]

theorem vital_snapTaken (s : State) : vital (snapTaken s) = vital s := by rfl

theorem vital_snapshot (writer : Nat) (cmd : Option Instr) (s : State) : vital (snapshot writer cmd s) = vital s := by
  simp only [snapshot, vital_writeRec, vital_snapTaken]

theorem goes_execCalSnapshot (h : Hdr) (s : State) : Goes (vital s) (execCalSnapshot h s) := by
  refine goes_serve fun s => ?_
  simp only [after_bad, after_hold, after_ite, ite_self, vital_refuseRec, vital_snapshot]

theorem goes_execCalSnapshotTimer (s : State) : Goes (vital s) (execCalSnapshotTimer s) := by
  simp only [execCalSnapshotTimer, goes_next, vital_mk, vital_fields, vital_ite, ite_self, vital_refuseRec, vital_snapshot]

/-! Auth. -/

theorem vital_authmod (f : Auth → Auth) (s : State) : vital (authmod f s) = vital s := by rfl

theorem vital_freeSess (k : Nat) (s : State) : vital (freeSess k s) = vital s := by
  unfold freeSess
  (repeat' split) <;> simp only [vital_unissue, vital_authmod]

theorem vital_freeWhere (p : Nat → Sess → Bool) (s : State) : vital (freeWhere p s) = vital s := by
  simp only [freeWhere, vital_ite, ite_self, implies_true, vital_foldl, vital_freeSess]

theorem vital_freeUdpSess (p : Nat) (s : State) : vital (freeUdpSess p s) = vital s := by
  simp only [freeUdpSess, vital_freeWhere]

theorem goes_execRolekeySet (h : Hdr) (role : Nat) (key : List Byte) (s : State) : Goes (vital s) (execRolekeySet h role key s) := by
  refine goes_serve fun s => ?_
  simp only [after_bad, after_hold, after_fail, after_ite, ite_self, vital_refuseRec, vital_writeRec]

theorem vital_keyWritten (h : Hdr) (role : Nat) (s : State) : vital (keyWritten h role s) = vital s := by
  simp only [keyWritten, vital_freeWhere]

theorem goes_execSessionOpen (h : Hdr) (role : Nat) (s : State) : Goes (vital s) (execSessionOpen h role s) := by
  refine goes_serve fun s => ?_
  simp only [after_chk, leaves_bind, leaves_okay, Prod.forall, vital_authmod, vital_drawn]
  intro _ _ _ _ hd t hi
  rw [vital_of_issued hi]
  split
  next => rfl
  next => cases oldestOpened s with
    | none => rfl
    | some k => exact vital_freeSess k s

theorem vital_proofFails (h : Hdr) (k : Nat) (x : Sess) (s : State) : vital (proofFails h k x s) = vital s := by
  simp only [proofFails, vital_ite, ite_self, vital_authmod, vital_freeSess]

theorem goes_execSessionProve (h : Hdr) (sess : Handle) (proof : List Byte) (s : State) :
    Goes (vital s) (execSessionProve h sess proof s) := by
  refine goes_serve fun s => ?_
  (repeat' split) <;> simp only [after_done, after_bad, after_fail, after_ite, ite_self, vital_authmod, vital_proofFails]

theorem goes_execSessionClose (h : Hdr) (s : State) : Goes (vital s) (execSessionClose h s) := by
  refine goes_serve fun s => ?_
  simp only [after_done, vital_freeSess]

theorem goes_execSessionStatus (h : Hdr) (s : State) : Goes (vital s) (execSessionStatus h s) := by
  refine goes_serve fun s => ?_
  simp only [after_chk, leaves_okay, vital_drawn]

theorem goes_execSessionOpenExpiry (k : Fin 8) (s : State) : Goes (vital s) (execSessionOpenExpiry k s) := by
  simp only [execSessionOpenExpiry, goes_next, vital_freeWhere]

theorem goes_execSessionIdleTimeout (k : Fin 8) (s : State) : Goes (vital s) (execSessionIdleTimeout k s) := by
  simp only [execSessionIdleTimeout, goes_next, vital_freeWhere]

theorem goes_execProveBackoffEnd (s : State) : Goes (vital s) (execProveBackoffEnd s) := by
  simp only [execProveBackoffEnd, goes_next, vital_ite, ite_self, vital_authmod]

theorem goes_execAuditRead (h : Hdr) (start max : Nat) (s : State) : Goes (vital s) (execAuditRead h start max s) := by
  refine goes_serve fun s => ?_
  simp only [after_chk, leaves_bind, leaves_okay, implies_true]

theorem goes_execAuditClear (h : Hdr) (confirm : Nat) (s : State) : Goes (vital s) (execAuditClear h confirm s) := by
  refine goes_serve fun s => ?_
  simp only [after_chk, leaves_bind, leaves_okay, vital_mk, vital_fields, implies_true]

/-! Fw. -/

theorem goes_execFwStatus (h : Hdr) (s : State) : Goes (vital s) (execFwStatus h s) := by
  refine goes_serve fun s => ?_
  simp only [after_chk, leaves_okay]

theorem setImage_locked (f : Firmware) (k : Nat) (x : FwImage) : (f.setImage k x).locked = f.locked := by
  unfold Firmware.setImage
  split
  next => rfl
  next => split <;> rfl

theorem goes_execFwLoadBegin (h : Hdr) (target len : Nat) (s : State) : Goes (vital s) (execFwLoadBegin h target len s) := by
  refine goes_serve fun s => ?_
  simp only [after_chk, leaves_bind, leaves_okay, vital_fwmod, setImage_locked, implies_true]

theorem goes_execFwLoadData (h : Hdr) (offset : Nat) (data : List Byte) (s : State) :
    Goes (vital s) (execFwLoadData h offset data s) := by
  refine goes_serve fun s => ?_
  simp only [after_chk, leaves_bind, leaves_okay, implies_true, vital_fwmod]

theorem goes_execFwLoadEnd (h : Hdr) (s : State) : Goes (vital s) (execFwLoadEnd h s) := by
  refine goes_serve fun s => ?_
  simp only [after_ite, after_fail, after_done, after_bad, vital_fwmod, setImage_locked, implies_true, ite_self]

theorem goes_execFwKeyWrite (h : Hdr) (slot flags : Nat) (key : List Byte) (s : State) :
    Goes (vital s) (execFwKeyWrite h slot flags key s) := by
  refine goes_serve fun s => ?_
  simp only [after_chk, leaves_bind, leaves_okay, leaves_ite, ite_self, implies_true, vital_fwmod]

/-! Timebase. -/

theorem vital_tbmod (f : Timebase → Timebase) (s : State) : vital (tbmod f s) = vital s := by rfl

theorem vital_tbGo (st : TbState) (src : Nat) (s : State) : vital (tbGo st src s) = vital s := by
  simp only [tbGo, vital_ev, vital_tbmod]

theorem vital_tbLost (s : State) : vital (tbLost s) = vital s := by
  unfold tbLost
  (repeat' split) <;> simp only [vital_tbmod, vital_tbGo]

theorem vital_tbAcquire (k : Nat) (s : State) : vital (tbAcquire k s) = vital s := by
  simp only [tbAcquire, vital_tbmod, vital_tbGo]

theorem vital_announceStep (k q m : Int) (effect : Nat) (s : State) : vital (announceStep k q m effect s) = vital s := by
  simp only [announceStep, vital_announce]

theorem vital_planSeconds (total es : Int) (s : State) : vital (planSeconds total es s) = vital s := by
  simp only [planSeconds, vital_ite, ite_self, vital_tbmod, vital_announceStep]

theorem vital_tbDecide (total : Int) (s : State) : vital (tbDecide total s) = vital s := by
  simp only [tbDecide, vital_ite, ite_self, vital_tbmod, vital_announceStep, vital_planSeconds]

theorem goes_withD2 {f : State → State} (h : ∀ t, vital (f t) = vital t) (s : State) : Goes (vital s) (withD2 f s) := by
  simp only [withD2, goes_next, vital_ite, h, ite_self]

theorem goes_execPtpMessage (port : Fin 2) (domain : Nat) (m : PtpMsg) (s : State) : Goes (vital s) (execPtpMessage port domain m s) := by
  unfold execPtpMessage
  (repeat' split) <;> simp only [vital_ite, ite_self, implies_true, vital_tbmod, goes_withD2]

theorem goes_execSourceQualified (i : TbInput) (s : State) : Goes (vital s) (execSourceQualified i s) := by
  simp only [execSourceQualified, vital_ite, ite_self, implies_true, vital_tbmod, goes_withD2]

theorem vital_disqualify (i : Nat) (s : State) : vital (disqualify i s) = vital s := by
  simp only [disqualify, vital_tbmod]

theorem goes_execSourceLost (i : TbInput) (word : Int) (s : State) : Goes (vital s) (execSourceLost i word s) := by
  refine goes_withD2 (fun s => ?_) s
  simp only [vital_ite, vital_tbLost, vital_tbmod, vital_disqualify, ite_self]

theorem goes_execSourceSelect (code : Nat) (s : State) : Goes (vital s) (execSourceSelect code s) := by
  simp only [execSourceSelect, vital_ite, ite_self, implies_true, vital_tbAcquire, goes_withD2]

theorem goes_execSourceDisplace (code : Nat) (s : State) : Goes (vital s) (execSourceDisplace code s) := by
  simp only [execSourceDisplace, vital_ite, ite_self, implies_true, vital_tbAcquire, goes_withD2]

theorem goes_execFreqAcquired (e : Int) (s : State) : Goes (vital s) (execFreqAcquired e s) := by
  simp only [execFreqAcquired, vital_ite, ite_self, implies_true, vital_tbGo, vital_tbDecide, goes_withD2]

theorem goes_execTimebaseLocked (s : State) : Goes (vital s) (execTimebaseLocked s) := by
  simp only [execTimebaseLocked, vital_ite, ite_self, implies_true, vital_tbmod, vital_tbGo, goes_withD2]

theorem goes_execPhaseErrorExceeded (e : Int) (s : State) : Goes (vital s) (execPhaseErrorExceeded e s) := by
  simp only [execPhaseErrorExceeded, vital_ite, ite_self, implies_true, vital_tbGo, vital_tbDecide, goes_withD2]

theorem goes_execPtpSecondsPersist (es : Int) (s : State) : Goes (vital s) (execPtpSecondsPersist es s) := by
  simp only [execPtpSecondsPersist, vital_ite, ite_self, implies_true, vital_planSeconds, goes_withD2]

theorem goes_execPhaseInputEdge (pick : Bool) (width : Nat) (offset : Int) (s : State) :
    Goes (vital s) (execPhaseInputEdge pick width offset s) := by
  refine goes_withD2 (fun s => ?_) s
  dsimp only
  split
  next => simp only [vital_ite, vital_tbmod, ite_self]
  next => simp only [vital_ite, vital_tbmod, ite_self]

theorem vital_tbEnd (m : Option TbMeas) (s : State) : vital (tbEnd m s) = vital s := by
  unfold tbEnd
  (repeat' split) <;> simp only [vital_tbmod]

theorem vital_slewReached (before : Timebase) (s : State) : vital (slewReached before s) = vital s := by
  simp only [slewReached, vital_ite, ite_self, vital_tbGo]

theorem vital_dropSteps (s : State) : vital (dropSteps s) = vital s := by rfl

theorem vital_tbAdvance (s : State) : vital (tbAdvance s) = vital s := by
  unfold tbAdvance
  extract_lets old step pend n1 second secs n2 labelled ptp set new bare moved host q cause offset resid body a b y z c d e
  have hd : vital d = vital s := by
    have hc : vital c = vital s := by simp only [c, b, a, vital_mk, vital_fields, vital_tbmod, vital_dropSteps]
    simp only [d]
    clear_value pend
    split
    next => simp only [vital_mk, vital_fields, hc]
    next => exact hc
  simp only [vital_ite, vital_tbGo, e, vital_ev, hd, ite_self]

theorem vital_timingOut (s : State) : vital (timingOut s) = vital s := by
  simp only [timingOut, vital_tbmod]

theorem vital_pickInEnd (s : State) : vital (pickInEnd s) = vital s := by
  simp only [pickInEnd, vital_ite, ite_self, vital_tbmod]

theorem vital_movesStart (s : State) : vital (movesStart s) = vital s := by
  simp only [movesStart, vital_tbmod]

theorem goes_execPhaseStepComplete (obj : Option (Fin 8)) (s : State) : Goes (vital s) (execPhaseStepComplete obj s) := by
  refine goes_withD2 (fun s => ?_) s
  extract_lets k
  split
  next => simp only [vital_ite, vital_movesStart, vital_tbmod, ite_self]
  next => rfl

theorem goes_execTbPhaseStep (h : Hdr) (obj : Handle) (target : Nat) (steps : Int) (s : State) :
    Goes (vital s) (execTbPhaseStep h obj target steps s) := by
  refine goes_serve fun s => ?_
  simp only [after_chk, leaves_bind, leaves_ok, leaves_ite, vital_ite, ite_self, implies_true, vital_tbmod]

theorem goes_execTbConfig (h : Hdr) (c : TbCfg) (s : State) : Goes (vital s) (execTbConfig h c s) := by
  refine goes_serve fun s => ?_
  simp only [after_chkRec, leaves_bind, leaves_ok, implies_true, vital_schedQ]

theorem vital_applyTbConfig (c : TbCfg) (s : State) : vital (applyTbConfig c s) = vital s := by
  simp only [applyTbConfig, vital_ite, ite_self, vital_tbmod, vital_tbLost, vital_disqualify]

theorem goes_execTbSetSeconds (h : Hdr) (target secs : Nat) (s : State) : Goes (vital s) (execTbSetSeconds h target secs s) := by
  refine goes_serve fun s => ?_
  simp only [after_chk, leaves_bind, leaves_okay, implies_true, vital_schedQ, vital_announceStep]

theorem goes_execTbStatus (h : Hdr) (s : State) : Goes (vital s) (execTbStatus h s) := by
  refine goes_serve fun s => ?_
  simp only [after_chk, leaves_okay]

/-! Clocks. -/

theorem vital_ckmod (f : Clocks → Clocks) (s : State) : vital (ckmod f s) = vital s := by rfl

theorem vital_measureRing (s : State) : vital (measureRing s) = vital s := by
  simp only [measureRing, vital_drawn, vital_ckmod]

theorem goes_execClkConfig (h : Hdr) (mode amount target : Nat) (s : State) : Goes (vital s) (execClkConfig h mode amount target s) := by
  refine goes_serve fun s => ?_
  simp only [after_chk, leaves_bind, leaves_okay, implies_true, vital_schedQ]

theorem vital_applyClkConfig (mode amount : Nat) (s : State) : vital (applyClkConfig mode amount s) = vital s := by
  simp only [applyClkConfig, vital_ckmod]

theorem goes_execClkStatus (h : Hdr) (s : State) : Goes (vital s) (execClkStatus h s) := by
  refine goes_serve fun s => ?_
  simp only [after_chk, leaves_okay]

theorem vital_degrade (s : State) : vital (degrade s) = vital s := by
  simp only [degrade, vital_ckmod]

theorem goes_execMdllUnlock (s : State) : Goes (vital s) (execMdllUnlock s) := by
  refine goes_withD2 (fun s => ?_) s
  split
  next => rfl
  next =>
    split
    next => simp only [vital_mk, vital_fields, vital_ckmod, vital_degrade]
    next => exact vital_degrade s
    next => rfl

theorem goes_execMdllLock (s : State) : Goes (vital s) (execMdllLock s) := by
  simp only [execMdllLock, implies_true, goes_withD2, vital_ckmod]

theorem goes_execMdllRetryTimer (s : State) : Goes (vital s) (execMdllRetryTimer s) := by
  simp only [execMdllRetryTimer, implies_true, goes_withD2, vital_ckmod]

theorem goes_execTcxoFail (s : State) : Goes (vital s) (execTcxoFail s) := by
  simp only [execTcxoFail, vital_ite, ite_self, implies_true, vital_ev, vital_sweep, goes_withD2, vital_ckmod]

theorem goes_execAudioPllUnlock (s : State) : Goes (vital s) (execAudioPllUnlock s) := by
  simp only [execAudioPllUnlock, vital_ite, ite_self, implies_true, vital_ev, goes_withD2, vital_ckmod]

theorem goes_execAudioPllLock (s : State) : Goes (vital s) (execAudioPllLock s) := by
  simp only [execAudioPllLock, implies_true, goes_withD2, vital_ckmod]

theorem vital_audioBoundary (s : State) : vital (audioBoundary s) = vital s := by
  simp only [audioBoundary, vital_ite, ite_self, vital_ev, vital_pllBoundary, vital_ckmod]

theorem vital_coreBoundary (s : State) : vital (coreBoundary s) = vital s := by
  unfold coreBoundary
  extract_lets a n b c d shed m e
  have hc : vital c = vital s := by simp only [c, b, a, vital_ite, vital_ev, vital_shedLoop, vital_ckmod, ite_self]
  have he : vital e = vital s := by simp only [e, d, vital_ite, vital_readmitAll, vital_ckmod, hc, ite_self]
  simp only [vital_ite, vital_ev, he, hc, ite_self]

/-! Ports. -/

theorem vital_feedMod (p : Nat) (f : Feed → Feed) (s : State) : vital (feedMod p f s) = vital s := by
  simp only [feedMod, vital_pmod]

theorem vital_feedGo (p : Nat) (st : FeedState) (s : State) : vital (feedGo p st s) = vital s := by
  simp only [feedGo, vital_ev, vital_feedMod]

theorem vital_faultRaise (p : Nat) (x : Nat × Nat × Nat) (s : State) : vital (faultRaise p x s) = vital s := by
  simp only [faultRaise, vital_ite, ite_self, vital_ev, vital_pmod]

theorem vital_faultClear (p : Nat) (b : Nat × Nat × Nat → Bool) (s : State) : vital (faultClear p b s) = vital s := by
  simp only [faultClear, implies_true, vital_foldl, vital_ev, vital_pmod]

theorem vital_feedTurn (s : State) : vital (feedTurn s) = vital s := by
  unfold feedTurn
  (repeat' split) <;> simp only [vital_ite, ite_self, vital_feedGo, vital_faultClear]

theorem vital_feedsOn (s : State) : vital (feedsOn s) = vital s := by
  simp only [feedsOn, implies_true, vital_foldl, vital_feedMod, vital_feedTurn]

theorem vital_feedsOff (s : State) : vital (feedsOff s) = vital s := by
  simp only [feedsOff, vital_ite, ite_self, implies_true, vital_foldl, vital_feedMod, vital_feedGo]

theorem goes_execFeedSet (h : Hdr) (port : Handle) (flags limit target : Nat) (s : State) :
    Goes (vital s) (execFeedSet h port flags limit target s) := by
  refine goes_serve fun s => ?_
  simp only [after_chkRec, leaves_bind, leaves_ok, implies_true, vital_sched]

theorem vital_applyFeedSet (p flags limit : Nat) (s : State) : vital (applyFeedSet p flags limit s) = vital s := by
  simp only [applyFeedSet, vital_ite, ite_self, vital_feedMod, vital_feedGo, vital_faultClear]

theorem goes_execFeedReset (h : Hdr) (port : Handle) (s : State) : Goes (vital s) (execFeedReset h port s) := by
  refine goes_serve fun s => ?_
  simp only [after_chk, leaves_bind, leaves_okay, implies_true, vital_schedQ]

theorem vital_applyFeedReset (p : Nat) (s : State) : vital (applyFeedReset p s) = vital s := by
  simp only [applyFeedReset, vital_ite, ite_self, vital_feedMod, vital_feedGo, vital_faultClear]

theorem vital_lowerFeeds (s : State) : vital (lowerFeeds s) = vital s := by
  simp only [lowerFeeds, vital_ite, ite_self, implies_true, vital_foldl, vital_ev, vital_feedMod, vital_applyFeedSet]

theorem goes_feedEvent {p : Fin 4} {m : FeedMeas} {b : Feed → Bool} {f : State → State} (h : ∀ t, vital (f t) = vital t) (s : State) :
    Goes (vital s) (feedEvent p m b f s) := by
  simp only [feedEvent, goes_next, vital_ite, h, vital_feedMod, ite_self]

theorem goes_execFeedRampComplete (p : Fin 4) (m : FeedMeas) (s : State) : Goes (vital s) (execFeedRampComplete p m s) := by
  simp only [execFeedRampComplete, implies_true, vital_feedGo, goes_feedEvent]

theorem goes_execFeedOvercurrent (p : Fin 4) (m : FeedMeas) (s : State) : Goes (vital s) (execFeedOvercurrent p m s) := by
  simp only [execFeedOvercurrent, implies_true, vital_feedMod, vital_feedGo, goes_feedEvent]

theorem goes_execFeedFoldRecovered (p : Fin 4) (m : FeedMeas) (s : State) : Goes (vital s) (execFeedFoldRecovered p m s) := by
  simp only [execFeedFoldRecovered, implies_true, vital_feedGo, goes_feedEvent]

theorem goes_execFeedFoldWindowEnd (p : Fin 4) (m : FeedMeas) (s : State) : Goes (vital s) (execFeedFoldWindowEnd p m s) := by
  simp only [execFeedFoldWindowEnd, implies_true, vital_feedGo, vital_faultRaise, goes_feedEvent]

theorem goes_execFeedRetryTimer (p : Fin 4) (m : FeedMeas) (s : State) : Goes (vital s) (execFeedRetryTimer p m s) := by
  simp only [execFeedRetryTimer, implies_true, vital_feedGo, goes_feedEvent]

theorem goes_execFeedOvervoltage (p : Fin 4) (m : FeedMeas) (s : State) : Goes (vital s) (execFeedOvervoltage p m s) := by
  simp only [execFeedOvervoltage, implies_true, vital_feedGo, vital_faultRaise, goes_feedEvent]

theorem goes_execVfeedFault (s : State) : Goes (vital s) (execVfeedFault s) := by
  have hport : ∀ t p, vital (match (portAt t p).feed.state with
      | .off => t
      | .latched => t
      | .hold => feedMod p (fun f => { f with queued := false, vfeed := true }) t
      | _ => feedMod p (fun f => { f with vfeed := true }) (faultRaise p (4, 0, 3) (feedGo p .hold t))) = vital t := fun t p => by
    split
    next => rfl
    next => rfl
    next => exact vital_feedMod ..
    next => simp only [vital_feedMod, vital_faultRaise, vital_feedGo]
  unfold execVfeedFault
  rw [goes_next, vital_ite, ite_eq_right_iff]
  exact fun _ => vital_foldl hport _ s

theorem goes_execVfeedReturn (s : State) : Goes (vital s) (execVfeedReturn s) := by
  simp only [execVfeedReturn, goes_next, vital_ite, ite_self, implies_true, vital_foldl, vital_feedMod, vital_feedTurn]

theorem goes_execFeedStartStagger (p : Fin 4) (m : FeedMeas) (s : State) : Goes (vital s) (execFeedStartStagger p m s) := by
  simp only [execFeedStartStagger, implies_true, vital_feedTurn, goes_feedEvent]

theorem goes_execFeedEpisodeClear (p : Fin 4) (s : State) : Goes (vital s) (execFeedEpisodeClear p s) := by
  simp only [execFeedEpisodeClear, goes_next, vital_ite, ite_self, vital_feedMod]

theorem goes_execFeedFaultClear (p : Fin 4) (m : FeedMeas) (s : State) : Goes (vital s) (execFeedFaultClear p m s) := by
  simp only [execFeedFaultClear, implies_true, vital_faultClear, goes_feedEvent]

theorem goes_execFeedOpenDetect (p : Fin 4) (m : FeedMeas) (s : State) : Goes (vital s) (execFeedOpenDetect p m s) := by
  simp only [execFeedOpenDetect, implies_true, vital_faultRaise, goes_feedEvent]

theorem goes_execFeedOpenClear (p : Fin 4) (m : FeedMeas) (s : State) : Goes (vital s) (execFeedOpenClear p m s) := by
  simp only [execFeedOpenClear, implies_true, vital_faultClear, goes_feedEvent]

theorem goes_execPortBackfeedDetect (p : Fin 4) (m : FeedMeas) (s : State) : Goes (vital s) (execPortBackfeedDetect p m s) := by
  simp only [execPortBackfeedDetect, implies_true, vital_faultRaise, goes_feedEvent]

theorem goes_execPortBackfeedClear (p : Fin 4) (m : FeedMeas) (s : State) : Goes (vital s) (execPortBackfeedClear p m s) := by
  simp only [execPortBackfeedClear, implies_true, vital_faultClear, goes_feedEvent]

theorem vital_feedsEnd (l : List FeedMeas) (s : State) : vital (feedsEnd l s) = vital s := by
  simp only [feedsEnd, vital_ite, ite_self, implies_true, vital_foldl, vital_feedMod]

theorem goes_execPortConfig (h : Hdr) (port : Handle) (loop flags target : Nat) (s : State) :
    Goes (vital s) (execPortConfig h port loop flags target s) := by
  refine goes_serve fun s => ?_
  simp only [after_chkRec, leaves_bind, leaves_okay, implies_true, vital_sched]

theorem vital_spoilShed (w : Nat) (s : State) : vital (spoilShed w s) = vital s := by
  simp only [spoilShed, vital_cmod]

theorem vital_applyPortConfig (p loop flags : Nat) (s : State) : vital (applyPortConfig p loop flags s) = vital s := by
  simp only [applyPortConfig, vital_ite, ite_self, implies_true, vital_foldl, vital_pmod, vital_blank, vital_spoilShed]

theorem goes_execPortStatus (h : Hdr) (port : Handle) (s : State) : Goes (vital s) (execPortStatus h port s) := by
  refine goes_serve fun s => ?_
  simp only [after_chk, leaves_bind, leaves_okay, implies_true]

theorem goes_execHeddleRoute (h : Hdr) (warp port : Handle) (target : Nat) (s : State) :
    Goes (vital s) (execHeddleRoute h warp port target s) := by
  refine goes_serve fun s => ?_
  simp only [after_chkRec, leaves_bind, leaves_okay, leaves_ite, ite_self, implies_true, vital_schedQ]

theorem vital_applyRoute (w : Nat) (port : Handle) (s : State) : vital (applyRoute w port s) = vital s := by
  simp only [applyRoute, vital_ite, ite_self, vital_omod, vital_wmod, vital_blank, vital_calDrop, vital_spoilShed]

theorem vital_alignFixed (s : State) : vital (alignFixed s) = vital s := by rfl

/-! Tuner. -/

theorem vital_tunmod (p : Nat) (f : Tuner → Tuner) (s : State) : vital (tunmod p f s) = vital s := by rfl

theorem vital_prmod (f : Probe → Probe) (s : State) : vital (prmod f s) = vital s := by rfl

theorem goes_execTunerPresetWrite (h : Hdr) (port : Handle) (num : Nat) (p : Preset) (s : State) :
    Goes (vital s) (execTunerPresetWrite h port num p s) := by
  refine goes_serve fun s => ?_
  simp only [after_chkRec, leaves_bind, leaves_okay, implies_true, vital_cfgTouch, vital_tunmod]

theorem goes_execTunerPresetRead (h : Hdr) (port : Handle) (num : Nat) (s : State) :
    Goes (vital s) (execTunerPresetRead h port num s) := by
  refine goes_serve fun s => ?_
  simp only [after_chk, leaves_bind, leaves_okay, implies_true]

theorem goes_execTunerSelect (h : Hdr) (port : Handle) (num flags target : Nat) (s : State) :
    Goes (vital s) (execTunerSelect h port num flags target s) := by
  refine goes_serve fun s => ?_
  simp only [after_chkRec, leaves_bind, leaves_okay, implies_true, vital_sched, vital_tunmod]

theorem vital_applyPreset (p num role : Nat) (s : State) : vital (applyPreset p num role s) = vital s := by
  simp only [applyPreset, vital_ite, ite_self, implies_true, vital_foldl, vital_ev, vital_cfgTouch, vital_blank, vital_spoilShed,
    vital_tunmod]

theorem vital_presetsDue (s : State) : vital (presetsDue s) = vital s := by
  refine vital_foldl (fun s p => ?_) _ s
  split
  next =>
    split
    next => simp only [vital_ite, vital_ev, vital_applyPreset, vital_tunmod, vital_unsched, ite_self]
    next => rfl
  next => rfl

theorem goes_execTunerStatus (h : Hdr) (port : Handle) (s : State) : Goes (vital s) (execTunerStatus h port s) := by
  refine goes_serve fun s => ?_
  simp only [after_chk, leaves_bind, leaves_okay, implies_true]

theorem vital_tellProbe (st : ProbeState) (cause : Nat) (c : Status) (s : State) : vital (tellProbe st cause c s) = vital s := by
  simp only [tellProbe, vital_ev]

theorem vital_modeGo (m : Mode) (cause : Nat) (s : State) : vital (modeGo m cause s) = vital s := by
  simp only [modeGo, vital_mk, vital_fields, vital_ev, vital_announce]

theorem goes_execProbeStart (h : Hdr) (r : ProbeReq) (s : State) : Goes (vital s) (execProbeStart h r s) := by
  refine goes_serve fun s => ?_
  simp only [after_chk, after_fail, after_ite, leaves_bind, leaves_ok, ite_self, implies_true, vital_prmod]

theorem vital_probeOver (cause : Nat) (c : Status) (s : State) : vital (probeOver cause c s) = vital s := by
  simp only [probeOver, vital_prmod, vital_tellProbe]

theorem vital_probeEnd (cause : Nat) (c : Status) (s : State) : vital (probeEnd cause c s) = vital s := by
  simp only [probeEnd, vital_modeGo, vital_probeOver]

theorem goes_execProbeStop (h : Hdr) (s : State) : Goes (vital s) (execProbeStop h s) := by
  refine goes_serve fun s => ?_
  simp only [after_chk, leaves_okay, vital_prmod]

theorem vital_pointLost (s : State) : vital (pointLost s) = vital s := by
  unfold pointLost
  (repeat' split) <;> simp only [vital_prmod]

theorem vital_probeHeld (n : Nat) (s : State) : vital (probeHeld n s) = vital s := by
  simp only [probeHeld, vital_prmod, vital_tellProbe, vital_pointLost]

theorem goes_execCoexGntFall (s : State) : Goes (vital s) (execCoexGntFall s) := by
  simp only [execCoexGntFall, goes_next, vital_ite, ite_self, vital_prmod, vital_probeHeld]

theorem goes_execProbeGrantTimeout (s : State) : Goes (vital s) (execProbeGrantTimeout s) := by
  simp only [execProbeGrantTimeout, goes_next, vital_ite, ite_self, vital_probeEnd]

theorem goes_execProbeStartTimeout (s : State) : Goes (vital s) (execProbeStartTimeout s) := by
  simp only [execProbeStartTimeout, goes_next, vital_ite, ite_self, vital_probeOver]

theorem goes_execProbeDurationEnd (s : State) : Goes (vital s) (execProbeDurationEnd s) := by
  simp only [execProbeDurationEnd, goes_next, vital_ite, ite_self, vital_probeEnd]

theorem goes_execProbeLevelCalDone (s : State) : Goes (vital s) (execProbeLevelCalDone s) := by
  simp only [execProbeLevelCalDone, goes_next, vital_ite, ite_self, vital_prmod]

theorem goes_execProbeLevelLoop (level : Int) (s : State) : Goes (vital s) (execProbeLevelLoop level s) := by
  simp only [execProbeLevelLoop, goes_next, vital_ite, ite_self, vital_prmod]

theorem goes_execProbeLimiter (s : State) : Goes (vital s) (execProbeLimiter s) := by
  simp only [execProbeLimiter, goes_next, vital_ite, ite_self, vital_prmod]

theorem vital_probeWait (s : State) : vital (probeWait s) = vital s := by
  simp only [probeWait, vital_ite, ite_self, vital_retune, vital_probeLocked, vital_prmod]

theorem vital_probeRun (s : State) : vital (probeRun s) = vital s := by
  simp only [probeRun, vital_ite, ite_self, vital_retune, vital_prmod, vital_tellProbe, vital_pointLost, vital_probeHeld]

theorem vital_probeStep (s : State) : vital (probeStep s) = vital s := by
  simp only [probeStep, vital_mk, vital_fields, vital_ite, ite_self, vital_prmod, vital_tellProbe, vital_probeOver]

theorem vital_probeMode (s : State) : vital (probeMode s) = vital s := by
  simp only [probeMode, vital_ite, ite_self, vital_probeOver]

theorem vital_probeOff (s : State) : vital (probeOff s) = vital s := by
  simp only [probeOff, vital_mk, vital_fields, vital_ite, ite_self, vital_synOff, vital_prmod, vital_probeOver]

theorem vital_probeOn (t : Int) (s : State) : vital (probeOn t s) = vital s := by
  simp only [probeOn, vital_readProbeTemp, vital_prmod]

theorem goes_execProbeStatus (h : Hdr) (s : State) : Goes (vital s) (execProbeStatus h s) := by
  refine goes_serve fun s => ?_
  simp only [after_chk, leaves_okay]

theorem goes_execMismatchMeasure (h : Hdr) (port : Handle) (points threshold target : Nat) (freqs : List Nat) (s : State) :
    Goes (vital s) (execMismatchMeasure h port points threshold target freqs s) := by
  refine goes_serve fun s => ?_
  simp only [after_chk, after_fail, after_ite, leaves_bind, leaves_okay, ite_self, implies_true, vital_prmod]

theorem vital_measRun (s : State) : vital (measRun s) = vital s := by
  simp only [measRun]
  (repeat' split) <;> simp only [vital_retune, vital_prmod]

theorem vital_lossDone (p mode cls thr preset pick : Nat) (l : List LossPoint) (s : State) :
    vital (lossDone p mode cls thr preset pick l s) = vital s := by
  unfold lossDone
  (repeat' split) <;> simp only [vital_ite, ite_self, vital_ev, vital_faultRaise, vital_faultClear, vital_tunmod]

theorem goes_execMismatchComplete (points : List LossPoint) (low : List Nat) (s : State) :
    Goes (vital s) (execMismatchComplete points low s) := by
  simp only [execMismatchComplete]
  (repeat' split) <;> simp only [goes_next, vital_drawn, vital_prmod, vital_lossDone]

theorem goes_execMismatchRead (h : Hdr) (port : Handle) (s : State) : Goes (vital s) (execMismatchRead h port s) := by
  refine goes_serve fun s => ?_
  simp only [after_chk, leaves_bind, leaves_okay, implies_true]

theorem vital_lowerProbe (s : State) : vital (lowerProbe s) = vital s := by
  simp only [lowerProbe, vital_ite, ite_self, vital_prmod]

/-! Apply. -/

theorem vital_tellDropped (p : Pend) (s : State) : vital (tellDropped p s) = vital s := by
  simp only [tellDropped, vital_ev]

theorem vital_release (h : Handle) (s : State) : vital (release h s).2 = vital s := by
  unfold release
  (repeat' split) <;> simp only [vital_mk, vital_fields, vital_unissue, vital_freeWeave, vital_forget, vital_freeService, vital_freeDent,
    vital_freeFollow, vital_freeAlign, vital_freeStream]

theorem vital_undoHeld (p : Pend) (s : State) : vital (undoHeld p s) = vital s := by
  unfold undoHeld
  (repeat' split) <;> simp only [vital_mk, vital_fields, vital_fmod]

theorem vital_discardPend (p : Pend) (s : State) : vital (discardPend p s) = vital s := by
  simp only [discardPend, vital_ite, ite_self, vital_tellDropped, vital_release, vital_undoHeld]

theorem vital_rebindDent (h : Handle) (c : DentChg) (s : State) : vital (rebindDent h c s) = vital s := by
  simp only [rebindDent, vital_ite, ite_self, vital_omod, vital_dmod, vital_applyDentSet]

theorem vital_setDeviceId (id : Nat) (s : State) : vital (setDeviceId id s) = vital s := by rfl

theorem vital_create (h : Handle) (s : State) : vital (create h s).2 = vital s := by
  unfold create
  (repeat' split) <;> simp only [vital_omod, vital_applyDentCreate, vital_applyWeaveCreate, vital_weaveBorn, vital_applyFollowCreate]

theorem vital_effect (p : Pend) (at_ : Nat) (s : State) : vital (effect p at_ s) = vital s := by
  unfold effect
  (repeat' split) <;> simp only [vital_mk, vital_fields, vital_ite, ite_self, implies_true, vital_cfgTouch, vital_dmod, vital_deferSwap,
    vital_applySwap, vital_applyCalPolicy, vital_applyTune, vital_applyGain, vital_applyAgc, vital_warpWake, vital_applyWeaveStart,
    vital_applyWeaveStop, vital_applyWeaveSet, vital_applyDecode, vital_applyCommit, vital_rmod, vital_applyRtcSet,
    vital_applySurveyStart, vital_applyTimePolicy, vital_applyMeasWindow, vital_applyThreshold, vital_applyLoudReset,
    vital_applyAudioMon, vital_applyVerifySet, vital_applyVerifyClear, vital_applyAlignAdd, vital_applyAlignRemove, vital_applyTdmConfig,
    vital_applyEthConfig, vital_applyPbConfig, vital_recmod, vital_applyTbConfig, vital_applyClkConfig, vital_applyFeedSet,
    vital_applyFeedReset, vital_lowerFeeds, vital_applyPortConfig, vital_applyRoute, vital_tunmod, vital_lowerProbe, vital_rebindDent,
    vital_setDeviceId]

theorem vital_alignDelays (before : State) (sample : Nat) (s : State) : vital (alignDelays before sample s) = vital s := by
  simp only [alignDelays, vital_ite, ite_self, implies_true, vital_foldl, vital_setTaus]

theorem vital_takeEffect (p : Pend) (at_ : Nat) (s : State) : vital (takeEffect p at_ s) = vital s := by
  simp only [takeEffect, vital_mk, vital_fields, vital_ite, ite_self, vital_discardPend, vital_effect, vital_alignDelays]

theorem vital_runStep (f : Pend → Bool) (s : State) : vital (runStep f s) = vital s := by
  simp only [runStep, implies_true, vital_foldl, vital_takeEffect]

theorem vital_releaseEffect (p : Pend) (s : State) : vital (releaseEffect p s).2 = vital s := by
  unfold releaseEffect
  (repeat' split) <;> simp only [vital_mk, vital_fields, vital_ite_snd, ite_self, vital_followDrop, vital_applyFollowSet,
    vital_applyPolicy, vital_surveyStopNow, vital_release, vital_discardPend]

theorem vital_createEffect (p : Pend) (s : State) : vital (createEffect p s).2 = vital s := by
  simp only [createEffect, vital_mk, vital_fields, vital_ite_snd, ite_self, vital_discardPend, vital_create]

theorem vital_runAll {f : Pend → State → List Handle × State} (h : ∀ p t, vital (f p t).2 = vital t) (l : List Pend) (s : State) :
    vital (runAll f l s).2 = vital s :=
  vital_foldl_snd (f := fun a p => ((a.1 ++ (f p a.2).1, (f p a.2).2) : List Handle × State)) (fun a p => h p a.2) l ([], s)

theorem vital_wake (h : Handle) (s : State) : vital (wake h s) = vital s := by
  unfold wake
  (repeat' split) <;> simp only [vital_dmod, vital_warpWake, vital_flushWeave]

theorem vital_settle (rel : List Handle) (mode : BitVec 10) (s : State) : vital (settle rel mode s) = vital s := by
  simp only [settle, implies_true, vital_foldl, vital_sweep, vital_calDrop, vital_haltWeave, vital_alignServices, vital_alignFixed,
    vital_wake]

theorem vital_restore (x : RecItem) (s : State) : vital (restore x s) = vital s := by
  refine vital_foldl (fun s p => ?_) _ s
  split
  next => exact vital_tunmod ..
  next => simp only [vital_ite, vital_effect, ite_self]
  next => simp only [vital_ite, vital_effect, ite_self]
  next => exact vital_rmod (fun _ => rfl) s
  next => exact vital_effect ..

/-! RecordDone. -/

theorem vital_resolvedPends (i : Nat) (h : Hdr) (s : State) : vital (resolvedPends i h s) = vital s := by
  unfold resolvedPends
  (repeat' split) <;> simp only [vital_ite, ite_self, implies_true, vital_foldl, vital_schedQ, vital_schedAlso]

theorem vital_limitsInForce (l : Limits) (s : State) : vital (limitsInForce l s) = vital s := by
  simp only [limitsInForce, vital_recmod]

theorem vital_writtenEffect (c : Instr) (s : State) : vital (writtenEffect c s).2 = vital s := by
  unfold writtenEffect
  (repeat' split) <;> simp only [vital_ite, ite_self, vital_ev, vital_schedQ, vital_keyWritten, vital_resolvedPends, vital_limitsInForce]

theorem vital_failedEffect (j : WriteJob) (s : State) : vital (failedEffect j s) = vital s := by
  unfold failedEffect
  (repeat' split) <;> simp only [vital_mk, vital_fields, vital_ev]

theorem vital_writeAnswer (c : Instr) (st : Status) (s : State) : vital (writeAnswer c st s) = vital s := by
  unfold writeAnswer
  (repeat' split) <;> simp only [vital_answer]

theorem goes_execRecordWriteComplete (ok : Bool) (s : State) : Goes (vital s) (execRecordWriteComplete ok s) := by
  unfold execRecordWriteComplete
  (repeat' split) <;> simp only [goes_next, vital_recmod, vital_writeGood, vital_writeBad, vital_nextWrite, vital_writtenEffect,
    vital_failedEffect, vital_writeAnswer]

/-! Boot. -/

theorem vital_sysmod (f : Sys → Sys) (s : State) : vital (sysmod f s) = vital s := by rfl

theorem vital_leaveBackup (s : State) : vital (leaveBackup s) = vital s := by
  simp only [leaveBackup, vital_mk, vital_fields, vital_ite, ite_self, vital_recmod, vital_recoverAll, vital_sysmod]

theorem vital_askReset (c : ResetCause) (halt : Bool) (source : Option Nat) (h : Hdr) (s : State) :
    vital (askReset c halt source h s) = vital s := by
  simp only [askReset, vital_sysmod]

theorem goes_execVmainGood (addr : Fin 8) (boot : Fin 4) (s : State) : Goes (vital s) (execVmainGood addr boot s) := by
  simp only [execVmainGood, goes_next, goes_ite, ite_self, vital_sysmod, vital_leaveBackup]

theorem goes_execResetNRelease (addr : Fin 8) (boot : Fin 4) (s : State) : Goes (vital s) (execResetNRelease addr boot s) := by
  simp only [execResetNRelease, goes_next, goes_ite, ite_self, vital_sysmod, vital_leaveBackup]

theorem verifySource_locked (k : Nat) (f : Firmware) : (verifySource k f).locked = f.locked := setImage_locked ..

theorem verifyOrder_locked (l : List Nat) (f : Firmware) : (verifyOrder l f).locked = f.locked := by
  induction l generalizing f with
  | nil => rfl
  | cons k l ih =>
    rw [verifyOrder]
    split
    · exact verifySource_locked k f
    · exact (ih _).trans (verifySource_locked k f)

theorem goes_execFwVerifyComplete (s : State) : Goes (vital s) (execFwVerifyComplete s) := by
  simp only [execFwVerifyComplete, goes_ite, goes_next, vital_ite, vital_sysmod, vital_fwmod, verifyOrder_locked, implies_true, ite_self]

theorem vital_loadCal (s : State) : vital (loadCal s) = vital s := by rfl

theorem vital_tellRecovered (s : State) : vital (tellRecovered s) = vital s := by
  simp only [tellRecovered, vital_ite, ite_self, implies_true, vital_foldl, vital_ev, vital_recmod]

theorem vital_tellClock (s : State) : vital (tellClock s) = vital s := by
  simp only [tellClock, vital_ite, ite_self, implies_true, vital_foldl, vital_ev, vital_rmod]

theorem vital_advanceCounter (s : State) : vital (advanceCounter s) = vital s := by
  unfold advanceCounter
  (repeat' split) <;> simp only [vital_ite, ite_self, implies_true, vital_auditPut, vital_fwmod]

theorem vital_enterReady (s : State) : vital (enterReady s) = vital s := by
  simp only [enterReady, implies_true, vital_foldl, vital_ev, vital_rmod, vital_tdmOn, vital_recmod, vital_alignFixed, vital_restore,
    vital_sysmod, vital_tellRecovered, vital_tellClock, vital_advanceCounter]

/-! Transport. -/

theorem vital_mbmod (f : Mb → Mb) (s : State) : vital (mbmod f s) = vital s := by rfl

theorem vital_take (v : Via) (b : List Byte) (s : State) : vital (take v b s) = vital s := by
  simp only [take, implies_true, vital_protomod]

theorem vital_countRepeat (again : Bool) (s : State) : vital (countRepeat again s) = vital s := by
  simp only [countRepeat, vital_ite, ite_self, implies_true, vital_protomod]

theorem goes_execSpiWrite (stated : Nat) (bytes : List Byte) (s : State) : Goes (vital s) (execSpiWrite stated bytes s) := by
  simp only [execSpiWrite, goes_next, goes_ite, ite_self, implies_true, vital_protomod, vital_take]

theorem goes_execSpiStatusOnly (s : State) : Goes (vital s) (execSpiStatusOnly s) := by
  simp only [execSpiStatusOnly, goes_next, vital_ite, ite_self, implies_true, vital_protomod]

theorem vital_sendHeader (p : Fin 2) (a : IpAddr) (sport : Nat) (g : Prog) (notTaken : Bool) (s : State) :
    vital (sendHeader p a sport g notTaken s) = vital s := by
  simp only [sendHeader, vital_sendUdp]

theorem vital_refuseUdp (p : Fin 2) (a : IpAddr) (sport : Nat) (b : List Byte) (s : State) :
    vital (refuseUdp p a sport b s) = vital s := by
  simp only [refuseUdp, implies_true, vital_protomod, vital_sendHeader]

theorem vital_takeUdp (k : Nat) (p : Fin 2) (a : IpAddr) (sport : Nat) (b : List Byte) (s : State) :
    vital (takeUdp k p a sport b s) = vital s := by
  simp only [takeUdp, implies_true, vital_protomod, vital_take]

theorem goes_execUdpPacketArrival (port : Fin 2) (addr : IpAddr) (sport : Nat) (bytes : List Byte) (s : State) :
    Goes (vital s) (execUdpPacketArrival port addr sport bytes s) := by
  simp only [execUdpPacketArrival, goes_next, goes_ite]
  (repeat' split) <;> simp only [vital_sendUdp, vital_countRepeat, vital_sendHeader, vital_refuseUdp, vital_takeUdp]

theorem goes_execUdpReplyExpiry (slot : Fin 16) (s : State) : Goes (vital s) (execUdpReplyExpiry slot s) := by
  simp only [execUdpReplyExpiry, goes_next, vital_ite, ite_self, implies_true, vital_protomod]

theorem vital_mbTransfer (s : State) : vital (mbTransfer s) = vital s := by
  simp only [mbTransfer, vital_mbmod]

theorem vital_offer (code : Nat) (d : List Byte) (s : State) : vital (offer code d s) = vital s := by
  simp only [offer, vital_mbmod]

theorem goes_onMb {f : State → State} (h : ∀ t, vital (f t) = vital t) (s : State) : Goes (vital s) (onMb f s) := by
  simp only [onMb, goes_next, vital_ite, h, vital_mbTransfer, ite_self]

theorem vital_disarm (s : State) : vital (disarm s) = vital s := by
  simp only [disarm, vital_mbmod]

theorem goes_execMbIdent (s : State) : Goes (vital s) (execMbIdent s) := by
  simp only [execMbIdent, implies_true, vital_offer, goes_onMb]

theorem goes_execMbStatus (s : State) : Goes (vital s) (execMbStatus s) := by
  refine goes_onMb (fun t => ?_) s
  simp only [vital_disarm, vital_mbmod, vital_offer]

theorem vital_pecFail (s : State) : vital (pecFail s) = vital s := by
  simp only [pecFail, vital_mbmod]

theorem vital_segFail (s : State) : vital (segFail s) = vital s := by
  simp only [segFail, vital_mbmod]

theorem vital_mbDiscard (s : State) : vital (mbDiscard s) = vital s := by
  simp only [mbDiscard, implies_true, vital_protomod]

theorem vital_segTake (have_ : List Byte) (index : Nat) (last : Bool) (d : List Byte) (s : State) :
    vital (segTake have_ index last d s) = vital s := by
  simp only [segTake, vital_ite, ite_self, implies_true, vital_protomod, vital_mbmod, vital_take, vital_segFail, vital_mbDiscard]

theorem vital_mbSegment (ctl : Nat) (d : List Byte) (s : State) : vital (mbSegment ctl d s) = vital s := by
  unfold mbSegment
  (repeat' split) <;> simp only [vital_ite, ite_self, vital_mbmod, vital_segFail, vital_mbDiscard, vital_segTake]

theorem goes_execMbCmdPut (data : List Byte) (check : Option Byte) (extra : Bool) (s : State) :
    Goes (vital s) (execMbCmdPut data check extra s) := by
  simp only [execMbCmdPut, vital_ite, ite_self, implies_true, goes_onMb, vital_pecFail, vital_mbSegment]

theorem goes_execMbAttnAck (check : Option Byte) (extra : Bool) (s : State) : Goes (vital s) (execMbAttnAck check extra s) := by
  simp only [execMbAttnAck, vital_ite, ite_self, implies_true, goes_onMb, vital_disarm, vital_pecFail]

theorem vital_freeze (ended : Bool) (f : Nat × Bool × Nat → List Byte) (code : Nat) (s : State) :
    vital (freeze ended f code s) = vital s := by
  simp only [freeze, vital_ite, ite_self, vital_mbmod, vital_offer]

theorem goes_execMbRtcSnap (ended : Bool) (s : State) : Goes (vital s) (execMbRtcSnap ended s) := by
  simp only [execMbRtcSnap, implies_true, goes_onMb, vital_freeze]

theorem goes_execMbRtcWeekday (ended : Bool) (s : State) : Goes (vital s) (execMbRtcWeekday ended s) :=
  goes_onMb (fun t => vital_freeze _ _ _ t) s

theorem goes_execMbUnassignedCode (code : Byte) (s : State) : Goes (vital s) (execMbUnassignedCode code s) := goes_onMb (fun _ => rfl) s

theorem goes_execMbSegmentTimeout (s : State) : Goes (vital s) (execMbSegmentTimeout s) := by
  simp only [execMbSegmentTimeout, goes_next, vital_ite, ite_self, vital_segFail]

theorem goes_execMbStuckBus (s : State) : Goes (vital s) (execMbStuckBus s) := by
  simp only [execMbStuckBus, implies_true, vital_ev, vital_mbmod, goes_onMb]

theorem goes_execAttnAttempt (free sclFell : Bool) (s : State) : Goes (vital s) (execAttnAttempt free sclFell s) := by
  simp only [execAttnAttempt, goes_next, vital_ite, ite_self, vital_mbmod]

theorem vital_refusePacket (v : Via) (b : List Byte) (r : Right) (c : Status) (s : State) : vital (refusePacket v b r c s) = vital s := by
  simp only [refusePacket, vital_ite, ite_self, implies_true, vital_answer, vital_protomod]

/-! Pair. -/

theorem vital_pairmod (f : Pair → Pair) (s : State) : vital (pairmod f s) = vital s := by rfl

theorem vital_pairGo (st : PairState) (cause : Nat) (s : State) : vital (pairGo st cause s) = vital s := by
  simp only [pairGo, vital_ev, vital_pairmod]

theorem vital_pairGoFree (st : PairState) (s : State) : vital (pairGoFree st s) = vital s := by
  simp only [pairGoFree, vital_drawn, vital_pairGo]

theorem vital_driveTdm (b : Bool) (s : State) : vital (driveTdm b s) = vital s := by rfl

theorem vital_beOwner (s : State) : vital (beOwner s) = vital s := by
  simp only [beOwner, vital_ownerStreams, vital_pairmod, vital_driveTdm]

theorem vital_loseOwner (s : State) : vital (loseOwner s) = vital s := by
  simp only [loseOwner, vital_pairmod, vital_driveTdm]

theorem vital_snapBegin (s : State) : vital (snapBegin s) = vital s := by
  simp only [snapBegin, vital_pairmod]

theorem vital_pairMeet (s : State) : vital (pairMeet s) = vital s := by
  simp only [pairMeet]
  (repeat' split) <;> simp only [vital_pairmod, vital_pairGo, vital_beOwner, vital_snapBegin]

theorem vital_joinAlone (s : State) : vital (joinAlone s) = vital s := by
  simp only [joinAlone, vital_ite, ite_self, vital_pairGo, vital_beOwner]

theorem goes_execJoinWaitEnd (ownHeld : Bool) (s : State) : Goes (vital s) (execJoinWaitEnd ownHeld s) := by
  simp only [execJoinWaitEnd, goes_next, vital_ite, ite_self, vital_pairmod, vital_joinAlone]

theorem goes_execHeartbeatMiss (s : State) : Goes (vital s) (execHeartbeatMiss s) := by
  simp only [execHeartbeatMiss, goes_next, goes_ite, vital_pairmod]
  (repeat' split) <;> simp only [goes_next, vital_pairmod, vital_pairGo]

theorem goes_execPlLinkChange (up : Bool) (s : State) : Goes (vital s) (execPlLinkChange up s) := by
  simp only [execPlLinkChange, goes_next, goes_ite, ite_self, vital_pairmod, vital_joinAlone]

theorem goes_execOwnHwRelease (s : State) : Goes (vital s) (execOwnHwRelease s) := by
  simp only [execOwnHwRelease, goes_next, goes_ite, ite_self, vital_pairmod, vital_driveTdm]

theorem goes_execOwnRelease (s : State) : Goes (vital s) (execOwnRelease s) := by
  simp only [execOwnRelease, goes_next, goes_ite, vital_pairmod]
  (repeat' split) <;> simp only [goes_next, vital_pairmod, vital_pairGoFree, vital_beOwner]

theorem goes_execFailoverTdmDrive (ns : Nat) (s : State) : Goes (vital s) (execFailoverTdmDrive ns s) := by
  simp only [execFailoverTdmDrive, goes_next, goes_ite, vital_mk, vital_fields, ite_self, vital_pairmod]

theorem goes_execMirrorJoin (s : State) : Goes (vital s) (execMirrorJoin s) := by
  unfold execMirrorJoin
  (repeat' split) <;> simp only [goes_next, vital_ite, ite_self, vital_announce, vital_pairmod, vital_snapBegin]

theorem goes_execMirrorSynced (s : State) : Goes (vital s) (execMirrorSynced s) := by
  simp only [execMirrorSynced, goes_next, vital_ite, ite_self, vital_pairGo]

theorem goes_execMirrorUnsynced (s : State) : Goes (vital s) (execMirrorUnsynced s) := by
  simp only [execMirrorUnsynced, goes_next, vital_ite, ite_self, vital_pairGo]

theorem goes_execAlignFault (s : State) : Goes (vital s) (execAlignFault s) := by
  unfold execAlignFault
  (repeat' split) <;> simp only [goes_next, vital_pairmod, vital_pairGo]

theorem goes_execPairConfig (h : Hdr) (c : PairCfg) (target : Nat) (s : State) : Goes (vital s) (execPairConfig h c target s) := by
  refine goes_serve fun s => ?_
  simp only [after_chkRec, leaves_bind, leaves_okay, vital_ite, ite_self, implies_true, vital_announce, vital_schedQ]

theorem goes_execPairStatus (h : Hdr) (s : State) : Goes (vital s) (execPairStatus h s) := by
  refine goes_serve fun s => ?_
  simp only [after_chk, leaves_okay]

theorem vital_handoverAt (due : Nat) (s : State) : vital (handoverAt due s) = vital s := by
  simp only [handoverAt, vital_announce, vital_pairmod]

theorem goes_execPairHandover (h : Hdr) (flags target : Nat) (s : State) : Goes (vital s) (execPairHandover h flags target s) := by
  refine goes_serve fun s => ?_
  simp only [after_chk, leaves_bind, leaves_okay, leaves_ite, ite_self, implies_true, vital_pairmod, vital_handoverAt]

theorem goes_execDeviceIdSet (h : Hdr) (id : Nat) (s : State) : Goes (vital s) (execDeviceIdSet h id s) := by
  refine goes_serve fun s => ?_
  simp only [after_chkRec, leaves_bind, leaves_okay, implies_true, vital_cfgTouch, vital_setDeviceId]

theorem goes_execFarmStatus (h : Hdr) (s : State) : Goes (vital s) (execFarmStatus h s) := by
  refine goes_serve fun s => ?_
  simp only [after_chk, leaves_okay]

theorem vital_mirrorSched (i : Instr) (obj : Handle) (kind sample : Nat) (s : State) :
    vital (mirrorSched i obj kind sample s) = vital s := by
  unfold mirrorSched
  (repeat' split) <;> simp only [vital_schedQ]

theorem vital_mirrorRun (i : Instr) (s : State) : vital (mirrorRun i s) = vital s := by
  unfold mirrorRun
  (repeat' split) <;> simp only [goes_execSynDitherSet, goes_execDentCreate, goes_execDentSet, goes_execDentBankLoad,
    goes_execDentBankSwap, goes_execDentFlush, goes_execDentRelease, goes_execCalPolicy, goes_execWarpTune, goes_execWarpGain,
    goes_execWarpAgc, goes_execWeaveCreate, goes_execWeaveStart, goes_execWeaveStop, goes_execWeaveRelease, goes_execWeaveSet,
    goes_execServiceRelease, goes_execDigDecodeSet, goes_execFollowCreate, goes_execFollowSet, goes_execFollowRelease,
    goes_execFollowPolicy, goes_execTimePolicy, goes_execMeasWindow, goes_execMeasThreshold, goes_execLoudnessReset,
    goes_execAudioMonSet, goes_execVerifySet, goes_execVerifyClear, goes_execTdmPortConfig, goes_execTdmStreamCreate,
    goes_execTdmStreamRelease, goes_execAlignCreate, goes_execAlignAdd, goes_execAlignRemove, goes_execAlignRelease,
    goes_execEthStreamCreate, goes_execEthStreamRelease, goes_execPbConfig, goes_execPbPeriphCreate, goes_execPbPeriphRelease,
    goes_execHeddleRoute, vital_nextOr, vital_mirrorSched]

theorem vital_mirrorAs (obj : Handle) (i : Instr) (s : State) : vital (mirrorAs obj i s) = vital s := by
  simp only [mirrorAs, vital_pairmod, vital_mirrorRun]

theorem vital_diverge (s : State) : vital (diverge s) = vital s := by
  simp only [diverge, vital_drawn, vital_pairmod]

theorem vital_issueDent (h : Handle) (b : List Byte) (s : State) : vital (issueDent h b s) = vital s := by
  simp only [issueDent, vital_mk, vital_fields, vital_issueAs, vital_applyDentCreate]

theorem vital_issueWeave (h : Handle) (b : List Byte) (s : State) : vital (issueWeave h b s) = vital s := by
  unfold issueWeave
  extract_lets i shed dents type x k blk r t none d y u v w
  split
  next => simp only [vital_vmod, vital_ite, vital_omod, ite_self]
  next =>
    have hv : vital v = vital s := by simp only [v, u, t, vital_ite, vital_mk, vital_fields, vital_issueAs, ite_self]
    rw [vital_applyWeaveCreate]
    simp only [w]
    split
    next => exact (vital_srcMod ..).trans hv
    next => exact hv

theorem vital_issueSvc (h : Handle) (b : List Byte) (s : State) : vital (issueSvc h b s) = vital s := by
  simp only [issueSvc]
  (repeat' split) <;> simp only [vital_mk, vital_fields, implies_true, vital_foldl, vital_ev, vital_omod, vital_issueAs]

theorem vital_issueCompAs (h : Handle) (b : List Byte) (s : State) : vital (issueCompAs h b s) = vital s := by
  simp only [issueCompAs, vital_mk, vital_fields, vital_issueAs]

theorem vital_applyIssue (a : Ann) (s : State) : vital (applyIssue a s) = vital s := by
  unfold applyIssue
  (repeat' split) <;> simp only [vital_issueDent, vital_issueWeave, vital_issueSvc, vital_issueCompAs]

theorem vital_applyRelease (h : Handle) (s : State) : vital (applyRelease h s).2 = vital s := by
  simp only [applyRelease, vital_ite_snd, ite_self, vital_freeComp, vital_release]

theorem vital_applySched (a : Ann) (s : State) : vital (applySched a s) = vital s := by
  unfold applySched
  (repeat' split) <;> simp only [vital_ite, ite_self, vital_omod, vital_vmod, vital_shedWeave]

theorem vital_applyFollow (a : Ann) (s : State) : vital (applyFollow a s) = vital s := by
  unfold applyFollow
  (repeat' split) <;> simp only [vital_schedQ, vital_fmod]

theorem vital_annGain (a : Ann) (s : State) : vital (annGain a s) = vital s := by
  simp only [annGain, vital_ite, ite_self, vital_schedQ, vital_applyGain, vital_diverge]

theorem vital_annHold (a : Ann) (s : State) : vital (annHold a s) = vital s := by
  simp only [annHold, vital_pairmod]

theorem vital_annApply (a : Ann) (s : State) : vital (annApply a s) = vital s := by
  unfold annApply
  extract_lets past
  split
  next =>
    split
    next => exact vital_mirrorAs ..
    next => rfl
  next => exact vital_annGain a s
  next => simp only [vital_ite, vital_diverge, vital_applyIssue, vital_annHold, ite_self]
  next =>
    split
    next =>
      split
      next hrel => rw [vital_settle, vital_of_pair hrel (vital_applyRelease ..), vital_diverge]
    next => exact vital_annHold a s
  next => simp only [vital_ite, vital_settle, vital_diverge, vital_applySched, vital_annHold, ite_self]
  next => simp only [vital_applyFollow, vital_ite, vital_diverge, ite_self]
  next => simp only [vital_ite, vital_annHold, ite_self]
  next => exact vital_annHold a s

theorem vital_takeSegment (b : List Byte) (s : State) : vital (takeSegment b s) = vital s := by
  simp only [takeSegment, vital_pairmod]

theorem vital_takeAnn (mode : Nat) (s : State) (a : Ann) : vital (takeAnn mode s a) = vital s := by
  unfold takeAnn
  (repeat' split) <;> simp only [vital_pairmod, vital_annHold, vital_annApply, vital_takeSegment]

theorem vital_takeRequest (s : State) (a : Ann) : vital (takeRequest s a) = vital s := by
  unfold takeRequest
  (repeat' split) <;> simp only [vital_handoverAt]

theorem vital_takeItem (s : State) (x : Nat × Nat × List Byte) : vital (takeItem s x) = vital s := by
  simp only [takeItem, vital_ite, ite_self, implies_true, vital_foldl, vital_schedQ]

theorem goes_execPlFrameReceive (f : PlFrame) (s : State) : Goes (vital s) (execPlFrameReceive f s) := by
  simp only [execPlFrameReceive, goes_next, goes_ite, vital_ite, ite_self, implies_true, vital_foldl, vital_pairmod, vital_pairMeet,
    vital_takeAnn, vital_takeRequest, vital_takeItem]

theorem vital_snapReady (s : State) : vital (snapReady s) = vital s := by
  simp only [snapReady, vital_ite, ite_self, vital_pairmod]

theorem vital_sendFrame (s : State) : vital (sendFrame s) = vital s := by
  simp only [sendFrame, vital_ite, ite_self, vital_pairmod, vital_snapReady]

theorem vital_annsDrop (k : Nat) (s : State) : vital (annsDrop k s) = vital s := by
  simp only [annsDrop, vital_pairmod]

theorem vital_annReleases (s : State) : vital (annReleases s).2 = vital s := by
  simp only [annReleases, implies_true, vital_foldl_snd, vital_applyRelease, vital_annsDrop]

theorem vital_annIssues (s : State) : vital (annIssues s) = vital s := by
  simp only [annIssues, implies_true, vital_foldl, vital_applyIssue, vital_applySched, vital_annsDrop]

theorem vital_annTunes (s : State) : vital (annTunes s) = vital s := by
  simp only [annTunes, implies_true, vital_foldl, vital_diverge, vital_annsDrop]

theorem vital_releaseAll (s : State) : vital (releaseAll s).2 = vital s := by
  simp only [releaseAll, vital_mk, vital_fields, implies_true, vital_foldl_snd, vital_applyRelease]

theorem vital_asBefore {f : State → State} (h : ∀ t, vital (f t) = vital t) (s : State) : vital (asBefore f s) = vital s := by
  simp only [asBefore, vital_mk, vital_fields, h]

theorem vital_snapApply (since : Nat) (s : State) (a : Ann) : vital (snapApply since s a) = vital s := by
  unfold snapApply
  (repeat' split) <;> simp only [implies_true, vital_dmod, vital_mirrorAs, vital_applyIssue, vital_asBefore]

theorem vital_rebuildNow (s : State) : vital (rebuildNow s).2 = vital s := by
  simp only [rebuildNow]
  (repeat' split) <;> simp only [vital_mk, vital_fields, implies_true, vital_foldl, vital_pairmod, vital_annApply, vital_releaseAll,
    vital_asBefore, vital_snapApply]

theorem vital_snapOver (s : State) : vital (snapOver s) = vital s := by
  simp only [snapOver, vital_ite, ite_self, vital_pairmod]

theorem vital_dualOwner (s : State) : vital (dualOwner s) = vital s := by
  simp only [dualOwner, vital_ite, ite_self, vital_pairGo, vital_loseOwner]

theorem vital_pairInForce (c : PairCfg) (s : State) : vital (pairInForce c s) = vital s := by
  simp only [pairInForce, vital_ite, ite_self, vital_drawn, vital_pairmod, vital_pairGo, vital_pairGoFree, vital_driveTdm, vital_beOwner,
    vital_loseOwner]

theorem vital_takeNow (s : State) : vital (takeNow s).1 = vital s := by
  simp only [takeNow, vital_drawn, vital_ev, vital_sysmod, vital_pairmod, vital_beOwner]

theorem vital_handNow (s : State) : vital (handNow s).1 = vital s := by
  unfold handNow
  (repeat' split) <;> simp only [vital_ev, vital_sysmod, vital_pairmod, vital_driveTdm, vital_beOwner]

theorem vital_unpairOwner (s : State) : vital (unpairOwner s).1 = vital s := rfl

theorem vital_unpairSecond (s : State) : vital (unpairSecond s).1 = vital s := by
  simp only [unpairSecond, vital_mk, vital_fields, vital_cfgTouch, vital_writeRec, vital_sysmod, vital_pairmod]

theorem vital_mirrorNow (s : State) : vital (mirrorNow s).1 = vital s := by
  simp only [mirrorNow, vital_drawn, vital_sysmod, vital_pairmod]

theorem vital_pairTurn (s : State) : vital (pairTurn s).1 = vital s := by
  simp only [pairTurn]
  (repeat' split) <;> simp only [vital_takeNow, vital_handNow, vital_unpairSecond, vital_mirrorNow]

theorem vital_pairCfgDue (s : State) : vital (pairCfgDue s).1 = vital s := by
  unfold pairCfgDue
  split
  next =>
    split
    next =>
      dsimp only
      split
      · exact (vital_unpairOwner _).trans (vital_writeRec ..)
      · exact vital_writeRec ..
    next => rfl
  next => rfl

theorem vital_ownerFollows (s : State) : vital (ownerFollows s) = vital s := by
  unfold ownerFollows
  extract_lets high t
  have ht : vital t = vital s := (vital_foldl (fun s a => vital_pairmod ..) _ _).trans (vital_annsDrop ..)
  split
  next => exact ht
  next =>
    refine (vital_foldl (fun s x => ?_) _ _).trans ht
    split
    next => exact vital_pairmod ..
    next => exact vital_pairmod ..
    next => rfl

/-! Boundary. -/

theorem vital_reedEnd (i : PickInputs) (s : State) : vital (reedEnd i s) = vital s := by rfl

theorem vital_warpsEnd (i : PickInputs) (s : State) : vital (warpsEnd i s) = vital s := by
  simp only [warpsEnd, vital_ite, ite_self, implies_true, vital_foldl, vital_synthsEnd, vital_pointOpen, vital_calEnd, vital_agcEnd,
    vital_measEnd, vital_readTemp, vital_readProbeTemp, vital_reedEnd]

theorem vital_pickEnd (i : PickInputs) (s : State) : vital (pickEnd i s) = vital s := by
  simp only [pickEnd, vital_spend, vital_missesEnd, vital_heardEnd, vital_anaEnd, vital_digEnd, vital_followsEnd, vital_surveyEnd,
    vital_timeEnd, vital_measEndAll, vital_verifsEnd, vital_streamsEnd, vital_tbEnd, vital_feedsEnd, vital_sysmod, vital_warpsEnd]

theorem vital_numberTurn (i : PickInputs) (before : Timebase) (s : State) : vital (numberTurn i before s) = vital s := by
  simp only [numberTurn, vital_ite, ite_self, vital_latchCount, vital_ratesBoundary, vital_renumberStreams, vital_pbmod,
    vital_slewReached, vital_tbAdvance, vital_timingOut, vital_audioBoundary, vital_coreBoundary, vital_runStep, vital_enterReady,
    vital_pairmod]

theorem vital_taken (p : Pend) (s : State) : vital (taken p s) = vital s := by
  simp only [taken, vital_mk, vital_fields]

theorem vital_mirrorEntry (s : State) : vital (mirrorEntry s).2 = vital s := by
  simp only [mirrorEntry, vital_mk, vital_fields, implies_true, vital_foldl, vital_surveyStopNow, vital_probeMode, vital_tellDropped]

theorem vital_hostMode (m : Nat) (s : State) : vital (hostMode m s).2 = vital s := by
  simp only [hostMode, vital_ite_snd, ite_self, vital_surveyStopNow, vital_probeMode, vital_sysmod]

theorem vital_pairRecords (s : State) : vital (pairRecords s) = vital s := by
  refine vital_foldl (fun s p => ?_) _ s
  split
  next => simp only [vital_pairInForce, vital_taken]
  next => exact vital_taken ..

theorem vital_modeTurn (s : State) : vital (modeTurn s).2 = vital s := by
  simp only [modeTurn, vital_ite_snd, ite_self, vital_snapOver, vital_dualOwner, vital_ownerFollows, vital_mirrorEntry,
    vital_pairRecords, vital_pairTurn, vital_pairCfgDue]
  (repeat' split) <;> simp only [vital_probeStep, vital_snapOver, vital_dualOwner, vital_ownerFollows, vital_taken, vital_hostMode,
    vital_pairRecords, vital_pairTurn, vital_pairCfgDue]

theorem vital_hostDomains (s : State) : vital (hostDomains s).2 = vital s := by
  refine vital_foldl_snd (fun x p => ?_) _ _
  split
  next => simp only [vital_ite, vital_tellDropped, vital_taken, ite_self]
  next => exact vital_taken ..

theorem vital_domainOn (i : PickInputs) (d : Nat) (s : State) : vital (domainOn i d s) = vital s := by
  unfold domainOn
  (repeat' split) <;> simp only [vital_mk, vital_fields, implies_true, vital_foldl, vital_warpOn, vital_feedsOn, vital_probeOn]

theorem vital_domainOff (d : Nat) (s : State) : vital (domainOff d s) = vital s := by
  unfold domainOff
  (repeat' split) <;> simp only [vital_mk, vital_fields, implies_true, vital_foldl, vital_warpOff, vital_feedsOff]

theorem vital_domainTurn (i : PickInputs) (t : Turn) (s : State) : vital (domainTurn i t s) = vital s := by
  simp only [domainTurn, implies_true, vital_foldl, vital_evs, vital_settle, vital_domainOn, vital_domainOff]
  (repeat' split) <;> simp only [vital_ev, vital_announce, vital_probeOff, vital_sysmod, vital_hostDomains]

theorem vital_fullAfter (l : List SvcChange) (s : State) : vital (fullAfter l s) = vital s := by
  simp only [fullAfter, vital_tellFull]

theorem vital_andRel {x : List Handle × State} {f : State → List Handle × State} (h : ∀ t, vital (f t).2 = vital t) :
    vital (andRel x f).2 = vital x.2 := h x.2

theorem vital_objectTurn (unpaired : Bool) (s : State) : vital (objectTurn unpaired s) = vital s := by
  simp only [objectTurn, vital_ite_snd, ite_self, implies_true, vital_foldl_snd, vital_svcDue, vital_tellFull, vital_digDue,
    vital_visitLeave, vital_releaseEffect, vital_createEffect, vital_runAll, vital_settle, vital_annReleases, vital_annIssues,
    vital_releaseAll, vital_rebuildNow, vital_fullAfter, vital_andRel]

theorem vital_frontTurn (s : State) : vital (frontTurn s) = vital s := by
  simp only [frontTurn, implies_true, vital_foldl, vital_calBoundary, vital_visitBegin, vital_surveyPlace, vital_presetsDue,
    vital_probeWait, vital_probeRun, vital_measRun, vital_runStep, vital_settle, vital_annTunes]

theorem vital_dataTurn (s : State) : vital (dataTurn s) = vital s := by
  simp only [dataTurn, implies_true, vital_shedMissed, vital_candsTurn, vital_fadesAt, vital_runStep, vital_releaseEffect, vital_runAll,
    vital_settle]

theorem vital_ethTurn (s : State) : vital (ethTurn s) = vital s := by
  simp only [ethTurn, vital_mk, vital_fields, vital_ite, ite_self, implies_true, vital_foldl, vital_freeUdpSess, vital_takeEffect]

theorem vital_outputTurn (s : State) : vital (outputTurn s) = vital s := by
  simp only [outputTurn, vital_settleCount, vital_timeDue, vital_runStep, vital_ethTurn]

theorem vital_sampleTurn (s : State) (l : List Pend) (j : Nat) : vital (sampleTurn s l j) = vital s := by
  simp only [sampleTurn, implies_true, vital_foldl, vital_fadesAt, vital_takeEffect]

theorem vital_samplesTurn (s : State) : vital (samplesTurn s) = vital s := by
  simp only [samplesTurn, vital_ite, ite_self, implies_true, vital_foldl, vital_takeEffect, vital_sampleTurn]

theorem vital_firstBoundary (s : State) : vital (firstBoundary s) = vital s := by
  simp only [firstBoundary, vital_latchCount, vital_timingOut, vital_sysmod]

theorem vital_nextBoundary (i : PickInputs) (s : State) : vital (nextBoundary i s) = vital s := by
  simp only [nextBoundary, vital_ite, ite_self, implies_true, vital_foldl, vital_hopWake, vital_loudStarts, vital_writeConfig,
    vital_pickInEnd, vital_movesStart, vital_alignDelays, vital_settle, vital_sendFrame, vital_pickEnd, vital_numberTurn, vital_modeTurn,
    vital_domainTurn, vital_objectTurn, vital_frontTurn, vital_dataTurn, vital_outputTurn, vital_samplesTurn]

theorem goes_execPickBoundary (i : PickInputs) (s : State) : Goes (vital s) (execPickBoundary i s) := by
  simp only [execPickBoundary, goes_next, goes_ite, vital_ite, ite_self, implies_true, vital_measureRing, vital_prmod, vital_protomod,
    vital_firstBoundary, vital_nextBoundary]

/-! Step. -/

theorem vital_State.withFetchWord (s : State) (nbits w : Nat) : vital (State.withFetchWord s nbits w) = vital s := by rfl

end Sys2Proof.Proofs

/-! PROOFS. Every step goes on and keeps the invariant: what resets the module, ticks the clock, takes events, sets the weekday or blows the
fuse keeps it by its own reasons, everything else leaves what it speaks of as it is. -/

namespace Sys2Proof.Proofs

open Sys2Proof Sys2Proof.Machine

/-- From one state to another the invariant is kept, and a blown lock fuse is blown. -/
def Keeps (s t : State) : Prop := (Inv s → Inv t) ∧ (s.fw.locked = true → t.fw.locked = true)

/-- The invariant is a matter of the queue's bound and the weekday. -/
theorem inv_iff (s : State) : Inv s ↔ Bounded s.proto.events ∧ s.rtc.weekday < 7 := Iff.rfl

/-- What leaves all of it as it was keeps it. -/
theorem keeps_of_vital {s t : State} (h : vital t = vital s) : Keeps s t := by
  obtain ⟨hb, hw, hl⟩ : Bounded t.proto.events = Bounded s.proto.events ∧ t.rtc.weekday = s.rtc.weekday ∧ t.fw.locked = s.fw.locked := by
    simpa only [vital, vitalOf, Prod.mk.injEq] using h
  rw [Keeps, inv_iff, inv_iff, hb, hw, hl]
  exact ⟨id, id⟩

theorem keeps_trans {s t u : State} (h : Keeps s t) (k : Keeps t u) : Keeps s u := ⟨k.1 ∘ h.1, k.2 ∘ h.2⟩

/-- Whether it is kept is a matter of `vital` alone. -/
theorem keeps_congr {s t u : State} (h : vital t = vital u) (k : Keeps s u) : Keeps s t := keeps_trans k (keeps_of_vital h)

/-- The clock runs on within the week. -/
theorem keeps_of_weekday {s t : State} (he : t.proto.events = s.proto.events) (hw : s.rtc.weekday < 7 → t.rtc.weekday < 7)
    (hf : t.fw.locked = s.fw.locked) : Keeps s t := by
  rw [Keeps, inv_iff, inv_iff, he, hf]
  exact ⟨fun ⟨hb, hd⟩ => ⟨hb, hw hd⟩, id⟩

/-- A queue with fewer entries, or the same ones, is bounded where it was before. -/
theorem bounded_of_sublist {l m : List Event} (h : l.Sublist m) (hm : Bounded m) : Bounded l := by
  rcases h.length_le.lt_or_eq with hlt | heq
  · refine .inl ?_
    rcases hm with hm | ⟨hm, -⟩ <;> omega
  · rwa [h.eq_of_length heq]

/-- Fewer events keep it. -/
theorem keeps_of_events {s t : State} (he : t.proto.events.Sublist s.proto.events) (hw : t.rtc.weekday = s.rtc.weekday)
    (hf : t.fw.locked = s.fw.locked) : Keeps s t := by
  rw [Keeps, inv_iff, inv_iff, hw, hf]
  exact ⟨fun ⟨hb, hd⟩ => ⟨bounded_of_sublist he hb, hd⟩, id⟩

/-! What resets the module. -/

theorem keeps_resetState (keep : Bool) (s : State) : Keeps s (resetState keep s) :=
  keeps_trans (keeps_of_vital (vital_finishWrites s)) (keeps_of_events (List.nil_sublist _) rfl rfl)

theorem keeps_toBackup (c : ResetCause) (keep : Bool) (s : State) : Keeps s (toBackup c keep s) := by
  unfold toBackup
  split
  · exact keeps_of_vital (vital_sysmod ..)
  · exact keeps_trans (keeps_of_vital (vital_sysmod ..)) (keeps_resetState ..)

theorem keeps_resetNow (c : ResetCause) (s : State) : Keeps s (resetNow c s) :=
  keeps_congr (vital_leaveBackup _) (keeps_toBackup ..)

theorem keeps_resetAsked (s : State) : Keeps s (resetAsked s) := by
  unfold resetAsked
  split
  · exact keeps_congr ((vital_leaveBackup _).trans (vital_sysmod ..)) (keeps_toBackup ..)
  · exact keeps_of_vital rfl

theorem keeps_resetIfSent (s : State) : Keeps s (resetIfSent s) := by
  unfold resetIfSent
  split
  · split
    · split
      · exact keeps_resetAsked s
      · exact keeps_of_vital rfl
    · exact keeps_of_vital rfl
  · exact keeps_of_vital rfl

/-- An outcome is a next state that keeps it. -/
def Moves (s : State) (o : Host.Outcome State Fault Refusal) : Prop := ∃ t, o = .next t ∧ Keeps s t

theorem moves_next {s t : State} (h : Keeps s t) : Moves s (.next t) := ⟨t, rfl, h⟩

theorem moves_of_goes {s : State} {o : Host.Outcome State Fault Refusal} (h : Goes (vital s) o) : Moves s o :=
  h.imp fun _ ht => ⟨ht.1, keeps_of_vital ht.2⟩

theorem moves_thenReset {s : State} {o : Host.Outcome State Fault Refusal} (h : Moves s o) : Moves s (thenReset o) := by
  obtain ⟨t, rfl, ht⟩ := h
  exact moves_next (keeps_trans ht (keeps_resetIfSent t))

theorem moves_execSysReset (h : Hdr) (kind confirm : Nat) (s : State) : Moves s (execSysReset h kind confirm s) := by
  refine moves_thenReset (moves_of_goes (goes_serve fun s => ?_))
  simp only [after_chk, leaves_bind, leaves_okay, vital_askReset, implies_true]

theorem moves_execFwBoot (h : Hdr) (source flags confirm : Nat) (s : State) : Moves s (execFwBoot h source flags confirm s) := by
  refine moves_thenReset (moves_of_goes (goes_serve fun s => ?_))
  simp only [after_chk, leaves_bind, leaves_okay, vital_askReset, vital_ite, vital_fwmod, implies_true, ite_self]

theorem moves_execResetDeadline (s : State) : Moves s (execResetDeadline s) := moves_next (keeps_resetAsked s)

theorem moves_execEthLinkChange (port : Fin 2) (up : Bool) (s : State) : Moves s (execEthLinkChange port up s) := by
  unfold execEthLinkChange
  extract_lets c t
  have ht : Keeps s t := keeps_of_vital (vital_setLink ..)
  split
  · refine moves_next ?_
    split
    · exact keeps_trans (keeps_congr (vital_foldl (fun s k => vital_udpSend k s) _ t) ht) (keeps_resetIfSent _)
    · exact ht
  · exact moves_next (keeps_of_vital rfl)

theorem moves_execPfail (s : State) : Moves s (execPfail s) :=
  moves_next (keeps_congr (vital_sysmod ..) (keeps_trans (keeps_of_vital (vital_drawn s)) (keeps_toBackup ..)))

theorem moves_execResetNAssert (s : State) : Moves s (execResetNAssert s) :=
  moves_next (keeps_congr (vital_sysmod ..) (keeps_toBackup ..))

theorem moves_execWatchdogExpiry (s : State) : Moves s (execWatchdogExpiry s) := by
  unfold execWatchdogExpiry
  split
  · exact moves_next (keeps_resetNow ..)
  · exact moves_next (keeps_of_vital rfl)

theorem moves_execRailFault (d : Fin 10) (s : State) : Moves s (execRailFault d s) := by
  unfold execRailFault
  split
  · exact moves_next (keeps_of_vital rfl)
  · split
    · exact moves_next (keeps_resetNow ..)
    · exact moves_next (keeps_of_vital (vital_sysmod ..))

theorem moves_execFirmwareStart (s : State) : Moves s (execFirmwareStart s) := by
  unfold execFirmwareStart
  split
  · split
    · extract_lets t u en
      have hu : Keeps s u := keeps_of_vital (by
        simp only [u, t, vital_measureRing, vital_drawn, vital_sysmod, vital_fwmod, implies_true])
      exact moves_next (keeps_congr (vital_loadCal _) (keeps_trans hu (keeps_of_events (List.nil_sublist _) rfl rfl)))
    · exact moves_next (keeps_of_vital rfl)
  · exact moves_next (keeps_of_vital rfl)

theorem moves_execSpiRead (clocked : Nat) (s : State) : Moves s (execSpiRead clocked s) := by
  unfold execSpiRead
  split
  · exact moves_next (keeps_of_vital rfl)
  · split
    extract_lets out again done t
    have ht : Keeps s t := keeps_of_vital ((vital_countRepeat ..).trans (vital_protomod (fun _ => rfl) s))
    refine moves_next ?_
    split
    · exact keeps_trans ht (keeps_resetAsked t)
    · exact ht

/-- A transfer on the management bus keeps it where what it does keeps it. -/
theorem moves_onMb {f : State → State} (h : ∀ t, Keeps t (f t)) (s : State) : Moves s (onMb f s) := by
  refine moves_next ?_
  split
  · exact keeps_of_vital rfl
  · exact keeps_trans (keeps_of_vital (vital_mbTransfer s)) (h _)

theorem moves_execMbReplyGet (whole stop : Bool) (s : State) : Moves s (execMbReplyGet whole stop s) := by
  refine moves_onMb (fun s => ?_) s
  extract_lets x
  split
  extract_lets n k d last t u v
  have hu : Keeps s u := keeps_of_vital ((vital_countRepeat ..).trans (vital_offer ..))
  split
  · have hv : Keeps s v := keeps_congr ((vital_mbmod ..).trans (vital_protomod (fun _ => rfl) u)) hu
    split
    · exact keeps_trans hv (keeps_resetAsked v)
    · exact hv
  · split
    · exact keeps_congr (vital_mbmod ..) hu
    · exact hu

/-! What turns the clock. -/

/-- The weekday after a tick is a weekday. -/
theorem keeps_tickOnce (s : State) : Keeps s (tickOnce s) := by
  unfold tickOnce
  extract_lets c cross t
  refine keeps_congr (vital_foldl (fun u k => ?_) _ t) (keeps_of_weekday rfl (fun hw => ?_) rfl)
  · simp only [vital_ite, vital_alarmFire, ite_self]
  · change (if cross then (s.rtc.weekday + 1) % 7 else s.rtc.weekday) < 7
    split <;> omega

theorem moves_execRtcTick (s : State) : Moves s (execRtcTick s) := by
  unfold execRtcTick
  split
  · exact moves_next (keeps_of_vital rfl)
  · extract_lets c last b t fix u
    refine moves_next (keeps_congr (vital_rmod (fun _ => rfl) u) ?_)
    simp only [u]
    split
    · exact keeps_of_vital rfl
    · split
      · exact keeps_trans (keeps_tickOnce s) (keeps_tickOnce _)
      · exact keeps_tickOnce s

/-- A clock that loses its supply starts again on the first day of the week. -/
theorem moves_execBackupCollapse (s : State) : Moves s (execBackupCollapse s) := by
  unfold execBackupCollapse
  split
  · exact moves_next (keeps_of_weekday rfl (fun _ => Nat.zero_lt_succ 6) rfl)
  · exact moves_next (keeps_of_vital rfl)

theorem moves_execD0PowerUp (s : State) : Moves s (execD0PowerUp s) := by
  unfold execD0PowerUp
  split
  · exact moves_next (keeps_of_vital rfl)
  · exact moves_next (keeps_of_weekday rfl (fun _ => Nat.zero_lt_succ 6) rfl)

/-! Commands that touch it by their own effect. -/

/-- A command served keeps it where its own effect keeps it. -/
theorem moves_serve {i : Instr} {op : Nat} {r : Right} {k : Key} {h : Hdr} {obj : Handle} {body : State → Ans} {s : State}
    (hb : ∀ t, Lands (Keeps t) (body t)) : Moves s (serve i op r k h obj body s) := by
  refine serve_lands (fun _ _ => keeps_congr) (keeps_of_vital rfl) fun t ht => ?_
  have hbt := hb t
  cases hx : body t with
  | fail c => trivial
  | done c p u => rw [hx] at hbt; exact keeps_trans ht hbt
  | bad c u => rw [hx] at hbt; exact keeps_trans ht hbt
  | hold u => rw [hx] at hbt; exact keeps_trans ht hbt

/-- A chain lands where it ends well. -/
theorem lands_chk {P : State → Prop} {x : Chk (Status × List Byte × State)} (h : ∀ c p t, x = .ok (c, p, t) → P t) : Lands P (chk x) := by
  rcases x with c | ⟨c, p, t⟩
  · trivial
  · exact h c p t rfl

/-- So does one of a command whose setting a record holds. -/
theorem lands_chkRec {P : State → Prop} {i : Nat} {s : State} {x : Chk (Status × List Byte × State)} (hr : P (refuseRec i s))
    (h : ∀ c p t, x = .ok (c, p, t) → P t) : Lands P (chkRec i s x) := by
  rcases x with c | ⟨c, p, t⟩
  · simp only [chkRec]
    split
    · exact hr
    · trivial
  · exact h c p t rfl

/-- A check that passed held. -/
theorem need_eq_ok {b : Bool} {c : Status} {a : Unit} (h : need b c = .ok a) : b = true := by
  cases b
  · cases h
  · rfl

/-- Entries acknowledged leave the queue, and the rest stay in order. -/
theorem moves_execSysEventRead (h : Hdr) (ack max : Nat) (s : State) : Moves s (execSysEventRead h ack max s) := by
  refine moves_serve fun s => lands_chk fun c p t hx => ?_
  simp only [chk_bind_eq_ok] at hx
  obtain ⟨-, -, hx⟩ := hx
  cases hx
  refine keeps_of_events ?_ rfl rfl
  change (if ack = 0 then s.proto.events else s.proto.events.filter _).Sublist s.proto.events
  split
  · exact List.Sublist.refl _
  · exact List.filter_sublist

/-- A weekday is checked before it is set. -/
theorem moves_execRtcWeekdaySet (h : Hdr) (weekday offset : Nat) (s : State) : Moves s (execRtcWeekdaySet h weekday offset s) := by
  refine moves_serve fun s => lands_chkRec (keeps_of_vital rfl) fun c p t hx => ?_
  simp only [chk_bind_eq_ok] at hx
  obtain ⟨_, hneed, _, -, hx⟩ := hx
  have hweek := (Bool.and_eq_true_iff.mp (need_eq_ok hneed)).1
  cases hx
  exact keeps_of_weekday rfl (fun _ => of_decide_eq_true hweek) rfl

/-- The fuse is blown and nothing else changes. -/
theorem moves_execLifecycleLock (h : Hdr) (confirm : Nat) (s : State) : Moves s (execLifecycleLock h confirm s) := by
  refine moves_serve fun s => lands_chk fun c p t hx => ?_
  simp only [chk_bind_eq_ok] at hx
  obtain ⟨_, -, _, -, hx⟩ := hx
  cases hx
  exact ⟨id, fun _ => rfl⟩

/-! The step. -/

/-- Every command goes on and keeps it. -/
theorem moves_exec (i : Instr) (s : State) : Moves s (exec i s) := by
  cases i with
  | sysIdent => exact moves_of_goes (goes_execSysIdent ..)
  | sysStatus => exact moves_of_goes (goes_execSysStatus ..)
  | sysModeSet => exact moves_of_goes (goes_execSysModeSet ..)
  | sysDomainSet => exact moves_of_goes (goes_execSysDomainSet ..)
  | sysReset => exact moves_execSysReset ..
  | sysEventRead => exact moves_execSysEventRead ..
  | sysEventNotify => exact moves_of_goes (goes_execSysEventNotify ..)
  | sysProtoStatus => exact moves_of_goes (goes_execSysProtoStatus ..)
  | sysEventCount => exact moves_of_goes (goes_execSysEventCount ..)
  | pbConfig => exact moves_of_goes (goes_execPbConfig ..)
  | pbPeriphCreate => exact moves_of_goes (goes_execPbPeriphCreate ..)
  | pbPeriphRelease => exact moves_of_goes (goes_execPbPeriphRelease ..)
  | pbTransfer => exact moves_of_goes (goes_execPbTransfer ..)
  | pbStatus => exact moves_of_goes (goes_execPbStatus ..)
  | sessionOpen => exact moves_of_goes (goes_execSessionOpen ..)
  | sessionProve => exact moves_of_goes (goes_execSessionProve ..)
  | sessionClose => exact moves_of_goes (goes_execSessionClose ..)
  | sessionStatus => exact moves_of_goes (goes_execSessionStatus ..)
  | rolekeySet => exact moves_of_goes (goes_execRolekeySet ..)
  | auditRead => exact moves_of_goes (goes_execAuditRead ..)
  | auditClear => exact moves_of_goes (goes_execAuditClear ..)
  | tbConfig => exact moves_of_goes (goes_execTbConfig ..)
  | tbStatus => exact moves_of_goes (goes_execTbStatus ..)
  | tbPhaseStep => exact moves_of_goes (goes_execTbPhaseStep ..)
  | tbSetSeconds => exact moves_of_goes (goes_execTbSetSeconds ..)
  | clkConfig => exact moves_of_goes (goes_execClkConfig ..)
  | clkStatus => exact moves_of_goes (goes_execClkStatus ..)
  | portConfig => exact moves_of_goes (goes_execPortConfig ..)
  | portStatus => exact moves_of_goes (goes_execPortStatus ..)
  | feedSet => exact moves_of_goes (goes_execFeedSet ..)
  | feedReset => exact moves_of_goes (goes_execFeedReset ..)
  | heddleRoute => exact moves_of_goes (goes_execHeddleRoute ..)
  | warpTune => exact moves_of_goes (goes_execWarpTune ..)
  | warpGain => exact moves_of_goes (goes_execWarpGain ..)
  | warpAgc => exact moves_of_goes (goes_execWarpAgc ..)
  | warpStatus => exact moves_of_goes (goes_execWarpStatus ..)
  | synStatus => exact moves_of_goes (goes_execSynStatus ..)
  | synDitherSet => exact moves_of_goes (goes_execSynDitherSet ..)
  | synProfileStore => exact moves_of_goes (goes_execSynProfileStore ..)
  | synProfileRead => exact moves_of_goes (goes_execSynProfileRead ..)
  | synProfileClear => exact moves_of_goes (goes_execSynProfileClear ..)
  | dentCreate => exact moves_of_goes (goes_execDentCreate ..)
  | dentSet => exact moves_of_goes (goes_execDentSet ..)
  | dentBankLoad => exact moves_of_goes (goes_execDentBankLoad ..)
  | dentBankSwap => exact moves_of_goes (goes_execDentBankSwap ..)
  | dentFlush => exact moves_of_goes (goes_execDentFlush ..)
  | dentRelease => exact moves_of_goes (goes_execDentRelease ..)
  | dentStatus => exact moves_of_goes (goes_execDentStatus ..)
  | reedStatus => exact moves_of_goes (goes_execReedStatus ..)
  | dentBankRead => exact moves_of_goes (goes_execDentBankRead ..)
  | weaveCreate => exact moves_of_goes (goes_execWeaveCreate ..)
  | weaveStart => exact moves_of_goes (goes_execWeaveStart ..)
  | weaveStop => exact moves_of_goes (goes_execWeaveStop ..)
  | weaveRelease => exact moves_of_goes (goes_execWeaveRelease ..)
  | weaveSet => exact moves_of_goes (goes_execWeaveSet ..)
  | weaveStatus => exact moves_of_goes (goes_execWeaveStatus ..)
  | schedStatus => exact moves_of_goes (goes_execSchedStatus ..)
  | fmStatus => exact moves_of_goes (goes_execFmStatus ..)
  | amStatus => exact moves_of_goes (goes_execAmStatus ..)
  | fmAfRead => exact moves_of_goes (goes_execFmAfRead ..)
  | dabStatus => exact moves_of_goes (goes_execDabStatus ..)
  | dabSubchRead => exact moves_of_goes (goes_execDabSubchRead ..)
  | dabTiiRead => exact moves_of_goes (goes_execDabTiiRead ..)
  | drmStatus => exact moves_of_goes (goes_execDrmStatus ..)
  | digDecodeSet => exact moves_of_goes (goes_execDigDecodeSet ..)
  | surveyStart => exact moves_of_goes (goes_execSurveyStart ..)
  | surveyStop => exact moves_of_goes (goes_execSurveyStop ..)
  | surveyStatus => exact moves_of_goes (goes_execSurveyStatus ..)
  | serviceList => exact moves_of_goes (goes_execServiceList ..)
  | serviceRead => exact moves_of_goes (goes_execServiceRead ..)
  | componentRead => exact moves_of_goes (goes_execComponentRead ..)
  | labelRead => exact moves_of_goes (goes_execLabelRead ..)
  | linkRead => exact moves_of_goes (goes_execLinkRead ..)
  | serviceRelease => exact moves_of_goes (goes_execServiceRelease ..)
  | timePolicy => exact moves_of_goes (goes_execTimePolicy ..)
  | timeStatus => exact moves_of_goes (goes_execTimeStatus ..)
  | followCreate => exact moves_of_goes (goes_execFollowCreate ..)
  | followSet => exact moves_of_goes (goes_execFollowSet ..)
  | followCommit => exact moves_of_goes (goes_execFollowCommit ..)
  | followRelease => exact moves_of_goes (goes_execFollowRelease ..)
  | followStatus => exact moves_of_goes (goes_execFollowStatus ..)
  | followPolicy => exact moves_of_goes (goes_execFollowPolicy ..)
  | measRead => exact moves_of_goes (goes_execMeasRead ..)
  | measWindow => exact moves_of_goes (goes_execMeasWindow ..)
  | measThreshold => exact moves_of_goes (goes_execMeasThreshold ..)
  | loudnessRead => exact moves_of_goes (goes_execLoudnessRead ..)
  | loudnessReset => exact moves_of_goes (goes_execLoudnessReset ..)
  | audioMonSet => exact moves_of_goes (goes_execAudioMonSet ..)
  | verifySet => exact moves_of_goes (goes_execVerifySet ..)
  | verifyClear => exact moves_of_goes (goes_execVerifyClear ..)
  | verifyStatus => exact moves_of_goes (goes_execVerifyStatus ..)
  | tdmPortConfig => exact moves_of_goes (goes_execTdmPortConfig ..)
  | tdmPortStatus => exact moves_of_goes (goes_execTdmPortStatus ..)
  | tdmStreamCreate => exact moves_of_goes (goes_execTdmStreamCreate ..)
  | tdmStreamRelease => exact moves_of_goes (goes_execTdmStreamRelease ..)
  | alignCreate => exact moves_of_goes (goes_execAlignCreate ..)
  | alignAdd => exact moves_of_goes (goes_execAlignAdd ..)
  | alignRemove => exact moves_of_goes (goes_execAlignRemove ..)
  | alignRelease => exact moves_of_goes (goes_execAlignRelease ..)
  | alignStatus => exact moves_of_goes (goes_execAlignStatus ..)
  | ethPortConfig => exact moves_of_goes (goes_execEthPortConfig ..)
  | ethPortStatus => exact moves_of_goes (goes_execEthPortStatus ..)
  | ethStreamCreate => exact moves_of_goes (goes_execEthStreamCreate ..)
  | ethStreamRelease => exact moves_of_goes (goes_execEthStreamRelease ..)
  | ethStreamStatus => exact moves_of_goes (goes_execEthStreamStatus ..)
  | rtcRead => exact moves_of_goes (goes_execRtcRead ..)
  | rtcSet => exact moves_of_goes (goes_execRtcSet ..)
  | rtcTrim => exact moves_of_goes (goes_execRtcTrim ..)
  | rtcAlarmSet => exact moves_of_goes (goes_execRtcAlarmSet ..)
  | rtcStatus => exact moves_of_goes (goes_execRtcStatus ..)
  | rtcWeekdaySet => exact moves_execRtcWeekdaySet ..
  | rtcConfig => exact moves_of_goes (goes_execRtcConfig ..)
  | dateToTicks => exact moves_of_goes (goes_execDateToTicks ..)
  | ticksToDate => exact moves_of_goes (goes_execTicksToDate ..)
  | recordStatus => exact moves_of_goes (goes_execRecordStatus ..)
  | recordRead => exact moves_of_goes (goes_execRecordRead ..)
  | recordResolve => exact moves_of_goes (goes_execRecordResolve ..)
  | limitsWrite => exact moves_of_goes (goes_execLimitsWrite ..)
  | trimWrite => exact moves_of_goes (goes_execTrimWrite ..)
  | fwStatus => exact moves_of_goes (goes_execFwStatus ..)
  | fwLoadBegin => exact moves_of_goes (goes_execFwLoadBegin ..)
  | fwLoadData => exact moves_of_goes (goes_execFwLoadData ..)
  | fwLoadEnd => exact moves_of_goes (goes_execFwLoadEnd ..)
  | fwBoot => exact moves_execFwBoot ..
  | fwKeyWrite => exact moves_of_goes (goes_execFwKeyWrite ..)
  | lifecycleLock => exact moves_execLifecycleLock ..
  | pairConfig => exact moves_of_goes (goes_execPairConfig ..)
  | pairStatus => exact moves_of_goes (goes_execPairStatus ..)
  | pairHandover => exact moves_of_goes (goes_execPairHandover ..)
  | deviceIdSet => exact moves_of_goes (goes_execDeviceIdSet ..)
  | farmStatus => exact moves_of_goes (goes_execFarmStatus ..)
  | calPolicy => exact moves_of_goes (goes_execCalPolicy ..)
  | calRequest => exact moves_of_goes (goes_execCalRequest ..)
  | calStatus => exact moves_of_goes (goes_execCalStatus ..)
  | calResultRead => exact moves_of_goes (goes_execCalResultRead ..)
  | calSnapshot => exact moves_of_goes (goes_execCalSnapshot ..)
  | tunerPresetWrite => exact moves_of_goes (goes_execTunerPresetWrite ..)
  | tunerPresetRead => exact moves_of_goes (goes_execTunerPresetRead ..)
  | tunerSelect => exact moves_of_goes (goes_execTunerSelect ..)
  | tunerStatus => exact moves_of_goes (goes_execTunerStatus ..)
  | probeStart => exact moves_of_goes (goes_execProbeStart ..)
  | probeStop => exact moves_of_goes (goes_execProbeStop ..)
  | probeStatus => exact moves_of_goes (goes_execProbeStatus ..)
  | mismatchMeasure => exact moves_of_goes (goes_execMismatchMeasure ..)
  | mismatchRead => exact moves_of_goes (goes_execMismatchRead ..)
  | spiWrite => exact moves_of_goes (goes_execSpiWrite ..)
  | spiRead => exact moves_execSpiRead ..
  | spiStatusOnly => exact moves_of_goes (goes_execSpiStatusOnly ..)
  | udpPacketArrival => exact moves_of_goes (goes_execUdpPacketArrival ..)
  | udpReplyExpiry => exact moves_of_goes (goes_execUdpReplyExpiry ..)
  | mbIdent => exact moves_of_goes (goes_execMbIdent ..)
  | mbStatus => exact moves_of_goes (goes_execMbStatus ..)
  | mbCmdPut => exact moves_of_goes (goes_execMbCmdPut ..)
  | mbReplyGet => exact moves_execMbReplyGet ..
  | mbAttnAck => exact moves_of_goes (goes_execMbAttnAck ..)
  | mbRtcSnap => exact moves_of_goes (goes_execMbRtcSnap ..)
  | mbRtcWeekday => exact moves_of_goes (goes_execMbRtcWeekday ..)
  | mbUnassignedCode code => exact moves_of_goes (goes_execMbUnassignedCode code s)
  | mbSegmentTimeout => exact moves_of_goes (goes_execMbSegmentTimeout ..)
  | mbStuckBus => exact moves_of_goes (goes_execMbStuckBus ..)
  | attnAttempt => exact moves_of_goes (goes_execAttnAttempt ..)
  | resetDeadline => exact moves_execResetDeadline ..
  | pickBoundary => exact moves_of_goes (goes_execPickBoundary ..)
  | ptpMessage => exact moves_of_goes (goes_execPtpMessage ..)
  | sourceQualified => exact moves_of_goes (goes_execSourceQualified ..)
  | sourceLost => exact moves_of_goes (goes_execSourceLost ..)
  | sourceSelect => exact moves_of_goes (goes_execSourceSelect ..)
  | sourceDisplace => exact moves_of_goes (goes_execSourceDisplace ..)
  | freqAcquired => exact moves_of_goes (goes_execFreqAcquired ..)
  | timebaseLocked => exact moves_of_goes (goes_execTimebaseLocked ..)
  | phaseErrorExceeded => exact moves_of_goes (goes_execPhaseErrorExceeded ..)
  | ptpSecondsPersist => exact moves_of_goes (goes_execPtpSecondsPersist ..)
  | phaseStepComplete => exact moves_of_goes (goes_execPhaseStepComplete ..)
  | mdllUnlock => exact moves_of_goes (goes_execMdllUnlock ..)
  | mdllLock => exact moves_of_goes (goes_execMdllLock ..)
  | mdllRetryTimer => exact moves_of_goes (goes_execMdllRetryTimer ..)
  | tcxoFail => exact moves_of_goes (goes_execTcxoFail ..)
  | audioPllUnlock => exact moves_of_goes (goes_execAudioPllUnlock ..)
  | audioPllLock => exact moves_of_goes (goes_execAudioPllLock ..)
  | synthUnlock => exact moves_of_goes (goes_execSynthUnlock ..)
  | synthLock => exact moves_of_goes (goes_execSynthLock ..)
  | bandSearchFailed => exact moves_of_goes (goes_execBandSearchFailed ..)
  | searchRepeatTimer => exact moves_of_goes (goes_execSearchRepeatTimer ..)
  | profileLockTimeout => exact moves_of_goes (goes_execProfileLockTimeout ..)
  | feedRampComplete => exact moves_of_goes (goes_execFeedRampComplete ..)
  | feedOvercurrent => exact moves_of_goes (goes_execFeedOvercurrent ..)
  | feedFoldRecovered => exact moves_of_goes (goes_execFeedFoldRecovered ..)
  | feedFoldWindowEnd => exact moves_of_goes (goes_execFeedFoldWindowEnd ..)
  | feedRetryTimer => exact moves_of_goes (goes_execFeedRetryTimer ..)
  | feedOvervoltage => exact moves_of_goes (goes_execFeedOvervoltage ..)
  | vfeedFault => exact moves_of_goes (goes_execVfeedFault ..)
  | vfeedReturn => exact moves_of_goes (goes_execVfeedReturn ..)
  | feedStartStagger => exact moves_of_goes (goes_execFeedStartStagger ..)
  | feedEpisodeClear => exact moves_of_goes (goes_execFeedEpisodeClear ..)
  | feedFaultClear => exact moves_of_goes (goes_execFeedFaultClear ..)
  | feedOpenDetect => exact moves_of_goes (goes_execFeedOpenDetect ..)
  | feedOpenClear => exact moves_of_goes (goes_execFeedOpenClear ..)
  | portBackfeedDetect => exact moves_of_goes (goes_execPortBackfeedDetect ..)
  | portBackfeedClear => exact moves_of_goes (goes_execPortBackfeedClear ..)
  | coexGntFall => exact moves_of_goes (goes_execCoexGntFall ..)
  | probeGrantTimeout => exact moves_of_goes (goes_execProbeGrantTimeout ..)
  | probeStartTimeout => exact moves_of_goes (goes_execProbeStartTimeout ..)
  | probeDurationEnd => exact moves_of_goes (goes_execProbeDurationEnd ..)
  | probeLevelCalDone => exact moves_of_goes (goes_execProbeLevelCalDone ..)
  | probeLevelLoop => exact moves_of_goes (goes_execProbeLevelLoop ..)
  | probeLimiter => exact moves_of_goes (goes_execProbeLimiter ..)
  | mismatchComplete => exact moves_of_goes (goes_execMismatchComplete ..)
  | tempFaultEnd => exact moves_of_goes (goes_execTempFaultEnd ..)
  | overloadClear => exact moves_of_goes (goes_execOverloadClear ..)
  | calInitialTimeout => exact moves_of_goes (goes_execCalInitialTimeout ..)
  | calNoGapTimeout => exact moves_of_goes (goes_execCalNoGapTimeout ..)
  | calStaleTempTimeout => exact moves_of_goes (goes_execCalStaleTempTimeout ..)
  | calTempFaultTimer => exact moves_of_goes (goes_execCalTempFaultTimer ..)
  | calSnapshotTimer => exact moves_of_goes (goes_execCalSnapshotTimer ..)
  | dentBankLoadComplete => exact moves_of_goes (goes_execDentBankLoadComplete ..)
  | stageReady => exact moves_of_goes (goes_execStageReady ..)
  | taskComplete => exact moves_of_goes (goes_execTaskComplete ..)
  | engineJobComplete => exact moves_of_goes (goes_execEngineJobComplete ..)
  | stageComplete => exact moves_of_goes (goes_execStageComplete ..)
  | stageDeadline => exact moves_of_goes (goes_execStageDeadline ..)
  | sourceFailureClear => exact moves_of_goes (goes_execSourceFailureClear ..)
  | runAheadRetry => exact moves_of_goes (goes_execRunAheadRetry ..)
  | hopVisitEnd => exact moves_of_goes (goes_execHopVisitEnd ..)
  | surveyFieldMeasured => exact moves_of_goes (goes_execSurveyFieldMeasured ..)
  | surveyDwellEnd => exact moves_of_goes (goes_execSurveyDwellEnd ..)
  | surveyStarved => exact moves_of_goes (goes_execSurveyStarved ..)
  | tdmFrame => exact moves_of_goes (goes_execTdmFrame ..)
  | tdmClockLost => exact moves_of_goes (goes_execTdmClockLost ..)
  | tdmClockReturn => exact moves_of_goes (goes_execTdmClockReturn ..)
  | tdmRateOk => exact moves_of_goes (goes_execTdmRateOk ..)
  | ethLinkChange => exact moves_execEthLinkChange ..
  | ethFrameReceive => exact moves_of_goes (goes_execEthFrameReceive ..)
  | arpRefresh => exact moves_of_goes (goes_execArpRefresh ..)
  | pbBusFree => exact moves_of_goes (goes_execPbBusFree ..)
  | pbTransferDone => exact moves_of_goes (goes_execPbTransferDone ..)
  | pbArbLost => exact moves_of_goes (goes_execPbArbLost ..)
  | pbArbLostCond => exact moves_of_goes (goes_execPbArbLostCond ..)
  | pbStretchTimeout => exact moves_of_goes (goes_execPbStretchTimeout ..)
  | pbBusReleased => exact moves_of_goes (goes_execPbBusReleased ..)
  | pbSclStuck => exact moves_of_goes (goes_execPbSclStuck ..)
  | pbSdaStuck => exact moves_of_goes (goes_execPbSdaStuck ..)
  | pbRecoveryDone => exact moves_of_goes (goes_execPbRecoveryDone ..)
  | pbSdaRetry => exact moves_of_goes (goes_execPbSdaRetry ..)
  | pbTransferTimeout => exact moves_of_goes (goes_execPbTransferTimeout ..)
  | rtcTick => exact moves_execRtcTick ..
  | rtcOscStop => exact moves_of_goes (goes_execRtcOscStop ..)
  | rtcOscRestart => exact moves_of_goes (goes_execRtcOscRestart ..)
  | rtcToBackup => exact moves_of_goes (goes_execRtcToBackup ..)
  | rtcToMain => exact moves_of_goes (goes_execRtcToMain ..)
  | backupCollapse => exact moves_execBackupCollapse ..
  | vbackupMeasure => exact moves_of_goes (goes_execVbackupMeasure ..)
  | recordWriteComplete => exact moves_of_goes (goes_execRecordWriteComplete ..)
  | sessionOpenExpiry => exact moves_of_goes (goes_execSessionOpenExpiry ..)
  | sessionIdleTimeout => exact moves_of_goes (goes_execSessionIdleTimeout ..)
  | proveBackoffEnd => exact moves_of_goes (goes_execProveBackoffEnd ..)
  | vmainGood => exact moves_of_goes (goes_execVmainGood ..)
  | fwVerifyComplete => exact moves_of_goes (goes_execFwVerifyComplete ..)
  | firmwareStart => exact moves_execFirmwareStart ..
  | pfail => exact moves_execPfail ..
  | resetNAssert => exact moves_execResetNAssert ..
  | resetNRelease => exact moves_of_goes (goes_execResetNRelease ..)
  | watchdogExpiry => exact moves_execWatchdogExpiry ..
  | railFault => exact moves_execRailFault ..
  | plFrameReceive => exact moves_of_goes (goes_execPlFrameReceive ..)
  | plLinkChange => exact moves_of_goes (goes_execPlLinkChange ..)
  | heartbeatMiss => exact moves_of_goes (goes_execHeartbeatMiss ..)
  | ownHwRelease => exact moves_of_goes (goes_execOwnHwRelease ..)
  | ownRelease => exact moves_of_goes (goes_execOwnRelease ..)
  | failoverTdmDrive => exact moves_of_goes (goes_execFailoverTdmDrive ..)
  | joinWaitEnd => exact moves_of_goes (goes_execJoinWaitEnd ..)
  | mirrorJoin => exact moves_of_goes (goes_execMirrorJoin ..)
  | mirrorSynced => exact moves_of_goes (goes_execMirrorSynced ..)
  | mirrorUnsynced => exact moves_of_goes (goes_execMirrorUnsynced ..)
  | alignFault => exact moves_of_goes (goes_execAlignFault ..)
  | phaseInputEdge => exact moves_of_goes (goes_execPhaseInputEdge ..)
  | d0PowerUp => exact moves_execD0PowerUp ..
  | pbBothLinesHigh => exact moves_of_goes (goes_execPbBothLinesHigh ..)

/-- Settles O3: every command goes on. -/
theorem commandsNeverStop : Obligations.CommandsNeverStop := by
  unfold Obligations.CommandsNeverStop
  intro i s
  obtain ⟨t, ht, -⟩ := moves_exec i s
  exact ⟨t, ht⟩

/-- A packet taken up leaves the queue of packets and nothing else. -/
theorem vital_nextTaken {s u : State} {t : Taken} (h : nextTaken s = some (t, u)) : vital u = vital s := by
  unfold nextTaken at h
  split at h
  · split at h
    · cases h
    · cases h
      exact vital_protomod (fun _ => rfl) s
  · cases h

/-- A packet refused is answered and nothing else. -/
theorem vital_interpret_reply {t : Taken} {s v : State} (h : interpret t s = .reply v) : vital v = vital s := by
  unfold interpret at h
  dsimp only at h
  split at h
  · cases h
    exact vital_refusePacket ..
  · split at h
    · cases h
    · split at h
      · cases h
        exact vital_refusePacket ..
      · cases h
        exact (vital_refusePacket ..).trans (vital_sessNamed ..)

/-- A packet read is run on the state as it is. -/
theorem vital_interpret_run {t : Taken} {s v : State} {i : Instr} (h : interpret t s = .run i v) : v = s := by
  unfold interpret at h
  dsimp only at h
  split at h
  · cases h
  · split at h
    · cases h
      rfl
    · split at h <;> cases h

/-- The interpreter at rest keeps it, whether a packet waits or not. -/
theorem moves_idle (s : State) : Moves s (idle s) := by
  unfold idle
  split
  next t u hu =>
    have hkeeps : Keeps s u := keeps_of_vital (vital_nextTaken hu)
    split
    next hv => exact moves_next (keeps_congr (vital_interpret_reply hv) hkeeps)
    next i v hv =>
      obtain ⟨x, hx, hvx⟩ := moves_exec i v
      rw [vital_interpret_run hv] at hvx
      exact ⟨x, hx, keeps_trans hkeeps hvx⟩
  next => exact moves_next (keeps_of_vital rfl)

/-- So does every step. -/
theorem moves_step (s : State) : Moves s (step s) := by
  unfold step
  split
  next c l _ =>
    obtain ⟨t, ht, hk⟩ := moves_exec c { s with pending := l }
    exact ⟨t, ht, hk⟩
  next => exact moves_idle s

/-- Settles O4: a step goes to one state, and to that one it keeps the invariant. -/
theorem stepsKeepTheInvariant : Obligations.StepsKeepTheInvariant := by
  unfold Obligations.StepsKeepTheInvariant
  intro s t hst
  obtain ⟨u, hu, hk⟩ := moves_step s
  cases hst.symm.trans hu
  exact hk

end Sys2Proof.Proofs
